-- ==== Sys2Proof/Word.lean ====
section
/-! DEFINITION. The word types of the hub, the names of its planes and ports, fixed-size tables, and
the plainest bit-field arithmetic (R5, R8, R10). -/

namespace Sys2Proof

/-- One byte, as the management ports and the flash devices move it. -/
abbrev Byte := BitVec 8

/-- A 32-bit register or window word (R10). -/
abbrev Word := BitVec 32

/-- The three planes of a unit (R8, R17). -/
inductive PlaneId where
  | a | b | c
  deriving DecidableEq, Repr, Inhabited

/-- MGMT0 to MGMT2. -/
abbrev PortId := Fin 3

/-- p of R9: 0, 1 or 2 for A, B or C. -/
def PlaneId.num : PlaneId → Nat
  | .a => 0
  | .b => 1
  | .c => 2

/-- The three planes in letter order. -/
def PlaneId.all : List PlaneId := [.a, .b, .c]

/-- The plane of a number taken modulo 3. -/
def PlaneId.ofIndex (n : Nat) : PlaneId :=
  if n % 3 = 0 then .a else if n % 3 = 1 then .b else .c

/-- One value per plane. -/
structure Tri (α : Type) where
  a : α
  b : α
  c : α
  deriving DecidableEq, Repr, Inhabited

/-- The value of one plane. -/
def Tri.get {α : Type} (t : Tri α) : PlaneId → α
  | .a => t.a
  | .b => t.b
  | .c => t.c

/-- Replace the value of one plane. -/
def Tri.set {α : Type} (t : Tri α) : PlaneId → α → Tri α
  | .a, x => { t with a := x }
  | .b, x => { t with b := x }
  | .c, x => { t with c := x }

/-- The same value for every plane. -/
def Tri.same {α : Type} (x : α) : Tri α := ⟨x, x, x⟩

/-- Apply a function to the value of every plane. -/
def Tri.map {α β : Type} (f : α → β) (t : Tri α) : Tri β := ⟨f t.a, f t.b, f t.c⟩

/-- Change one entry of a fixed table. -/
def upd {α : Type} {n : Nat} (v : Vector α n) (i : Fin n) (f : α → α) : Vector α n :=
  v.set i.val (f v[i.val])

/-- A bit field: `v` cut to `w` bits and placed at bit `lo`. -/
def fld (v w lo : Nat) : Nat := (v % 2 ^ w) * 2 ^ lo

/-- A register word from the sum of its disjoint fields. -/
def mkWord (fields : List Nat) : Word := BitVec.ofNat 32 fields.sum

/-- The number in bits [hi:lo] of a word. -/
def bits {n : Nat} (w : BitVec n) (hi lo : Nat) : Nat := (w.toNat / 2 ^ lo) % 2 ^ (hi + 1 - lo)

/-- One bit of a word. -/
def bitAt {n : Nat} (w : BitVec n) (i : Nat) : Bool := w.getLsbD i

/-- 1 for true, 0 for false. -/
def b2n (b : Bool) : Nat := if b then 1 else 0

/-- A signed number as a two's complement word of n bits, saturating at its ends (R350). -/
def satInt (n : Nat) (i : Int) : Nat :=
  let top : Int := 2 ^ (n - 1)
  let j := if i ≥ top then top - 1 else if i < -top then -top else i
  (j % (2 ^ n : Int)).toNat

/-- A number limited to the largest value of n bits. -/
def satNat (n v : Nat) : Nat := min v (2 ^ n - 1)

/-- The four bytes of a word, most significant first (R10). -/
def wordBytes (w : Word) : List Byte :=
  [BitVec.ofNat 8 (bits w 31 24), BitVec.ofNat 8 (bits w 23 16), BitVec.ofNat 8 (bits w 15 8),
   BitVec.ofNat 8 (bits w 7 0)]

/-- A word from four bytes, most significant first (R10). -/
def bytesWord (b0 b1 b2 b3 : Byte) : Word :=
  BitVec.ofNat 32 (b0.toNat * 2 ^ 24 + b1.toNat * 2 ^ 16 + b2.toNat * 2 ^ 8 + b3.toNat)

/-- The big-endian number of a byte sequence. -/
def beNat (l : List Byte) : Nat := l.foldl (fun n b => n * 256 + b.toNat) 0

/-- Whole words of a byte sequence, most significant byte first, with the bytes left over. -/
def wordsOf : List Byte → List Word × List Byte
  | b0 :: b1 :: b2 :: b3 :: rest =>
    let (ws, left) := wordsOf rest
    (bytesWord b0 b1 b2 b3 :: ws, left)
  | left => ([], left)

end Sys2Proof
end

