-- ==== Sys2Proof/Image.lean ====
section
/-! DEFINITION. The declarations of a hearth image that the hub acts on (chapter *The hearth image*,
R290 to R298, and the declarations every other chapter names). An image holds one unit section and
three plane sections; the fields below are what those sections declare. -/

namespace Sys2Proof

/-- Quality source of a reference (R59). -/
inductive QSource where
  | fixed | tc | esmc | plane
  deriving DecidableEq, Repr, Inhabited

/-- Loop mode (R68, PSTATE.MODE). -/
inductive LoopMode where
  | auto | forced | soft | hold
  deriving DecidableEq, Repr, Inhabited

/-- Severity of a fault source (R391). -/
inductive Severity where
  | record | notify | isolate | safe
  deriving DecidableEq, Repr, Inhabited

/-- Registration source of a plane (R103). -/
inductive RegSource where
  | active | tc0 | tc1 | none
  deriving DecidableEq, Repr, Inhabited

/-- What feeds REF3 (R20, R43). -/
inductive Ref3Source where
  | none | plane (p : PlaneId) | chimney
  deriving DecidableEq, Repr, Inhabited

/-- Declarations of one reference (R44, R59, R61, R63). -/
structure RefDecl where
  enabled    : Bool := false
  hundredMHz : Bool := false
  qsrc       : QSource := .fixed
  fixedHql   : Nat := 8
  prio       : BitVec 4 := 0
  foffPpm    : Nat := 10
  pjmpNs     : Nat := 10
  wtrSec     : Nat := 300
  deriving DecidableEq, Repr, Inhabited

/-- A fabric signal as the image names it (R213, R231). -/
inductive Sig where
  | ti (i : Fin 16)                        -- a TI input
  | prim (link : Fin 32) (num : Byte)      -- a link input, by primitive number
  | veto (link : Fin 32) (num : Byte)      -- a veto input, by veto number
  | win (i : Fin 64)
  | coinc (i : Fin 256)
  | presc (i : Fin 32)
  | cell (i : Fin 128) (bit : Fin 32)      -- a parameter-cell bit, a level
  | rate (i : Fin 16)                      -- a rate monitor's level
  | xin (src : PlaneId) (port : Fin 64)    -- an incoming cross-plane port
  | chin (port : Fin 8)                    -- an incoming Chimney crossing port
  deriving DecidableEq, Repr, Inhabited

/-- A constant of a unit, or the parameter cell that holds it (R227). -/
inductive CellOr where
  | const (n : Int)
  | cell (i : Fin 128)
  deriving DecidableEq, Repr, Inhabited

/-- Attached τ of a window result (R219). -/
inductive WinTau where
  | opener | first | close
  deriving DecidableEq, Repr, Inhabited

/-- A window unit (R216 to R220). `cMax` is C and `h` the aligned release age, as Trijan computed them. -/
structure WinDecl where
  used    : Bool := false
  grid    : Bool := false
  opener  : Option Sig := none
  members : List Sig := []
  openB   : CellOr := .const 0
  closeB  : CellOr := .const 1
  w       : Nat := 512
  a       : Nat := 0
  condGe  : Bool := true
  m       : Nat := 1
  tau     : WinTau := .first
  cMax    : Nat := 0
  h       : Nat := 0
  deriving DecidableEq, Repr, Inhabited

/-- One input of a coincidence unit (R221). -/
structure CoincIn where
  sig      : Sig := .ti 0
  enabled  : Bool := true
  inverted : Bool := false
  deriving DecidableEq, Repr, Inhabited

/-- Attached τ of a coincidence output (R222). -/
inductive CoincTau where
  | first | input (n : Fin 16) | cycle
  deriving DecidableEq, Repr, Inhabited

/-- A coincidence unit (R221 to R223). `lookup` names the memory joined to it; `inAge` is the age of
its aligned inputs. -/
structure CoincDecl where
  used   : Bool := false
  inputs : List CoincIn := []
  k      : CellOr := .const 1
  tau    : CoincTau := .first
  lookup : Option (Fin 4) := none
  inAge  : Nat := 0
  deriving DecidableEq, Repr, Inhabited

/-- A prescaler (R225). `align` is the alignment delay of its input, 0 to 127 cycles (R214). -/
structure PrescDecl where
  input : Option Sig := none
  align : Nat := 0
  r     : CellOr := .const 0
  deriving DecidableEq, Repr, Inhabited

/-- A rate monitor (R226). -/
structure RateDecl where
  input     : Option Sig := none
  perSecond : Bool := false
  hi        : CellOr := .const 0
  lo        : CellOr := .const 0
  deriving DecidableEq, Repr, Inhabited

/-- A parameter cell (R227). An undeclared cell holds 0 with range 0 to 0, unsigned. -/
structure CellDecl where
  init   : Word := 0
  min    : Word := 0
  max    : Word := 0
  signed : Bool := false
  deriving DecidableEq, Repr, Inhabited

/-- Target of an issuer (R231). -/
inductive IssTarget where
  | group (g : Fin 32) | link (l : Fin 32)
  deriving DecidableEq, Repr, Inhabited

/-- An issuer (R231). Bit s of `slots` is traffic slot s. -/
structure IssDecl where
  driver : Option Sig := none
  veto   : Bool := false
  num    : Byte := 0
  target : IssTarget := .group 0
  slots  : BitVec 8 := 0
  len    : CellOr := .const 1
  deriving DecidableEq, Repr, Inhabited

/-- The fabric structure of a plane (R213). `cross k d` is the signal port k sends to plane d. -/
structure FabricDecl where
  wins    : Vector WinDecl 64 := Vector.replicate 64 {}
  coincs  : Vector CoincDecl 256 := Vector.replicate 256 {}
  prescs  : Vector PrescDecl 32 := Vector.replicate 32 {}
  rates   : Vector RateDecl 16 := Vector.replicate 16 {}
  cells   : Vector CellDecl 128 := Vector.replicate 128 {}
  issuers : Vector IssDecl 32 := Vector.replicate 32 {}
  lookups : Vector (List (Nat × BitVec 64)) 4 := Vector.replicate 4 []
  cross   : List (PlaneId × Fin 64 × Sig) := []
  chout   : Vector (Option Sig) 8 := Vector.replicate 8 none
  deriving DecidableEq, Repr, Inhabited

/-- A CK output's plan and image settings (R115, R116, R120, R122). -/
structure CkDecl where
  enabled : Bool := false
  srcB    : Bool := false
  n       : Nat := 1
  fmt     : Nat := 0
  early   : Bool := false
  gate    : Bool := false
  k       : BitVec 17 := 0
  f       : BitVec 10 := 0
  deriving DecidableEq, Repr, Inhabited

/-- A PU output's plan and image settings (R115, R132, R133). fmt: 0 LVCMOS HIGH-Z, 1 LVCMOS 50 Ω, 2 LVDS. -/
structure PuDecl where
  enabled : Bool := true
  fmt    : Nat := 0
  gate   : Bool := false
  gen    : Fin 8 := 0
  coarse : BitVec 16 := 0
  fine   : Byte := 0
  width  : BitVec 24 := 50000
  deriving DecidableEq, Repr, Inhabited

/-- A TO output (R135, R230). -/
structure ToDecl where
  driver : Option Sig := none
  coarse : Byte := 0
  fine   : Byte := 0
  width  : BitVec 16 := 2
  deriving DecidableEq, Repr, Inhabited

/-- A TI input (R205). -/
structure TiDecl where
  enabled : Bool := false
  himax   : BitVec 16 := 1000
  deriving DecidableEq, Repr, Inhabited

/-- A link (R165, R173, R179, R210, R254, R409). `prims` and `vids` are the numbers the image maps. -/
structure LinkDecl where
  enabled   : Bool := false
  monitored : Bool := true
  d         : Word := 0
  turn      : Word := 0
  dmax      : Word := 0
  p         : BitVec 16 := 0
  rtttol    : Word := 50
  crcburst  : Nat := 4
  prims     : List Byte := []
  vids      : List Byte := []
  nthr      : Vector (BitVec 3) 4 := Vector.replicate 4 0
  epd2      : Word := 0
  epd3      : Word := 0
  deriving DecidableEq, Repr, Inhabited

/-- A decimation preset (R250). -/
inductive Preset where
  | almond | hazel | walnut | chestnut | almondM | hazelM | walnutM | chestnutM
  deriving DecidableEq, Repr, Inhabited

/-- A link group (R165, R251, R260, R261). Bit n of `links` is plane-local link n. -/
structure GroupDecl where
  declared      : Bool := false
  links         : BitVec 32 := 0
  l             : BitVec 16 := 0
  exm           : Byte := 16
  preset        : Option Preset := none
  ns            : Nat := 1
  autohold      : Bool := false
  endOnComplete : Bool := false
  limitMs       : Nat := 2000
  nthr          : BitVec 3 := 0
  deriving DecidableEq, Repr, Inhabited

/-- A generator (R243, R245, R256, R257). `period` and `phase` are FPER and FPH, DPER and DPH, BINT and
BPH, RDP and RDPH, or UPER, by the generator's number. -/
structure GenDecl where
  enabled : Bool := false
  msg     : Bool := false
  groups  : BitVec 32 := 0
  lead    : Nat := 0
  period  : Nat := 48
  phase   : Nat := 0
  rdl     : Nat := 1
  defers  : Bool := false
  lim     : Nat := 0
  startSec : Word := 0
  startLow : Word := 0
  ufine   : BitVec 9 := 0
  deriving DecidableEq, Repr, Inhabited

/-- Default severity of a plane source (R382, Default column). -/
def planeDefaultSev (i : Nat) : Severity :=
  if i = 37 then .record
  else if i = 43 ∨ i = 46 ∨ i = 47 then .safe
  else if i ≥ 52 then .record
  else .notify

/-- Default severity of unit source 192 + i (R383, Default column). -/
def unitDefaultSev (i : Nat) : Severity :=
  if i = 15 then .record else if i = 30 then .safe else .notify

/-- What one plane section declares. fdis is in units of 1e-12, goff in cycles. -/
structure PlaneDecl where
  refs        : Vector RefDecl 4 := Vector.replicate 4 {}
  ref3        : Ref3Source := .none
  fdis        : Nat := 2000
  revertive   : Bool := true
  mode        : LoopMode := .auto
  fref        : Fin 4 := 0
  bwcode      : BitVec 4 := 8
  stepTol     : Nat := 100
  lockTol     : Nat := 100
  unlockTol   : Nat := 1000
  acqto       : Nat := 60
  slewRate    : Nat := 10
  havg        : Nat := 100
  hqlHoldover : Nat := 14
  hqlSoft     : Nat := 14
  regSrc      : RegSource := .active
  goff        : Int := 0
  gridTol     : Nat := 1
  startSec    : Word := 0
  fB          : Nat := 2000000000
  attnHist    : BitVec 12 := 0
  ck          : Vector CkDecl 16 := Vector.replicate 16 {}
  pu          : Vector PuDecl 4 := Vector.replicate 4 {}
  trigOut     : Vector ToDecl 16 := Vector.replicate 16 {}
  ti          : Vector TiDecl 16 := Vector.replicate 16 {}
  links       : Vector LinkDecl 32 := Vector.replicate 32 {}
  groups      : Vector GroupDecl 32 := Vector.replicate 32 {}
  gens        : Vector GenDecl 8 := Vector.replicate 8 {}
  fabric      : FabricDecl := {}
  sev         : Vector Severity 64 := Vector.ofFn fun i => planeDefaultSev i.val
  ownto       : Nat := 0
  deriving DecidableEq, Repr, Inhabited

/-- Right of a port for a plane (R314). -/
inductive Right where
  | none | read | control
  deriving DecidableEq, Repr, Inhabited

/-- A port's declarations (R311, R314, R322, R332, R362). `rights k` is the right for the plane at address
offset k (1 to 3 for A to C, 5 to 7 for D to F). -/
structure PortDecl where
  base     : BitVec 7 := 0x48
  pec      : Bool := false
  rights   : Vector Right 8 := Vector.replicate 8 .none
  counters : Bool := false
  nvWrite  : Bool := false
  image    : Bool := false
  auth     : Bool := false
  haddr    : BitVec 7 := 0
  speed    : BitVec 2 := 0
  en       : Vector (BitVec 21) 8 := Vector.replicate 8 0
  uen      : Byte := 0
  deriving DecidableEq, Repr, Inhabited

/-- Tandem role an image declares (R269, R290). -/
inductive ImgRole where
  | none | leader | follower
  deriving DecidableEq, Repr, Inhabited

/-- What the unit section, with the header's ROLE and PARTNER, declares. `group` bit p is plane p's
membership of the coherent group (R21); `chPair` assigns each Chimney crossing port to a plane pair, by the plane of this unit
(R281), for both directions, of which the spec does not speak (DESIGN CHOICE, log entry 123); `epochDay` and `epochSec` place the image
epoch as days and seconds from 1 January of year 0 of the proleptic calendar (R52); D_CH in ps (R267). -/
structure UnitDecl where
  group      : BitVec 3 := 0
  groupTolPs : Nat := 10
  role       : ImgRole := .none
  epochDay   : Nat := 0
  epochSec   : Nat := 0
  b000Year   : Nat := 2000
  ports      : Vector PortDecl 3 := Vector.replicate 3 {}
  dch        : Vector Nat 2 := Vector.replicate 2 0
  chPair     : Vector PlaneId 8 := Vector.replicate 8 .a
  chtol      : Nat := 50
  usev       : Vector Severity 32 := Vector.ofFn fun i => unitDefaultSev i.val
  chimNthr   : Vector (BitVec 3) 32 := Vector.replicate 32 0
  deriving DecidableEq, Repr, Inhabited

/-- What the bytes of a slot hold (R290 to R292): the header fields the header check reads and whether the rest of the header has its
published form, the signer's public key, the digests stated and whether the bytes match them, whether the signature verifies
under PUBKEY, and what the four sections declare. The spec publishes the header but not the sections' layout,
so a section is given by its declarations; all the rest is read from the bytes of a slot that has been erased and streamed. -/
structure ImageFile where
  magic    : Word := 0x48525448
  format   : BitVec 16 := 1
  length   : Nat := 0
  role     : Byte := 0
  partner  : BitVec 256 := 0
  pubkey   : List Byte := []
  layoutOk : Bool := true
  sdigU    : BitVec 256 := 0
  sdig     : Tri (BitVec 256) := Tri.same 0
  idig     : Tri (BitVec 256) := Tri.same 0
  digestOk : Bool := true
  sigOk    : Bool := true
  unit     : UnitDecl := {}
  planes   : Tri PlaneDecl := Tri.same {}
  deriving DecidableEq, Repr, Inhabited

/-- What a read of a slot finds (R295): a flash read error, or the bytes. -/
inductive SlotRead where
  | readError
  | bytes (f : ImageFile)
  deriving DecidableEq, Repr, Inhabited

end Sys2Proof
end

