-- ==== Sys2Proof/Syntax.lean ====
section
/-! DEFINITION. The commands of the block: one constructor per row of spec/opcode_table.json, with the
operands the row's event or host write carries. What an operand measures comes from outside the hub: a
phase mean, a received payload, an acknowledge, a check outcome of a device. -/

namespace Sys2Proof

/-- One published status bank of a plane: registers 0x00 to 0x13 and the 16 REFSTAT views (R39, R350). -/
structure Bank where
  regs  : Vector Word 20 := Vector.replicate 20 0
  views : Vector Word 16 := Vector.replicate 16 0
  deriving DecidableEq, Repr, Inhabited

/-- What the partner sends of itself over lane 3 once per group (R277): the published bank of the plane of the same place
and its unit registers. -/
structure PartnerBank where
  bank : Bank := {}
  unit : Vector Word 12 := Vector.replicate 12 0
  deriving DecidableEq, Repr, Inhabited

/-- An IRIG-B frame as received (R47, R48, R50): the markers and position identifiers stood at their
places, the BCD digits of each field, and control elements 70 to 73. -/
structure IrigFrame where
  markersOk : Bool
  b004      : Bool
  yearT     : Nat
  yearU     : Nat
  dayH      : Nat
  dayT      : Nat
  dayU      : Nat
  hourT     : Nat
  hourU     : Nat
  minT      : Nat
  minU      : Nat
  secT      : Nat
  secU      : Nat
  q         : BitVec 4
  deriving DecidableEq, Repr, Inhabited

/-- A frame received on the SFP+ port, the fields R55 checks. -/
structure EsmcFrame where
  fcsOk    : Bool
  dest     : BitVec 48
  etype    : BitVec 16
  subtype  : Byte
  oui      : BitVec 24
  ituSub   : BitVec 16
  version  : BitVec 4
  tlvType  : Byte
  tlvLen   : BitVec 16
  ssm      : BitVec 4
  deriving DecidableEq, Repr, Inhabited

/-- Where the receiver found K28.5 in a frame: in its place, nowhere, or at another of the frame's 800 bits (R176). -/
inductive Comma where
  | expected | absent | moved (bit : Fin 800)
  deriving DecidableEq, Repr, Inhabited

/-- An upstream slot 0 as received (R149 to R151, R154). -/
structure Slot0Rx where
  payload : BitVec 64
  crc     : Byte
  codeErr : Bool
  comma   : Comma
  deriving DecidableEq, Repr, Inhabited

/-- What one read of a lookup-memory word finds in the stored bits (R224). -/
inductive EccRead where
  | clean | single | double
  deriving DecidableEq, Repr, Inhabited

/-- Peak-detector readings of an output over one millisecond (R137): whether it emitted a period or a
pulse, each leg's swing in percent of nominal, and whether a leg's current is at its limit. -/
structure TermSense where
  emitted : Bool := false
  swingP  : Nat := 100
  swingN  : Nat := 100
  limited : Bool := false
  deriving DecidableEq, Repr, Inhabited

/-- Level readings of a trigger input over one millisecond (R205): the level stayed within ±50 mV
throughout, and the longest stay at logic 1 reached in it, in cycles. -/
structure TiSense where
  within50 : Bool := false
  highMax  : Nat := 0
  deriving DecidableEq, Repr, Inhabited

/-- What a plane measures over a millisecond (R84, R100, R137, R167, R205, R268). `phase` is the mean
phase in ps; `rtt l` the mean round-trip time of link l in ps, when one was formed; `chRtt` that of lane
0 of each Chimney port. -/
structure MsMeas where
  phase : Int := 0
  term  : Vector TermSense 20 := Vector.replicate 20 {}
  ti    : Vector TiSense 16 := Vector.replicate 16 {}
  rtt   : Vector (Option Int) 32 := Vector.replicate 32 none
  chRtt : Vector (Option Int) 2 := Vector.replicate 2 none
  deriving DecidableEq, Repr, Inhabited

/-- What a plane measures over the second that ends at a PPS (R64, R70, R114): the frequency of each
reference against the OCXO in units of 1e-12, and the count of VCO-B periods. -/
structure PpsMeas where
  freq : Vector Int 4 := Vector.replicate 4 0
  vcob : Nat := 0
  deriving DecidableEq, Repr, Inhabited

/-- Where a time marker comes from (R43, R103). -/
inductive MarkerSrc where
  | tc0 | tc1 | ref3
  deriving DecidableEq, Repr, Inhabited

/-- A lane of a Chimney port as its receiver finds it (R175, R268): without light or CDR lock, with light but not aligned, aligned,
or aligned with a whole group received: whether every slot 0 of it passed its check, whether it named this lane, the D its echo
names in ps, and the cycles from the departure of a label to the arrival of its answer. -/
inductive LaneState where
  | dark | light | aligned
  | group (checked named : Bool) (echo : Word) (trip : Nat)
  deriving DecidableEq, Repr, Inhabited

/-- What a partner presents of itself on lane 3 (R266, R270): its UID, its image's digest and the digest that image carries. -/
structure PartnerId where
  uid     : BitVec 32
  digest  : BitVec 256
  carries : BitVec 256
  deriving DecidableEq, Repr, Inhabited

/-- What a Chimney port sees (R268): its four lanes, and the partner on them once it has presented itself. `slot0` holds the DAMPER
bits of the latest lane-3 slot 0, none where it failed its check or none has ended within 50 cycles (R191, R279); `timeOff` says of
which follower plane the time counter disagrees with the time carried on its lane, as found here or reported over lane 3 (R284). -/
structure PortSight where
  lanes   : Vector LaneState 4 := Vector.replicate 4 .dark
  partner : Option PartnerId := none
  slot0   : Option (BitVec 16) := none
  timeOff : Tri Bool := Tri.same false
  deriving DecidableEq, Repr, Inhabited

/-- A Chimney port's state (R268). -/
inductive ChState where
  | down | seek | mismatch | up
  deriving DecidableEq, Repr, Inhabited

/-- One addressed part of a transaction between START or repeated START and the next of these or STOP:
a write with the bytes that follow the address byte, a read of a number of bytes, or a part addressed to another device of
the bus with every byte of it on the line, the address byte first (R318 to R322). -/
inductive TxSeg where
  | write (addr : BitVec 7) (bytes : List Byte)
  | read (addr : BitVec 7) (n : Nat)
  | foreign (bytes : List Byte)
  deriving DecidableEq, Repr, Inhabited

/-- One word of a scheduled transaction: the plane it addresses, its register, and the word (R325). -/
structure RegWrite where
  plane : PlaneId
  reg   : BitVec 5
  word  : Word
  deriving DecidableEq, Repr, Inhabited

/-- How an attention attempt ends on the bus (R335). -/
inductive AttnEnd where
  | acked | nacked | lostArb
  deriving DecidableEq, Repr, Inhabited

/-- What a recovery finds on the named port's lines (R339): both high; SCL held low; SDA high after n
pulses; SDA still low after 9. -/
inductive BusLines where
  | bothHigh | sclHeld | freed (pulses : Fin 10) | stuck
  deriving DecidableEq, Repr, Inhabited

/-- One of the two lines of a port. -/
inductive BusLine where
  | scl | sda
  deriving DecidableEq, Repr, Inhabited

/-- A write the tunnel brings to the follower (R278): a register word or a whole window record, at the address offset of the
follower that has the place of `off`. -/
inductive TunnelWrite where
  | reg (off : Fin 4) (r : BitVec 5) (w : Word)
  | record (off : Fin 4) (space : BitVec 4) (index : BitVec 20) (words : List Word)
  deriving DecidableEq, Repr, Inhabited

/-- A scheduled action or a piece of state carried over lane 3 (R279, R289): the announcement of a movement of a plane's grid so
many cycles ahead, a REALIGN with the SEC of the leader plane's (R275), the pair's snapshot with its OVFCLR and its tag, SEC and
FRAME (R414), a follower's snapshot request that committed so many cycles ago, the PSTATE words a follower has captured (R445), a
leave that is pending (R286), a scheduled write. -/
inductive Lane3Act where
  | announce (p : PlaneId) (ahead : Nat) | realign (p : PlaneId) (sec : Word)
  | snapshot (ovfclr : Bool) (sec : Word) (frame : Fin 12500000)
  | ask (ovfclr : Bool) (ago : Nat) | captured (pst : Tri Word) | leave
  | write (w : TunnelWrite) (port : PortId)
  deriving DecidableEq, Repr, Inhabited

/-- What the leader learns of its partner when a join is checked (R272): each follower plane's REF3 is
QUALIFIED on the active lane, and each is out of Husk, standby, reload and holds. -/
structure PartnerReady where
  ref3Qual  : Bool
  planesOk  : Bool
  deriving DecidableEq, Repr, Inhabited

/-- One environment sample (R487): temperatures in tenths of a degree, humidity in tenths of a percent, pressure in tenths of a
kPa. -/
structure EnvMeas where
  inlet    : Int
  internal : Int
  plane    : Tri Int
  humidity : Int
  pressure : Int
  deriving DecidableEq, Repr, Inhabited

/-- The end of a pulse on output `out`, in a cycle of its plane's frame (R133, R230). -/
structure PulseEnd (n : Nat) where
  out : Fin n
  cyc : Fin 40
  deriving DecidableEq, Repr

/-- A pulse output found low in a cycle of its plane's frame, with the pulses in progress (R134). -/
structure LowFound where
  cyc        : Fin 40
  inProgress : Nat
  deriving DecidableEq, Repr

/-- A slot that fails its check: its number, and where its frame's comma was found (R151, R176). -/
structure BadSlot where
  slot  : Fin 8
  comma : Comma
  deriving DecidableEq, Repr

/-- The release of a crossing: its age in cycles, and the SUSPECT its sender or the crossing put on it (R282, R284). -/
structure Release where
  age     : Nat
  suspect : Bool
  deriving DecidableEq, Repr

/-- A window record fetched from the follower (R277). -/
structure FollowerRecord where
  space : BitVec 4
  index : BitVec 20
  words : List Word
  deriving DecidableEq, Repr

/-- An entry of the tunnel: its number and the write (R278). -/
structure TunnelEntry where
  num   : Nat
  write : TunnelWrite
  deriving DecidableEq, Repr

/-- A whole transaction: its parts, and the cycle of each plane's frame in which the plane sees its STOP (R41). -/
structure HostTx where
  segs : List TxSeg
  seen : Tri (Fin 40)
  deriving DecidableEq, Repr

/-- A line found stuck low; `driven` says that the hub itself drives it (R337). -/
structure StuckLine where
  line   : BusLine
  driven : Bool
  deriving DecidableEq, Repr

/-- A page to read, and whether its copy passes its CRC (R425, R432). -/
structure PageRead where
  page  : Fin 128
  crcOk : Bool
  deriving DecidableEq, Repr

/-- How power good is lost (R429 to R431, R448, R466): whether the operation in progress had passed the point at which it takes
effect, whether the header of a sector that a compaction is filling was whole, and whether the converter stopped. -/
structure PowerLoss where
  markDone  : Bool
  headerOk  : Bool
  converter : Bool
  deriving DecidableEq, Repr

/-- The commands (one constructor per row of the table, in its order). -/
inductive Instr where
  -- power and start-up
  | kindling (sdaLow : Vector Bool 3) (selfTestOk : Bool)
  | powerGoodLoss (loss : PowerLoss)
  | converterStart
  | imageApply (slots : Vector SlotRead 2)
  | ovenSettled (p : PlaneId)
  | ovenGateTimeout (p : PlaneId)
  -- the grid's instants
  | frameBoundary (p : PlaneId)
  | pps (p : PlaneId) (m : PpsMeas)
  | groupBoundary (p : PlaneId) (mirror : Option PartnerBank)
  | millisecondBoundary (p : PlaneId) (m : MsMeas)
  | housekeepingTick
  | comparatorReading (cmp : Fin 3) (diff : Int)
  | planeWriteCommit (p : PlaneId)
  | unitWriteCommit
  | unitValueHandover (p : PlaneId)
  | housekeepingRecordTake (p : PlaneId)
  | logEraseComplete
  -- references and selection
  | refLossDeclared (p : PlaneId) (r : Fin 4)
  | refActiveAgain (p : PlaneId) (r : Fin 4)
  | timecodeFrame (p : PlaneId) (tc : Fin 2) (f : IrigFrame)
  | tcQualityEffect (p : PlaneId) (tc : Fin 2)
  | timeMarkerCapture (p : PlaneId) (src : MarkerSrc) (cyc : Fin 40) (before after : Nat)
  | esmcPduReceived (p : PlaneId) (f : EsmcFrame)
  | esmcQualityEffect (p : PlaneId)
  | esmcTimeout (p : PlaneId)
  | freqOffsetMeasurement (p : PlaneId) (r : Fin 4) (offset : Int)
  | phaseJumpMean (p : PlaneId) (r : Fin 4) (mean : Int)
  | waitToRestoreExpiry (p : PlaneId) (r : Fin 4)
  | selectionTick (p : PlaneId)
  | switchCommit (p : PlaneId) (step dfreq : Int)
  -- loop, grid and outputs
  | acquireTimeout (p : PlaneId)
  | slewComplete (p : PlaneId)
  | driftFitUpdate (p : PlaneId)
  | gridRegistration (p : PlaneId)
  | realignExecute (p : PlaneId)
  | vcobUnlock (p : PlaneId) (unlocked : Bool)
  | outputDrainComplete (p : PlaneId) (ck : Fin 16)
  | outputStart (p : PlaneId) (ck : Fin 16)
  | fineMoveComplete (p : PlaneId) (ck : Fin 16)
  | puPulseStart (p : PlaneId) (pu : Fin 4)
  | puAssignmentEffect (p : PlaneId) (pu : Fin 4) (low : LowFound)
  | toPulseStart (p : PlaneId) (o : Fin 16)
  -- links
  | upstreamTimeSlot (p : PlaneId) (l : Fin 32) (cyc : Fin 40) (rx : Slot0Rx)
  | slotCheckFailure (p : PlaneId) (l : Fin 32) (bad : BadSlot)
  | linkSignalLoss (p : PlaneId) (l : Fin 32)
  | linkSignalPresent (p : PlaneId) (l : Fin 32)
  | linkMonitorGraceExpiry (p : PlaneId) (l : Fin 32)
  | primitiveReceived (p : PlaneId) (l : Fin 32) (cyc : Fin 40) (payload : BitVec 64)
  | upstreamVetoReceived (p : PlaneId) (l : Fin 32) (cyc : Fin 40) (payload : BitVec 64)
  | statusReceived (p : PlaneId) (l : Fin 32) (cyc : Fin 40) (payload : BitVec 64)
  | cmdAckReceived (p : PlaneId) (l : Fin 32) (cyc : Fin 40) (payload : BitVec 64)
  | upstreamBulkReceived (p : PlaneId) (l : Fin 32) (cyc : Fin 40) (payload : BitVec 64)
  | trainHoldCompleteReceived (p : PlaneId) (l : Fin 32) (cyc : Fin 40) (payload : BitVec 64)
  | reservedMessageReceived (p : PlaneId) (l : Fin 32) (cyc : Fin 40) (type : Byte) (payload : BitVec 64)
  | damperTimeout (p : PlaneId) (l : Fin 32)
  | trafficSlotStart (p : PlaneId) (slot : Fin 7)
  -- trigger inputs and the fabric
  | tiRisingCrossing (p : PlaneId) (ti : Fin 16) (cyc : Fin 40) (fine : BitVec 9)
  | fabricEventRelease (p : PlaneId)
  | windowOpen (p : PlaneId) (u : Fin 64) (ref : Nat)
  | windowEvaluation (p : PlaneId) (u : Fin 64) (ref : Nat)
  | coincidenceEvaluation (p : PlaneId) (u : Fin 256) (ref : Nat) (ecc : EccRead)
  | lookupScrub (p : PlaneId) (mem : Fin 4) (addr : Fin 1024) (ecc : EccRead)
  | prescalerPulse (p : PlaneId) (u : Fin 32) (ref : Nat)
  | crossPlaneCapture (src dst : PlaneId) (port : Fin 64) (ref : Nat)
  | chimneyCrossingRelease (p : PlaneId) (port : Fin 8) (ref tau : Nat) (rel : Release)
  -- generators, holds
  | generatorEvent (p : PlaneId) (g : Fin 8) (cyc : Fin 40)
  | generatorEnqueue (p : PlaneId) (g : Fin 8) (cyc : Fin 40)
  | readoutGapStart (p : PlaneId)
  | holdLimitExpiry (p : PlaneId) (g : Fin 32)
  | deferredActionsResume (p : PlaneId)
  -- tandem
  | joinCommand (port : PortId) (ready : PartnerReady)
  | joinAnnounce
  | joinComplete (leaderSec : Tri Word)
  | joinAbandon
  | leaveCommand (port : PortId)
  | leaveEffect
  | chimneyPortState (ch : Fin 2) (sight : PortSight)
  | chimneySwitchOver (inFlight : Nat)
  | chimneyLoss
  | followerRecordFetch (port : PortId) (rec : FollowerRecord)
  | tunnelWriteApply (port : PortId) (entry : TunnelEntry)
  | tunnelAck (port : PortId)
  | lane3ScheduledAction (act : Lane3Act) (late : Bool)
  -- the image
  | imageErase (port : PortId) (slot : Fin 2)
  | eraseComplete
  | imageOpen (port : PortId) (slot : Fin 2)
  | cfgdataBlockWrite (port : PortId) (block : Fin 32768) (data : List Byte)
  | blockProgramComplete (port : PortId)
  | imageClose (port : PortId)
  | verificationComplete (read : SlotRead)
  | imageBoot (port : PortId) (slot : Fin 2)
  | imageLoad (port : PortId) (slot : Fin 2)
  | imageReload (port : PortId) (slot : Fin 2) (planes : BitVec 3)
  | reloadF0 (p : PlaneId)
  | reloadF1 (p : PlaneId)
  | configCrcCheck (p : PlaneId) (matching : Bool)
  -- management ports
  | transactionStart (port : PortId)
  | transactionComplete (port : PortId) (tx : HostTx)
  | transactionVoid (port : PortId) (addr : BitVec 7) (reg : BitVec 5)
  | hostRegisterWrite (port : PortId) (addr : BitVec 7) (reg : BitVec 5) (word : Word)
  | windowSelectWrite (port : PortId) (addr : BitVec 7) (word : Word)
  | scheduledTransaction (port : PortId) (p : PlaneId) (sched : Word) (writes : List RegWrite)
  | schedApply (p : PlaneId) (port : PortId) (idx : Fin 4)
  | schedCancel (port : PortId) (p : PlaneId)
  | portSleep (port : PortId)
  | portWake (port : PortId) (addr : BitVec 7)
  | refusalClear (port : PortId)
  | pecEnableWrite (port : PortId) (on : Bool)
  | attentionConfigWrite (port : PortId) (addr : BitVec 7) (word : Word)
  | attentionCauseClear (port : PortId) (addr : BitVec 7) (clear : Word)
  | unitCauseClear (port : PortId) (clear : Byte)
  | historyClear (port : PortId) (p : PlaneId) (clear : BitVec 12)
  | attentionAttempt (port : PortId) (out : AttnEnd)
  | attentionRetry (port : PortId) (out : AttnEnd)
  | attentionHoldTimeout (port : PortId)
  | lineStuckDetect (port : PortId) (stuck : StuckLine)
  | lineStuckClear (port : PortId) (line : BusLine)
  | busRecover (port target : PortId) (lines : BusLines)
  | portTest (port target : PortId) (lines : BusLines)
  | ownershipClaim (port : PortId) (p : PlaneId)
  | ownershipRelease (port : PortId) (p : PlaneId)
  | ownershipTimeout (p : PlaneId)
  -- host writes with a row of their own
  | loopModeWrite (port : PortId) (p : PlaneId) (m : LoopMode)
  | forcedRefWrite (port : PortId) (p : PlaneId) (r : Fin 4)
  | realignRequest (port : PortId) (p : PlaneId)
  | realignCancel (port : PortId) (p : PlaneId)
  | huskClear (port : PortId) (p : PlaneId)
  | trainingHoldRequest (port : PortId) (p : PlaneId) (g : Fin 32)
  | trainingHoldHostEnd (port : PortId) (p : PlaneId) (g : Fin 32)
  | referencePriorityWrite (port : PortId) (p : PlaneId) (revert : Bool) (prio : Vector (BitVec 4) 4)
  | bandwidthCodeWrite (port : PortId) (p : PlaneId) (code : BitVec 4)
  | freqWrite (port : PortId) (p : PlaneId) (freq : Word)
  | gridOffsetWrite (port : PortId) (p : PlaneId) (goff : Int)
  | outputGateWrite (port : PortId) (p : PlaneId) (o : Fin 20) (on : Bool)
  | outputDelayWrite (port : PortId) (p : PlaneId) (ck : Fin 16) (k : BitVec 17) (f : BitVec 10)
  | puSettingsWrite (port : PortId) (p : PlaneId) (pu : Fin 4) (gen : Fin 8) (coarse : BitVec 16)
      (fine : Byte) (width : BitVec 24)
  | toFineDelayWrite (port : PortId) (p : PlaneId) (o : Fin 16) (fine : Byte)
  | enqueueCmd (port : PortId) (p : PlaneId) (l : Fin 32) (payload : BitVec 64)
  | enqueueBulk (port : PortId) (p : PlaneId) (l : Fin 32) (payload : BitVec 64)
  | popUqStat (port : PortId) (p : PlaneId) (l : Fin 32)
  | popUqBulk (port : PortId) (p : PlaneId) (l : Fin 32)
  | injectTestAccept (port : PortId) (p : PlaneId) (l : Fin 32) (payload : BitVec 64)
  | linkDelayWrite (port : PortId) (p : PlaneId) (l : Fin 32) (d turn : Word)
  | hostDamperWrite (port : PortId) (p : PlaneId) (l : Fin 32) (damper : BitVec 16)
  | queueThresholdWrite (port : PortId) (q : Fin 512) (n : BitVec 3)
  | parameterCellWrite (port : PortId) (p : PlaneId) (c : Fin 128) (v : Word)
  | generatorEnableWrite (port : PortId) (p : PlaneId) (g : Fin 8) (on : Bool)
  | bintWrite (port : PortId) (p : PlaneId) (second : Bool) (bint : Byte)
  | userGeneratorWrite (port : PortId) (p : PlaneId) (startSec startLow uper : Word) (ufine : BitVec 9)
  | epochPhaseDelayWrite (port : PortId) (p : PlaneId) (l : Fin 32) (epd2 epd3 : Word)
  -- faults
  | faultReaction (p : PlaneId)
  | pairBroken (src : Fin 224)
  | pairWhole (src : Fin 224)
  | collectorParityFault (coll : Option PlaneId) (g : Fin 8)
  | stickyClear (port : PortId) (src : Fin 224)
  | severityWrite (port : PortId) (src : Fin 224) (sev : Severity)
  | faultInjectStart (port : PortId) (p : PlaneId) (chk : BitVec 3) (double : Bool) (tgt : BitVec 6)
      (nchk : BitVec 11)
  | faultInjectStop (port : PortId) (p : PlaneId)
  | ovenFault (p : PlaneId) (present : Bool)
  | planeSupplyFault (p : PlaneId)
  -- counters
  | snapshotRequest (port : PortId) (ovfclr : Bool)
  | snapshotCapture
  -- parameter store
  | nvRead (port : PortId) (rd : PageRead)
  | nvWrite (port : PortId) (page : Fin 128)
  | nvProgramComplete (ok1 ok2 : Bool)
  | nvKey (port : PortId) (write : Bool)
  | nvPasswordChange (port : PortId) (write : Bool)
  | nvKeyShift (port : PortId) (w : Word)
  | nvDataWrite (port : PortId) (w : Word)
  | pageReload (page : Fin 128)
  | hubPageWrite (page : Fin 128) (inletMax inletMin intMax : Int)
  -- attestation
  | authNonceWrite (port : PortId) (nonce : Vector Word 8)
  | authStart (port : PortId) (selfTestOk : Bool)
  | signingComplete
  -- standby
  | planeStandbyEnter (port : PortId) (p : PlaneId)
  | standbyDrainComplete (p : PlaneId)
  | planeStandbyLeave (port : PortId) (p : PlaneId)
  | planeClockRestart (p : PlaneId)
  | unitStandbyEnter (port : PortId)
  | unitStandbyLeave (port : PortId)
  -- feeds, fans, environment
  | feedJudgement (feed : Fin 2) (mean : Int)
  | feedOvervoltageDisconnect (feed : Fin 2)
  | feedReconnect (feed : Fin 2)
  | fanSpeedCheck (fan : Fin 4) (present : Bool) (percent : Nat)
  | environmentSample (m : EnvMeas)
  -- rows that stand at the end of the table
  | timecodeFrameMissing (p : PlaneId) (tc : Fin 2)
  | puPulseEnd (p : PlaneId) (pulse : PulseEnd 4)
  | toPulseEnd (p : PlaneId) (pulse : PulseEnd 16)
  | planeSupplyRestored (p : PlaneId)
  | securityElementTimeout
  | followerAttentionReceived (offset : Fin 8) (cause : Word)
  | shortBrokenRun (coll : Option PlaneId)
  deriving DecidableEq, Repr, Inhabited

end Sys2Proof
end

