-- ==== Sys2Proof/Config.lean ====
section
/-! DEFINITION. What an implementation fixes and the values the spec leaves open. Every constant without a
body is free: nothing in Lean can evaluate it, so a claim holds whatever it is. The assumption log names
each one. -/

namespace Sys2Proof.Config

/-- A fresh unspecified value: the loop output while a reference is in the loop (R495 leaves the transient
open), and every other value the log lists. -/
opaque freeValue : Nat → BitVec 32

/-- What the security element draws the per-signature number of ECDSA from; the counter makes every signing fresh (R443). -/
opaque signNonce : Nat → BitVec 256

/-- The slope of the line fitted to the one-minute means, in 1e-15 per day: free, because the spec names no
fitting method (R96). -/
opaque fitSlope : List Int → Int

/-- Whether a quotient that is not a whole number of units is rounded up: a mean of R83 and R95, the drift term of R96. The
spec names no rounding; the value lies next to the exact one either way. -/
opaque roundsUp : Int → Nat → Bool

/-- Fan speed in percent at an internal temperature, which R484 bounds and does not give. -/
opaque fanCurve : Int → Nat

/-- The running image digest while no image is in force, for which the spec states no value (R291, R296). -/
opaque bareDigest : BitVec 256

/-- A word of a CFGDATA block read by a port that holds no slot open, for which the spec states no content (R300). -/
opaque closedBlock : Nat → Nat → Nat → BitVec 32

/-- Entries of one hardware queue (R182). -/
def queueDepth : Nat := 8

/-- Records of a plane's outgoing queue (R42). -/
def outQueueDepth : Nat := 16

/-- Records of the unit's log buffer (R437). -/
def unitLogDepth : Nat := 64

/-- Scheduled transactions one port may hold (R326). -/
def schedDepth : Nat := 4

/-- Record positions of a store sector (R427). -/
def nvPositions : Nat := 1364

/-- Frames of a second and cycles of a frame (R4). -/
def framesPerSec : Nat := 12500000
def cycPerFrame : Nat := 40
def cycPerSec : Nat := 500000000

/-- FINE bins of a second (R6). -/
def binsPerSec : Nat := 256000000000

/-- Frames of a millisecond (R84). -/
def framesPerMs : Nat := 12500

/-- Cycles of a millisecond (R84). -/
def cycPerMs : Nat := 500000

/-- TURN_CH in ps (R267). -/
def turnCh : Nat := 100000

end Sys2Proof.Config
end

