-- ==== Sys2Proof/Machine/State.lean ====
section
/-! DEFINITION. The state of the hub as plain data, its reset value, and the reasons a step can stop.
Every structure names the rules that give it; the fields marked MODEL'S OWN are not the spec's (each
has a row in the assumption log). -/

namespace Sys2Proof.Machine

/-- No command faults: the hub answers every event and every host access, and refuses a write by
recording it in PORT (R315), which is an effect. No definition raises a fault. -/
inductive Fault where
  deriving DecidableEq, Repr

/-- Why a step is refused. -/
inductive Refusal where
  /-- Raised by Machine/Dispatch.lean for a command that has no meaning in this model yet. Safe: the run
  stops. -/
  | notModelled (mnemonic : String)
  deriving DecidableEq, Repr

/-- Flash or RAM bytes by address, in canonical form: addresses strictly rise and no entry holds the
erased value (R300, R419). -/
structure Memory where
  cells : List Host.Cell := []
  deriving DecidableEq, Repr, Inhabited

/-- What an unlisted address reads as: erased flash and never-written pages read 0xFF (R300, R419). -/
def Memory.erased : Byte := 0xFF

/-- A 48-bit event counter with its overflow bit (R404, R405). -/
structure Counter where
  count : BitVec 48 := 0
  ovf   : Bool := false
  deriving DecidableEq, Repr, Inhabited

/-- The time counter and the plane's elapsed word clock. `clk` counts word-clock cycles and `frames`
whole frame boundaries since the word clock was released; both are the MODEL'S OWN elapsed time, never
set by a REALIGN. `shift` is the model's record of the last change of the count: the clk before which
labels were counted with the offset kept there (R177). -/
structure Time where
  sec    : Word := 0
  frame  : Nat := 0
  cyc    : Nat := 0
  clk    : Nat := 0
  frames : Nat := 0
  prevClk : Nat := 0
  prevTag : Int := 0
  deriving DecidableEq, Repr, Inhabited

/-- Reference state (R62). -/
inductive RefState where
  | off | lost | failed | wait | qualified
  deriving DecidableEq, Repr, Inhabited

/-- A reference's monitors (R46, R61 to R65, R70, R80, R494). `everQual` decides the first wait (R63). -/
structure Ref where
  state    : RefState := .off
  act      : Bool := false
  foffFail : Bool := false
  pjmpFail : Bool := false
  pjmpGood : Nat := 0
  pjmpLast : Option Int := none
  everQual : Bool := false
  wtr      : Nat := 0
  hql      : Nat := 0
  disputed : Bool := false
  heldOut  : Bool := false
  fmeas    : Int := 0
  deriving DecidableEq, Repr, Inhabited

/-- A timecode input (R48, R51, R52). `bad` counts missing or invalid frames in a row, `lastTod` is the time
the last frame named, none after an invalid one; `qRun` counts valid frames in a row with the code `qLast`;
`year` is the counted year of B000 and `lastDay` the day of the last valid frame. -/
structure Timecode where
  valid   : Bool := false
  bad     : Nat := 0
  lastTod : Option Nat := none
  qLast   : Option (BitVec 4) := none
  qRun    : Nat := 0
  qEff    : Option (BitVec 4) := none
  cand    : Word := 0
  secOk   : Bool := false
  year    : Nat := 0
  lastDay : Nat := 0
  deriving DecidableEq, Repr, Inhabited

/-- ESMC reception (R55 to R57). `pend` is the SSM code of a valid PDU not yet in effect, `ms` the
milliseconds since the last valid PDU, saturating at 6,300. -/
structure Esmc where
  hql  : Nat := 0
  pend : Option (BitVec 4) := none
  ms   : Nat := 6300
  deriving DecidableEq, Repr, Inhabited

/-- A pending switch (R73 to R77): its target, the frames of its measurement phase still to open, and
whether a hold defers its commit. -/
structure Switch where
  target   : Fin 4
  left     : Nat
  deferred : Bool := false
  deriving DecidableEq, Repr, Inhabited

/-- A standing dispute of the pair x, y (R70 to R72). -/
structure Dispute where
  x     : Fin 4
  y     : Fin 4
  markX : Bool
  markY : Bool
  agree : Nat := 0
  deriving DecidableEq, Repr, Inhabited

/-- Selection of a plane's reference (R65 to R77). `held3` says that a Chimney REF3 is held out of selection outside a join
(R272, R286). -/
structure Select where
  mode     : LoopMode := .auto
  fref     : Fin 4 := 0
  revert   : Bool := true
  prio     : Vector (BitVec 4) 4 := Vector.replicate 4 0
  active   : Option (Fin 4) := none
  auto     : Option (Fin 4) := none
  sw       : Option Switch := none
  disputes : List Dispute := []
  held3    : Bool := false
  deriving DecidableEq, Repr, Inhabited

/-- Loop state (R82). -/
inductive LoopState where
  | free | acquire | locked | ember | soft | husk
  deriving DecidableEq, Repr, Inhabited

/-- The clean-up loop (R81 to R100). Steering values are in units of 1e-13; `inLoop` says the active
reference is in the loop; `hist` holds the recorded one-second means, newest first, and `mins` the
one-minute means; `wholeSec` says the present second has been LOCKED throughout, `lockAt` is the elapsed cycle of the last entry
into LOCKED, `lastRec` that the second
before it was recorded; `hvalid` that `hval` is a valid holdover value. The slew has been taken from `resid`
but for `slewAcc` parts of 12,500 of a ps (R92). -/
structure Loop where
  state    : LoopState := .free
  inLoop   : Bool := false
  steer    : Int := 0
  freq     : Word := 0
  bw       : BitVec 4 := 0
  effbw    : BitVec 4 := 0
  everIn   : Bool := false
  lockRun  : Nat := 0
  unlockRun : Nat := 0
  relock   : Bool := false
  acqLate  : Bool := false
  resid    : Int := 0
  slewAcc  : Nat := 0
  hist     : List Int := []
  wholeSec : Bool := false
  lockAt   : Nat := 0
  lastRec  : Bool := false
  mins     : List Int := []
  hval     : Int := 0
  hvalid   : Bool := false
  fromSoft : Bool := false
  emberT   : Nat := 0
  slope    : Int := 0
  drift    : Bool := false
  forced   : Bool := false
  phase    : Option Int := none
  step     : Option Int := none
  deriving DecidableEq, Repr, Inhabited

/-- A captured marker's lattice (R104): the cycle of the plane's count at which registration falls, and
the SEC it takes. -/
structure Lattice where
  instant : Int
  sec     : Word
  deriving DecidableEq, Repr, Inhabited

/-- The pulse grid (R102 to R110). `org` is ORG of R244 as a cycle of the plane's count; `toMove` is the cycle of the count at
which a movement announced from outside the plane falls, a joined leader's REALIGN or PPS J (R203, R273, R275). `rlgnFirst` says that
the pending REALIGN of an unregistered grid has become executable before the loop first reached LOCKED (R108), and `farHold` that
a hold covers the follower plane of a joined leader's plane (R461). -/
structure Grid where
  reg      : Bool := false
  seenLock : Bool := false
  goff     : Int := 0
  cap      : Option Lattice := none
  d        : Int := 0
  dValid   : Bool := false
  dAge     : Nat := 65535
  badRun   : Nat := 0
  goodRun  : Nat := 0
  badLive  : Bool := false
  rlgnPend : Bool := false
  rlgnFirst : Bool := false
  farHold  : Bool := false
  moved    : Bool := false
  toMove   : Option Int := none
  org      : Nat := 0
  deriving DecidableEq, Repr, Inhabited

/-- What a CK output is doing (R129 to R131). -/
inductive CkRun where
  | stopped | running | draining
  deriving DecidableEq, Repr, Inhabited

/-- A sensing verdict (R137, OUT.VERDICT). -/
inductive Verdict where
  | none | normal | openV | short
  deriving DecidableEq, Repr, Inhabited

/-- A CK output (R115 to R131, R137 to R140). `wait` holds the committed delay writes not applied yet, oldest first: a hold
defers them (R125), and at one boundary they follow the gate writes (R126). `held` says that a hold has deferred the
first of them, and `newMove` that the fine move in progress began, or took its present direction and target, at the boundary that
opened the present frame (R124). -/
structure Ck where
  hgate   : Bool := false
  isol    : Bool := false
  halted  : Bool := false
  released : Bool := false
  run     : CkRun := .stopped
  k       : BitVec 17 := 0
  f       : BitVec 10 := 0
  fnow    : BitVec 10 := 0
  moving  : Bool := false
  newMove : Bool := false
  wait    : List (BitVec 17 × BitVec 10) := []
  held    : Bool := false
  verdict : Verdict := .none
  bad     : Nat := 0
  good    : Nat := 0
  deriving DecidableEq, Repr, Inhabited

/-- The host settings of a PU output (R133). -/
structure PuSet where
  gen    : Fin 8 := 0
  coarse : BitVec 16 := 0
  fine   : Byte := 0
  width  : BitVec 24 := 50000
  deriving DecidableEq, Repr, Inhabited

/-- A PU output (R132 to R134). `due` holds the events whose pulse has still to start, each with its generator and the
instant at which it starts, behind the coarse and the fine delay; `newGen` is an assignment waiting for the output to be low, and
`endAt` the instant at which the high state ends. Both instants count FINE bins, 512 to an elapsed cycle. -/
structure Pu where
  hgate   : Bool := false
  isol    : Bool := false
  halted  : Bool := false
  set     : PuSet := {}
  newGen  : Option (Fin 8) := none
  high    : Bool := false
  due     : List (Fin 8 × Nat) := []
  endAt   : Nat := 0
  omitted : BitVec 16 := 0
  wait    : Option PuSet := none
  verdict : Verdict := .none
  bad     : Nat := 0
  good    : Nat := 0
  deriving DecidableEq, Repr, Inhabited

/-- A TO output (R135, R230). `due` holds the pulses inside the coarse-delay stage, oldest first, each by the elapsed cycle in
which it starts and the fine delay in force when it entered; `edge` is the fine delay of the last pulse started, `endAt` the
elapsed cycle in which the high state ends, and `wait` a deferred fine-delay write. -/
structure TrigOut where
  fine   : Byte := 0
  wait   : Option Byte := none
  high   : Bool := false
  halted : Bool := false
  due    : List (Nat × Byte) := []
  edge   : Byte := 0
  endAt  : Nat := 0
  deriving DecidableEq, Repr, Inhabited

/-- Verdict of a trigger input (R205, TRIGIN.VERDICT). -/
inductive TiVerdict where
  | notJudged | normal | openV | reversed
  deriving DecidableEq, Repr, Inhabited

/-- A TI input (R205 to R208). `last` is the cycle of the last accepted crossing, `since` the elapsed cycle in which judging
started. -/
structure TrigIn where
  verdict : TiVerdict := .notJudged
  dis     : Bool := false
  last    : Option Nat := none
  since   : Nat := 0
  bad     : Nat := 0
  good    : Nat := 0
  live    : Bool := false
  deriving DecidableEq, Repr, Inhabited

/-- An entry of a link queue: the message's type beside its payload (R182). -/
structure QEntry where
  type    : Byte
  payload : BitVec 64
  deriving DecidableEq, Repr, Inhabited

/-- A queue of the link or of the Chimney (R182, R200, R372, R409). `ovNow` and `ovLast` say that it
overflowed in the present and in the last whole millisecond. -/
structure Queue where
  q      : List QEntry := []
  ovNow  : Bool := false
  ovLast : Bool := false
  nthr   : BitVec 3 := 0
  occ    : Counter := {}
  deriving DecidableEq, Repr, Inhabited

/-- An entry of a group queue (R183, R188). A timed entry carries its type, GEN byte, uncorrected instant
τ and low bits; a TRAIN-HOLD its payload. Bit l of `passed` says link l has passed it. -/
structure GEntry where
  type    : Byte
  head    : Byte
  tau     : Nat
  low     : BitVec 15
  payload : BitVec 64
  passed  : BitVec 32
  at_     : Nat
  deriving DecidableEq, Repr, Inhabited

/-- A group queue (R183). -/
structure GQueue where
  q      : List GEntry := []
  ovNow  : Bool := false
  ovLast : Bool := false
  nthr   : BitVec 3 := 0
  occ    : Counter := {}
  deriving DecidableEq, Repr, Inhabited

/-- Where a training hold stands (R260 to R263): requested inside a group, announced by the group in
progress, active, or ending with the STATE to be sent. -/
inductive HoldPhase where
  | idle | requested | announced | active | ending (st : BitVec 2)
  deriving DecidableEq, Repr, Inhabited

/-- The hold of one link group. Bit l of `complete` says member link l reported complete; `left` is the
hold time left in frames; `expired` that its expiry has been counted. -/
structure Hold where
  phase    : HoldPhase := .idle
  hostEnd  : Bool := false
  complete : BitVec 32 := 0
  left     : Nat := 0
  expired  : Bool := false
  deriving DecidableEq, Repr, Inhabited

/-- Receive state of a link (R174). -/
inductive LinkState where
  | off | down | seek | aligned | up | mistimed | swap | loop
  deriving DecidableEq, Repr, Inhabited

/-- The latest round-trip reading of a link (R167, R168, R377). -/
structure Rtt where
  rtt    : Nat := 0
  dev    : Int := 0
  age    : Nat := 65535
  valid  : Bool := false
  beyond : Bool := false
  bad    : Nat := 0
  good   : Nat := 0
  live   : Bool := false
  skip   : Bool := false
  deriving DecidableEq, Repr, Inhabited

/-- What the receiver keeps while it judges a link (R175 to R177): the count of good commas in a row, of
missing ones, of those moved to one position and that position, of mismatched labels, of IDECHOs with the wrong origin or
link; and whether the present group has been whole and right so far. -/
structure Align where
  commas  : Nat := 0
  absent  : Nat := 0
  moved   : Nat := 0
  movedAt : Option (Fin 800) := none
  labels  : Nat := 0
  swapRun : Nat := 0
  loopRun : Nat := 0
  slots   : Nat := 0
  allOk   : Bool := true
  idOk    : Bool := false
  dOk     : Bool := true
  deriving DecidableEq, Repr, Inhabited

/-- The scheduled values of a link beside D: L, EXM and group membership (R157). -/
structure LinkSched where
  l   : BitVec 16 := 0
  exm : Byte := 16
  mem : BitVec 32 := 0
  deriving DecidableEq, Repr, Inhabited

/-- A downstream slot as sent: type, payload and CRC (R149, R150). -/
structure TxSlot where
  type    : Byte := 0
  payload : BitVec 64 := 0
  crc     : Byte := 0
  deriving DecidableEq, Repr, Inhabited

/-- The D, TURN and L that were in force on a link before the elapsed cycle `upto` (R157, R163). -/
structure LinkPast where
  upto : Nat := 0
  d    : Word := 0
  turn : Word := 0
  l    : BitVec 16 := 0
  deriving DecidableEq, Repr, Inhabited

/-- A Mirvo link (chapters *The Mirvo link* and *Queues, the direct lane and the Damper*). `d`, `turn` are in
force, `ann` is announced for the next group boundary, `wait` committed and not yet announced, `waitHeld`
deferred by a hold (R166); `sch` are the scheduled values in force and `carried` those the present group carries (R157);
`past` holds what was in force before, newest first. Bit n of `isolBy` says that source 39 + n isolates it. `pendSt` is a state change
due at the next frame boundary (R175). `grpL` and `grpHold` are the LSTATE and HOLD subtypes of the present
group (R156, R157). `rxD` is the Damper last in force, `rxPend` one received and the elapsed cycle from which
it is in force (R193). `tests` holds injected test ACCEPTs, `tx` the last traffic slot sent, `slot0` the last
slot 0 sent, `recent` the timed group payloads of the last 64 frames (R197), `bulkSeq` the last SEQ accepted
per stream (R199). -/
structure Link where
  state   : LinkState := .off
  isol    : Bool := false
  isolBy  : BitVec 3 := 0
  d       : Word := 0
  turn    : Word := 0
  ann     : Option (Word × Word) := none
  wait    : Option (Word × Word) := none
  waitHeld : Bool := false
  sch     : LinkSched := {}
  carried : LinkSched := {}
  past    : List LinkPast := []
  pendSt  : Option LinkState := none
  grpL    : BitVec 16 := 0
  grpHold : BitVec 16 := 0
  rtttol  : Word := 50
  damph   : BitVec 16 := 0
  autoD   : BitVec 16 := 0
  sentD   : BitVec 16 := 0
  rxD     : BitVec 16 := 0xFFFF
  rxPend  : Option (BitVec 16 × Nat) := none
  msErr   : Nat := 0
  crcGood : Nat := 0
  crcLive : Bool := false
  err8    : Byte := 0
  grace   : Bool := false
  sub     : Vector (BitVec 16) 16 := Vector.replicate 16 0
  al      : Align := {}
  rtt     : Rtt := {}
  dqCmd   : Queue := {}
  dqBulk  : Queue := {}
  uqStat  : Queue := {}
  uqBulk  : Queue := {}
  hsel    : Bool := false
  seq     : Byte := 0
  bulkSeq : List (Byte × Byte) := []
  tests   : List (BitVec 64) := []
  tx      : TxSlot := {}
  slot0   : TxSlot := {}
  recent  : List (Nat × BitVec 64) := []
  epd2    : Word := 0
  epd3    : Word := 0
  epdWait : Option (Word × Word) := none
  cnt     : Vector Counter 8 := Vector.replicate 8 {}
  deriving DecidableEq, Repr, Inhabited

/-- An event held until its release cycle (R210, R211). `len` is a veto's length, 0 for an event. -/
structure HeldEvent where
  src : Sig
  ref : Nat
  tau : Nat
  rel : Nat
  len : Nat
  deriving DecidableEq, Repr, Inhabited

/-- A fabric signal: its source, reference cycle, attached τ, age, and whether a condition of R240 holds
for an input it was made from. -/
structure Signal where
  src     : Sig
  ref     : Nat
  tau     : Nat
  age     : Nat
  suspect : Bool
  deriving DecidableEq, Repr, Inhabited

/-- A veto input made active from start for len cycles, and whether its link was in an RTT excursion at its release
(R211, R240). -/
structure VetoIn where
  src     : Sig
  start   : Nat
  len     : Nat
  suspect : Bool
  deriving DecidableEq, Repr, Inhabited

/-- A window opened in EVENT mode, with the bounds read for it (R218, R228). -/
structure WinOpen where
  c0      : Nat
  tau0    : Nat
  lo      : Int
  hi      : Int
  suspect : Bool
  deriving DecidableEq, Repr, Inhabited

/-- A rate monitor (R226). `next` is the level the last interval ended with and the elapsed cycle from which it stands. -/
structure Rate where
  cur   : Nat := 0
  last  : Nat := 0
  level : Bool := false
  next  : Option (Bool × Nat) := none
  deriving DecidableEq, Repr, Inhabited

/-- A message an issuer holds (R232): the driver's reference cycle, τ and SUSPECT, and the cycle from
which a slot may carry it; a VETO's length. -/
structure IssMsg where
  ref     : Nat
  tau     : Nat
  suspect : Bool
  elig    : Nat
  len     : Nat
  deriving DecidableEq, Repr, Inhabited

/-- The fabric slice of a plane (R213). `pend` holds the evaluations still to come: a unit, named by the signal it makes, and the
reference cycle at which a signal has entered it (R242). -/
structure Fabric where
  online  : Bool := false
  held    : List HeldEvent := []
  sigs    : List Signal := []
  pend    : List (Sig × Nat) := []
  vetoes  : List VetoIn := []
  wins    : Vector (List WinOpen) 64 := Vector.replicate 64 []
  prescs  : Vector Nat 32 := Vector.replicate 32 0
  rates   : Vector Rate 16 := Vector.replicate 16 {}
  cells   : Vector Word 128 := Vector.replicate 128 0
  issuers : Vector (Option IssMsg) 32 := Vector.replicate 32 none
  bad     : List (Nat × Nat) := []
  chLast  : Vector (Option Nat) 8 := Vector.replicate 8 none
  deriving DecidableEq, Repr, Inhabited

/-- The run-time settings of a generator (R249). -/
structure GenSet where
  en       : Bool := false
  bint     : Byte := 48
  startSec : Word := 0
  startLow : Word := 0
  uper     : Word := 500000000
  ufine    : BitVec 9 := 0
  deriving DecidableEq, Repr, Inhabited

/-- A generator (R243 to R249, R256, R258). `org` is its ORG, `off` says that it waits for the first PPS after a reload (R264),
`first` is the cycle from which its lattice instants are events. `enq` lists the instants to come whose events came into being
at their enqueue cycle, `flushed` the gaps to come whose deferred beacons did, with their number. `count` is COUNT or NUM of the
last event and `p` the count of deferred beacons. `base` is the nominal instant from which the present BINT runs, `old` the
earlier instants of former BINTs, and `ended` the last event before a disable. -/
structure Gen where
  set      : GenSet := {}
  wait     : Option GenSet := none
  org      : Nat := 0
  off      : Bool := false
  first    : Nat := 0
  enq      : List Nat := []
  flushed  : List (Nat × Nat) := []
  count    : BitVec 15 := 0
  p        : BitVec 3 := 0
  base     : Option Nat := none
  old      : List Nat := []
  ended    : Option Nat := none
  deriving DecidableEq, Repr, Inhabited

/-- A fault source as its collector keeps it (R386 to R389). `det` is the detector's declaration, `wire` says its
pair is declared broken, `react` that its isolation or forced Ember is in force, `husk` that a Husk it caused is,
`cond` that the physical condition an event reported still holds, and `ev` the periods an event source stays
live. -/
structure Src where
  det    : Bool := false
  live   : Bool := false
  sticky : Bool := false
  wire   : Bool := false
  sev    : Severity := .notify
  react  : Bool := false
  husk   : Bool := false
  cond   : Bool := false
  ev     : Nat := 0
  deriving DecidableEq, Repr, Inhabited

/-- FINJ as last committed (R11, R355), with `left` the checks of its injection still to come: the injection runs while there
are any (R400). -/
structure Inject where
  chk  : BitVec 3 := 0
  dbl  : Bool := false
  tgt  : BitVec 6 := 0
  left : BitVec 11 := 0
  deriving DecidableEq, Repr, Inhabited

/-- A pair whose samples an injection has broken (R386, R401): `run` counts the broken samples in a row, up to 3, `tail` the valid
ones since, and `own` says that the injection has declared the pair broken. -/
structure PairRun where
  src  : Fin 64
  run  : Nat := 0
  tail : Nat := 0
  own  : Bool := false
  deriving DecidableEq, Repr, Inhabited

/-- A plane's collector (R381). Before an image is applied every source has its default severity (R382, R385). `fired` holds the
sources whose reaction is due, plane-local numbers and unit numbers from 192, each with the elapsed cycle of its sample, or in
which the plane has seen it; `parity` the groups with a parity fault due to be handled, with the cycle of the check (R393, R399).
Bit n of `uforce` says that unit source 192 + n forces Ember in the plane (R86, R489). A `Tail` counts the
milliseconds for which sources 42, 49 and 50 stay live after their last cause (R200, R247, R258). -/
structure Faults where
  src    : Vector Src 64 := Vector.ofFn fun n => { sev := planeDefaultSev n.val }
  fired  : List (Nat × Nat) := []
  parity : List (Fin 8 × Nat) := []
  uforce : BitVec 32 := 0
  inj    : Inject := {}
  pairs  : List PairRun := []
  ovTail : Nat := 0
  bcTail : Nat := 0
  msTail : Nat := 0
  ovNow  : Bool := false
  bcNow  : Bool := false
  msNow  : Bool := false
  deriving DecidableEq, Repr, Inhabited

/-- An event-log entry without its SEQ (R378): TYPE, ORIGIN, PORTN, TVALID, tag and data. -/
structure LogRec where
  type   : Byte
  origin : Byte
  portn  : Byte
  tvalid : Bool
  sec    : Word
  low    : Word
  data   : Vector Word 4
  deriving DecidableEq, Repr, Inhabited

/-- A record of a plane's outgoing queue (R42): a log entry or an attention cause. -/
inductive OutRec where
  | log (r : LogRec)
  | cause (bit : Nat)
  deriving DecidableEq, Repr, Inhabited

/-- What a plane's power is doing (PSTATE.PPOWER and R327): off before an image is applied and in BARE; running; entering
standby (F_s to F_x); stopped in standby; stopped with its exit committed (R455); in a reload that keeps or changes the
clock plan. -/
inductive Power where
  | off | run | entering | stopped | leaving | reloadKeep | reloadChange
  deriving DecidableEq, Repr, Inhabited

/-- An oven, and its plane's gate of the optics and of switching (R450). -/
structure Oven where
  settled : Bool := false
  gate    : Bool := false
  deriving DecidableEq, Repr, Inhabited

/-- What a host write carries: a register word, or a whole window record with the space and index its WSEL named (R321,
R367). A plane keeps the unit's fields handed over to it among them (R489): the standby field, and that a unit source's severity
and sticky bit force Ember or do so no longer (R86, R389, R394). -/
inductive WriteKind where
  | reg (r : BitVec 5) (w : Word)
  | record (space : BitVec 4) (index : BitVec 20) (words : List Word)
  | standby (enter : Bool)
  | force (src : Fin 32) (on : Bool)
  deriving DecidableEq, Repr, Inhabited

/-- A host write whose transaction is complete and that waits for its commit (R41, R324): its port, the plane it belongs
to (or whose place the follower's plane has), the address offset written, and the declarations in force at its
transaction's START (R305). `seen` is the elapsed cycle in which the plane sees the STOP, or, for a word of the housekeeping
domain, the number of housekeeping ticks before it. `tunnel` says that it came over the tunnel, its rights judged by the leader
(R276, R278). -/
structure HeldWrite where
  port  : PortId
  plane : PlaneId
  off   : Fin 8
  cfg   : PortDecl
  kind  : WriteKind
  seen  : Nat := 0
  tunnel : Bool := false
  deriving DecidableEq, Repr, Inhabited

/-- One plane (R17). `vcobLock` says VCO-B has reached lock, `vcobOut` that its detector reports unlock,
`vcobBad` that the last second's count differed (R114); `vcobAcc` is the accumulator of the ratio's fraction and `vcobOdd` says
that half a detector period has passed since its last step (R112). `grpAt` is the elapsed frame whose group boundary the holds
have passed, and `heldTo` the one at whose boundary the last hold that covered the plane ended (R262). `phistNow` has the PHIST bits set at the boundary
that opened the present frame (R380).
`sect` is the section in force and `owner` the port that owns the plane; `next` is the slot a committed LOAD or RELOAD
brings in and the port that ordered it, and `withUnit` says that it is a LOAD, or that the plane's standby came with the
unit's; `raised` is
the MODEL'S OWN list of attention causes an operation raises, emptied when they reach the ports. -/
structure Plane where
  sect    : PlaneDecl := {}
  sdig    : BitVec 256 := 0
  idig    : BitVec 256 := 0
  next    : Option (Fin 2 × PortId) := none
  power   : Power := .off
  withUnit : Bool := false
  oven    : Oven := {}
  time    : Time := {}
  ref     : Vector Ref 4 := Vector.replicate 4 {}
  tc      : Vector Timecode 2 := Vector.replicate 2 {}
  esmc    : Esmc := {}
  sel     : Select := {}
  loop    : Loop := {}
  grid    : Grid := {}
  vcobLock : Bool := false
  vcobOut : Bool := false
  vcobBad : Bool := false
  vcobDif : Int := 0
  phist   : BitVec 12 := 0
  phistNow : BitVec 12 := 0
  ck      : Vector Ck 16 := Vector.replicate 16 {}
  pu      : Vector Pu 4 := Vector.replicate 4 {}
  trigOut : Vector TrigOut 16 := Vector.replicate 16 {}
  ti      : Vector TrigIn 16 := Vector.replicate 16 {}
  link    : Vector Link 32 := Vector.replicate 32 {}
  gq      : Vector GQueue 32 := Vector.replicate 32 {}
  hold    : Vector Hold 32 := Vector.replicate 32 {}
  heldTo  : Option Nat := none
  grpT    : BitVec 16 := 0
  grpAt   : Nat := 0
  vcobAcc : Nat := 0
  vcobOdd : Bool := false
  fab     : Fabric := {}
  gen     : Vector Gen 8 := Vector.replicate 8 {}
  flt     : Faults := {}
  cnt     : Vector Counter 32 := Vector.replicate 32 {}
  outq    : List OutRec := []
  raised  : List Nat := []
  owner   : Option PortId := none
  commits : List HeldWrite := []
  bank    : Bank := {}
  fill    : Bank := {}
  deriving DecidableEq, Repr, Inhabited

/-- A pairwise comparator (R24 to R31). -/
structure Comparator where
  reading : Int := 0
  mism    : Bool := false
  valid   : Bool := false
  frameMis : Bool := false
  overRun : Nat := 0
  clearRun : Nat := 0
  exceed  : Bool := false
  beyond  : Bool := false
  inRun   : Nat := 0
  deriving DecidableEq, Repr, Inhabited

/-- Refusal reasons (R363). -/
inductive Reason where
  | none | right | owner | range | husk | noEffect | void | state | sched | order
  deriving DecidableEq, Repr, Inhabited

/-- The refusal record of a port (R315, R362). -/
structure RefusalRec where
  reason : Reason := .none
  taddr  : BitVec 7 := 0
  treg   : BitVec 5 := 0
  count  : Byte := 0
  deriving DecidableEq, Repr, Inhabited

/-- A pending scheduled transaction (R325): the address offset it was written at, its tag, its words. -/
structure Sched where
  off    : Fin 8
  secLo  : Byte
  frame  : BitVec 24
  writes : List HeldWrite
  deriving DecidableEq, Repr, Inhabited

/-- An attention message (R333 to R335): origin address offset (8 for the port-test origin 0x00),
sequence number, attempts not acknowledged, the housekeeping tick at which it became pending. -/
structure AttnMsg where
  origin  : Fin 9
  seq     : Byte
  retries : Nat := 0
  born    : Nat := 0
  deriving DecidableEq, Repr, Inhabited

/-- What a START captured (R40, R305, R318, R323): banks, unit registers, pointer, window indices, the record each of them
names, and the declarations the port then worked under. -/
structure Latch where
  cfg     : PortDecl := {}
  banks   : Tri Bank := Tri.same {}
  mirror  : Tri Bank := Tri.same {}
  unit    : Vector Word 12 := Vector.replicate 12 0
  unitF   : Vector Word 12 := Vector.replicate 12 0
  acause  : Vector Word 8 := Vector.replicate 8 0
  attn    : Vector Word 8 := Vector.replicate 8 0
  pointer : BitVec 5 := 0
  wsel    : Vector Word 8 := Vector.replicate 8 0
  recs    : Vector (List Word) 8 := Vector.replicate 8 []
  deriving DecidableEq, Repr, Inhabited

/-- A management port (chapter *Management ports*). Entry k of an address-indexed table belongs to the
plane address at offset k (R311). `unitSlept` marks a sleep of the unit's standby and `sleepDue` one that waits for the end of
the port's transaction (R330, R331). `rx` holds the bytes the hub sent in the port's last transaction, and
`attn` the bytes of its last attention attempt. `sent` holds the writes of the port's tunnel that the follower has not
acknowledged, with their numbers. `stop` is the elapsed cycle in which each plane sees the STOP of the port's present transaction
(R41), and `tick` counts housekeeping ticks, by which messages age (R333). `fetch` lists the records fetched from the follower in
the present transaction, each with its space and index (R277). `tunnel` is the MODEL'S OWN mark of a word that came over the
tunnel, whose rights the leader has judged. -/
structure Port where
  cfg     : PortDecl := {}
  answers : Bool := false
  asleep  : Bool := false
  unitSlept : Bool := false
  sleepDue : Bool := false
  latch   : Option Latch := none
  pointer : BitVec 5 := 0
  wsel    : Vector Word 8 := Vector.replicate 8 0
  pec     : Bool := false
  pecNext : Bool := false
  pview   : BitVec 2 := 0
  ref     : RefusalRec := {}
  ucause  : Byte := 0
  ufresh  : Byte := 0
  uen     : Byte := 0
  acause  : Vector Word 8 := Vector.replicate 8 0
  en      : Vector (BitVec 21) 8 := Vector.replicate 8 0
  haddr   : BitVec 7 := 0
  speed   : BitVec 2 := 0
  msgs    : List AttnMsg := []
  attnSeq : Byte := 0
  attn    : List Byte := []
  scheds  : List Sched := []
  sclStuck : Bool := false
  sdaStuck : Bool := false
  buf     : List Byte := List.replicate 32 0xFF
  key     : BitVec 64 := 0
  page    : BitVec 7 := 0
  offset  : BitVec 5 := 0
  ksel    : BitVec 2 := 0
  rpwok   : Bool := false
  wpwok   : Bool := false
  nverr   : Bool := false
  blocks  : List (Fin 2 × Nat × List Byte) := []
  rx      : List Byte := []
  stop    : Tri Nat := Tri.same 0
  tick    : Nat := 0
  fetch   : List ((BitVec 4 × BitVec 20) × List Word) := []
  sent    : List (Nat × Fin 8 × WriteKind) := []
  tunnel  : Bool := false
  deriving DecidableEq, Repr, Inhabited

/-- Tandem role (R269). -/
inductive Role where
  | solo | leader | follower
  deriving DecidableEq, Repr, Inhabited

/-- The Chimney (chapter *Tandem operation over the Chimney*). `sights` holds what each port last saw, and `mate` the UID of the
partner joined (R271). `tnext` numbers the entries of the leader's three tunnels and `outSent` counts those of queues 480 to 482
that have been sent and not acknowledged; `tdone` counts the entries a follower has taken (R278). `sends` lists the messages of
the outbound queues in the last interval, with the queue and the elapsed cycle of plane A; `damped` are the partner's DAMPER bits in
force on each port, `dampPend` those received and the elapsed cycle of plane A from which they are in force, and `slot0` the bits
this unit sends (R279). `timeBad` counts the milliseconds in which a crossing into a plane
stays suspect because the follower's time counter disagreed with its lane (R284). `joinSec` is S of R273; `kept` and
`keptRef` the loop modes and forced references kept at a join; `moving` is 0 for a plane whose switch-over is over, 1 until
its loop has been seen to hold and 2 until its switch commits (R284). -/
structure Chimney where
  role     : Role := .solo
  st       : Vector ChState 2 := Vector.replicate 2 .down
  sights   : Vector PortSight 2 := Vector.replicate 2 {}
  mate     : Option (BitVec 32) := none
  active   : Fin 2 := 0
  ex       : Vector Bool 2 := Vector.replicate 2 false
  exBad    : Vector Nat 2 := Vector.replicate 2 0
  exGood   : Vector Nat 2 := Vector.replicate 2 0
  ech      : Int := 0
  joinPend : Bool := false
  leavePend : Bool := false
  loss     : Bool := false
  joinSec  : Word := 0
  announced : Bool := false
  kept     : Tri LoopMode := Tri.same .auto
  keptRef  : Tri (Fin 4) := Tri.same 0
  moving   : Tri Nat := Tri.same 0
  timeBad  : Tri Nat := Tri.same 0
  opened   : Bool := false
  out      : Vector Queue 16 := Vector.replicate 16 {}
  inq      : Vector Queue 16 := Vector.replicate 16 {}
  tnext    : Vector Nat 3 := Vector.replicate 3 0
  tdone    : Vector Nat 3 := Vector.replicate 3 0
  outSent  : Vector Nat 3 := Vector.replicate 3 0
  sends    : List (Fin 16 × Nat) := []
  damped   : Vector (BitVec 16) 2 := Vector.replicate 2 0xFFFF
  dampPend : Vector (Option (BitVec 16 × Nat)) 2 := Vector.replicate 2 none
  slot0    : BitVec 16 := 0
  mirror   : Tri Bank := Tri.same {}
  mirrorU  : Vector Word 12 := Vector.replicate 12 0
  deriving DecidableEq, Repr, Inhabited

/-- The global snapshot (R412, R413). `seen` is the elapsed cycle in which each plane has seen the request, none before. From
the snapshot boundary on, `tag` is its tag, `part` holds the planes as captured, `waits` those that still wait for a boundary
of their own, and `units`, `outs` and `ins` the unit's and the Chimney's counters as captured; `far` holds the PSTATE words a joined
leader has from its follower's capture (R445). -/
structure Snapshot where
  pending : Bool := false
  ovfclr  : Bool := false
  seen    : Tri (Option Nat) := Tri.same none
  tag     : Option (Word × Word) := none
  part    : Tri Plane := Tri.same {}
  waits   : Tri Bool := Tri.same false
  units   : Vector Counter 32 := Vector.replicate 32 {}
  outs    : Vector Counter 16 := Vector.replicate 16 {}
  ins     : Vector Counter 16 := Vector.replicate 16 {}
  spst    : Tri Word := Tri.same 0
  far     : Option (Tri Word) := none
  valid   : Bool := false
  sec     : Word := 0
  low     : Word := 0
  counts  : List Counter := []
  pstate  : Vector Word 6 := Vector.replicate 6 0
  deriving DecidableEq, Repr, Inhabited

/-- A record of the parameter store as it stands in its position (R427). -/
structure NvRec where
  state : BitVec 16 := 0x00FF
  page  : BitVec 16
  seq   : Word
  data  : List Byte
  crc   : Word
  mark  : Word := 0xA55A5AA5
  deriving DecidableEq, Repr, Inhabited

/-- State of a store sector (R427 SSTATE). -/
inductive SectorState where
  | erased | receiving | active | obsolete
  deriving DecidableEq, Repr, Inhabited

/-- A store sector (R427): the MAGIC, GEN, SSTATE and HCRC of its header, and the records of the positions in use, newest first. An
erased sector reads 0xFF throughout. -/
structure NvSector where
  magic : Word := 0xFFFFFFFF
  gen   : Word := 0xFFFFFFFF
  st    : SectorState := .erased
  hcrc  : Word := 0xFFFFFFFF
  recs  : List NvRec := []
  deriving DecidableEq, Repr, Inhabited

/-- A programming operation in progress (R426): the port it belongs to (none for the hub's own), and the
record it appends. -/
structure NvOp where
  port : Option PortId
  page : BitVec 16
  data : List Byte
  deriving DecidableEq, Repr, Inhabited

/-- The parameter store (chapter *Parameter store and event log*). `ram` holds page n at bytes 32n on and `ramCrc` the CRC-32 kept
with that copy (R432). `waiting` are the hub's own writes that follow the operation in progress, oldest first (R434). `stale` lists
the pages to be reloaded (R432), and `erases`, `writes`, `failed`, `locks` and `loads` the totals of pages 122 and 123
(R434). -/
structure Nv where
  ram     : Memory := {}
  ramCrc  : Vector Word 128 := Vector.replicate 128 0xFF6CAB0B
  sect    : Vector NvSector 2 := ⟨#[{ magic := 0x50535452, gen := 0, st := .active, hcrc := 0xF7F509CF }, {}], rfl⟩
  seq     : Word := 0
  op      : Option NvOp := none
  waiting : List NvOp := []
  rpw     : Option (BitVec 256) := none
  wpw     : Option (BitVec 256) := none
  fails   : Nat := 0
  lock    : Bool := false
  stale   : List (Fin 128) := []
  erases  : Vector Nat 6 := Vector.replicate 6 0
  writes  : Nat := 0
  failed  : Nat := 0
  locks   : Nat := 0
  loads   : Nat := 0
  deriving DecidableEq, Repr, Inhabited

/-- The event log (R435 to R438): ring position to entry words, next SEQ, the sector being erased, unit
records waiting, and the highest SEQ a port has read. -/
structure EvLog where
  ring    : List (Nat × Vector Word 8) := []
  seq     : Nat := 0
  erasing : Option (Fin 4) := none
  waiting : List LogRec := []
  maxRead : Option Nat := none
  deriving DecidableEq, Repr, Inhabited

/-- A configuration slot (R294, R299 to R301): its bytes, what its verification or the read at Kindling found, the blocks
programmed since its erase. `cut` says that power was lost in its erase, stream or verification, and `known` that its bytes are
those of `mem`: it has been erased since the model began. -/
structure Slot where
  mem      : Memory := {}
  file     : Option ImageFile := none
  blocks   : List Nat := []
  erased   : Bool := false
  verified : Bool := false
  cut      : Bool := false
  known    : Bool := false
  deriving DecidableEq, Repr, Inhabited

/-- Image commands and slots (R294 to R305, CFGSTAT). `erasing` and `verifying` list the slots in an erase or a
verification, the oldest first. `load` is the slot of a whole-unit load that has committed and not
completed, and `unitIn` says that its unit section is in force. -/
structure Cfg where
  slot    : Vector Slot 2 := Vector.replicate 2 {}
  boot    : Fin 2 := 0
  uslot   : Fin 2 := 0
  pslot   : Tri (Fin 2) := Tri.same 0
  applied : Bool := false
  openBy  : Option (PortId × Fin 2) := none
  erasing : List (Fin 2) := []
  verifying : List (Fin 2) := []
  load    : Option (Fin 2) := none
  unitIn  : Bool := false
  lastCmd : BitVec 4 := 0
  result  : BitVec 4 := 0
  boots   : Nat := 0
  deriving DecidableEq, Repr, Inhabited

/-- Attestation (chapter *Unit identity and attestation*). `nonce` is the one a START will latch and
`latched` the one AUTHBUF 0 reads back (R446); `waiting` says that the capture is still to come, and `capDig` to `capPst` hold
what it latched (R444). -/
structure Auth where
  nonce   : Vector Word 8 := Vector.replicate 8 0
  latched : Vector Word 8 := Vector.replicate 8 0
  busy    : Bool := false
  done    : Bool := false
  err     : Bool := false
  waiting : Bool := false
  selfOk  : Bool := true
  capDig  : BitVec 256 := 0
  capSec  : Word := 0
  capLow  : Word := 0
  capPst  : Vector Word 6 := Vector.replicate 6 0
  sig     : BitVec 512 := 0
  rdig    : BitVec 256 := 0
  sec     : Word := 0
  low     : Word := 0
  spst    : Vector Word 6 := Vector.replicate 6 0
  deriving DecidableEq, Repr, Inhabited

/-- A feed (R464, R465). Voltages in mV. The runs count consecutive means that call for a change. -/
structure Feed where
  absent   : Bool := false
  reversed : Bool := false
  underV   : Bool := false
  overV    : Bool := false
  aRun     : Nat := 0
  rRun     : Nat := 0
  uRun     : Nat := 0
  oRun     : Nat := 0
  mean     : Int := 0
  cut      : Bool := false
  deriving DecidableEq, Repr, Inhabited

/-- Unit state (USTATE.UPSTATE). -/
inductive UpState where
  | run | standby | kindling | bare
  deriving DecidableEq, Repr, Inhabited

/-- The environment the housekeeping domain measures and drives (R465, R484, R487): the feeds, the fans with the speed
commanded in percent, temperatures in tenths of a degree, and which limits stand passed. `inlets` are the inlet samples of the last
60 min, each with its housekeeping tick, and `inHi`, `inLo` and `intHi` the extremes sampled since power good (R434, R487). -/
structure Env where
  feed  : Vector Feed 2 := Vector.replicate 2 {}
  fanOk : Vector Bool 4 := Vector.replicate 4 true
  fanPct : Nat := 0
  tinlet : Int := 0
  tint  : Int := 0
  inlets : List (Nat × Int) := []
  inHi  : Option Int := none
  inLo  : Option Int := none
  intHi : Option Int := none
  inletBad : Bool := false
  rateBad  : Bool := false
  intBad   : Bool := false
  humBad   : Bool := false
  presBad  : Bool := false
  deriving DecidableEq, Repr, Inhabited

/-- A value the housekeeping domain has handed to a plane (R489): a unit source's firing, a snapshot request, the unit's
standby field, or that a unit source's severity and sticky bit force Ember or do so no longer. -/
inductive Hand where
  | fire (src : Nat)
  | snapshot
  | standby (enter : Bool)
  | force (src : Fin 32) (on : Bool)
  deriving DecidableEq, Repr, Inhabited

/-- What the device CA puts into a unit's certificate and the spec does not fix (R442): the bytes of its serial number, the relative
names of the issuer and the notBefore time as DER values, the two key identifiers, and its signature as DER bytes. -/
structure Cert where
  serial    : List Byte := []
  issuer    : List (List Byte) := []
  notBefore : List Byte := []
  ski       : List Byte := []
  aki       : List Byte := []
  sig       : List Byte := []
  deriving DecidableEq, Repr, Inhabited

/-- What is fixed at manufacture (R2, R292, R359, R440, R442): UID, UVER.HWREV, the factory key's digest, the element's private key,
which nothing outside it reads, and what the certificate holds beyond them. No command changes it. -/
structure Ident where
  variant : BitVec 4 := 1
  serial  : BitVec 28 := 0
  hwrev   : Byte := 0
  factory : BitVec 256 := 0
  priv    : BitVec 256 := 1
  cert    : Cert := {}
  deriving DecidableEq, Repr, Inhabited

/-- The whole block. `shots` holds each plane as its last frame boundary left it, from which window records are fetched (R40),
and `last` each plane as its last frame ended, from which snapshots are captured (R413). `ticks` counts housekeeping ticks, and
before an image is applied every unit source has its default severity (R383, R385);
`ushort` counts the unit collector's short runs of broken samples, for which R411 names no
counter (R386); `freeIdx` is the MODEL'S OWN index of the next unspecified value. -/
structure Hub where
  ident    : Ident := {}
  powered  : Bool := false
  conv     : Bool := false
  upstate  : UpState := .kindling
  ustby    : Bool := false
  udecl    : UnitDecl := {}
  udig     : BitVec 256 := 0
  partner  : BitVec 256 := 0
  planes   : Tri Plane := Tri.same {}
  shots    : Tri Plane := Tri.same {}
  last     : Tri Plane := Tri.same {}
  ticks    : Nat := 0
  cmp      : Vector Comparator 3 := Vector.replicate 3 {}
  marginal : Bool := false
  ports    : Vector Port 3 := Vector.replicate 3 {}
  usrc     : Vector Src 32 := Vector.ofFn fun n => { sev := unitDefaultSev n.val }
  hand     : Tri (List Hand) := Tri.same []
  ucommits : List HeldWrite := []
  ucnt     : Vector Counter 32 := Vector.replicate 32 {}
  ushort   : Counter := {}
  chim     : Chimney := {}
  snap     : Snapshot := {}
  nv       : Nv := {}
  log      : EvLog := {}
  cfg      : Cfg := {}
  auth     : Auth := {}
  env      : Env := {}
  freeIdx  : Nat := 0
  deriving DecidableEq, Repr, Inhabited

/-- The machine: the hub and the queue of waiting commands, first in, first out. -/
structure State where
  hub     : Hub := {}
  pending : List Instr := []
  deriving DecidableEq, Repr, Inhabited

/-- The hub right after reset: without power, before Kindling, nothing configured, every store erased. -/
def State.reset : State := {}

end Sys2Proof.Machine
end

