-- ==== Sys2Proof/Machine/Ops.lean ====
section
/-! DEFINITION. The named operations over planes, ports, counters, memories, sources, causes and the
log that every meaning is built from. The block has no exception entry: a fault source, an attention cause
and a refusal record stand in its place. -/

namespace Sys2Proof.Machine

/-! ### Answers -/

/-- The next state with another hub and the same queue. -/
def State.answer (s : State) (h : Hub) : Host.Outcome State Fault Refusal :=
  .next { s with hub := h }

/-! ### Planes, ports, links -/

/-- A plane of the hub. -/
def Hub.plane (h : Hub) (p : PlaneId) : Plane := h.planes.get p

/-- Replace a plane. -/
def Hub.setPlane (h : Hub) (p : PlaneId) (x : Plane) : Hub := { h with planes := h.planes.set p x }

/-- Change a plane. -/
def Hub.modPlane (h : Hub) (p : PlaneId) (f : Plane → Plane) : Hub := h.setPlane p (f (h.plane p))

/-- A port of the hub. -/
def Hub.port (h : Hub) (q : PortId) : Port := h.ports[q.val]

/-- Change a port. -/
def Hub.modPort (h : Hub) (q : PortId) (f : Port → Port) : Hub := { h with ports := upd h.ports q f }

/-- Change every port. -/
def Hub.allPorts (h : Hub) (f : Port → Port) : Hub := { h with ports := h.ports.map f }

/-- Change a link of a plane. -/
def Plane.modLink (x : Plane) (l : Fin 32) (f : Link → Link) : Plane := { x with link := upd x.link l f }

/-- Change every plane, in letter order. -/
def Hub.allPlanes (h : Hub) (f : PlaneId → Plane → Plane) : Hub :=
  { h with planes := ⟨f .a h.planes.a, f .b h.planes.b, f .c h.planes.c⟩ }

/-- The word clock runs (R327): in RUN, while entering standby, and in a reload that keeps the clock plan. -/
def Plane.clocked (x : Plane) : Bool :=
  match x.power with
  | .run => true
  | .entering => true
  | .reloadKeep => true
  | .off => false
  | .stopped => false
  | .leaving => false
  | .reloadChange => false

/-- Plane-level events act only while the unit has power and the plane's word clock runs. -/
def Hub.active (h : Hub) (p : PlaneId) : Bool := h.powered && (h.plane p).clocked

/-- Run a plane-level operation where the plane's word clock runs; otherwise the event does not occur. -/
def Hub.ifActive (h : Hub) (p : PlaneId) (f : Hub → Hub) : Hub := if h.active p then f h else h

/-! ### Counters -/

/-- Add events to a counter: past 2^48 - 1 it continues from 0 and sets its overflow bit (R404, R405). -/
def Counter.add (c : Counter) (n : Nat) : Counter :=
  { count := c.count + BitVec.ofNat 48 n, ovf := c.ovf || decide (2 ^ 48 ≤ c.count.toNat + n) }

/-- Count events in plane counter n (R410). -/
def Plane.countN (x : Plane) (n : Fin 32) (k : Nat) : Plane := { x with cnt := upd x.cnt n (·.add k) }

/-- Count one event in plane counter n (R410). -/
def Plane.count (x : Plane) (n : Fin 32) : Plane := x.countN n 1

/-- Count an event in counter n of a link (R408). -/
def Link.count (l : Link) (n : Fin 8) : Link := { l with cnt := upd l.cnt n (·.add 1) }

/-- Count events in unit counter u (R411). -/
def Hub.ucountN (h : Hub) (u : Fin 32) (k : Nat) : Hub := { h with ucnt := upd h.ucnt u (·.add k) }

/-- Count one event in unit counter u (R411). -/
def Hub.ucount (h : Hub) (u : Fin 32) : Hub := h.ucountN u 1

/-! ### Time -/

/-- The plane's count in cycles from the image epoch: n of R209. -/
def Time.now (t : Time) : Nat := t.sec.toNat * Config.cycPerSec + t.frame * Config.cycPerFrame + t.cyc

/-- The cycle at which the present frame opened. -/
def Time.boundary (t : Time) : Nat := t.sec.toNat * Config.cycPerSec + t.frame * Config.cycPerFrame

/-- The low word of the tag of R5. -/
def tagLow (frame cyc : Nat) : Word := mkWord [fld frame 24 8, fld cyc 6 2]

/-- The low word of the plane's present tag. -/
def Time.low (t : Time) : Word := tagLow t.frame t.cyc

/-- SEC of a count in cycles (R5). -/
def cycSec (n : Nat) : Nat := n / Config.cycPerSec

/-- FRAME of a count in cycles (R5). -/
def cycFrame (n : Nat) : Nat := n % Config.cycPerSec / Config.cycPerFrame

/-- CYC of a count in cycles (R5). -/
def cycCyc (n : Nat) : Nat := n % Config.cycPerFrame

/-- The cycle a tag names, when the tag obeys R7. -/
def tagCycle (sec low : Word) : Option Nat :=
  if bits low 31 8 < Config.framesPerSec ∧ bits low 7 2 < 40 ∧ bits low 1 0 = 0 then
    some (sec.toNat * Config.cycPerSec + bits low 31 8 * 40 + bits low 7 2)
  else none

/-- Count k cycles of a link queue whose occupancy exceeds its threshold (R409). -/
def Queue.tick (k : Nat) (q : Queue) : Queue :=
  if q.nthr.toNat < q.q.length then { q with occ := q.occ.add k } else q

/-- Count k cycles of a group queue whose occupancy exceeds its threshold (R409). -/
def GQueue.tick (k : Nat) (g : GQueue) : GQueue :=
  if g.nthr.toNat < g.q.length then { g with occ := g.occ.add k } else g

/-- Count k cycles in every queue of a link. -/
def Link.tick (k : Nat) (l : Link) : Link :=
  { l with dqCmd := l.dqCmd.tick k, dqBulk := l.dqBulk.tick k, uqStat := l.uqStat.tick k,
           uqBulk := l.uqBulk.tick k }

/-! ### Memories -/

/-- Read one byte. -/
def Memory.read (m : Memory) (a : Nat) : Byte :=
  match m.cells.find? (fun c => c.1 == a) with
  | some c => c.2
  | none => Memory.erased

/-- Put a byte into a rising list, dropping any entry of its address and keeping none that holds the erased
value. -/
def putCell (a : Nat) (b : Byte) : List Host.Cell → List Host.Cell
  | [] => if b = Memory.erased then [] else [(a, b)]
  | (x, v) :: rest =>
    if x < a then (x, v) :: putCell a b rest
    else if x = a then (if b = Memory.erased then rest else (a, b) :: rest)
    else (if b = Memory.erased then (x, v) :: rest else (a, b) :: (x, v) :: rest)

/-- Write one byte, keeping the canonical form. -/
def Memory.write (m : Memory) (a : Nat) (b : Byte) : Memory := { cells := putCell a b m.cells }

/-- Write bytes from an address on. -/
def Memory.writeBytes (m : Memory) (a : Nat) : List Byte → Memory
  | [] => m
  | b :: rest => (m.write a b).writeBytes (a + 1) rest

/-- Read n bytes from an address on. -/
def Memory.readBytes (m : Memory) (a n : Nat) : List Byte := (List.range n).map fun i => m.read (a + i)

/-- The canonical form: addresses strictly rise and no entry holds the erased value. -/
def Memory.wf (m : Memory) : Bool :=
  decide (m.cells.Pairwise fun x y => x.1 < y.1) && m.cells.all fun c => c.2 != Memory.erased

/-! ### Free values -/

/-- A fresh unspecified value, signed, and the hub that has used it up. -/
def Hub.fresh (h : Hub) : Int × Hub := ((Config.freeValue h.freeIdx).toInt, { h with freeIdx := h.freeIdx + 1 })

/-- A quotient: exact where it is whole, and otherwise one of the two whole numbers beside it, which of them the spec leaves
open (R95, R96). -/
def meanOf (sum : Int) (n : Nat) : Int :=
  if sum % n = 0 then sum / n else sum / n + (if Config.roundsUp sum n then 1 else 0)

/-! ### Addresses -/

/-- The address offset of a plane (R311). -/
def offOf (p : PlaneId) : Fin 8 :=
  match p with
  | .a => 1
  | .b => 2
  | .c => 3

/-- The plane at an address offset of the unit itself (R311). -/
def planeAt (off : Nat) : Option PlaneId :=
  if off = 1 then some .a else if off = 2 then some .b else if off = 3 then some .c else none

/-- The addresses under the mask of the ports: 8 for 0x07, only while this unit leads a joined pair (R276, R311). -/
def Hub.mask (h : Hub) : Nat := if h.chim.role = .leader then 8 else 4

/-- The offset an address byte selects at a port, when the port answers it: the address without its masked bits is the base, and
lies outside 0x00 to 0x07 and 0x78 to 0x7F (R310, R311). -/
def Hub.offset (h : Hub) (q : PortId) (addr : BitVec 7) : Option (Fin 8) :=
  let base := (h.port q).cfg.base.toNat
  if addr.toNat / h.mask * h.mask = base ∧ 8 ≤ addr.toNat ∧ addr.toNat < 0x78 then some (Fin.ofNat 8 (addr.toNat % h.mask)) else none

/-- The address of an offset at a port. -/
def Hub.addrOf (h : Hub) (q : PortId) (off : Fin 8) : BitVec 7 := (h.port q).cfg.base + BitVec.ofNat 7 off.val

/-! ### Refusals, rights and ownership -/

/-- Record a refusal: the first since the last clear, and the count of all, saturating (R315, R362). -/
def Port.refuse (x : Port) (addr : BitVec 7) (reg : BitVec 5) (r : Reason) : Port :=
  { x with ref :=
      { reason := if x.ref.count = 0 then r else x.ref.reason
        taddr := if x.ref.count = 0 then addr else x.ref.taddr
        treg := if x.ref.count = 0 then reg else x.ref.treg
        count := if x.ref.count = 255 then 255 else x.ref.count + 1 } }

/-- Record a refusal in PORT of a port. -/
def Hub.refuse (h : Hub) (q : PortId) (addr : BitVec 7) (reg : BitVec 5) (r : Reason) : Hub :=
  h.modPort q (·.refuse addr reg r)

/-- A right limited to READ. -/
def Right.capped : Right → Right
  | .none => .none
  | .read => .read
  | .control => .read

/-- What a port is granted (R314): a joined follower's own ports hold at most READ and COUNTERS (R276), and a word that
came over the tunnel has passed the leader's judgement. -/
def Hub.grants (h : Hub) (q : PortId) : PortDecl :=
  let x := h.port q
  if x.tunnel then
    { x.cfg with rights := Vector.replicate 8 .control, counters := true, nvWrite := true, image := true, auth := true }
  else if h.chim.role = .follower then
    { x.cfg with rights := x.cfg.rights.map Right.capped, nvWrite := false, image := false, auth := false }
  else x.cfg

/-- The port's right for the plane at an offset (R314). -/
def Hub.rightAt (h : Hub) (q : PortId) (off : Fin 8) : Right := (h.grants q).rights[off.val]

/-- The port holds CONTROL for a plane. -/
def Hub.controls (h : Hub) (q : PortId) (p : PlaneId) : Bool := h.rightAt q (offOf p) == .control

/-- The port holds READ, or CONTROL, for a plane. -/
def Hub.reads (h : Hub) (q : PortId) (p : PlaneId) : Bool := h.rightAt q (offOf p) != .none

/-- The port holds CONTROL for every plane of the unit. -/
def Hub.controlsAll (h : Hub) (q : PortId) : Bool := PlaneId.all.all (h.controls q)

/-- The plane is owned by a port other than this one (R316). -/
def Hub.foreign (h : Hub) (q : PortId) (p : PlaneId) : Bool :=
  match (h.plane p).owner with
  | some o => o != q
  | none => false

/-- The first of the reasons that apply, in the order of R462. -/
def firstReason (right owner range husk state : Bool) : Reason :=
  if right then .right else if owner then .owner else if range then .range else if husk then .husk
  else if state then .state else .none

/-- The loop of the plane is in HUSK. -/
def Plane.inHusk (x : Plane) : Bool := x.loop.state == .husk

/-- Why a write of plane p by a port is refused: its right and ownership (R314, R316), then the reasons the
write gives; a stopped word clock refuses every such write with STATE (R327). -/
def Hub.planeReason (h : Hub) (q : PortId) (p : PlaneId) (range husk state : Bool) : Reason :=
  firstReason (!h.controls q p) (h.foreign q p) range husk (state || !(h.active p))

/-- Apply a host write, or record its refusal at the address written. A hub without power takes no write. -/
def Hub.judged (h : Hub) (q : PortId) (addr : BitVec 7) (reg : BitVec 5) (r : Reason) (f : Hub → Hub) : Hub :=
  if h.powered then
    match r with
    | .none => f h
    | r => h.refuse q addr reg r
  else h

/-- Judge a host write of plane p and either apply it or record its refusal (R315, R320). `structural`
writes are refused in Husk (R397). -/
def Hub.hostWrite (h : Hub) (q : PortId) (p : PlaneId) (reg : BitVec 5) (range structural state : Bool)
    (f : Hub → Hub) : Hub :=
  h.judged q (h.addrOf q (offOf p)) reg (h.planeReason q p range (structural && (h.plane p).inHusk) state) f

/-- Why a write that acts on every plane is refused: CONTROL for every plane and ownership of every owned
one (R314, R367). -/
def Hub.unitReason (h : Hub) (q : PortId) (range husk state : Bool) : Reason :=
  firstReason (!h.controlsAll q) (PlaneId.all.any (h.foreign q)) range husk state

/-- Judge a unit-scoped write and either apply it or record its refusal at the unit address. -/
def Hub.unitWrite (h : Hub) (q : PortId) (reg : BitVec 5) (r : Reason) (f : Hub → Hub) : Hub :=
  h.judged q (h.addrOf q 0) reg r f

/-! ### Attention causes -/

/-- A message takes its place among those pending: the oldest first, among equal ages the lowest origin, and behind one that has
been tried (R333). -/
def insertMsg (m : AttnMsg) : List AttnMsg → List AttnMsg
  | [] => [m]
  | v :: rest =>
    if v.retries = 0 ∧ v.born = m.born ∧ (m.origin.val + 1) % 9 < (v.origin.val + 1) % 9 then m :: v :: rest else v :: insertMsg m rest

/-- Make the message of an origin pending unless one already is (R333); HADDR 0x00 disables the engine
(R332). -/
def Port.pendMsg (x : Port) (origin : Fin 9) : Port :=
  if x.haddr = 0 ∨ x.msgs.any (fun m => m.origin == origin) then x
  else { x with
    msgs := insertMsg { origin := origin, seq := x.attnSeq, born := x.tick } x.msgs
    attnSeq := x.attnSeq + 1 }

/-- Set a cause at a plane address of a port; an enabled cause that was clear calls for a message (R333,
R357). -/
def Port.cause (x : Port) (off : Fin 8) (bit : Nat) : Port :=
  let w := x.acause[off.val]
  let y := { x with acause := upd x.acause off (· ||| (1#32 <<< bit)) }
  if !(bitAt w bit) && bit < 21 && bitAt x.en[off.val] bit then y.pendMsg (off.castSucc) else y

/-- The cause is new and enabled in some port, so a record must reach an attention engine. -/
def Hub.causeCalls (h : Hub) (off : Fin 8) (bit : Nat) : Bool :=
  h.ports.toList.any fun x => !(bitAt x.acause[off.val] bit) && bit < 21 && bitAt x.en[off.val] bit

/-- Write a record into a plane's outgoing queue, or lose it and count it when the queue is full (R42); a plane whose word clock
stands counts nothing (R406). -/
def Plane.send (x : Plane) (r : OutRec) : Plane :=
  if x.outq.length < Config.outQueueDepth then { x with outq := x.outq ++ [r] } else if x.clocked then x.count 20 else x

/-- Set a cause of a plane in every port's copy (R357). The record that calls an engine travels through the
plane's outgoing queue; when it is full the cause is set and no message comes of it (R42). On a joined follower every cause goes
that way, since the leader's ports may have it enabled (R276). -/
def Hub.cause (h : Hub) (p : PlaneId) (bit : Nat) : Hub :=
  if h.chim.role == .follower || h.causeCalls (offOf p) bit then
    let full := !((h.plane p).outq.length < Config.outQueueDepth)
    let h := h.modPlane p (·.send (.cause bit))
    if full then
      h.allPorts fun x => { x with acause := upd x.acause (offOf p) (· ||| (1#32 <<< bit)) }
    else h.allPorts (·.cause (offOf p) bit)
  else h.allPorts (·.cause (offOf p) bit)

/-- Set a unit cause in every port (R362); an enabled cause that was clear calls for a message of the unit
origin. -/
def Port.ucauseSet (x : Port) (bit : Nat) : Port :=
  let y := { x with ucause := x.ucause ||| (1#8 <<< bit), ufresh := x.ufresh ||| (1#8 <<< bit) }
  if !(bitAt x.ucause bit) && bitAt x.uen bit then y.pendMsg 0 else y

/-- Set a unit cause in every port. -/
def Hub.ucause (h : Hub) (bit : Nat) : Hub := h.allPorts (·.ucauseSet bit)

/-- Note a cause inside a plane operation; it reaches the ports with `deliver`. -/
def Plane.raise (x : Plane) (bit : Nat) : Plane := { x with raised := x.raised ++ [bit] }

/-- Set the causes a plane operation noted. -/
def Hub.deliver (h : Hub) (p : PlaneId) : Hub :=
  let bits := (h.plane p).raised
  bits.foldl (fun h b => h.cause p b) (h.modPlane p fun x => { x with raised := [] })

/-- Change a plane and set the causes the change noted. -/
def Hub.onPlane (h : Hub) (p : PlaneId) (f : Plane → Plane) : Hub := (h.modPlane p f).deliver p

/-- Change a plane with a fresh unspecified value and set the causes the change noted. -/
def Hub.onPlaneFree (h : Hub) (p : PlaneId) (f : Int → Plane → Plane) : Hub :=
  h.fresh.2.onPlane p (f h.fresh.1)

/-- An event inside a plane, which occurs only while its word clock runs. -/
def Hub.event (h : Hub) (p : PlaneId) (f : Plane → Plane) : Hub := h.ifActive p fun h => h.onPlane p f

/-- An event inside a plane that uses a fresh unspecified value. -/
def Hub.eventFree (h : Hub) (p : PlaneId) (f : Int → Plane → Plane) : Hub :=
  h.ifActive p fun h => h.onPlaneFree p f

/-- Set a history bit, and its cause where the image declares its attention (R102, R347). -/
def Plane.history (x : Plane) (b : Nat) : Plane :=
  let y := { x with
    phist := x.phist ||| (1#12 <<< b), phistNow := if x.time.cyc = 0 then x.phistNow ||| (1#12 <<< b) else x.phistNow }
  if bitAt x.sect.attnHist b then y.raise b else y

/-! ### The event log -/

/-- A log record of a plane, with the plane's tag (R438). -/
def Plane.mkRec (x : Plane) (p : PlaneId) (type : Byte) (portn : Byte) (data : Vector Word 4) : LogRec :=
  { type := type, origin := BitVec.ofNat 8 p.num, portn := portn, tvalid := x.grid.reg,
    sec := x.time.sec, low := x.time.low, data := data }

/-- Send a log entry of a plane towards the log (R42). -/
def Plane.log (x : Plane) (p : PlaneId) (type : Byte) (data : Vector Word 4) : Plane :=
  x.send (.log (x.mkRec p type 0xFF data))

/-- DATA of an entry with W4 and W5. -/
def data2 (w4 w5 : Word) : Vector Word 4 := ⟨#[w4, w5, 0, 0], rfl⟩

/-- The plane whose time a unit entry carries: the lowest-lettered one whose word clock runs (R438). -/
def Hub.refPlane (h : Hub) : Option PlaneId := PlaneId.all.find? fun p => h.active p

/-- The position of the next entry in the ring of 8,192 (R435). -/
def EvLog.pos (l : EvLog) : Nat := l.seq % 8192

/-- The log sector of a ring position (R435). -/
def logSector (pos : Nat) : Fin 4 := Fin.ofNat 4 (pos / 2048)

/-- The words of an entry (R378). -/
def LogRec.words (r : LogRec) (seq : Nat) : Vector Word 8 :=
  ⟨#[BitVec.ofNat 32 seq,
     mkWord [fld r.type.toNat 8 24, fld r.origin.toNat 8 16, fld r.portn.toNat 8 8, b2n r.tvalid],
     r.sec, r.low, r.data[0], r.data[1], r.data[2], r.data[3]], rfl⟩

/-- Put an entry into the ring at its position, which keeps the ring sorted by position. -/
def putEntry (pos : Nat) (e : Vector Word 8) : List (Nat × Vector Word 8) → List (Nat × Vector Word 8)
  | [] => [(pos, e)]
  | (q, f) :: rest =>
    if q < pos then (q, f) :: putEntry pos e rest
    else if q = pos then (pos, e) :: rest
    else (pos, e) :: (q, f) :: rest

/-- The ring cannot take an entry while the sector at the write position is being erased (R437). -/
def EvLog.blocked (l : EvLog) : Bool := l.erasing == some (logSector l.pos)

/-- Write an entry at its SEQ position (R437), erasing the next sector when the position reached is 1,792 of
its sector (R436); the erased sector reads as never written from then on. -/
def EvLog.append (l : EvLog) (r : LogRec) : EvLog :=
  let pos := l.pos
  let l := { l with ring := putEntry pos (r.words l.seq) l.ring, seq := l.seq + 1 }
  if l.pos % 2048 = 1792 then
    let s := logSector l.pos + 1
    { l with erasing := some s, ring := l.ring.filter fun e => logSector e.1 != s }
  else l

/-- The sector now being erased held an entry no port had read (R436). -/
def EvLog.lostUnread (before after : EvLog) : Bool :=
  match after.erasing with
  | none => false
  | some s =>
    before.erasing != after.erasing &&
    before.ring.any fun e => logSector e.1 == s &&
      (match before.maxRead with
       | none => true
       | some m => decide (m < e.2[0].toNat))

/-- Write a record that has reached the housekeeping domain into the ring: unit counter 5 counts it, and
UCAUSE bit 7 and page 122's erase count follow an erase (R436, R437). -/
def Hub.writeEntry (h : Hub) (r : LogRec) : Hub :=
  let l := h.log.append r
  let h' := { h with log := l }.ucount 5
  if l.erasing != h.log.erasing then
    match l.erasing with
    | none => h'
    | some s =>
      let h' := { h' with nv := { h'.nv with
        erases := upd h'.nv.erases (Fin.ofNat 6 (2 + s.val)) (· + 1) } }
      if EvLog.lostUnread h.log l then h'.ucause 7 else h'
  else h'

/-- Log a unit record: at once, or into the unit buffer of 64 while the ring cannot take it; a full buffer
discards it (R437). -/
def Hub.logUnit (h : Hub) (r : LogRec) : Hub :=
  if h.log.blocked || !h.log.waiting.isEmpty then
    if h.log.waiting.length < Config.unitLogDepth then
      { h with log := { h.log with waiting := h.log.waiting ++ [r] } }
    else h
  else h.writeEntry r

/-- A unit log entry (R438). -/
def Hub.ulog (h : Hub) (type portn : Byte) (data : Vector Word 4) : Hub :=
  let r : LogRec :=
    match h.refPlane with
    | none => { type := type, origin := 0xFF, portn := portn, tvalid := false, sec := 0, low := 0, data := data }
    | some p =>
      let x := h.plane p
      { type := type, origin := 0xFF, portn := portn, tvalid := x.grid.reg, sec := x.time.sec,
        low := x.time.low, data := data }
  h.logUnit r

/-! ### Fault sources -/

/-- LIVE of a source from its detector and its pair (R387, R388): a change from clear to error sets STICKY.
The Bool says the source fired. -/
def Src.judge (s : Src) : Src × Bool :=
  let now := s.det || s.wire
  if now && !s.live then ({ s with live := true, sticky := true }, true)
  else ({ s with live := now }, false)

/-- Set the detector of plane source n by a sample in elapsed cycle `seen`: a firing puts the source on the list of due reactions
(R388, R393). -/
def Plane.setDetAt (x : Plane) (n : Fin 64) (b : Bool) (seen : Nat) : Plane :=
  let (s, fired) := { x.flt.src[n.val] with det := b }.judge
  { x with flt := { x.flt with
      src := upd x.flt.src n (fun _ => s)
      fired := if fired then x.flt.fired ++ [(n.val, seen)] else x.flt.fired } }

/-- Set the detector of plane source n by a sample in the present cycle. -/
def Plane.setDet (x : Plane) (n : Fin 64) (b : Bool) : Plane := x.setDetAt n b x.time.clk

/-- Raise an event source of a plane: it stays live until the next frame boundary (R384). -/
def Plane.fireEvent (x : Plane) (n : Fin 64) : Plane :=
  let y := x.setDet n true
  { y with flt := { y.flt with src := upd y.flt.src n (fun s => { s with ev := 1 }) } }

/-- Hand a value to a plane, which will see it 2 or 3 of its cycles later (R489). -/
def Hub.handTo (h : Hub) (p : PlaneId) (v : Hand) : Hub := { h with hand := h.hand.set p (h.hand.get p ++ [v]) }

/-- Hand a unit source's firing to every plane whose word clock runs (R393, R457, R489). -/
def Hub.handFire (h : Hub) (n : Nat) : Hub :=
  PlaneId.all.foldl (fun (g : Hub) p => if g.active p then g.handTo p (.fire (192 + n)) else g) h

/-- Sources 210 to 218 have a port's attention engine as their element (R383). -/
def engineSource (n : Fin 32) : Bool := decide (18 ≤ n.val ∧ n.val ≤ 26)

/-! ### Elapsing time -/

/-- Judge source n from its detector and its pair, and source 45 from every pair, by a sample in elapsed cycle `seen` (R386,
R387). -/
def Plane.judgeSource (x : Plane) (n : Fin 64) (seen : Nat) : Plane :=
  let y := x.setDetAt n x.flt.src[n.val].det seen
  y.setDetAt 45 (y.flt.src.toList.any (·.wire)) seen

/-- The run of broken samples that an injection has made on source n, if any. -/
def Faults.pairRun (f : Faults) (n : Fin 64) : Option PairRun := f.pairs.find? fun r => r.src == n

/-- Put, or drop, the run of source n. -/
def Plane.setRun (x : Plane) (n : Fin 64) (r : Option PairRun) : Plane :=
  { x with flt := { x.flt with pairs := (x.flt.pairs.filter fun q => q.src != n) ++ r.toList } }

/-- An injection breaks k samples of source n's pair in a row, k at least 1: the third in a row declares it broken (R386, R401). -/
def Plane.breakPair (x : Plane) (n : Fin 64) (k : Nat) : Plane :=
  let r := (x.flt.pairRun n).getD { src := n }
  let first := decide (r.run < 3 ∧ 3 ≤ r.run + k)
  let own := if first then !x.flt.src[n.val].wire else r.own
  let y := x.setRun n (some { r with run := min 3 (r.run + k), tail := 0, own := own })
  if first then { y with flt := { y.flt with src := upd y.flt.src n fun s => { s with wire := true } } }.judgeSource n (x.time.clk + 2 - r.run) else y

/-- k samples of a pair follow that no injection breaks: the third in a row makes a pair whole that the injection declared
broken, and a run of fewer than three broken ones is counted (R386, R401). -/
def Plane.validPair (x : Plane) (k : Nat) (r : PairRun) : Plane :=
  if k = 0 then x
  else if r.run < 3 then (x.setRun r.src none).count 31
  else if r.tail + k < 3 then x.setRun r.src (some { r with tail := r.tail + k })
  else
    let y := x.setRun r.src none
    { y with flt := { y.flt with src := upd y.flt.src r.src fun s => { s with wire := s.wire && !r.own } } }.judgeSource r.src x.time.clk

/-- Note a parity fault of a group found at an elapsed cycle, unless one that the same boundary handles is noted; `next` is the
elapsed cycle of the next boundary (R393, R399). -/
def noteParity (next : Nat) (l : List (Fin 8 × Nat)) (e : Fin 8 × Nat) : List (Fin 8 × Nat) :=
  if l.any fun f => f.1 == e.1 && (decide (f.2 + 4 ≤ next) || !decide (e.2 + 4 ≤ next)) then l else l ++ [e]

/-- n checks of an injection are made: they count down LEFT, and count (R400, R401). -/
def Plane.spendChecks (x : Plane) (n : Nat) : Plane :=
  if n = 0 then x
  else { x with flt := { x.flt with inj := { x.flt.inj with left := x.flt.inj.left - BitVec.ofNat 11 n } } }.countN 30 n

/-- Let an injection into the collector make its checks in k cycles of the word clock: group checks of CHK 1 from cycle c
on, pair samples of CHK 5 (R399 to R401). Every other sample of a pair is valid. -/
def Plane.injectCycles (x : Plane) (c k : Nat) : Plane :=
  let i := x.flt.inj
  let n := if i.chk = 1 ∨ i.chk = 5 then min k i.left.toNat else 0
  let t := Fin.ofNat 64 i.tgt.toNat
  let y := x.spendChecks n
  let found := ((List.range n).map fun j => (Fin.ofNat 8 (c + j), x.time.clk + j)).foldl (noteParity (x.time.clk + 40 - c)) y.flt.parity
  let y := if i.chk = 1 then { y with flt := { y.flt with parity := found } } else y
  let y := if i.chk = 5 ∧ n ≠ 0 then y.breakPair t n else y
  y.flt.pairs.foldl (fun (z : Plane) r => z.validPair (if i.chk = 5 ∧ r.src = t then k - n else k) r) y

/-- The ratio F_B / 250,000,000 of the VCO-B loop (R112): its integer part, and its fraction in lowest terms. -/
def ratioI (fB : Nat) : Nat := fB / 250000000
def ratioNum (fB : Nat) : Nat := fB % 250000000 / Nat.gcd fB 250000000
def ratioDen (fB : Nat) : Nat := 250000000 / Nat.gcd fB 250000000

/-- The fraction accumulator after k cycles of the word clock, two to a period of the 250 MHz detector (R112). -/
def Plane.countRatio (x : Plane) (k : Nat) : Plane :=
  let m := k + b2n x.vcobOdd
  { x with vcobAcc := (x.vcobAcc + m / 2 * ratioNum x.sect.fB) % ratioDen x.sect.fB, vcobOdd := m % 2 == 1 }

/-- The dividers are released: the fraction accumulator is cleared on that edge (R112, R118). -/
def Plane.clearRatio (x : Plane) : Plane := { x with vcobAcc := 0, vcobOdd := false }

/-- Let k cycles of the word clock pass inside a frame: the occupancy counters, the accumulator of VCO-B and an
injection into the collector count them. -/
def Plane.elapse (x : Plane) (k : Nat) : Plane :=
  if k = 0 then x else
  let y := (if x.flt.inj.left = 0 ∧ x.flt.pairs.isEmpty = true then x else x.injectCycles x.time.cyc k).countRatio k
  { y with link := y.link.map (·.tick k), gq := y.gq.map (·.tick k),
           time := { y.time with clk := y.time.clk + k } }

/-- Move on to cycle c of the present frame; an earlier cycle leaves the counter where it stands. -/
def Plane.advanceTo (x : Plane) (c : Nat) : Plane :=
  if x.time.cyc < c then
    let y := x.elapse (c - x.time.cyc)
    { y with time := { y.time with cyc := c } }
  else x

/-- Set the detector of unit source 192 + n (R388). The cause of its severity is set at its firing (R391),
an engine's isolation is in force from it (R392), and its reaction is handed to the planes. -/
def Hub.setUDet (h : Hub) (n : Fin 32) (b : Bool) : Hub :=
  let (s, fired) := { h.usrc[n.val] with det := b }.judge
  let s := if fired && s.sev == .isolate && engineSource n then { s with react := true } else s
  let h := { h with usrc := upd h.usrc n (fun _ => s) }
  if fired then (if s.sev = .record then h else h.ucause 0).handFire n.val else h

/-- The attention engine of a port is isolated (R392). -/
def Hub.engineIsolated (h : Hub) (q : PortId) : Bool :=
  h.usrc[18 + q.val].react || h.usrc[21 + q.val].react || h.usrc[24 + q.val].react

/-- Raise an event source of the unit: it stays live for two housekeeping periods (R384). -/
def Hub.fireUEvent (h : Hub) (n : Fin 32) : Hub :=
  let h := h.setUDet n true
  { h with usrc := upd h.usrc n (fun s => { s with ev := 2 }) }

/-- The plane is in a reload, F0 to F1. -/
def Plane.reloading (x : Plane) : Bool := x.power == .reloadKeep || x.power == .reloadChange

/-- The unit follows a leader in a joined pair. -/
def Hub.following (h : Hub) : Bool := h.chim.role == .follower

/-! ### Holds -/

/-- The hold is in force: active, or announced to end at the next group boundary. -/
def Hold.inForce (x : Hold) : Bool :=
  match x.phase with
  | .active => true
  | .ending _ => true
  | .idle => false
  | .requested => false
  | .announced => false

/-- A training hold covers the plane (R262). -/
def Plane.covered (x : Plane) : Bool := x.hold.toList.any Hold.inForce

/-- What a hold defers or pauses stands: a hold covers the plane, or the last one ended at the boundary that opened the present
frame, and it resumes at the next one (R262). -/
def Plane.paused (x : Plane) : Bool := x.covered || x.heldTo == some x.time.frames

end Sys2Proof.Machine
end

