-- ==== Sys2Proof/Machine/Operands.lean ====
section
/-! DEFINITION. The forms in which operands arrive: message payloads and their CRC (R149 to R161), short
tags (R160), IRIG-B frames (R48 to R52), ESMC PDUs (R55, R56), and PEC (R322). -/

namespace Sys2Proof.Machine

/-! ### CRC-8 -/

/-- One bit step of CRC-8 with polynomial 0x07 (R150). -/
def crcBit (r : Byte) : Byte := if bitAt r 7 then (r <<< 1) ^^^ 0x07 else r <<< 1

/-- Enter one byte into the CRC register (R150). -/
def crcByte (r b : Byte) : Byte :=
  crcBit (crcBit (crcBit (crcBit (crcBit (crcBit (crcBit (crcBit (r ^^^ b))))))))

/-- CRC-8 of a byte sequence, register starting at 0 (R150, R322). -/
def crc8 (l : List Byte) : Byte := l.foldl crcByte 0

/-- The eight payload bytes in symbol order (R149). -/
def payloadBytes (w : BitVec 64) : List Byte :=
  (List.range 8).map fun i => BitVec.ofNat 8 (bits w (63 - 8 * i) (56 - 8 * i))

/-- The CRC of a slot: type byte, then the payload (R150). -/
def slotCrc (type : Byte) (payload : BitVec 64) : Byte := crc8 (type :: payloadBytes payload)

/-- A slot with its CRC. -/
def mkSlot (type : Byte) (payload : BitVec 64) : TxSlot := ⟨type, payload, slotCrc type payload⟩

end Sys2Proof.Machine
namespace Sys2Proof
open Machine in
/-- A received slot 0 passes its check when its CRC matches, with TIME as its type byte, and it holds no
code error (R150, R151). A comma at a moved position is a code error (R176). -/
def Slot0Rx.passes (r : Slot0Rx) : Bool :=
  !r.codeErr && r.crc == slotCrc 0x01 r.payload && r.comma == .expected
end Sys2Proof
namespace Sys2Proof.Machine

/-! ### Tags in messages -/

/-- Bits [55:24] and [23:15] of a timed message: SEC[1:0], FRAME, CYC and FINE of an instant τ (R161). -/
def tagFields (tau : Nat) : List Nat :=
  let n := tau / 512
  [fld (cycSec n) 2 54, fld (cycFrame n) 24 30, fld (cycCyc n) 6 24, fld tau 9 15]

/-- A 64-bit payload from its fields. -/
def mkPayload (fields : List Nat) : BitVec 64 := BitVec.ofNat 64 fields.sum

/-- The full cycle count a short tag names (R160): the one of the four seconds from two before the current
to one after it whose low bits agree; none for a FRAME or CYC beyond its range. -/
def expandTag (now : Nat) (sec2 frame cyc : Nat) : Option Nat :=
  if frame < Config.framesPerSec ∧ cyc < 40 then
    let base := cycSec now + 2 ^ 32 - 2
    let sec := (base + (sec2 + 4 - base % 4) % 4) % 2 ^ 32
    some (sec * Config.cycPerSec + frame * 40 + cyc)
  else none

/-- The tag of a received message (R161), expanded. -/
def msgCycle (now : Nat) (w : BitVec 64) : Option Nat :=
  expandTag now (bits w 55 54) (bits w 53 30) (bits w 29 24)

/-- FINE of a received message (R161). -/
def msgFine (w : BitVec 64) : Nat := bits w 23 15

/-- PRIM or VID of a received message (R161). -/
def msgNum (w : BitVec 64) : Byte := BitVec.ofNat 8 (bits w 63 56)

/-- LEN of a received VETO (R161). -/
def vetoLen (w : BitVec 64) : Nat := bits w 23 8

/-- The code of each message type (R159). -/
def codeAccept : Byte := 0x10
def codePrimitive : Byte := 0x11
def codeVeto : Byte := 0x12
def codeCmd : Byte := 0x20
def codeCmdAck : Byte := 0x21
def codeEpoch : Byte := 0x30
def codeBeacon : Byte := 0x31
def codeReadout : Byte := 0x32
def codeTrainHold : Byte := 0x33
def codeStatus : Byte := 0x40
def codeBulk : Byte := 0x41

/-! ### Timecode frames -/

end Sys2Proof.Machine
namespace Sys2Proof
open Machine in
/-- Every digit is in range for its field, and for B004 so is the year (R48). The ranges are a DESIGN CHOICE (log entry 96): each
digit by itself, its decimal range and the highest tens of its field. -/
def IrigFrame.digitsOk (f : IrigFrame) : Bool :=
  f.secT ≤ 5 && f.secU ≤ 9 && f.minT ≤ 5 && f.minU ≤ 9 && f.hourT ≤ 2 && f.hourU ≤ 9 &&
  f.dayH ≤ 3 && f.dayT ≤ 9 && f.dayU ≤ 9 && (!f.b004 || (f.yearT ≤ 9 && f.yearU ≤ 9))

open Machine in
/-- The day of the year the frame names. -/
def IrigFrame.day (f : IrigFrame) : Nat := f.dayH * 100 + f.dayT * 10 + f.dayU

open Machine in
/-- Seconds since the start of that day. -/
def IrigFrame.secOfDay (f : IrigFrame) : Nat :=
  (f.hourT * 10 + f.hourU) * 3600 + (f.minT * 10 + f.minU) * 60 + f.secT * 10 + f.secU
end Sys2Proof
namespace Sys2Proof.Machine

/-- Days from 1 January of year 0 to 1 January of a year, in the proleptic calendar (R52). -/
def daysToYear (y : Nat) : Nat := 365 * y + (y + 3) / 4 - (y + 99) / 100 + (y + 399) / 400

end Sys2Proof.Machine
namespace Sys2Proof
open Machine in
/-- Seconds from 1 January of year 0 to the second a frame names, with no leap second (R52). -/
def IrigFrame.tod (f : IrigFrame) (year : Nat) : Nat :=
  (daysToYear year + f.day - 1) * 86400 + f.secOfDay

open Machine in
/-- The year of a frame: its own for B004, the counted one for B000 (R52). -/
def IrigFrame.year (f : IrigFrame) (counted : Nat) : Nat :=
  if f.b004 then 2000 + f.yearT * 10 + f.yearU else counted
end Sys2Proof
namespace Sys2Proof.Machine

/-- HQL of a quality code Q (R50). -/
def qHql (fixed : Nat) (q : BitVec 4) : Nat := if q = 0 then fixed else q.toNat

/-! ### ESMC -/

end Sys2Proof.Machine
namespace Sys2Proof
open Machine in
/-- A received frame carries the slow-protocol Ethertype (R55). -/
def EsmcFrame.slow (f : EsmcFrame) : Bool := f.etype == 0x8809

open Machine in
/-- A received frame is a valid ESMC PDU (R55). -/
def EsmcFrame.valid (f : EsmcFrame) : Bool :=
  f.fcsOk && f.dest == 0x0180C2000002 && f.slow && f.subtype == 0x0A && f.oui == 0x0019A7 &&
  f.ituSub == 0x0001 && f.version == 1 && f.tlvType == 0x01 && f.tlvLen == 4
end Sys2Proof
namespace Sys2Proof.Machine

/-- HQL of an option 1 SSM code; any other code maps to 15 (R56). -/
def ssmHql (c : BitVec 4) : Nat :=
  if c = 0b0010 then 1 else if c = 0b0100 then 4 else if c = 0b1000 then 8 else if c = 0b1011 then 11
  else 15

/-- The code is one of option 1 (R56). -/
def ssmKnown (c : BitVec 4) : Bool :=
  c == 0b0010 || c == 0b0100 || c == 0b1000 || c == 0b1011 || c == 0b1111

/-! ### Corrections of a tag (R252, R254) -/

end Sys2Proof.Machine
namespace Sys2Proof
open Machine in
/-- Group delay of a preset, in input samples (R250). -/
def Preset.delay : Preset → Nat
  | .almond => 63
  | .hazel => 127
  | .walnut => 255
  | .chestnut => 511
  | .almondM => 11
  | .hazelM => 19
  | .walnutM => 35
  | .chestnutM => 67

open Machine in
/-- Decimation factor of a preset (R250). -/
def Preset.factor : Preset → Nat
  | .almond => 2
  | .hazel => 4
  | .walnut => 8
  | .chestnut => 16
  | .almondM => 2
  | .hazelM => 4
  | .walnutM => 8
  | .chestnutM => 16
end Sys2Proof
namespace Sys2Proof.Machine

/-- An instant τ moved by a number of sample periods and FINE bins: the exact sum, truncated once to whole
bins (R252). T_s is ns / fB seconds. -/
def correctTau (tau samples bins ns fB : Nat) : Nat := tau + bins + samples * ns * Config.binsPerSec / fB

/-- A message is stale when its last symbol reaches the endpoint at or after its instant: end in cycles,
D in ps, τ in bins of 1/256 ns times 1000 (R196). -/
def staleAt (endCyc d tau : Nat) : Bool := decide (tau * 1000 ≤ (endCyc * 2000 + d) * 256)

end Sys2Proof.Machine
end

