-- ==== Sys2Proof/Machine/Flags.lean ====
section
/-! DEFINITION. Derived status: the codes of states and modes, what a reference and its input type
permit, who is a candidate, which links and elements meet a fault's condition. Nothing here changes the
state. -/

namespace Sys2Proof.Machine

/-! ### References and inputs -/

/-- The input type of a reference (R90): 0 10 MHz station, 1 100 MHz station, 2 SyncE, 3 cross-plane or
Chimney. -/
def Plane.inputType (x : Plane) (r : Fin 4) : Fin 4 :=
  if r = 3 then 3 else if r = 2 then 2 else if x.sect.refs[r.val].hundredMHz then 1 else 0

/-- The code is permitted for the input type (R90). -/
def codePermitted (t : Fin 4) (c : BitVec 4) : Bool :=
  if t = 0 then c ≤ 10 else if t = 1 then c ≤ 11 else if t = 2 then c ≤ 8
  else decide (6 ≤ c ∧ c ≤ 11)

/-- The fallback code of the input type (R90). -/
def fallbackCode (t : Fin 4) : BitVec 4 :=
  if t = 0 then 8 else if t = 1 then 9 else if t = 2 then 4 else 10

/-- The effective code in LOCKED (R91). -/
def lockedCode (t : Fin 4) (c : BitVec 4) : BitVec 4 := if codePermitted t c then c else fallbackCode t

/-- The limit of PHASE and of a step for an input type, in ps (R100). -/
def phaseLimit (t : Fin 4) : Int :=
  if t = 0 then 49999 else if t = 1 then 4999 else if t = 2 then 102399 else 999

/-- A value limited at the ends of a symmetric range. -/
def clampTo (lim v : Int) : Int := if v > lim then lim else if v < -lim then -lim else v

/-- HQL of a reference from its quality source (R59); REF3's comes with the crossing and is kept as it
stands. -/
def Plane.sourceHql (x : Plane) (r : Fin 4) : Nat :=
  let d := x.sect.refs[r.val]
  match d.qsrc with
  | .fixed => d.fixedHql
  | .tc =>
    if h : r.val < 2 then
      let t := x.tc[r.val]
      if t.valid then
        match t.qEff with
        | some q => qHql d.fixedHql q
        | none => 0
      else 0
    else 0
  | .esmc => x.esmc.hql
  | .plane => x.ref[r.val].hql

/-- REF3's HQL from the state of its source: LOCKED passes the active HQL, EMBER and HUSK the holdover
HQL, SOFT the software HQL, ACQUIRE and FREE 15 (R58). -/
def ref3Hql (d : PlaneDecl) (st : LoopState) (activeHql : Nat) : Nat :=
  match st with
  | .locked => activeHql
  | .ember => d.hqlHoldover
  | .husk => d.hqlHoldover
  | .soft => d.hqlSoft
  | .acquire => 15
  | .free => 15

/-- HQL of the active reference, 0 when there is none. -/
def Plane.activeHql (x : Plane) : Nat :=
  match x.sel.active with
  | some r => x.ref[r.val].hql
  | none => 0

/-- Every test of a reference but activity passes (R61). -/
def Ref.testsPass (r : Ref) : Bool := !r.foffFail && !r.pjmpFail && r.hql != 0

/-- A reference is a candidate (R65). -/
def Ref.candidate (r : Ref) : Bool :=
  r.state == .qualified && decide (1 ≤ r.hql ∧ r.hql ≤ 14) && !r.disputed && !r.heldOut

/-- A named reference is usable in FORCED (R68). -/
def Ref.usable (r : Ref) : Bool :=
  r.state == .qualified && decide (1 ≤ r.hql ∧ r.hql ≤ 15) && !r.heldOut

/-- Reference a ranks before reference b: lower HQL, then lower priority number, then lower index (R65). -/
def Plane.ranksBefore (x : Plane) (a b : Fin 4) : Bool :=
  let ha := x.ref[a.val].hql
  let hb := x.ref[b.val].hql
  let pa := x.sel.prio[a.val]
  let pb := x.sel.prio[b.val]
  decide (ha < hb) || (ha == hb && (decide (pa < pb) || (pa == pb && decide (a < b))))

/-- The better of a reference and the best so far. -/
def Plane.better (x : Plane) (best : Option (Fin 4)) (r : Fin 4) : Option (Fin 4) :=
  if x.ref[r.val].candidate then
    match best with
    | none => some r
    | some b => if x.ranksBefore r b then some r else some b
  else best

/-- The best candidate (R65). -/
def Plane.best (x : Plane) : Option (Fin 4) := ([0, 1, 2, 3] : List (Fin 4)).foldl x.better none

/-- Reference a has a better rank than b: lower HQL, or equal HQL and lower priority number (R65, R70). -/
def Plane.rankAbove (x : Plane) (a b : Fin 4) : Bool :=
  decide (x.ref[a.val].hql < x.ref[b.val].hql) ||
  (x.ref[a.val].hql == x.ref[b.val].hql && decide (x.sel.prio[a.val] < x.sel.prio[b.val]))

/-- A standing dispute with both of its pair DISPUTED bars references ranked below them (R71, last row). -/
def Plane.barred (x : Plane) (r : Fin 4) : Bool :=
  x.sel.disputes.any fun d => d.markX && d.markY && x.rankAbove d.x r && x.rankAbove d.y r

/-- The active reference still serves the mode: a candidate in AUTO, SOFT and HOLD; in FORCED the loop keeps
it while the named reference is usable (R67, R68, R87). -/
def Plane.activeServes (x : Plane) : Bool :=
  match x.sel.active with
  | none => false
  | some a =>
    match x.sel.mode with
    | .forced => x.ref[x.sel.fref.val].usable
    | .auto => x.ref[a.val].candidate
    | .soft => x.ref[a.val].candidate
    | .hold => x.ref[a.val].candidate

/-! ### The pending switch -/

/-- The frames from the present one to the next change of holds: none at a group boundary whose change has still to be made
(R261). -/
def Plane.toGroup (x : Plane) : Nat :=
  if x.time.frame % 16 = 0 ∧ x.grpAt ≠ x.time.frames then 0 else 16 - x.time.frame % 16

/-- The frames from the present one to the commit frame of the pending switch, as far as the hub knows it:
none while a hold that has not been given its end covers the commit (R77). -/
def Plane.toCommit (x : Plane) : Option Nat :=
  match x.sel.sw with
  | none => none
  | some s =>
    let g := x.toGroup
    let phases := x.hold.toList.map (·.phase)
    let left := if phases.any (fun p => match p with | .ending _ => true | _ => false) then max s.left g else s.left
    if phases.any (· == .active) then none
    else if phases.any (· == .announced) && decide (g ≤ left) then none
    else some left

/-- The pending switch is inside its lock window (R73, R77). -/
def Plane.lockWindow (x : Plane) : Bool :=
  match x.toCommit with
  | some n => decide (n ≤ 8)
  | none => false

/-! ### Loop -/

/-- The holdover value an entry would take, when it is valid: the mean of the most recent HAVG recorded
seconds, without the one that ended at the last PPS; at least 10 must remain (R83, R95). -/
def Plane.holdover (x : Plane) : Option Int :=
  let rem := (if x.loop.lastRec then x.loop.hist.drop 1 else x.loop.hist).take x.sect.havg
  if 10 ≤ rem.length then some (meanOf rem.sum rem.length) else none

/-- A reference steers the loop: ACQUIRE or LOCKED. -/
def LoopState.inLoop : LoopState → Bool
  | .acquire => true
  | .locked => true
  | .free => false
  | .ember => false
  | .soft => false
  | .husk => false

/-- History bit of an entry into a state (R347). -/
def LoopState.historyBit : LoopState → Nat
  | .free => 0
  | .acquire => 1
  | .locked => 2
  | .ember => 3
  | .soft => 4
  | .husk => 5

/-! ### Fault conditions -/

/-- Sources whose element is the plane: they force Ember at ISOLATE (R382, R392). -/
def planeWide (n : Nat) : Bool :=
  (8 ≤ n && n ≤ 15) || n == 37 || n == 38 || n == 42 || n == 43 || n == 44 || n == 45 ||
  (47 ≤ n && n ≤ 51)

/-- Source 40's condition for a link: monitored, not in the 10 s after its optics were enabled, and not UP (R179). -/
def Plane.linkDown (x : Plane) (l : Fin 32) : Bool :=
  let k := x.link[l.val]
  x.sect.links[l.val].monitored && !k.grace && k.state != .up

/-- A source of a list of sources forces Ember: sticky, ISOLATE and plane-wide. -/
def Faults.forces (f : Faults) : Bool :=
  (List.finRange 64).any fun n => planeWide n.val && f.src[n.val].sticky && f.src[n.val].sev == .isolate

/-- A unit source is one that forces Ember: sticky, ISOLATE and unit-wide (R86, R391). -/
def Hub.unitForces (h : Hub) (n : Fin 32) : Bool :=
  !engineSource n && h.usrc[n.val].sticky && h.usrc[n.val].sev == .isolate

/-- The unit sources that force Ember, bit n for source 192 + n. -/
def Hub.unitForcing (h : Hub) : BitVec 32 :=
  BitVec.ofNat 32 ((List.finRange 32).map fun n => if h.unitForces n then 2 ^ n.val else 0).sum

/-- Ember is forced in a plane by its own sources or by a unit-wide one it has seen (R86, R391, R489). -/
def Hub.forcing (h : Hub) (p : PlaneId) : Bool := (h.plane p).flt.forces || (h.plane p).flt.uforce != 0

/-- HUSKCLR may be accepted: no SAFE source of the plane or the unit is sticky, nor source 46 (R398). -/
def Hub.huskMayClear (h : Hub) (p : PlaneId) : Bool :=
  !((h.plane p).flt.src.toList.any fun s => s.sticky && s.sev == .safe) &&
  !(h.plane p).flt.src[46].sticky &&
  !(h.usrc.toList.any fun s => s.sticky && s.sev == .safe)

end Sys2Proof.Machine
end

