-- ==== Sys2Proof/Machine/Loop.lean ====
section
/-! DEFINITION. The clean-up loop and its holdover (R81 to R102), the pending switch (R73 to R79), and the
host writes that set them. A command that uses the loop output draws it as a free value: R495 leaves the
transient open. -/

namespace Sys2Proof.Machine

/-! ### Sources and bandwidth that follow the loop state -/

/-- Judge sources 9, 12 and 15 from the loop and the grid (R85, R106). -/
def Plane.loopSources (x : Plane) : Plane :=
  let y := x.setDet 9 (x.loop.relock || x.loop.acqLate)
  let y := y.setDet 12 (x.loop.state == .ember)
  y.setDet 15 (x.grid.badLive || (!x.grid.reg && x.loop.state == .locked && x.sect.regSrc != .none))

/-- The effective bandwidth code (R91). -/
def Plane.effective (x : Plane) : BitVec 4 :=
  match x.loop.state, x.sel.active with
  | .acquire, some a => fallbackCode (x.inputType a)
  | .locked, some a => lockedCode (x.inputType a) x.loop.bw
  | _, _ => if x.loop.everIn then x.loop.effbw else x.loop.bw

/-- Put the effective bandwidth code in force (R91). -/
def Plane.refreshBw (x : Plane) : Plane := { x with loop := { x.loop with effbw := x.effective } }

/-- A phase wrapped into plus or minus half a detector period and limited at its ends (R100). -/
def phaseOf (t : Fin 4) (v : Int) : Int :=
  let half := phaseLimit t + 1
  clampTo (phaseLimit t) ((v + half) % (2 * half) - half)

/-! ### State changes -/

/-- Change the loop state (R82): an entry sets its history bit (R102); LOCKED entered with the grid
unregistered opens registration (R104). -/
def Plane.setLoop (x : Plane) (st : LoopState) : Plane :=
  let old := x.loop.state
  let l := { x.loop with
    state := st
    inLoop := st.inLoop
    everIn := x.loop.everIn || st.inLoop
    lockRun := 0
    unlockRun := 0
    relock := if st = .locked then false else if old = .locked ∧ st = .acquire then true else x.loop.relock
    acqLate := if st = .acquire ∧ old = .acquire then x.loop.acqLate else false
    wholeSec := x.loop.wholeSec && st == .locked
    lockAt := if st = .locked ∧ old ≠ .locked then x.time.clk else x.loop.lockAt }
  let y := { x with loop := l }
  let y := if st = .locked ∧ y.grid.reg = false then { y with grid := { y.grid with seenLock := true } } else y
  let y := if old = st then y else y.history st.historyBit
  y.refreshBw.loopSources

/-- A residual moved towards 0 by a number of ps (R92). -/
def slewed (resid : Int) (n : Nat) : Int :=
  if resid.natAbs ≤ n then 0 else if 0 < resid then resid - n else resid + n

/-- Take the slew of the frame that ends from the residual, at SLEWRATE ps in 12,500 frames (R92). The slew stands in the frames
that a hold covers and in the one at whose boundary the last hold ended, and without a reference in the loop (R93, R262). -/
def Plane.slewFrame (x : Plane) : Plane :=
  if x.paused || !x.loop.inLoop then x
  else if x.loop.resid = 0 then { x with loop := { x.loop with slewAcc := 0 } }
  else
    let t := x.loop.slewAcc + x.sect.slewRate
    { x with loop := { x.loop with resid := slewed x.loop.resid (t / 12500), slewAcc := t % 12500 } }

/-- Discard the slew residual, with its history bit and log entry (R93). -/
def Plane.discardResid (x : Plane) (p : PlaneId) : Plane :=
  if x.loop.resid = 0 then x
  else
    let w := BitVec.ofNat 32 (satInt 32 x.loop.resid)
    let y := { x with loop := { x.loop with resid := 0, slewAcc := 0 } }
    (y.history 7).log p 0x06 (data2 0 w)

/-- Hold the loop output as the steering value when a reference leaves the loop. -/
def Plane.holdSteer (x : Plane) (v : Int) : Plane :=
  if x.loop.inLoop then { x with loop := { x.loop with steer := v } } else x

/-- Take the holdover value in force at an entry into EMBER or HUSK: the last FREQ of a plane leaving SOFT, the
one already held in EMBER and HUSK, or the mean of R95 (R83). The drift term applies as R96 says. -/
def Plane.takeHoldover (x : Plane) : Plane :=
  match x.loop.state with
  | .soft =>
    { x with loop := { x.loop with hval := x.loop.freq.toInt, hvalid := true, fromSoft := true, emberT := 0, drift := false } }
  | .ember => x
  | .husk => { x with loop := { x.loop with emberT := 0 } }
  | _ =>
    match x.holdover with
    | none => { x with loop := { x.loop with hvalid := false, emberT := 0 } }
    | some v =>
      { x with loop := { x.loop with
          hval := v, hvalid := true, fromSoft := false, emberT := 0
          drift := decide (1440 ≤ x.loop.mins.length) && decide (x.loop.slope.natAbs ≤ 1000000) } }

/-- The drift term: a slope in 1e-15 per day over a time in seconds, in the steering unit of 1e-13 (R96). -/
def driftTerm (slope : Int) (t : Nat) : Int := meanOf (slope * t) 8640000

/-- Steering value in holdover: the holdover value and the drift term, where one is valid (R81, R96). DESIGN CHOICE (log entry 113):
R81 limits the value of a reference in the loop and FREQ; a sum of the two terms beyond plus or minus 2.147e-4 stands as it is. -/
def Plane.steerHeld (x : Plane) : Plane :=
  if x.loop.hvalid then
    { x with loop := { x.loop with
        steer := x.loop.hval + (if x.loop.drift then driftTerm x.loop.slope x.loop.emberT else 0) } }
  else x

/-- No reference is active any more. -/
def Plane.noActive (x : Plane) : Plane :=
  { x with sel := { x.sel with active := none }, loop := { x.loop with phase := none } }

/-- Enter EMBER, or FREE where no valid holdover value exists (R82); v is the loop output at that instant. DESIGN CHOICE (log entry
94): at an entry into FREE, which R93 does not name, the residual stays and stands still. -/
def Plane.toEmber (x : Plane) (p : PlaneId) (v : Int) : Plane :=
  let y := (x.holdSteer v).takeHoldover
  if y.loop.hvalid then
    let y := ((y.noActive.discardResid p).setLoop .ember).steerHeld
    y.log p 0x05 (data2 (BitVec.ofNat 32 (satInt 32 y.loop.hval)) 0)
  else y.noActive.setLoop .free

/-- Enter SOFT from another mode: the steering value in force becomes FREQ (R99). -/
def Plane.toSoft (x : Plane) (p : PlaneId) (v : Int) : Plane :=
  let y := (x.holdSteer v).discardResid p
  { y with loop := { y.loop with freq := BitVec.ofInt 32 y.loop.steer } }.setLoop .soft

/-- Enter SOFT with the last committed FREQ (R82: after a forced Ember, a Husk, Kindling or standby), while the plane's
clock runs and it is in no reload (R303); a residual kept into FREE is discarded (R93). -/
def Plane.resumeSoft (x : Plane) (p : PlaneId) : Plane :=
  if x.sel.mode = .soft ∧ (x.loop.state = .ember ∨ x.loop.state = .free) ∧ x.loop.forced = false ∧
      x.clocked = true ∧ x.reloading = false then
    ({ x with loop := { x.loop with steer := x.loop.freq.toInt } }.discardResid p).setLoop .soft
  else x

/-! ### The pending switch -/

/-- Log a switch record: old and new reference with their HQL, and the step (R379). -/
def Plane.switchRec (x : Plane) (p : PlaneId) (type : Byte) (new : Fin 4) (step : Int) : Plane :=
  let w4 : Word :=
    match x.sel.active with
    | some a => mkWord [fld a.val 2 30, fld new.val 2 28, fld x.ref[a.val].hql 4 24, fld x.ref[new.val].hql 4 20]
    | none => mkWord [fld new.val 2 28, fld x.ref[new.val].hql 4 20, fld 1 1 19]
  x.log p type (data2 w4 (BitVec.ofNat 32 (satInt 32 step)))

/-- Abandon the pending switch, if any, without a step: plane counter 15 and a record (R76, R79). -/
def Plane.abandonSwitch (x : Plane) (p : PlaneId) : Plane :=
  match x.sel.sw with
  | none => x
  | some s =>
    ({ x with sel := { x.sel with sw := none } }.count 15).switchRec p 0x03 s.target 0

/-- Start a switch: its measurement phase runs for 12,500 frames (R73). -/
def Plane.startSwitch (x : Plane) (r : Fin 4) : Plane :=
  { x with sel := { x.sel with sw := some { target := r, left := 12500 } } }

/-- Another reference supersedes the target and the measurement starts anew (R74). -/
def Plane.supersede (x : Plane) (p : PlaneId) (old new : Fin 4) : Plane :=
  ((x.count 16).switchRec p 0x04 old 0).startSwitch new

/-- Re-evaluate the pending switch before its lock window (R71, R74, R68): at a frame boundary. A change inside a frame is
judged at the next one (DESIGN CHOICE, log entry 105). -/
def Plane.review (x : Plane) (p : PlaneId) : Plane :=
  match x.sel.sw with
  | none => x
  | some s =>
    if x.lockWindow || x.time.cyc != 0 then x else
    match x.sel.mode with
    | .hold => x.abandonSwitch p
    | .forced =>
      let f := x.sel.fref
      if !x.ref[f.val].usable || !x.ref[s.target.val].usable || x.sel.active == some f then x.abandonSwitch p
      else if s.target = f then x
      else x.supersede p s.target f
    | _ =>
      match x.best with
      | none => x.abandonSwitch p
      | some b =>
        if !x.ref[s.target.val].candidate || x.sel.active == some b then x.abandonSwitch p
        else if b = s.target then x
        else if x.barred b then x
        else if x.sel.revert || decide (x.ref[b.val].hql < x.ref[s.target.val].hql) then
          x.supersede p s.target b
        else x

/-- The active reference no longer serves: a loop that had it holds in EMBER or FREE (R67, R68, R87). -/
def Plane.dropActive (x : Plane) (p : PlaneId) (v : Int) : Plane :=
  match x.sel.active with
  | none => x
  | some _ =>
    if x.activeServes then x
    else if x.loop.inLoop then x.toEmber p v
    else x.noActive

/-! ### Forced Ember and Husk -/

/-- Force Ember (R86): a pending switch is abandoned and the loop is in EMBER, or in FREE with no valid holdover
value; in HUSK it stays. -/
def Plane.forceEmber (x : Plane) (p : PlaneId) (v : Int) : Plane :=
  if x.loop.forced then x
  else
    let y := ({ x with loop := { x.loop with forced := true } }.history 8).abandonSwitch p
    match y.loop.state with
    | .acquire => y.toEmber p v
    | .locked => y.toEmber p v
    | .soft => y.toEmber p v
    | .free => y
    | .ember => y
    | .husk => y

/-- The forced Ember ends: in mode SOFT the loop enters SOFT (R86). -/
def Plane.endForced (x : Plane) (p : PlaneId) : Plane :=
  if x.loop.forced then { x with loop := { x.loop with forced := false } }.resumeSoft p else x

/-- A pending REALIGN is executable: it may take a marker and execute (R107, R461). -/
def Plane.mayRealign (x : Plane) : Bool :=
  x.grid.rlgnPend && (x.loop.state == .locked || x.loop.state == .soft) && x.loop.resid == 0 && !x.paused &&
  !x.grid.farHold && x.sect.regSrc != .none

/-- A REALIGN of an unregistered grid that is executable before the loop has reached LOCKED came first (R108). -/
def Plane.noteRealign (x : Plane) : Plane :=
  if x.mayRealign && !x.grid.reg && !x.grid.seenLock then { x with grid := { x.grid with rlgnFirst := true } } else x

/-- A REALIGN becomes pending, or is merged with one that is (R107, R108). -/
def Plane.requestRealign (x : Plane) : Plane := { x with grid := { x.grid with rlgnPend := true } }.noteRealign

/-- The registration of R104 is due: the loop has been LOCKED with the grid unregistered, and no REALIGN that became executable
first takes its place (R108). -/
def Plane.mayRegister (x : Plane) : Bool := !x.grid.reg && x.grid.seenLock && !(x.grid.rlgnPend && x.grid.rlgnFirst)

/-- The pending REALIGN is the one to execute: the grid is registered, or no registration takes its place (R108). -/
def Plane.ownsRealign (x : Plane) : Bool := x.mayRealign && !x.mayRegister

/-- Cancel a pending REALIGN, with its history bit (R108). A marker that a registration has captured stays the registration's
(R104). -/
def Plane.cancelRealign (x : Plane) : Plane :=
  if x.grid.rlgnPend then
    { x with grid := { x.grid with rlgnPend := false, rlgnFirst := false, cap := if x.mayRegister then x.grid.cap else none } }.history 11
  else x

/-- Enter Husk with source n as its cause (R396). A plane already in Husk stays as it is. -/
def Plane.enterHusk (x : Plane) (p : PlaneId) (v : Int) (n : Nat) : Plane :=
  if x.inHusk then x
  else
    let y := (((x.abandonSwitch p).holdSteer v).takeHoldover.discardResid p).cancelRealign
    let y := (y.noActive.setLoop .husk).steerHeld
    y.log p 0x01 (data2 (BitVec.ofNat 32 n) 0)

/-- Leave Husk into EMBER or FREE (R398). -/
def Plane.leaveHusk (x : Plane) (p : PlaneId) : Plane := if x.inHusk then x.toEmber p 0 else x

/-! ### Lock judgement, seconds and minutes -/

/-- Judge lock on the mean phase of a millisecond, the residual subtracted (R84). -/
def Plane.judgeLock (x : Plane) (phase : Int) : Plane :=
  let e := (phase - x.loop.resid).natAbs
  match x.loop.state with
  | .acquire =>
    let n := if e ≤ x.sect.lockTol then x.loop.lockRun + 1 else 0
    if 10 ≤ n then x.setLoop .locked else { x with loop := { x.loop with lockRun := n } }
  | .locked =>
    let n := if x.sect.unlockTol < e then x.loop.unlockRun + 1 else 0
    if 3 ≤ n then x.setLoop .acquire else { x with loop := { x.loop with unlockRun := n } }
  | _ => x

/-- PHASE and the lock criteria at the end of a millisecond (R84, R100). DEDUCED (log entry 95): the residual subtracted is the
one at the boundary that ends the millisecond, and the difference is not wrapped again. -/
def Plane.phaseMs (x : Plane) (mean : Int) : Plane :=
  match x.sel.active with
  | none => { x with loop := { x.loop with phase := none } }
  | some a =>
    let ph := phaseOf (x.inputType a) mean
    { x with loop := { x.loop with phase := some ph } }.judgeLock ph

/-- A second ends at a PPS (R95, R96, R98): a second LOCKED throughout is recorded with its mean steering
value v, and time in Ember advances. -/
def Plane.loopSecond (x : Plane) (v : Int) : Plane :=
  let rec' := x.loop.state == .locked && x.loop.wholeSec
  let held := x.loop.state == .ember || x.loop.state == .husk
  let y := { x with loop := { x.loop with
    hist := if rec' then (v :: x.loop.hist).take (x.sect.havg + 1) else x.loop.hist
    lastRec := rec'
    wholeSec := x.loop.state == .locked
    emberT := if held then x.loop.emberT + 1 else x.loop.emberT } }
  if held then y.steerHeld else y

/-! ### Settings the host commits -/

/-- Commit a loop mode and the reference FORCED names, both at once (R68, R82, R88, R99): the pending switch is re-evaluated in the
new mode and for the new reference at that boundary (R74). The committed mode written again does nothing (R342). -/
def Plane.setModeRef (x : Plane) (p : PlaneId) (v : Int) (m : LoopMode) (r : Fin 4) : Plane :=
  let y := { x with sel := { x.sel with mode := m, fref := r } }
  let y := if m = .hold then y.abandonSwitch p else y.review p
  if m = x.sel.mode then y
  else if y.loop.state = .soft then y.toEmber p v
  else if m = .soft ∧ y.loop.forced = false ∧ y.loop.state ≠ .husk then y.toSoft p v
  else y

/-- Commit a loop mode (R68). -/
def Plane.setMode (x : Plane) (p : PlaneId) (v : Int) (m : LoopMode) : Plane :=
  if m = x.sel.mode then x else x.setModeRef p v m x.sel.fref

/-- Commit the reference FORCED names (R68, R74). -/
def Plane.setFref (x : Plane) (p : PlaneId) (r : Fin 4) : Plane :=
  { x with sel := { x.sel with fref := r } }.review p

/-- Commit a bandwidth code (R89, R91). -/
def Plane.setBw (x : Plane) (c : BitVec 4) : Plane := { x with loop := { x.loop with bw := c } }.refreshBw

/-- Commit FREQ: it steers in SOFT and is held elsewhere (R99, R352). -/
def Plane.setFreq (x : Plane) (w : Word) : Plane :=
  { x with loop := { x.loop with freq := w, steer := if x.loop.state = .soft then w.toInt else x.loop.steer } }

/-! ### Meanings -/

/-- LOOP_MODE_WRITE: refused with STATE in a reload and at a joined follower (R275, R461). -/
def execLoopModeWrite (port : PortId) (p : PlaneId) (m : LoopMode) (s : State) :
    Host.Outcome State Fault Refusal :=
  s.answer (s.hub.hostWrite port p 0x03 false false ((s.hub.plane p).reloading || s.hub.following)
    fun h => h.onPlaneFree p fun v x => x.setMode p v m)

/-- FORCED_REF_WRITE (R68, R275). -/
def execForcedRefWrite (port : PortId) (p : PlaneId) (r : Fin 4) (s : State) :
    Host.Outcome State Fault Refusal :=
  s.answer (s.hub.hostWrite port p 0x03 false false ((s.hub.plane p).reloading || s.hub.following)
    fun h => h.onPlane p fun x => x.setFref p r)

/-- BANDWIDTH_CODE_WRITE (R89, R351). -/
def execBandwidthCodeWrite (port : PortId) (p : PlaneId) (code : BitVec 4) (s : State) :
    Host.Outcome State Fault Refusal :=
  s.answer (s.hub.hostWrite port p 0x06 false false (s.hub.plane p).reloading
    fun h => h.onPlane p fun x => x.setBw code)

/-- FREQ_WRITE (R99, R352, R397). -/
def execFreqWrite (port : PortId) (p : PlaneId) (freq : Word) (s : State) :
    Host.Outcome State Fault Refusal :=
  s.answer (s.hub.hostWrite port p 0x08 false false false fun h => h.onPlane p fun x => x.setFreq freq)

/-- ACQUIRE_TIMEOUT: ACQUIRE has lasted longer than ACQTO, so source 9 is live (R85). -/
def execAcquireTimeout (p : PlaneId) (s : State) : Host.Outcome State Fault Refusal :=
  s.answer (s.hub.event p fun x =>
    if x.loop.state = .acquire then { x with loop := { x.loop with acqLate := true } }.loopSources else x)

/-- SLEW_COMPLETE: the residual has reached 0 (R92). A hold pauses the slew, so it does not complete then
(R93). -/
def execSlewComplete (p : PlaneId) (s : State) : Host.Outcome State Fault Refusal :=
  s.answer (s.hub.event p fun x =>
    if x.paused then x else { x with loop := { x.loop with resid := 0, slewAcc := 0 } })

/-- DRIFT_FIT_UPDATE: a minute of LOCKED time has its mean recorded and the line fitted again over the last
24 h of it (R96). -/
def execDriftFitUpdate (p : PlaneId) (s : State) : Host.Outcome State Fault Refusal :=
  s.answer (s.hub.eventFree p fun v x =>
    if x.loop.state = .locked then
      let m := (v :: x.loop.mins).take 1440
      { x with loop := { x.loop with mins := m, slope := Config.fitSlope m } }
    else x)

end Sys2Proof.Machine
end

