-- ==== Sys2Proof/Machine/Queues.lean ====
section
/-! DEFINITION. Queues (R181 to R201), training holds (R260 to R263, R496), and the host writes and messages
that enter or leave them. -/

namespace Sys2Proof.Machine

/-! ### Queues -/

/-- The plane has had a queue overflow: counter 29, and source 42 is judged at the millisecond (R200). -/
def Plane.overflowed (x : Plane) : Plane := { x.count 29 with flt := { x.flt with ovNow := true } }

/-- Append an entry; at a full queue it is discarded (R200). -/
def Queue.push (q : Queue) (e : QEntry) : Queue :=
  if q.q.length < Config.queueDepth then { q with q := q.q ++ [e] } else { q with ovNow := true }

/-- The queue has no free entry. -/
def Queue.isFull (q : Queue) : Bool := !decide (q.q.length < Config.queueDepth)

/-- Remove the head (R184). -/
def Queue.pop (q : Queue) : Queue := { q with q := q.q.drop 1 }

/-- Drop the entries that every member link has passed (R183). -/
def GQueue.release (q : GQueue) (members : BitVec 32) : GQueue :=
  { q with q := q.q.filter fun e => e.passed &&& members != members }

/-- Append an entry to group queue g of the plane, or discard it as an overflow (R200). The Bool says it was
taken. -/
def Plane.gpush (x : Plane) (g : Fin 32) (e : GEntry) : Plane × Bool :=
  if x.gq[g.val].q.length < Config.queueDepth then
    ({ x with gq := upd x.gq g fun q => { q with q := q.q ++ [e] }.release x.sect.groups[g.val].links }, true)
  else ({ x with gq := upd x.gq g fun q => { q with ovNow := true } }.overflowed, false)

/-- Put an entry into UQ-STAT of a link; the queue going from empty to non-empty sets cause 13 (R181, R357). -/
def Plane.pushStat (x : Plane) (l : Fin 32) (e : QEntry) : Plane :=
  let q := x.link[l.val].uqStat
  let y := x.modLink l fun k => { k with uqStat := k.uqStat.push e }
  if q.isFull then y.overflowed else if q.q.isEmpty then y.raise 13 else y

/-- Put a BULK into UQ-BULK of a link, unless it repeats the SEQ of its stream (R199). -/
def Plane.pushBulk (x : Plane) (l : Fin 32) (payload : BitVec 64) : Plane :=
  let k := x.link[l.val]
  let stream := msgNum payload
  let seq := BitVec.ofNat 8 (bits payload 55 48)
  if k.bulkSeq.any fun e => e.1 == stream && e.2 == seq then x.count 22
  else if k.uqBulk.isFull then (x.modLink l fun k => { k with uqBulk := { k.uqBulk with ovNow := true } }).overflowed
  else x.modLink l fun k => { k with
    uqBulk := k.uqBulk.push ⟨codeBulk, payload⟩
    bulkSeq := (stream, seq) :: k.bulkSeq.filter fun e => e.1 != stream }

/-- Enqueue to DQ-CMD (R184). -/
def Plane.enqCmd (x : Plane) (l : Fin 32) (payload : BitVec 64) : Plane :=
  let full := x.link[l.val].dqCmd.isFull
  let y := x.modLink l fun k => { k with dqCmd := k.dqCmd.push ⟨codeCmd, payload⟩ }
  if full then y.overflowed else y

/-- Enqueue to DQ-BULK (R184). -/
def Plane.enqBulk (x : Plane) (l : Fin 32) (payload : BitVec 64) : Plane :=
  let full := x.link[l.val].dqBulk.isFull
  let y := x.modLink l fun k => { k with dqBulk := k.dqBulk.push ⟨codeBulk, payload⟩ }
  if full then y.overflowed else y

/-- Inject a test ACCEPT, with TEST set; it waits for its slot (R161, R186). -/
def Plane.injectTest (x : Plane) (l : Fin 32) (payload : BitVec 64) : Plane :=
  x.modLink l fun k => { k with tests := k.tests ++ [payload ||| (1#64 <<< 13)] }

/-- Entries of the four queues of a link. -/
def Link.entries (k : Link) : Nat :=
  k.dqCmd.q.length + k.dqBulk.q.length + k.uqStat.q.length + k.uqBulk.q.length

/-- A queue without its entries. -/
def Queue.clear (q : Queue) : Queue := { q with q := [] }

/-- A group queue without its entries. -/
def GQueue.clear (q : GQueue) : GQueue := { q with q := [] }

/-- A link without its queued entries. -/
def Link.clear (k : Link) : Link :=
  { k with dqCmd := k.dqCmd.clear, dqBulk := k.dqBulk.clear, uqStat := k.uqStat.clear,
           uqBulk := k.uqBulk.clear, tests := [] }

/-- Empty the plane's 160 queues, counting each entry, and each test ACCEPT that waited (R187, R201). -/
def Plane.emptyQueues (x : Plane) : Plane :=
  let n := (x.link.toList.map fun k => k.entries + k.tests.length).sum + (x.gq.toList.map fun q => q.q.length).sum
  let y := { x with link := x.link.map Link.clear, gq := x.gq.map GQueue.clear }
  y.countN 23 n

/-- A millisecond ends for the overflow marks of a queue (R372). -/
def Queue.ms (q : Queue) : Queue := { q with ovLast := q.ovNow, ovNow := false }

/-- A millisecond ends for the overflow marks of a group queue. -/
def GQueue.ms (q : GQueue) : GQueue := { q with ovLast := q.ovNow, ovNow := false }

/-! ### Training holds -/

/-- Request a hold of a group: it begins at the first group boundary at least one whole group later, and merges
with one pending or in force (R260, R261). The group that opens now announces a request made after the holds have passed its
boundary; before that the request waits for the boundary. -/
def Plane.requestHold (x : Plane) (g : Fin 32) : Plane :=
  let atBoundary := x.time.cyc == 0 && x.time.frame % 16 == 0 && x.grpAt == x.time.frames
  { x with hold := upd x.hold g fun h =>
      if h.phase = .idle then
        { phase := if atBoundary then .announced else .requested
          left := x.sect.groups[g.val].limitMs * Config.framesPerMs }
      else h }

/-- The host ends a hold (R263, R496). -/
def Plane.endHold (x : Plane) (g : Fin 32) : Plane :=
  { x with hold := upd x.hold g fun h => if h.phase = .idle then h else { h with hostEnd := true } }

/-- Queue a TRAIN-HOLD message for a group (R161, R261). -/
def Plane.sendHold (x : Plane) (g : Fin 32) (st : BitVec 2) (limit : Nat) : Plane :=
  let n := x.time.now
  let payload := mkPayload [fld st.toNat 2 62, fld (cycSec n) 2 54, fld (cycFrame n) 24 30, fld (cycCyc n) 6 24,
    fld g.val 8 16, fld limit 16 0]
  (x.gpush g { type := codeTrainHold, head := 0, tau := 0, low := 0, payload := payload, passed := 0, at_ := x.time.clk }).1

/-- Every member link that is UP has reported complete (R263). -/
def Plane.allComplete (x : Plane) (g : Fin 32) : Bool :=
  (List.finRange 32).all fun l =>
    !(bitAt x.sect.groups[g.val].links l.val) || x.link[l.val].state != .up || bitAt x.hold[g.val].complete l.val

/-- The LIMIT of a group's hold has elapsed: source 48 is raised and the expiry counted, once (R263). -/
def Plane.expireHold (x : Plane) (g : Fin 32) : Plane :=
  if x.hold[g.val].expired then x
  else
    let y := { x with hold := upd x.hold g fun h => { h with phase := .ending 3, expired := true } }
    (y.setDet 48 true).count 13

/-- Judge an active hold at a group boundary by the rows of R263 in order. -/
def Plane.judgeHold (x : Plane) (g : Fin 32) : Plane :=
  let h := x.hold[g.val]
  if h.phase = .active then
    if h.hostEnd || (x.sect.groups[g.val].endOnComplete && x.allComplete g) then
      { x with hold := upd x.hold g fun h => { h with phase := .ending 2 } }
    else if h.left ≤ 16 then { x with hold := upd x.hold g fun h => { h with phase := .ending 3 } }
    else x
  else x

/-- The hold of one group at a group boundary: an announced end or begin takes place, a request is announced, and
an active hold is judged (R261 to R263). -/
def Plane.holdBoundary (x : Plane) (g : Fin 32) : Plane :=
  match x.hold[g.val].phase with
  | .idle => x
  | .requested => { x with hold := upd x.hold g fun h => { h with phase := .announced } }
  | .ending st =>
    let y := if st = 3 then x.expireHold g else x
    ({ y with hold := upd y.hold g fun _ => {} }.sendHold g st 0).raise 16
  | .announced =>
    let y := { x with hold := upd x.hold g fun h => { h with phase := .active } }
    (((y.sendHold g 1 x.sect.groups[g.val].limitMs).count 12).raise 16).judgeHold g
  | .active => { x with hold := upd x.hold g fun h => { h with left := h.left - 16 } }.judgeHold g

/-- End every hold without a message (R264). -/
def Plane.dropHolds (x : Plane) : Plane :=
  let y := { x with hold := Vector.replicate 32 {} }
  if x.covered then { y with heldTo := some x.time.frames }.raise 16 else y

/-! ### Meanings -/

/-- ENQUEUE_CMD: accepted in Husk (R184, R397). -/
def execEnqueueCmd (port : PortId) (p : PlaneId) (l : Fin 32) (payload : BitVec 64) (s : State) :
    Host.Outcome State Fault Refusal :=
  s.answer (s.hub.hostWrite port p 0x0E false false false fun h => h.onPlane p fun x => x.enqCmd l payload)

/-- ENQUEUE_BULK: the payload is sent unchanged (R184). -/
def execEnqueueBulk (port : PortId) (p : PlaneId) (l : Fin 32) (payload : BitVec 64) (s : State) :
    Host.Outcome State Fault Refusal :=
  s.answer (s.hub.hostWrite port p 0x0E false false false fun h => h.onPlane p fun x => x.enqBulk l payload)

/-- POP_UQ_STAT: a pop of an empty queue has no effect (R184). -/
def execPopUqStat (port : PortId) (p : PlaneId) (l : Fin 32) (s : State) : Host.Outcome State Fault Refusal :=
  s.answer (s.hub.hostWrite port p 0x0E false false false fun h =>
    h.onPlane p fun x => x.modLink l fun k => { k with uqStat := k.uqStat.pop })

/-- POP_UQ_BULK (R184). -/
def execPopUqBulk (port : PortId) (p : PlaneId) (l : Fin 32) (s : State) : Host.Outcome State Fault Refusal :=
  s.answer (s.hub.hostWrite port p 0x0E false false false fun h =>
    h.onPlane p fun x => x.modLink l fun k => { k with uqBulk := k.uqBulk.pop })

/-- The tag of a test ACCEPT has a FRAME or CYC that no tag has; such a write is refused, so that the hub sends no such tag (R7,
R160). -/
def testRange (payload : BitVec 64) : Bool := (msgCycle 0 payload).isNone

/-- INJECT_TEST_ACCEPT (R186). -/
def execInjectTestAccept (port : PortId) (p : PlaneId) (l : Fin 32) (payload : BitVec 64) (s : State) :
    Host.Outcome State Fault Refusal :=
  s.answer (s.hub.hostWrite port p 0x0E (testRange payload) false false fun h => h.onPlane p fun x => x.injectTest l payload)

/-- TRAINING_HOLD_REQUEST: an undeclared group is out of range, and a plane outside RUN refuses with STATE
(R260, R461). -/
def execTrainingHoldRequest (port : PortId) (p : PlaneId) (g : Fin 32) (s : State) :
    Host.Outcome State Fault Refusal :=
  s.answer (s.hub.hostWrite port p 0x03 (!(s.hub.plane p).sect.groups[g.val].declared) false
    ((s.hub.plane p).power != .run) fun h => h.onPlane p fun x => x.requestHold g)

/-- TRAINING_HOLD_HOST_END (R260, R263, R496). -/
def execTrainingHoldHostEnd (port : PortId) (p : PlaneId) (g : Fin 32) (s : State) :
    Host.Outcome State Fault Refusal :=
  s.answer (s.hub.hostWrite port p 0x03 (!(s.hub.plane p).sect.groups[g.val].declared) false
    false fun h => h.onPlane p fun x => x.endHold g)

/-- A host end or completion ends the hold of a group, ahead of its limit (R263, R265). -/
def Plane.endsEarly (x : Plane) (g : Fin 32) : Bool :=
  x.hold[g.val].hostEnd || (x.sect.groups[g.val].endOnComplete && x.allComplete g)

/-- The limit of a group's hold decides its end: it is announced by the limit's row, or runs out in the group in progress with
neither of the rows before it met (R263, R265). -/
def Plane.limitRuns (x : Plane) (g : Fin 32) : Bool :=
  let h := x.hold[g.val]
  h.phase == .ending 3 || (h.phase == .active && decide (h.left ≤ 16) && !x.endsEarly g)

/-- HOLD_LIMIT_EXPIRY: a hold whose end no other row decided reaches its limit (R263). -/
def execHoldLimitExpiry (p : PlaneId) (g : Fin 32) (s : State) : Host.Outcome State Fault Refusal :=
  s.answer (s.hub.event p fun x => if x.limitRuns g then x.expireHold g else x)

end Sys2Proof.Machine
end

