-- ==== Sys2Proof/Machine/Links.lean ====
section
/-! DEFINITION. The Mirvo link: receive states, slot 0, upstream messages, the Damper, delays and round-trip
readings (chapters *The Mirvo link* and *Queues, the direct lane and the Damper*). -/

namespace Sys2Proof.Machine

/-- The epoch phase delays a link has committed (R11). -/
def Link.committedEpd (k : Link) : Word × Word := k.epdWait.getD (k.epd2, k.epd3)

/-! ### Groups of a link -/

/-- The first declared group a link belongs to. -/
def Plane.groupOf (x : Plane) (l : Fin 32) : Option (Fin 32) :=
  (List.finRange 32).find? fun g => x.sect.groups[g.val].declared && bitAt x.sect.groups[g.val].links l.val

/-- Delivery latency of a link, from its groups (R165). DESIGN CHOICE (log entry 117): a link that belongs to no declared
group, to which the spec gives no L, carries 0. -/
def Plane.linkL (x : Plane) (l : Fin 32) : BitVec 16 :=
  match x.groupOf l with
  | some g => x.sect.groups[g.val].l
  | none => 0

/-- Execute margin of a link, from its groups (R165). DESIGN CHOICE (log entry 117): a link that belongs to no declared group
carries the default of 16. -/
def Plane.linkExm (x : Plane) (l : Fin 32) : Byte :=
  match x.groupOf l with
  | some g => x.sect.groups[g.val].exm
  | none => 16

/-- Membership bits of a link (R156, GRPLO and GRPHI). -/
def Plane.membership (x : Plane) (l : Fin 32) : Nat :=
  ((List.finRange 32).map fun g =>
    if x.sect.groups[g.val].declared && bitAt x.sect.groups[g.val].links l.val then 2 ^ g.val else 0).sum

/-- The scheduled values the section in force declares for a link. -/
def Plane.declSched (x : Plane) (l : Fin 32) : LinkSched :=
  { l := x.linkL l, exm := x.linkExm l, mem := BitVec.ofNat 32 (x.membership l) }

/-- A group opens: the values the group before carried are in force, and it carries those now declared (R157). -/
def Plane.turnSched (x : Plane) : Plane :=
  { x with link := Vector.ofFn fun l => let k := x.link[l.val]; { k with sch := k.carried, carried := x.declSched l } }

/-- At a start the declared values are in force. -/
def Plane.startSched (x : Plane) : Plane :=
  { x with link := Vector.ofFn fun l => { x.link[l.val] with sch := x.declSched l, carried := x.declSched l } }

/-- Code of a link state (R174). -/
def LinkState.code : LinkState → Nat
  | .off => 0
  | .down => 1
  | .seek => 2
  | .aligned => 3
  | .up => 4
  | .mistimed => 5
  | .swap => 6
  | .loop => 7

/-- Code of a loop state (R346). -/
def LoopState.code : LoopState → Nat
  | .free => 0
  | .acquire => 1
  | .locked => 2
  | .ember => 3
  | .soft => 4
  | .husk => 5

/-! ### State changes -/

/-- Judge sources 39, 40 and 41 from the links (R168, R179). -/
def Plane.linkSources (x : Plane) : Plane :=
  let y := x.setDet 39 (x.link.toList.any (·.crcLive))
  let y := y.setDet 40 ((List.finRange 32).any y.linkDown)
  y.setDet 41 (y.link.toList.any (·.rtt.live))

/-- A link after its state has changed (R174, R175, R492): leaving OFF restarts SEQ and the grace of source 40,
and every state below ALIGNED starts alignment anew. -/
def Link.enter (k : Link) (st : LinkState) : Link :=
  let k := { k with state := st, pendSt := none }
  let k := if st = .down ∨ st = .seek ∨ st = .off then { k with al := {}, rxD := 0xFFFF, rxPend := none } else k
  if st = .up then { k with rtt := { k.rtt with valid := false, age := 65535 } } else k

/-- Change the state of a link. A member entering UP requests a hold of its AUTOHOLD groups (R260). -/
def Plane.enterLink (x : Plane) (l : Fin 32) (st : LinkState) : Plane :=
  let old := x.link[l.val].state
  let y := x.modLink l fun k => k.enter st
  let y := if old = .off ∧ st ≠ .off then y.modLink l fun k => { k with seq := 0, grace := true } else y
  if st = .up ∧ old ≠ .up then
    (List.finRange 32).foldl (fun (z : Plane) g =>
      let d := z.sect.groups[g.val]
      if d.declared && d.autohold && bitAt d.links l.val && z.power == .run then z.requestHold g else z) y
  else y

/-- One link changes its state, and the link sources are judged. -/
def Plane.setLink (x : Plane) (l : Fin 32) (st : LinkState) : Plane := (x.enterLink l st).linkSources

/-- Apply the state changes due at a frame boundary; the link sources are judged once they are all made (R175). -/
def Plane.applyPending (x : Plane) : Plane :=
  if x.link.toList.all (·.pendSt.isNone) then x
  else
    ((List.finRange 32).foldl (fun (z : Plane) l =>
      match z.link[l.val].pendSt with
      | some st => z.enterLink l st
      | none => z) x).linkSources

/-- Enabled links go from OFF to DOWN together (R175, R450). -/
def Plane.lightLinks (x : Plane) : Plane :=
  ((List.finRange 32).foldl (fun (z : Plane) l =>
    if z.sect.links[l.val].enabled && z.link[l.val].state == .off then z.enterLink l .down else z) x).linkSources

/-- Every link goes OFF as the clocks stop, when nothing is judged any more (R174, R180, R390). -/
def Plane.darkenLinks (x : Plane) : Plane := { x with link := x.link.map fun (k : Link) => k.enter .off }

/-! ### Slot 0 downstream -/

/-- The automatic Damper bits of a link (R192). -/
def Plane.autoDamper (x : Plane) (l : Fin 32) : BitVec 16 :=
  let k := x.link[l.val]
  let ctrl : BitVec 16 := if 4 ≤ k.uqStat.q.length then 1 else 0
  let bulk : BitVec 16 := if 4 ≤ k.uqBulk.q.length then 2 else 0
  let halt : BitVec 16 := if k.state ≠ .up ∨ k.isol = true ∨ x.fab.online = false then 0x8000 else 0
  ctrl ||| bulk ||| halt

/-- The content of a downstream subtype (R156, R157). `base` is the global number of the plane's link 0. -/
def Plane.subData (x : Plane) (l : Fin 32) (base sub : Nat) : Nat :=
  let k := x.link[l.val]
  let d := match k.ann with
    | some a => a.1
    | none => k.d
  match sub with
  | 0 => x.time.sec.toNat / 65536
  | 1 => x.time.sec.toNat % 65536
  | 2 => d.toNat / 65536
  | 3 => d.toNat % 65536
  | 4 => k.carried.l.toNat
  | 5 => x.grpT.toNat
  | 6 => k.grpL.toNat
  | 7 => (base + l.val) % 256
  | 8 => k.carried.mem.toNat % 65536
  | 9 => k.carried.mem.toNat / 65536
  | 10 => k.grpHold.toNat
  | 11 => k.carried.exm.toNat
  | _ => 0

/-- Slot 0 of the present frame on a link (R154). -/
def Plane.slot0 (x : Plane) (l : Fin 32) (base : Nat) : TxSlot :=
  let sub := x.time.frame % 16
  mkSlot 0x01 (mkPayload [fld x.link[l.val].sentD.toNat 16 48, fld x.time.frame 24 24,
    fld x.time.sec.toNat 4 20, fld sub 4 16, fld (x.subData l base sub) 16 0])

/-- Send slot 0 on every link that is not OFF (R152, R153); the Damper sent is the automatic one or the host's
(R192). -/
def Plane.sendSlot0 (x : Plane) (base : Nat) : Plane :=
  let y := { x with link := x.link.map fun (k : Link) => { k with sentD := k.autoD ||| k.damph } }
  { y with link := Vector.ofFn fun l =>
      let k := y.link[l.val]
      if k.state = .off then k else { k with slot0 := y.slot0 l base } }

/-- Evaluate the automatic Damper at cycle 39 of the frame that ends (R192). -/
def Plane.evalDamper (x : Plane) : Plane :=
  { x with link := Vector.ofFn fun l => { x.link[l.val] with autoD := x.autoDamper l } }

/-- The global number of the plane's link 0, or 96 more on a joined follower (R9, R276). -/
def Hub.linkBase (h : Hub) (p : PlaneId) : Nat := 32 * p.num + (if h.following then 96 else 0)

/-! ### What a group carries -/

/-- Greatest hold time in frames a group has left at the boundary closing the present subtype group, when it is
held from there (R156, R157). -/
def Hold.leftAtClose (h : Hold) : Option Nat :=
  match h.phase with
  | .active => some (h.left - 16)
  | .announced => some h.left
  | .idle => none
  | .requested => none
  | .ending _ => none

/-- The HOLD subtype of a link (R156). -/
def Plane.holdSub (x : Plane) (l : Fin 32) : BitVec 16 :=
  let ls := (List.finRange 32).filterMap fun g =>
    if bitAt x.sect.groups[g.val].links l.val then x.hold[g.val].leftAtClose else none
  if ls.isEmpty then 0 else BitVec.ofNat 16 (32768 + ((ls.foldl max 0 + 12499) / 12500))

/-- Latch what the subtypes of the group that opens report (R156, R157). -/
def Plane.latchGroup (x : Plane) : Plane :=
  let held := x.hold.toList.any fun h => h.leftAtClose.isSome
  let t := fld x.activeHql 4 12 + fld x.loop.state.code 3 9 + fld (b2n x.grid.reg) 1 8 +
    fld (b2n (x.loop.resid != 0)) 1 7 + fld (b2n x.grid.moved) 1 6 + fld (b2n held) 1 5
  { x with
    grpT := BitVec.ofNat 16 t
    grid := { x.grid with moved := false }
    link := Vector.ofFn fun l =>
      let k := x.link[l.val]
      { k with
        grpL := BitVec.ofNat 16 (fld k.state.code 4 12 + fld (b2n k.isol) 1 11 + fld (b2n k.rtt.live) 1 10 + k.err8.toNat)
        grpHold := x.holdSub l } }

/-! ### Delay and turnaround -/

/-- Commit D and TURN: announced at the next group boundary, or after the hold that covers the plane (R166). -/
def Plane.writeD (x : Plane) (l : Fin 32) (d turn : Word) : Plane :=
  x.modLink l fun k => { k with wait := some (d, turn), waitHeld := x.covered || (k.waitHeld && k.wait.isSome) }

/-- The declared values of a link at a group boundary: the announced pair applies, the committed one is announced, and the
round-trip reading of a millisecond in whose midst this falls is void (R166, R168). -/
def Link.groupD (k : Link) (midst : Bool) : Link :=
  let k :=
    match k.ann with
    | some (d, t) => { k with d := d, turn := t, ann := none, rtt := { k.rtt with skip := k.rtt.skip || midst } }
    | none => k
  match k.wait with
  | some v => if k.waitHeld then k else { k with wait := none, ann := some v }
  | none => k

/-- Cycles for which an earlier value of a link is kept: the answers to the frames it was in force for have arrived by then, as
2D + TURN is at most 201 µs (R165). -/
def linkMemory : Nat := 101200

/-- Keep what was in force on a link before the boundary at elapsed cycle clk, where it differs (R163). -/
def Link.remember (k old : Link) (clk : Nat) : Link :=
  if k.d = old.d ∧ k.turn = old.turn ∧ k.sch.l = old.sch.l then k
  else
    { k with past := { upto := clk, d := old.d, turn := old.turn, l := old.sch.l } ::
               k.past.filter fun e => decide (clk < e.upto + linkMemory) }

/-- The D, TURN and L in force on a link at an elapsed cycle (R157, R163). -/
def Link.inForceAt (k : Link) (t : Int) : LinkPast :=
  ((k.past.filter fun e => decide (t < e.upto)).getLast?).getD { d := k.d, turn := k.turn, l := k.sch.l }

/-- The last committed D and TURN of a link. -/
def Link.committedD (k : Link) : Word × Word :=
  match k.wait, k.ann with
  | some v, _ => v
  | none, some v => v
  | none, none => (k.d, k.turn)

/-! ### Receiving -/

/-- A received slot that fails its check (R151, R156, R179, R408). -/
def Plane.badSlot (x : Plane) (l : Fin 32) : Plane :=
  x.modLink l fun k => { k.count 5 with msErr := k.msErr + 1, err8 := k.err8 + 1 }

/-- A slot 0 that fails its check sets the effective Damper to all set and breaks its group (R151, R191). -/
def Plane.badSlot0 (x : Plane) (l : Fin 32) : Plane :=
  (x.badSlot l).modLink l fun k => { k with rxD := 0xFFFF, rxPend := none, al := { k.al with slots := 0 } }

/-- A link that receives no slots: its checks wait (R174, R401). -/
def Plane.noSlots (x : Plane) (l : Fin 32) : Bool := x.link[l.val].state == .off || x.link[l.val].state == .down

/-- One receive check of a link consumes a running slot-CRC injection (R400, R401). The Bool says the check was
injected. -/
def Plane.injectSlot (x : Plane) (l : Fin 32) : Plane × Bool :=
  if x.flt.inj.chk = 2 ∧ x.flt.inj.tgt.toNat = l.val ∧ x.flt.inj.left ≠ 0 then
    (x.spendChecks 1, true)
  else (x, false)

/-- The link delivers upstream traffic: UP, not isolated, and the fabric online (R174, R178, R180). -/
def Plane.delivers (x : Plane) (l : Fin 32) : Bool :=
  x.link[l.val].state == .up && !x.link[l.val].isol && x.fab.online

/-- Receive a traffic slot that passed its check: an injected check fails it, and a link that does not deliver
counts its message as discarded (plane counter 22). -/
def Plane.receive (x : Plane) (l : Fin 32) (f : Plane → Plane) : Plane :=
  if x.noSlots l then x
  else
    let (y, inj) := x.injectSlot l
    if inj then y.badSlot l
    else if y.delivers l then f y
    else y.count 22

/-- A protocol error or receive anomaly: plane counter 21 (R159, R410). -/
def Plane.anomaly (x : Plane) : Plane := x.count 21

/-- Deliver the fixed-latency path of a PRIMITIVE or upstream VETO: an expandable tag, the deadline, the mapping,
then the hold until the release cycle (R160, R173, R210, R211). -/
def Plane.timedUp (x : Plane) (l : Fin 32) (payload : BitVec 64) (veto : Bool) : Plane :=
  let d := x.sect.links[l.val]
  let num := msgNum payload
  match msgCycle x.time.now payload with
  | none => x.anomaly
  | some t =>
    if veto && vetoLen payload == 0 then x.anomaly
    else if t + d.p.toNat < x.time.now then x.count 24
    else if !((if veto then d.vids else d.prims).contains num) then x.count 22
    else
      let e : HeldEvent :=
        { src := if veto then .veto l num else .prim l num, ref := t
          tau := 512 * t + (if veto then 0 else msgFine payload), rel := t + d.p.toNat + 2
          len := if veto then vetoLen payload else 0 }
      { x with fab := { x.fab with held := x.fab.held ++ [e] } }

/-- An upstream TRAIN-HOLD: STATE 0b10, a group of the link and a tag that names an instant, or a protocol error;
it reports to a hold in force and enters UQ-STAT (R161, R181, R263). -/
def Plane.trainUp (x : Plane) (l : Fin 32) (payload : BitVec 64) : Plane :=
  let g := bits payload 23 16
  if h : bits payload 63 62 = 2 ∧ g < 32 ∧ (msgCycle x.time.now payload).isSome then
    let gi : Fin 32 := ⟨g, h.2.1⟩
    if x.sect.groups[gi.val].declared && bitAt x.sect.groups[gi.val].links l.val then
      let y := { x with hold := upd x.hold gi fun q =>
        if q.inForce then { q with complete := q.complete ||| (1#32 <<< l.val) } else q }
      y.pushStat l ⟨codeTrainHold, payload⟩
    else x.anomaly
  else x.anomaly

/-- The type may travel upstream in a traffic slot (R159). -/
def upstreamType (t : Byte) : Bool :=
  t == 0x00 || t == codePrimitive || t == codeVeto || t == codeCmdAck || t == codeTrainHold ||
  t == codeStatus || t == codeBulk

/-! ### Upstream slot 0 -/

/-- Cycles from the departure of a label to the arrival of its answer: 2D + TURN (R163). -/
def LinkPast.roundTrip (e : LinkPast) : Nat := (2 * e.d.toNat + e.turn.toNat) / 2000

/-- What was in force for the frame j that a comma arriving at an elapsed cycle answers: a frame that departed at the nearest
frame boundary (R157, R163). -/
def Link.answered (k : Link) (arr : Nat) : LinkPast :=
  k.inForceAt ((arr : Int) - (k.inForceAt arr).roundTrip + 20)

/-- The frame a label names, on the grid it was counted on, lies within 10 cycles of the departure 2D + TURN before
the comma's arrival (R154, R177). `arr` is the elapsed cycle of the arrival. -/
def Plane.labelMatches (x : Plane) (l : Fin 32) (arr : Nat) (payload : BitVec 64) : Bool :=
  let sent : Int := (arr : Int) - (x.link[l.val].answered arr).roundTrip
  let offset : Int := if sent < x.time.prevClk then x.time.prevTag else (x.time.now : Int) - x.time.clk
  let frame := bits payload 47 24
  let off := (sent + offset - frame * 40) % 500000000
  decide (frame < Config.framesPerSec) && (decide (off ≤ 10) || decide (499999990 ≤ off))

/-- What a checked slot 0 tells of the alignment of a link: label runs, echoes and identity (R175 to R177). -/
def Align.take (a : Align) (sub data : Nat) (label : Bool) (idOwn dEcho lEcho : Bool) : Align :=
  let a := if sub = 0 then { a with slots := 1, allOk := label, idOk := false, dOk := true }
    else if a.slots = sub then { a with slots := a.slots + 1, allOk := a.allOk && label }
    else { a with slots := 0 }
  let a := { a with labels := if label then 0 else a.labels + 1 }
  let a :=
    if sub = 7 then
      let origin1 := decide (data / 32768 = 1)
      { a with idOk := origin1 && idOwn
               loopRun := if origin1 then 0 else a.loopRun + 1
               swapRun := if origin1 && !idOwn then a.swapRun + 1 else 0 }
    else a
  if sub = 3 then { a with dOk := a.dOk && dEcho }
  else if sub = 4 then { a with dOk := a.dOk && lEcho }
  else a

/-- The state change a link's alignment calls for after a checked slot 0 (R175). -/
def Link.verdict (k : Link) : Option LinkState :=
  let whole := k.al.slots == 16
  let good := whole && k.al.allOk && k.al.idOk && k.al.dOk
  match k.state with
  | .seek => if 4 ≤ k.al.commas then some .aligned else none
  | .aligned =>
    if good then some .up else if 2 ≤ k.al.loopRun then some .loop else if 2 ≤ k.al.swapRun then some .swap
    else if 4 ≤ k.al.labels ∨ (whole = true ∧ k.al.dOk = false) then some .mistimed else none
  | .up =>
    if 2 ≤ k.al.loopRun then some .loop else if 2 ≤ k.al.swapRun then some .swap
    else if 4 ≤ k.al.labels ∨ (whole = true ∧ k.al.dOk = false) then some .mistimed else none
  | .mistimed => if good then some .up else none
  | .swap => if good then some .up else none
  | .loop => if good then some .up else none
  | .off => none
  | .down => none

/-- A checked slot 0 of an aligned link: Damper, subtype and alignment (R154, R155, R158, R175, R191). -/
def Plane.goodSlot0 (x : Plane) (l : Fin 32) (base : Nat) (payload : BitVec 64) : Plane :=
  let k := x.link[l.val]
  let arr := x.time.clk - 5
  let sub := bits payload 19 16
  let data := bits payload 15 0
  let label := x.labelMatches l arr payload
  let y := x.modLink l fun k => { k with rxPend := some (BitVec.ofNat 16 (bits payload 63 48), x.time.clk + 10) }
  if bits payload 47 24 % 16 = sub then
    let was := k.answered arr
    let y := y.modLink l fun k => { k with sub := upd k.sub (Fin.ofNat 16 sub) fun _ => BitVec.ofNat 16 data }
    let k := y.link[l.val]
    let dEcho := k.sub[2].toNat * 65536 + k.sub[3].toNat == was.d.toNat
    let lEcho := decide (data = was.l.toNat)
    let idOwn := decide (data % 256 = (base + l.val) % 256)
    y.modLink l fun k =>
      let k := { k with al := k.al.take sub data label idOwn dEcho lEcho }
      { k with pendSt := k.verdict }
  else
    (y.modLink l fun k =>
      let k := { k with al := { k.al with slots := 0, labels := if label then 0 else k.al.labels + 1 } }
      { k with pendSt := k.verdict }).anomaly

/-- A frame of an aligned link without K28.5 in its place: the 4th in a row loses alignment, and the 4th in a row with it at
one other position realigns there (R176). -/
def Link.misplaced (k : Link) (at_ : Option (Fin 800)) : Link :=
  let a := k.al
  let run := if at_.isSome && a.movedAt == at_ then a.moved + 1 else if at_.isSome then 1 else 0
  if 4 ≤ run then { (k.count 6) with al := {}, pendSt := some .aligned }
  else
    { k with al := { a with absent := a.absent + 1, moved := run, movedAt := at_ }
             pendSt := if 4 ≤ a.absent + 1 then some .seek else k.pendSt }

/-- An upstream slot 0 in any receive state, which passes its check or not; its comma serves alignment either way (R151, R175,
R176). -/
def Plane.takeSlot0 (x : Plane) (l : Fin 32) (base : Nat) (ok : Bool) (comma : Comma) (payload : BitVec 64) : Plane :=
  if x.link[l.val].state = .seek then
    let y := if ok then x else x.badSlot0 l
    y.modLink l fun k =>
      let k := { k with al := { k.al with commas := if ok then k.al.commas + 1 else 0 } }
      { k with pendSt := k.verdict }
  else
    match comma with
    | .expected =>
      let y := x.modLink l fun k => { k with al := { k.al with absent := 0, moved := 0, movedAt := none } }
      if ok then y.goodSlot0 l base payload else y.badSlot0 l
    | .absent => ((x.badSlot0 l).modLink l fun k => k.misplaced none).anomaly
    | .moved b => ((x.badSlot0 l).modLink l fun k => k.misplaced (some b)).anomaly

/-- An upstream slot 0 arrives (R150, R151, R401). -/
def Plane.upSlot0 (x : Plane) (l : Fin 32) (base : Nat) (rx : Slot0Rx) : Plane :=
  if x.noSlots l then x
  else
    let (x, inj) := x.injectSlot l
    x.takeSlot0 l base (rx.passes && !inj) rx.comma rx.payload

/-! ### The millisecond -/

/-- A millisecond's round-trip reading of a link, against the values in force for the frames it measured (R167, R168). -/
def Plane.rttReading (x : Plane) (l : Fin 32) (r : Option Int) : Plane :=
  let k := x.link[l.val]
  let aged := { k.rtt with age := min (k.rtt.age + 1) 65535, skip := false }
  match r with
  | none => x.modLink l fun k => { k with rtt := aged }
  | some v =>
    if k.rtt.skip || k.state != .up then x.modLink l fun k => { k with rtt := aged }
    else
      let was := k.inForceAt ((x.time.clk : Int) - 1)
      let dev := v - (2 * was.d.toNat + was.turn.toNat : Nat)
      let beyond := decide (k.rtttol.toNat < dev.natAbs)
      let bad := if beyond then min (k.rtt.bad + 1) 3 else 0
      let good := if beyond then 0 else min (k.rtt.good + 1) 3
      let r : Rtt := { rtt := v.toNat, dev := dev, age := 0, valid := true, beyond := beyond, bad := bad, good := good
                       live := if 3 ≤ bad then true else if 3 ≤ good then false else k.rtt.live }
      x.modLink l fun k => if beyond then { k.count 7 with rtt := r } else { k with rtt := r }

/-- The CRC-burst judgement of a link over a millisecond, and its queues' overflow marks (R179, R200). -/
def Link.ms (k : Link) (burst : Nat) : Link :=
  let hot := decide (burst ≤ k.msErr)
  let good := if hot then 0 else min (k.crcGood + 1) 3
  { k with msErr := 0, crcGood := good
           crcLive := if hot then true else if 3 ≤ good then false else k.crcLive
           dqCmd := k.dqCmd.ms, dqBulk := k.dqBulk.ms, uqStat := k.uqStat.ms, uqBulk := k.uqBulk.ms }

/-- Every link at the end of a millisecond. -/
def Plane.linksMs (x : Plane) (rtt : Vector (Option Int) 32) : Plane :=
  let y := (List.finRange 32).foldl (fun (z : Plane) l => z.rttReading l rtt[l.val]) x
  { y with link := Vector.ofFn fun l => y.link[l.val].ms y.sect.links[l.val].crcburst
           gq := y.gq.map GQueue.ms }.linkSources

/-! ### Meanings without an instant of their own -/

/-- LINK_SIGNAL_LOSS: any state but OFF goes to DOWN (R175). -/
def execLinkSignalLoss (p : PlaneId) (l : Fin 32) (s : State) : Host.Outcome State Fault Refusal :=
  s.answer (s.hub.event p fun x => if x.link[l.val].state = .off then x else x.setLink l .down)

/-- LINK_SIGNAL_PRESENT: DOWN goes to SEEK (R175). -/
def execLinkSignalPresent (p : PlaneId) (l : Fin 32) (s : State) : Host.Outcome State Fault Refusal :=
  s.answer (s.hub.event p fun x => if x.link[l.val].state = .down then x.setLink l .seek else x)

/-- LINK_MONITOR_GRACE_EXPIRY: source 40 judges the link from now on (R179). -/
def execLinkMonitorGraceExpiry (p : PlaneId) (l : Fin 32) (s : State) : Host.Outcome State Fault Refusal :=
  s.answer (s.hub.event p fun x => (x.modLink l fun k => { k with grace := false }).linkSources)

/-- SLOT_CHECK_FAILURE: the slot is discarded and counted; a slot 0 closes the Damper, and its comma still serves alignment
(R148, R151, R191). A link that receives no slots makes no check. -/
def execSlotCheckFailure (p : PlaneId) (l : Fin 32) (bad : BadSlot) (s : State) :
    Host.Outcome State Fault Refusal :=
  s.answer (s.hub.event p fun x =>
    if x.noSlots l then x
    else
      let y := (x.injectSlot l).1
      if bad.slot = 0 then y.takeSlot0 l 0 false bad.comma 0 else y.badSlot l)

/-- DAMPER_TIMEOUT: no checked slot 0 for 50 cycles, so the effective Damper is all set (R191). -/
def execDamperTimeout (p : PlaneId) (l : Fin 32) (s : State) : Host.Outcome State Fault Refusal :=
  s.answer (s.hub.event p fun x => x.modLink l fun k => { k with rxD := 0xFFFF, rxPend := none })

/-- LINK_DELAY_WRITE: structural; D up to D_MAX and TURN up to 1,000,000 ps (R165, R166). -/
def execLinkDelayWrite (port : PortId) (p : PlaneId) (l : Fin 32) (d turn : Word) (s : State) :
    Host.Outcome State Fault Refusal :=
  s.answer (s.hub.hostWrite port p 0x0E
    (decide ((s.hub.plane p).sect.links[l.val].dmax.toNat < d.toNat) || decide (1000000 < turn.toNat)) true false
    fun h => h.onPlane p fun x => x.writeD l d turn)

/-- Commit the host Damper bits of a link; at the boundary that opens a frame they leave in its slot 0 (R192). -/
def Plane.writeDamper (x : Plane) (l : Fin 32) (base : Nat) (w : BitVec 16) : Plane :=
  let y := x.modLink l fun k => { k with damph := w }
  if y.time.cyc = 0 then y.sendSlot0 base else y

/-- HOST_DAMPER_WRITE: reserved bits 14 to 10 must be 0 (R190, R370). -/
def execHostDamperWrite (port : PortId) (p : PlaneId) (l : Fin 32) (damper : BitVec 16) (s : State) :
    Host.Outcome State Fault Refusal :=
  s.answer (s.hub.hostWrite port p 0x0E (damper &&& 0x7C00 != 0) false false
    fun h => h.onPlane p fun x => x.writeDamper l (h.linkBase p) damper)

end Sys2Proof.Machine
end

