-- ==== Sys2Proof/Machine/Fabric.lean ====
section
/-! DEFINITION. Trigger inputs and the decision fabric (chapter *Trigger inputs and the decision fabric*). An
evaluation command names the reference cycle it evaluates; the signals of that cycle decide. -/

namespace Sys2Proof.Machine

/-! ### Cells and levels -/

/-- The value of a parameter cell, signed or unsigned as declared (R227). -/
def Plane.cellValue (x : Plane) (i : Fin 128) : Int :=
  if x.sect.fabric.cells[i.val].signed then (x.fab.cells[i.val]).toInt else (x.fab.cells[i.val]).toNat

/-- A constant, or the cell that holds it (R227, R228). -/
def Plane.constOf (x : Plane) : CellOr → Int
  | .const n => n
  | .cell i => x.cellValue i

/-- A cell accepts a value: it lies in the declared range (R227). -/
def cellAccepts (d : CellDecl) (v : Word) : Bool :=
  if d.signed then decide (d.min.toInt ≤ v.toInt ∧ v.toInt ≤ d.max.toInt)
  else decide (d.min.toNat ≤ v.toNat ∧ v.toNat ≤ d.max.toNat)

/-- The level of a rate monitor in an elapsed cycle: that of the last interval stands from 1 cycle after its end (R226). -/
def Rate.levelAt (r : Rate) (clk : Nat) : Bool :=
  match r.next with
  | some (b, c) => if c ≤ clk then b else r.level
  | none => r.level

/-- A level as it stands, or none for a pulse (R215): cells and rate monitors as they are now, a veto input by
the reference cycle of the evaluation (R211). -/
def Plane.levelOf (x : Plane) (ref : Nat) : Sig → Option Bool
  | .cell i b => some (bitAt x.fab.cells[i.val] b.val)
  | .rate i => some (x.fab.rates[i.val].levelAt x.time.clk)
  | .veto l n => some (x.fab.vetoes.any fun v => v.src == .veto l n && decide (v.start ≤ ref ∧ ref < v.start + v.len))
  | .ti _ => none
  | .prim _ _ => none
  | .win _ => none
  | .coinc _ => none
  | .presc _ => none
  | .xin _ _ => none
  | .chin _ => none

/-- τ_close of the GRID window that holds an instant: the next place of its lattice (R216). -/
def gridEnd (d : WinDecl) (tau : Nat) : Nat := let base := tau + 1; base + (d.a + d.w * base - base) % d.w

/-- The evaluations a signal calls for: of the coincidence units and prescalers it enters, of the GRID windows it is a member of, and
of the EVENT windows it is to open once it has arrived, at the reference cycle of each (R216, R218, R221, R225, R242). -/
def Plane.callsFor (x : Plane) (s : Signal) : List (Sig × Nat) :=
  let f := x.sect.fabric
  (List.finRange 256).filterMap (fun u =>
    if f.coincs[u.val].used && f.coincs[u.val].inputs.any (fun i => i.enabled && i.sig == s.src) then some (.coinc u, s.ref) else none) ++
  (List.finRange 32).filterMap (fun u => if f.prescs[u.val].input == some s.src then some (.presc u, s.ref) else none) ++
  (List.finRange 64).filterMap fun u =>
    let d := f.wins[u.val]
    if d.used && d.grid && d.w != 0 && d.members.contains s.src then some (.win u, (gridEnd d s.tau - 1) / 512)
    else if d.used && !d.grid && d.opener == some s.src then some (.win u, s.ref) else none

/-- An evaluation takes place: it is pending no more. -/
def Plane.evaluated (x : Plane) (u : Sig) (ref : Nat) : Plane :=
  { x with fab := { x.fab with pend := x.fab.pend.filter fun e => !(e.1 == u && e.2 == ref) } }

/-- The signals of a source at a reference cycle. -/
def Plane.pulses (x : Plane) (src : Sig) (ref : Nat) : List Signal :=
  x.fab.sigs.filter fun s => s.src == src && s.ref == ref

/-- The smallest τ of a list, when it is not empty. -/
def minTau : List Nat → Option Nat
  | [] => none
  | t :: rest =>
    match minTau rest with
    | none => some t
    | some u => some (min t u)

/-! ### Signals and what they drive -/

/-- A signal whose reference cycle lies this far behind that of a new one can reach no unit any more: it is twice the longest
window, 4,294,967,295 FINE units (R216; log entry 43). -/
def signalLife : Nat := 16777216

/-- TO14 and TO15 are not available while PU2 and PU3 drive their pairs in LVDS (R478): such an output is driven by no signal. -/
def Plane.toDriver (x : Plane) (i : Fin 16) : Option Sig :=
  if (i = 14 ∧ x.sect.pu[2].fmt = 2) ∨ (i = 15 ∧ x.sect.pu[3].fmt = 2) then none else x.sect.trigOut[i.val].driver

/-- An issuer whose driver fires forms a message, or the firing is suppressed and counted while it holds one (R232,
R233). -/
def Plane.drive (x : Plane) (s : Signal) (i : Fin 32) : Plane :=
  let d := x.sect.fabric.issuers[i.val]
  if d.driver = some s.src then
    match x.fab.issuers[i.val] with
    | some _ => x.count 25
    | none =>
      let m : IssMsg := { ref := s.ref, tau := s.tau, suspect := s.suspect, elig := s.ref + s.age + 4
                          len := (x.constOf d.len).toNat }
      { x with fab := { x.fab with issuers := upd x.fab.issuers i fun _ => some m } }
  else x

/-- The elapsed cycle in which a signal's pulse starts at a TO output: the reference cycle, the age, 2 and the coarse delay
(R230, R235). -/
def Plane.toStart (x : Plane) (i : Fin 16) (s : Signal) : Nat :=
  ((x.time.clk : Int) + (s.ref + s.age + 2 + x.sect.trigOut[i.val].coarse.toNat : Nat) - x.time.now).toNat

/-- A signal appears in the fabric: units can take it, and issuers, TO outputs and rate monitors it drives act
(R226, R230, R232). DESIGN CHOICE (log entry 115): the coarse-delay stage of a TO pulse begins, and its fine delay is taken, in the
cycle in which the driving signal appears. -/
def Plane.emit (x : Plane) (s : Signal) : Plane :=
  let y := { x with
    fab := { x.fab with
      sigs := x.fab.sigs.filter (fun o => decide (s.ref ≤ o.ref + signalLife)) ++ [s]
      pend := x.fab.pend.filter (fun e => decide (s.ref ≤ e.2 + signalLife)) ++
        (x.callsFor s).filter fun e => !(x.fab.pend.contains e)
      rates := Vector.ofFn fun i =>
        let r := x.fab.rates[i.val]
        if x.sect.fabric.rates[i.val].input = some s.src then { r with cur := r.cur + 1 } else r }
    trigOut := Vector.ofFn fun i =>
      let t := x.trigOut[i.val]
      if x.toDriver i = some s.src then { t with due := t.due ++ [(x.toStart i s, t.fine)] } else t }
  (List.finRange 32).foldl (fun (z : Plane) i => z.drive s i) y

/-- A signal that drives a Chimney crossing port is carried unless it lies within 8 cycles of the last one the port
carried; a suppressed one counts in unit counter 22 + port (R283). -/
def Hub.chimneyPort (h : Hub) (p : PlaneId) (s : Signal) (port : Fin 8) : Hub :=
  let x := h.plane p
  if h.chim.opened && h.udecl.chPair[port.val] == p && x.sect.fabric.chout[port.val] == some s.src then
    let tooSoon : Bool :=
      match x.fab.chLast[port.val] with
      | some r => decide (s.ref < r + 8)
      | none => false
    bif tooSoon then h.ucount (Fin.ofNat 32 (22 + port.val))
    else h.modPlane p fun x => { x with fab := { x.fab with chLast := upd x.fab.chLast port fun _ => some s.ref } }
  else h

/-- A signal appears in a plane's fabric and at the Chimney ports it drives. -/
def Hub.emit (h : Hub) (p : PlaneId) (s : Signal) : Hub :=
  let h := h.onPlane p fun x => x.emit s
  (List.finRange 8).foldl (fun (g : Hub) q => g.chimneyPort p s q) h

/-- Emit the signal an evaluation gives, if any. -/
def Hub.emitOpt (h : Hub) (p : PlaneId) : Option Signal → Hub
  | some s => h.emit p s
  | none => h

/-! ### Releases -/

/-- The earliest held event by release cycle (R211). -/
def earliest : List HeldEvent → Option HeldEvent
  | [] => none
  | e :: rest =>
    match earliest rest with
    | none => some e
    | some f => if f.rel < e.rel then some f else some e

/-- The SUSPECT conditions judged at a release: the input's verdict of the last millisecond, or the link's RTT
excursion (R240, R497). -/
def Plane.suspectAt (x : Plane) : Sig → Bool
  | .ti i => x.ti[i.val].verdict == .openV || x.ti[i.val].verdict == .reversed
  | .prim l _ => x.link[l.val].rtt.live
  | .veto l _ => x.link[l.val].rtt.live
  | .win _ => false
  | .coinc _ => false
  | .presc _ => false
  | .cell _ _ => false
  | .rate _ => false
  | .xin _ _ => false
  | .chin _ => false

/-- Release the earliest held event: a veto makes its input active, any other becomes a signal (R211). -/
def Hub.releaseHeld (h : Hub) (p : PlaneId) : Hub :=
  let x := h.plane p
  match earliest x.fab.held with
  | none => h
  | some e =>
    let h := h.modPlane p fun x => { x with fab := { x.fab with held := x.fab.held.erase e } }
    if e.len = 0 then
      h.emit p { src := e.src, ref := e.ref, tau := e.tau, age := e.rel - e.ref, suspect := x.suspectAt e.src }
    else
      h.modPlane p fun x => { x with fab := { x.fab with
        vetoes := x.fab.vetoes.filter (fun v => decide (x.time.now ≤ v.start + v.len + signalLife)) ++
          [{ src := e.src, start := e.ref, len := e.len, suspect := x.suspectAt e.src }] } }

/-! ### Windows -/

/-- The member signals of an interval, with their member numbers in order (R216, R219). -/
def Plane.membersIn (x : Plane) (d : WinDecl) (lo hi : Int) : List Signal :=
  d.members.flatMap fun m => x.fab.sigs.filter fun s => s.src == m && decide (lo ≤ s.tau ∧ (s.tau : Int) < hi)

/-- The result of a window whose members are known (R219, R491). -/
def winResult (d : WinDecl) (u : Fin 64) (ref age tau0 : Nat) (hi : Int) (members : List Signal) (suspect : Bool) :
    Option Signal :=
  let n := min members.length 15
  if (if d.condGe then d.m ≤ n else n < d.m) then
    let tau :=
      match d.tau with
      | .opener => tau0
      | .first => (minTau (members.map (·.tau))).getD (512 * ref)
      | .close => (hi - 1).toNat
    some { src := .win u, ref := ref, tau := tau, age := age, suspect := suspect || members.any (·.suspect) }
  else none

/-- The reference cycles of the GRID windows of a unit that have begun before the present cycle and whose evaluation is still to come
(R216, R220, R242). -/
def Plane.gridPending (x : Plane) (d : WinDecl) : List Nat :=
  let n := x.time.now
  let c := gridEnd d (512 * n)
  (List.range (d.h + 3)).filterMap fun i =>
    let close := c - i * d.w
    let ref := (close - 1) / 512
    if i * d.w < c ∧ close < 512 * n + d.w ∧ n < ref + d.h + 1 then some ref else none

/-- Windows pending though no member has entered them yet: their evaluation may fire all the same (R219, R242). -/
def Plane.emptyWindows (x : Plane) : Nat :=
  ((List.finRange 64).map fun u =>
    let d := x.sect.fabric.wins[u.val]
    if d.used && d.grid && d.w != 0 then ((x.gridPending d).filter fun r => !x.fab.pend.contains (.win u, r)).length else 0).sum

/-- An opener of an EVENT unit arrives: it opens a window, or is ignored and counted inside an open one (R218,
R228). -/
def Plane.openerArrives (x : Plane) (u : Fin 64) (s : Signal) : Plane :=
  if x.fab.wins[u.val].any fun w => decide (w.lo ≤ s.tau ∧ (s.tau : Int) < w.hi) then x.count 25
  else
    let d := x.sect.fabric.wins[u.val]
    let w : WinOpen := { c0 := s.ref, tau0 := s.tau, lo := s.tau + x.constOf d.openB
                         hi := s.tau + x.constOf d.closeB, suspect := s.suspect }
    { x with fab := { x.fab with wins := upd x.fab.wins u fun l => l ++ [w] } }

/-- The openers of a reference cycle arrive at an EVENT unit (R218). -/
def Plane.openWindow (x : Plane) (u : Fin 64) (ref : Nat) : Plane :=
  let d := x.sect.fabric.wins[u.val]
  match d.opener with
  | none => x
  | some src =>
    if d.grid || !d.used then x else (x.pulses src ref).foldl (fun (z : Plane) s => z.openerArrives u s) (x.evaluated (.win u) ref)

/-- τ_close of the GRID window whose last cycle is ref, when one ends there (R216, R220). Seconds are whole numbers
of windows, so the lattice runs on from PPS to PPS. -/
def gridClose (d : WinDecl) (ref : Nat) : Option Nat :=
  let c := gridEnd d (512 * ref)
  if d.w = 0 then none else if c ≤ 512 * ref + 512 then some c else none

/-- Evaluate a window unit (R216 to R220): the plane without the window, and the result that fires. -/
def Plane.evalWindow (x : Plane) (u : Fin 64) (ref : Nat) : Plane × Option Signal :=
  let d := x.sect.fabric.wins[u.val]
  if !d.used then (x, none)
  else if d.grid then
    match gridClose d ref with
    | none => (x, none)
    | some c => (x, winResult d u ref (d.h + 1) 0 c (x.membersIn d ((c : Int) - d.w) c) false)
  else
    match x.fab.wins[u.val].find? (fun w => w.c0 == ref) with
    | none => (x, none)
    | some w =>
      ({ x with fab := { x.fab with wins := upd x.fab.wins u fun l => l.erase w } },
       winResult d u ref (d.cMax + d.h + 1) w.tau0 w.hi (x.membersIn d w.lo w.hi) w.suspect)

/-! ### Coincidence units and lookup memories -/

/-- The active state of a coincidence input at a reference cycle (R221). -/
def Plane.inputActive (x : Plane) (ref : Nat) (i : CoincIn) : Bool :=
  let on :=
    match x.levelOf ref i.sig with
    | some b => b
    | none => !(x.pulses i.sig ref).isEmpty
  i.enabled && (on != i.inverted)

/-- The pulses of the active direct inputs, in input order (R222). -/
def Plane.directPulses (x : Plane) (ref : Nat) (ins : List CoincIn) : List Signal :=
  ins.flatMap fun i => if i.enabled && !i.inverted then x.pulses i.sig ref else []

/-- An active direct veto input came from a link in an RTT excursion (R240, R497). -/
def Plane.directVeto (x : Plane) (ref : Nat) (ins : List CoincIn) : Bool :=
  ins.any fun i => i.enabled && !i.inverted &&
    x.fab.vetoes.any fun v => v.src == i.sig && v.suspect && decide (v.start ≤ ref ∧ ref < v.start + v.len)

/-- The attached τ of a coincidence output (R222). DESIGN CHOICE (log entry 119): an active direct level input, which has no τ of its
own, takes no part in FIRST, and INPUT n gives FIRST where input n is a level or an inverted input. -/
def Plane.coincTau (x : Plane) (d : CoincDecl) (ref : Nat) : Nat :=
  let cycle := 512 * ref
  let first := (minTau ((x.directPulses ref d.inputs).map (·.tau))).getD cycle
  match d.tau with
  | .first => first
  | .cycle => cycle
  | .input n =>
    match d.inputs[n.val]? with
    | none => first
    | some i => if i.inverted || !i.enabled then first else (minTau ((x.pulses i.sig ref).map (·.tau))).getD first

/-- What a read of a lookup word finds after a running fabric-ECC injection: one inverted check bit makes a clean
word single and a single-bit word double; two make it double (R401). -/
def injectedEcc (dbl : Bool) (e : EccRead) : EccRead :=
  if dbl then .double
  else
    match e with
    | .clean => .single
    | .single => .double
    | .double => .double

/-- The outcome of one lookup-memory read: injection consumed, errors counted, sources raised and words marked bad
(R224, R401). The Bool says the data are good. -/
def Plane.eccRead (x : Plane) (mem : Fin 4) (word : Nat) (e : EccRead) : Plane × Bool :=
  let hit := x.flt.inj.chk == 3 && x.flt.inj.tgt.toNat == mem.val && x.flt.inj.left != 0
  let y := if hit then x.spendChecks 1 else x
  let e := if hit then injectedEcc x.flt.inj.dbl e else e
  let bad := y.fab.bad.contains (mem.val, word)
  match e with
  | .clean => if bad then (y.count 27, false) else (y, true)
  | .single =>
    let z := (y.count 26).fireEvent 37
    if bad then (z.count 27, false) else (z, true)
  | .double =>
    let y := if bad then y else { y with fab := { y.fab with bad := y.fab.bad ++ [(mem.val, word)] } }
    ((y.count 27).fireEvent 38, false)

/-- The bit of a lookup memory at an address (R224). -/
def lookupBit (words : List (Nat × BitVec 64)) (addr : Nat) : Bool :=
  match words.find? (fun w => w.1 == addr / 64) with
  | some w => bitAt w.2 (addr % 64)
  | none => false

/-- Evaluate a coincidence unit (R221 to R224): the plane after its reads, and the result that fires. -/
def Plane.evalCoinc (x : Plane) (u : Fin 256) (ref : Nat) (ecc : EccRead) : Plane × Option Signal :=
  let d := x.sect.fabric.coincs[u.val]
  if !d.used then (x, none)
  else
    let act := d.inputs.map (x.inputActive ref)
    let suspect := (x.directPulses ref d.inputs).any (·.suspect) || x.directVeto ref d.inputs
    let sig : Signal := { src := .coinc u, ref := ref, tau := x.coincTau d ref
                          age := d.inAge + (if d.lookup.isSome then 2 else 1), suspect := suspect }
    match d.lookup with
    | none =>
      let k := x.constOf d.k
      if 1 ≤ k ∧ k ≤ (act.count true : Int) then (x, some sig) else (x, none)
    | some m =>
      let addr := act.foldr (fun b n => 2 * n + b2n b) 0
      let (y, good) := x.eccRead m (addr / 64) ecc
      if good && lookupBit x.sect.fabric.lookups[m.val] addr then (y, some sig) else (y, none)

/-! ### Prescalers and rate monitors -/

/-- A pulse enters a prescaler (R225). -/
def Hub.prescalePulse (h : Hub) (p : PlaneId) (u : Fin 32) (s : Signal) : Hub :=
  let x := h.plane p
  let r := (x.constOf x.sect.fabric.prescs[u.val].r).toNat
  let n := x.fab.prescs[u.val] + 1
  let passes : Bool := r != 0 && decide (r ≤ n)
  let h := h.modPlane p fun x => { x with fab := { x.fab with prescs := upd x.fab.prescs u fun _ => bif passes then 0 else n } }
  bif passes then h.emit p { s with src := .presc u, age := s.age + x.sect.fabric.prescs[u.val].align + 1 } else h

/-- The pulses of a reference cycle enter a prescaler (R225). -/
def Hub.prescale (h : Hub) (p : PlaneId) (u : Fin 32) (ref : Nat) : Hub :=
  match (h.plane p).sect.fabric.prescs[u.val].input with
  | none => h
  | some src => ((h.plane p).pulses src ref).foldl (fun (g : Hub) s => g.prescalePulse p u s)
      (h.modPlane p fun x => x.evaluated (.presc u) ref)

/-- An interval of the rate monitors ends: those of 1 s at a PPS, those of 1 ms at a millisecond (R226). -/
def Plane.rateInterval (x : Plane) (second : Bool) : Plane :=
  { x with fab := { x.fab with rates := Vector.ofFn fun i =>
      let d := x.sect.fabric.rates[i.val]
      let r := x.fab.rates[i.val]
      if d.perSecond = second then
        let was := r.levelAt x.time.clk
        let b := if x.constOf d.hi < r.cur then true else if (r.cur : Int) < x.constOf d.lo then false else was
        { cur := 0, last := r.cur, level := was, next := some (b, x.time.clk + 1) }
      else r } }

/-! ### Discards -/

/-- The fabric starts empty: held messages, pending windows whatever they hold, pending evaluations and issuer messages are discarded and counted
once each (R242). -/
def Plane.discardFabric (x : Plane) : Plane :=
  let n := x.fab.held.length + (x.fab.wins.toList.map List.length).sum + x.fab.pend.length +
    (if x.fab.online then x.emptyWindows else 0) + (x.fab.issuers.toList.filter Option.isSome).length
  let y := { x with fab := { x.fab with
    held := [], sigs := [], pend := [], vetoes := [], wins := Vector.replicate 64 [], issuers := Vector.replicate 32 none
    rates := x.fab.rates.map fun (r : Rate) => { r with cur := 0 }
    chLast := Vector.replicate 8 none } }
  y.countN 28 n

/-- The fabric goes offline: TO outputs rest low (R242). -/
def Plane.fabricOff (x : Plane) : Plane :=
  let y := x.discardFabric
  { y with fab := { y.fab with online := false }
           trigOut := y.trigOut.map fun (t : TrigOut) => { t with high := false, due := [] } }

/-- The fabric starts with the section in force: cells at their initial values, counts, levels and bad-word marks from
nothing (R227, R242, R298). -/
def Plane.fabricStart (x : Plane) : Plane :=
  { x with fab := { online := true, cells := Vector.ofFn fun i => x.sect.fabric.cells[i.val].init } }

/-! ### Trigger-input verdicts -/

/-- The verdict of a millisecond on a trigger input (R205). -/
def tiVerdict (s : TiSense) (himax : Nat) : TiVerdict :=
  if s.within50 then .openV else if himax < s.highMax then .reversed else .normal

/-- Judge one trigger input over a millisecond (R205, R206): the first one judged is the first whole millisecond since judging
started, and an input the image disables is not judged and drives source 36 clear. -/
def Plane.judgeTi (x : Plane) (i : Fin 16) (t : TiSense) : Plane :=
  let d := x.sect.ti[i.val]
  if !d.enabled then { x with ti := upd x.ti i fun c => { c with verdict := .notJudged, bad := 0, good := 0, live := false } }
  else if x.time.clk < x.ti[i.val].since + Config.cycPerMs then x
  else
    let v := tiVerdict t d.himax.toNat
    let c := x.ti[i.val]
    let bad := if v = .normal then 0 else min (c.bad + 1) 3
    let good := if v = .normal then min (c.good + 1) 3 else 0
    { x with ti := upd x.ti i fun c =>
        { c with verdict := v, bad := bad, good := good
                 live := if 3 ≤ bad then true else if 3 ≤ good then false else c.live } }

/-- Judging of a trigger input starts afresh (R205). -/
def TrigIn.rejudge (t : TrigIn) (clk : Nat) : TrigIn :=
  { t with verdict := .notJudged, since := clk, bad := 0, good := 0, live := false }

/-- Every trigger input over a millisecond, and source 36 (R206). -/
def Plane.tiMs (x : Plane) (t : Vector TiSense 16) : Plane :=
  let y := (List.finRange 16).foldl (fun (z : Plane) i => z.judgeTi i t[i.val]) x
  y.setDet 36 (y.ti.toList.any (·.live))

/-! ### Meanings -/

/-- The fabric of a plane is at work. -/
def Hub.fabricRuns (h : Hub) (p : PlaneId) : Bool := h.active p && (h.plane p).fab.online

/-- FABRIC_EVENT_RELEASE (R211). -/
def execFabricEventRelease (p : PlaneId) (s : State) : Host.Outcome State Fault Refusal :=
  s.answer (if s.hub.fabricRuns p then s.hub.releaseHeld p else s.hub)

/-- WINDOW_OPEN at the arrival of the opener of a reference cycle (R218, R228). -/
def execWindowOpen (p : PlaneId) (u : Fin 64) (ref : Nat) (s : State) : Host.Outcome State Fault Refusal :=
  s.answer (if s.hub.fabricRuns p then s.hub.onPlane p fun x => x.openWindow u ref else s.hub)

/-- WINDOW_EVALUATION for a reference cycle (R216 to R220). -/
def execWindowEvaluation (p : PlaneId) (u : Fin 64) (ref : Nat) (s : State) : Host.Outcome State Fault Refusal :=
  s.answer (if s.hub.fabricRuns p then
      let r := (s.hub.plane p).evalWindow u ref
      (s.hub.setPlane p (r.1.evaluated (.win u) ref)).emitOpt p r.2
    else s.hub)

/-- COINCIDENCE_EVALUATION for a reference cycle (R221 to R224). -/
def execCoincidenceEvaluation (p : PlaneId) (u : Fin 256) (ref : Nat) (ecc : EccRead) (s : State) :
    Host.Outcome State Fault Refusal :=
  s.answer (if s.hub.fabricRuns p then
      let r := (s.hub.plane p).evalCoinc u ref ecc
      (s.hub.setPlane p (r.1.evaluated (.coinc u) ref)).emitOpt p r.2
    else s.hub)

/-- LOOKUP_SCRUB of one word (R224). -/
def execLookupScrub (p : PlaneId) (mem : Fin 4) (addr : Fin 1024) (ecc : EccRead) (s : State) :
    Host.Outcome State Fault Refusal :=
  s.answer (if s.hub.fabricRuns p then s.hub.onPlane p fun x => (x.eccRead mem addr.val ecc).1 else s.hub)

/-- PRESCALER_PULSE of a reference cycle (R225). -/
def execPrescalerPulse (p : PlaneId) (u : Fin 32) (ref : Nat) (s : State) : Host.Outcome State Fault Refusal :=
  s.answer (if s.hub.fabricRuns p then s.hub.prescale p u ref else s.hub)

/-- The comparator of a pair of planes: 0 A-B, 1 B-C, 2 C-A. -/
def comparatorOf (p q : PlaneId) : Fin 3 :=
  if p = .c ∨ q = .c then (if p = .a ∨ q = .a then 2 else 1) else 0

/-- CROSS_PLANE_CAPTURE: the signal a port carries is captured 2 cycles older, with its reference cycle and τ; it is
suspect while the pair is beyond the crossing margin, and a port into an offline fabric carries nothing (R31, R32,
R229, R497). -/
def execCrossPlaneCapture (src dst : PlaneId) (port : Fin 64) (ref : Nat) (s : State) :
    Host.Outcome State Fault Refusal :=
  s.answer (if src ≠ dst ∧ s.hub.fabricRuns src ∧ s.hub.fabricRuns dst then
      let x := s.hub.plane src
      match x.sect.fabric.cross.find? (fun c => c.1 == dst && c.2.1 == port) with
      | none => s.hub
      | some c =>
        let beyond := s.hub.cmp[(comparatorOf src dst).val].beyond
        (x.pulses c.2.2 ref).foldl (fun (h : Hub) g =>
          h.emit dst { src := .xin src port, ref := g.ref, tau := g.tau, age := g.age + 2, suspect := g.suspect || beyond }) s.hub
    else s.hub)

/-- The excursion of the active port is live: as the leader measures it, and as a follower reads it in its mirror of the leader's
TANDEM register (R268, R277, R284, R358). -/
def Hub.excursion (h : Hub) (p : PlaneId) : Bool :=
  if h.following then bitAt (h.chim.mirror.get p).regs[19] (20 - h.chim.active.val) else h.chim.ex[h.chim.active.val]

/-- A Chimney crossing makes an ACCEPT suspect: excursion on the active port, a time counter of the follower that disagreed with
its lane, a switch-over not yet complete, or a follower plane that is not LOCKED (R284). -/
def Hub.chimneySuspect (h : Hub) (p : PlaneId) : Bool :=
  h.excursion p || (h.chim.timeBad.get p) != 0 || h.chim.moving.a != 0 || h.chim.moving.b != 0 || h.chim.moving.c != 0 ||
  (if h.following then (h.plane p).loop.state != .locked
   else bits ((h.chim.mirror.get p).regs[1]) 31 29 != 2)

/-- Commit a parameter cell (R227). -/
def Plane.setCell (x : Plane) (c : Fin 128) (v : Word) : Plane := { x with fab := { x.fab with cells := upd x.fab.cells c fun _ => v } }

/-- PARAMETER_CELL_WRITE: not structural and not deferred; out of range is RANGE, an offline fabric STATE (R227). -/
def execParameterCellWrite (port : PortId) (p : PlaneId) (c : Fin 128) (v : Word) (s : State) :
    Host.Outcome State Fault Refusal :=
  s.answer (s.hub.hostWrite port p 0x0E (!(cellAccepts (s.hub.plane p).sect.fabric.cells[c.val] v)) false
    (!(s.hub.plane p).fab.online)
    fun h => h.onPlane p fun x => x.setCell c v)

end Sys2Proof.Machine
end

