-- ==== Sys2Proof/Machine/Outputs.lean ====
section
/-! DEFINITION. CK, PU and TO outputs: gating, delay, pulses, synchronous release and termination sensing
(chapter *Clock synthesis, delay and outputs*). -/

namespace Sys2Proof.Machine

/-! ### Clock outputs -/

/-- The effective gate (R128). -/
def Ck.gate (c : Ck) : Bool := c.hgate && !c.isol && !c.halted

/-- Change a CK output: a running output whose effective gate goes off drains (R128, R129). -/
def Plane.modCk (x : Plane) (n : Fin 16) (f : Ck → Ck) : Plane :=
  { x with ck := upd x.ck n fun c =>
      let d := f c
      if c.gate && !d.gate && d.run == .running then { d with run := .draining } else d }

/-- The legs of a stopped output, true and complement: low and high, and both low for HCSL (R128). Formats are numbered as in
R369. -/
def restLegs (fmt : Nat) : Bool × Bool := if fmt = 2 then (false, false) else (false, true)

/-- What the legs of an output rest at: a running output does not rest, and one the image disables is unpowered (R115,
R128). -/
def Plane.ckLegs (x : Plane) (n : Fin 16) : Option (Bool × Bool) :=
  if x.sect.ck[n.val].enabled ∧ x.ck[n.val].run = .stopped then some (restLegs x.sect.ck[n.val].fmt) else none

/-- Apply a delay write (R124): a fine change of a running output moves step by step, a coarse change disables
and enables it on its new grid, and a stopped output takes the write at once. DESIGN CHOICE (log entry 97): a draining
output takes both steps at once. -/
def Ck.setDelay (c : Ck) (k : BitVec 17) (f : BitVec 10) : Ck :=
  if c.run = .running then
    if c.k = k then { c with f := f, moving := c.fnow != f, newMove := c.fnow != f }
    else { c with k := k, f := f, fnow := f, moving := false, newMove := false, run := .draining }
  else { c with k := k, f := f, fnow := f, moving := false, newMove := false }

/-- Apply the delay writes that wait, in commit order (R125). -/
def Ck.applyWait (c : Ck) : Ck := c.wait.foldl (fun (z : Ck) w => z.setDelay w.1 w.2) { c with wait := [], held := false }

/-- Apply every delay write that waits and that no hold defers; writes that a hold has deferred follow at the first boundary after
its end (R125, R126). -/
def Plane.applyDelays (x : Plane) : Plane :=
  if x.covered then x else { x with ck := x.ck.map fun (c : Ck) => if c.held && x.paused then c else c.applyWait }

/-- Commit a delay write: it is applied behind the gate writes of its boundary, or behind a training hold (R125, R126). -/
def Plane.queueDelay (x : Plane) (n : Fin 16) (k : BitVec 17) (f : BitVec 10) : Plane :=
  { x with ck := upd x.ck n fun c => { c with wait := c.wait ++ [(k, f)], held := c.held || x.covered } }

/-- Commit one delay write of its own (R124, R125). -/
def Plane.writeDelay (x : Plane) (n : Fin 16) (k : BitVec 17) (f : BitVec 10) : Plane := (x.queueDelay n k f).applyDelays

/-- An instant of a second, in ns, in steps of 1/800 of a source period, rounded up. -/
def stepsTo (hz ns : Nat) : Int := ((ns * hz * 800 + 999999999) / 1000000000 : Nat)

/-- The moved period starts from instant a to before instant b, both in steps: each moves a step further, by `dir`, than the
one before it (R118, R124). `d` is the delay in effect, in steps, and `per` the period. -/
def movedStarts (d per a b dir : Int) : Nat :=
  let first := d + dir + per * (-((d + dir - a) / per))
  if first < b then ((b - 1 - first) / (per + dir)).toNat + 1 else 0

/-- A fine move passes one step per output period of the frame that ends, whose first cycle of the second is n0; from 1 ns
after its commit on (R124). DESIGN CHOICE (log entry 97): the move of an output that drains or stops runs on with its grid's
starts. -/
def Ck.fineFrame (c : Ck) (hz nDiv n0 : Nat) : Ck :=
  if c.moving then
    let now := c.fnow.toNat
    let goal := c.f.toNat
    let dir : Int := if now ≤ goal then 1 else -1
    let steps := movedStarts (800 * c.k.toNat + now : Nat) (800 * nDiv : Nat)
      (stepsTo hz (2 * n0 + b2n c.newMove)) (stepsTo hz (2 * n0 + 80)) dir
    let v := if now ≤ goal then min goal (now + steps) else max goal (now - steps)
    { c with fnow := BitVec.ofNat 10 v, moving := v != goal, newMove := false }
  else c

/-- Every fine move of the plane advances through the frame that ends; a hold pauses it (R124, R125, R262). -/
def Plane.fineMoves (x : Plane) : Plane :=
  if x.paused then x
  else
    let n0 := x.time.frame * 40
    { x with ck := Vector.ofFn fun i =>
        let d := x.sect.ck[i.val]
        x.ck[i.val].fineFrame (if d.srcB then x.sect.fB else 5000000000) d.n n0 }

/-- Release one output (R119, R121): with its gate on it runs on its new grid with its committed delay (R126); a drain in
progress ends here, and the output then starts by R130. -/
def Ck.release (c : Ck) (enabled : Bool) : Ck :=
  if !enabled then c
  else if c.run = .draining then { c with released := true, run := .stopped }
  else if c.gate then { c with released := true, run := .running, fnow := c.f, moving := false, newMove := false }
  else { c with released := true }

/-- The synchronous release of every output, with the accumulator of VCO-B cleared on that edge (R118, R119). Delay writes of
the same boundary come first (R126). -/
def Plane.releaseAll (x : Plane) : Plane :=
  let y := x.applyDelays
  { y with ck := Vector.ofFn fun i => y.ck[i.val].release x.sect.ck[i.val].enabled }.clearRatio

/-- The release of EARLY outputs at a PPS of the unregistered count (R119, R120). -/
def Plane.releaseEarly (x : Plane) : Plane :=
  if x.grid.reg then x
  else
    { x with ck := Vector.ofFn fun i =>
        let d := x.sect.ck[i.val]
        let c := x.ck[i.val]
        if d.early && !c.released && (!d.srcB || x.vcobLock) then c.release d.enabled else c }.clearRatio

/-- Stop every output for standby or a reload: CK outputs drain, PU and TO outputs start no new pulse (R453,
R303). -/
def Plane.haltOutputs (x : Plane) : Plane :=
  let y := (List.finRange 16).foldl (fun (z : Plane) n => z.modCk n fun c => { c with halted := true }) x
  { y with pu := y.pu.map fun u => { u with halted := true }
           trigOut := y.trigOut.map fun t => { t with halted := true } }

/-- Let outputs run again (R454). -/
def Plane.unhaltOutputs (x : Plane) : Plane :=
  { x with ck := x.ck.map fun c => { c with halted := false }
           pu := x.pu.map fun u => { u with halted := false }
           trigOut := x.trigOut.map fun t => { t with halted := false } }

/-- Every CK drain is complete and every PU and TO output is low (R453). -/
def Plane.drained (x : Plane) : Bool :=
  x.ck.toList.all (fun c => c.run == .stopped) && x.pu.toList.all (fun u => !u.high) &&
  x.trigOut.toList.all fun t => !t.high

/-! ### Pulse outputs -/

/-- The effective gate of a PU output. -/
def Pu.gate (u : Pu) : Bool := u.hgate && !u.isol && !u.halted

/-- The end of the high state after a pulse of a width that starts at instant `at_`: a later pulse extends it (R133, R230). -/
def highUntil (high : Bool) (endAt at_ width : Nat) : Nat := if high then max endAt (at_ + width) else at_ + width

/-- Apply PU settings (R133): delay and width at once, an assignment when the output is next low (R134). -/
def Pu.setAll (u : Pu) (v : PuSet) : Pu :=
  { u with set := { v with gen := u.set.gen }
           newGen := if v.gen = u.set.gen then none else some v.gen }

/-- Commit PU settings, deferred while a training hold covers the plane (R133). -/
def Plane.writePu (x : Plane) (n : Fin 4) (v : PuSet) : Plane :=
  if x.covered || x.pu[n.val].wait.isSome then { x with pu := upd x.pu n fun u => { u with wait := some v } }
  else { x with pu := upd x.pu n fun u => u.setAll v }

/-- The delay of a PU output in FINE bins: a step of the fine delay, 7.8125 ps, is two of them (R6, R133). -/
def PuSet.delay (v : PuSet) : Nat := 512 * v.coarse.toNat + 2 * v.fine.toNat

/-- A generator's event at bin `fine` of elapsed cycle clk enters the delay of a PU output. A pulse of another generator than the
output's is kept while it may still start behind a change of assignment (R134). -/
def Pu.event (u : Pu) (g : Fin 8) (clk fine : Nat) : Pu :=
  { u with due := (u.due.filter fun e => e.1 == u.set.gen || decide (512 * clk ≤ e.2)) ++ [(g, 512 * clk + fine + u.set.delay)] }

/-- FINE of the present event of a generator: the user generator's UFINE (R243, R249). -/
def Plane.eventFine (x : Plane) (g : Fin 8) : Nat := if g = 7 then x.gen[7].set.ufine.toNat else 0

/-- A generator's event reaches the PU outputs (R133). -/
def Plane.pulseEvent (x : Plane) (g : Fin 8) : Plane :=
  { x with pu := x.pu.map fun u => u.event g x.time.clk (x.eventFine g) }

/-- The first pulse of the generator assigned, with what remains without it. -/
def takeDue (g : Fin 8) : List (Fin 8 × Nat) → Option (Nat × List (Fin 8 × Nat))
  | [] => none
  | e :: rest => if e.1 = g then some (e.2, rest) else (takeDue g rest).map fun r => (r.1, e :: r.2)

/-- The next pulse starts, or extends the high state; with the gate off it is not emitted (R133, R134). -/
def Pu.pulse (u : Pu) (enabled : Bool) : Pu :=
  match takeDue u.set.gen u.due with
  | none => u
  | some (at_, rest) =>
    if u.gate && enabled then
      { u with due := rest, high := true, endAt := highUntil u.high u.endAt at_ (512 * u.set.width.toNat) }
    else { u with due := rest }

/-- An assignment takes a low output at an elapsed cycle: pulses of the new generator that started before are dropped, those
in progress counted, and those that have still to start stay due (R134). -/
def Pu.assign (u : Pu) (clk inProgress : Nat) : Pu :=
  match u.newGen with
  | some g =>
    if u.high then u
    else { u with set := { u.set with gen := g }, newGen := none
                  due := u.due.filter fun e => e.1 == g && decide (512 * clk ≤ e.2)
                  omitted := BitVec.ofNat 16 (satNat 16 (u.omitted.toNat + inProgress)) }
  | none => u

/-! ### Trigger outputs -/

/-- Commit a TO fine delay, deferred while a training hold covers the plane (R135). -/
def Plane.writeTo (x : Plane) (n : Fin 16) (f : Byte) : Plane :=
  if x.covered || x.trigOut[n.val].wait.isSome then { x with trigOut := upd x.trigOut n fun t => { t with wait := some f } }
  else { x with trigOut := upd x.trigOut n fun t => { t with fine := f } }

/-- The delay a CK output has committed, one not applied yet included (R11). -/
def Ck.committed (c : Ck) : BitVec 17 × BitVec 10 := (c.wait.getLast?).getD (c.k, c.f)

/-- The settings of a PU output as they read: an assignment reads back while it waits for the output to be low (R134). -/
def Pu.shown (u : Pu) : PuSet := { u.set with gen := u.newGen.getD u.set.gen }

/-- The settings a PU output has committed. -/
def Pu.committed (u : Pu) : PuSet := u.wait.getD u.shown

/-- The fine delay a TO output has committed. -/
def TrigOut.committed (t : TrigOut) : Byte := t.wait.getD t.fine

/-- Apply the writes that a hold deferred (R125, R133, R135). -/
def Plane.resumeOutputs (x : Plane) : Plane :=
  { x with
    ck := x.ck.map Ck.applyWait
    pu := x.pu.map fun u =>
      match u.wait with
      | some v => { u with wait := none }.setAll v
      | none => u
    trigOut := x.trigOut.map fun t =>
      match t.wait with
      | some f => { t with wait := none, fine := f }
      | none => t }

/-! ### Gates and termination sensing -/

/-- Commit a host gate: outputs 0 to 15 are CK, 16 to 19 PU (R128 to R131, R134). -/
def Plane.writeGate (x : Plane) (o : Fin 20) (on : Bool) : Plane :=
  if h : o.val < 16 then x.modCk ⟨o.val, h⟩ fun c => { c with hgate := on }
  else { x with pu := upd x.pu (Fin.ofNat 4 (o.val - 16)) fun u => { u with hgate := on } }

/-- Isolate an output or lift its isolation (R139, R140). -/
def Plane.isolateOut (x : Plane) (o : Fin 20) (on : Bool) : Plane :=
  if h : o.val < 16 then x.modCk ⟨o.val, h⟩ fun c => { c with isol := on }
  else { x with pu := upd x.pu (Fin.ofNat 4 (o.val - 16)) fun u => { u with isol := on } }

/-- The verdict of a millisecond (R137); a load that shows no open is sensed for short only. -/
def senseVerdict (t : TermSense) (opens : Bool) : Verdict :=
  if t.swingP < 30 || t.swingN < 30 || t.limited then .short
  else if opens && (160 < t.swingP || 160 < t.swingN) then .openV
  else .normal

/-- The runs of bad and good verdicts after another one (R138). -/
def senseRuns (v : Verdict) (bad good : Nat) : Nat × Nat :=
  if v = .normal then (0, min (good + 1) 3) else (min (bad + 1) 3, 0)

/-- Judge the source of an output from its runs: 3 consecutive verdicts change it (R138). -/
def Plane.senseSource (x : Plane) (n : Fin 64) (bad good : Nat) : Plane :=
  if 3 ≤ bad then x.setDet n true else if 3 ≤ good then x.setDet n false else x

/-- Sense one output over a millisecond; an output that emitted nothing keeps its verdict (R137, R138). -/
def Plane.senseOut (x : Plane) (o : Fin 20) (t : TermSense) : Plane :=
  if !t.emitted then x
  else if h : o.val < 16 then
    if x.sect.ck[o.val].enabled then
      let v := senseVerdict t true
      let (b, g) := senseRuns v x.ck[o.val].bad x.ck[o.val].good
      let y := { x with ck := upd x.ck ⟨o.val, h⟩ fun c => { c with verdict := v, bad := b, good := g } }
      y.senseSource (Fin.ofNat 64 (16 + o.val)) b g
    else x
  else
    let u : Fin 4 := Fin.ofNat 4 (o.val - 16)
    if !x.sect.pu[u.val].enabled then x else
    let v := senseVerdict t (x.sect.pu[u.val].fmt != 0)
    let (b, g) := senseRuns v x.pu[u.val].bad x.pu[u.val].good
    let y := { x with pu := upd x.pu u fun c => { c with verdict := v, bad := b, good := g } }
    y.senseSource (Fin.ofNat 64 (16 + o.val)) b g

/-- Every output is sensed over the millisecond. -/
def Plane.senseAll (x : Plane) (t : Vector TermSense 20) : Plane :=
  (List.finRange 20).foldl (fun (z : Plane) o => z.senseOut o t[o.val]) x

/-! ### Meanings -/

/-- VCOB_UNLOCK: the lock detector reports unlock, or lock again; source 10 (R114). -/
def execVcobUnlock (p : PlaneId) (unlocked : Bool) (s : State) : Host.Outcome State Fault Refusal :=
  s.answer (s.hub.event p fun x =>
    { x with vcobLock := !unlocked, vcobOut := unlocked }.setDet 10 (unlocked || x.vcobBad))

/-- OUTPUT_DRAIN_COMPLETE: the last drained period has ended (R129). -/
def execOutputDrainComplete (p : PlaneId) (ck : Fin 16) (s : State) : Host.Outcome State Fault Refusal :=
  s.answer (s.hub.event p fun x =>
    { x with ck := upd x.ck ck fun c => if c.run = .draining then { c with run := .stopped } else c })

/-- OUTPUT_START: a stopped output whose effective gate is on starts on its grid, with the delay written
(R120, R124, R130). DESIGN CHOICE (log entry 97): a fine move not finished when the output stopped is complete as it starts, also
while a hold pauses moves. -/
def execOutputStart (p : PlaneId) (ck : Fin 16) (s : State) : Host.Outcome State Fault Refusal :=
  s.answer (s.hub.event p fun x =>
    if x.sect.ck[ck.val].enabled then
      { x with ck := upd x.ck ck fun c =>
          if c.run = .stopped ∧ c.gate = true ∧ c.released = true then
            { c with run := .running, fnow := c.f, moving := false }
          else c }
    else x)

/-- FINE_MOVE_COMPLETE: the fine step in effect has reached its target; a hold pauses the move (R124, R125). -/
def execFineMoveComplete (p : PlaneId) (ck : Fin 16) (s : State) : Host.Outcome State Fault Refusal :=
  s.answer (s.hub.event p fun x =>
    if x.paused then x
    else { x with ck := upd x.ck ck fun c => { c with fnow := if c.moving then c.f else c.fnow, moving := false } })

/-- PU_PULSE_START: a pulse due starts, or extends the high state; with the gate off it is not emitted (R133,
R134). -/
def execPuPulseStart (p : PlaneId) (pu : Fin 4) (s : State) : Host.Outcome State Fault Refusal :=
  s.answer (s.hub.event p fun x => { x with pu := upd x.pu pu fun u => u.pulse x.sect.pu[pu.val].enabled })

/-- TO_PULSE_START: the oldest pulse in the coarse-delay stage reaches the output with the fine delay it
entered with (R135, R230). -/
def execToPulseStart (p : PlaneId) (o : Fin 16) (s : State) : Host.Outcome State Fault Refusal :=
  s.answer (s.hub.event p fun x =>
    { x with trigOut := upd x.trigOut o fun t =>
        match t.due with
        | [] => t
        | (at_, f) :: rest =>
          if t.halted then { t with due := rest }
          else { t with due := rest, high := true, edge := f
                        endAt := highUntil t.high t.endAt at_ x.sect.trigOut[o.val].width.toNat } })

/-- OUTPUT_GATE_WRITE: not structural (R128 to R131, R397). -/
def execOutputGateWrite (port : PortId) (p : PlaneId) (o : Fin 20) (on : Bool) (s : State) :
    Host.Outcome State Fault Refusal :=
  s.answer (s.hub.hostWrite port p 0x0E false false false fun h => h.onPlane p fun x => x.writeGate o on)

/-- OUTPUT_DELAY_WRITE: structural; f beyond 799 is out of range (R122, R124, R125). -/
def execOutputDelayWrite (port : PortId) (p : PlaneId) (ck : Fin 16) (k : BitVec 17) (f : BitVec 10) (s : State) :
    Host.Outcome State Fault Refusal :=
  s.answer (s.hub.hostWrite port p 0x0E (decide (799 < f.toNat)) true false
    fun h => h.onPlane p fun x => x.writeDelay ck k f)

/-- PU_SETTINGS_WRITE: structural; a width of 0 is out of range (R133, R369). -/
def execPuSettingsWrite (port : PortId) (p : PlaneId) (pu : Fin 4) (gen : Fin 8) (coarse : BitVec 16)
    (fine : Byte) (width : BitVec 24) (s : State) : Host.Outcome State Fault Refusal :=
  s.answer (s.hub.hostWrite port p 0x0E (width == 0) true false
    fun h => h.onPlane p fun x => x.writePu pu ⟨gen, coarse, fine, width⟩)

/-- TO_FINE_DELAY_WRITE: structural (R135). -/
def execToFineDelayWrite (port : PortId) (p : PlaneId) (o : Fin 16) (fine : Byte) (s : State) :
    Host.Outcome State Fault Refusal :=
  s.answer (s.hub.hostWrite port p 0x0E false true false fun h => h.onPlane p fun x => x.writeTo o fine)

end Sys2Proof.Machine
end

