-- ==== Sys2Proof/Machine/Registers.lean ====
section
/-! DEFINITION. The plane registers a status bank holds (R345 to R358), the comparators' decision they report, and
what happens when a plane leaves cycle 0 of a frame: the bank is gathered (R36, R39), immediate conditions are
sampled and the group's reports are latched. -/

namespace Sys2Proof.Machine

/-! ### Coherent group and comparators -/

/-- The planes a comparator compares: 0 A-B, 1 B-C, 2 C-A. -/
def cmpPlanes (i : Fin 3) : PlaneId × PlaneId :=
  if i = 0 then (.a, .b) else if i = 1 then (.b, .c) else (.c, .a)

/-- The plane belongs to the coherent group (R21). -/
def Hub.inGroup (h : Hub) (p : PlaneId) : Bool := bitAt h.udecl.group p.num

/-- The comparison is judged: both planes are members and their clocks run (R28). -/
def Hub.compares (h : Hub) (i : Fin 3) : Bool :=
  let q := cmpPlanes i
  h.inGroup q.1 && h.inGroup q.2 && h.active q.1 && h.active q.2

/-- A comparison is judged and declared exceeding. -/
def Hub.exceeds (h : Hub) (i : Fin 3) : Bool := h.compares i && h.cmp[i.val].exceed

/-- All three comparisons are judged. -/
def Hub.threeWay (h : Hub) : Bool := h.compares 0 && h.compares 1 && h.compares 2

/-- The majority names this plane as the outlier (R26). -/
def Hub.outlier (h : Hub) (p : PlaneId) : Bool :=
  h.threeWay &&
  match p with
  | .a => h.exceeds 0 && !h.exceeds 1 && h.exceeds 2
  | .b => h.exceeds 0 && h.exceeds 1 && !h.exceeds 2
  | .c => !h.exceeds 0 && h.exceeds 1 && h.exceeds 2

/-- Exactly one of three judged comparisons exceeds: the group is marginal (R26). -/
def Hub.isMarginal (h : Hub) : Bool :=
  h.threeWay && ((([0, 1, 2] : List (Fin 3)).filter h.exceeds).length == 1)

/-- Source 14 is raised on a plane: by the table of R26, by a two-plane comparison (R27), or by a comparison beyond the
crossing margin (R31). -/
def Hub.outlierRaised (h : Hub) (p : PlaneId) : Bool :=
  let mine := fun (i : Fin 3) => (cmpPlanes i).1 == p || (cmpPlanes i).2 == p
  let all := h.exceeds 0 && h.exceeds 1 && h.exceeds 2
  (if h.threeWay then h.outlier p || all else ([0, 1, 2] : List (Fin 3)).any fun i => mine i && h.exceeds i) ||
  ([0, 1, 2] : List (Fin 3)).any fun i => mine i && h.compares i && h.cmp[i.val].beyond

/-- Judge source 14 of every plane. -/
def Hub.judgeOutliers (h : Hub) : Hub :=
  let r := Tri.mk (h.outlierRaised .a) (h.outlierRaised .b) (h.outlierRaised .c)
  { h with marginal := h.isMarginal }.allPlanes fun p x => if h.active p then x.setDet 14 (r.get p) else x

/-! ### Codes -/

/-- Code of a loop mode (R346). -/
def modeCode : LoopMode → Nat
  | .auto => 0
  | .forced => 1
  | .soft => 2
  | .hold => 3

/-- Code of the plane's power (R346): standby counts from F_s on. -/
def Power.code : Power → Nat
  | .off => 0
  | .run => 0
  | .entering => 1
  | .stopped => 1
  | .leaving => 1
  | .reloadKeep => 2
  | .reloadChange => 2

/-- Code of a reference state (R350). -/
def RefState.code : RefState → Nat
  | .off => 0
  | .lost => 1
  | .failed => 2
  | .wait => 3
  | .qualified => 4

/-- Code of a tandem role (R345). -/
def Role.code : Role → Nat
  | .solo => 0
  | .leader => 1
  | .follower => 2

/-- Code of the role an image declares (R358). -/
def imgRoleCode : ImgRole → Nat
  | .none => 0
  | .leader => 1
  | .follower => 2

/-- Code of a Chimney port state (R358). -/
def chStateCode : ChState → Nat
  | .down => 0
  | .seek => 1
  | .mismatch => 2
  | .up => 3

/-- A fault severity's code (R371). -/
def sevCode : Severity → Nat
  | .record => 0
  | .notify => 1
  | .isolate => 2
  | .safe => 3

/-- An optional reference as its number, 0 when there is none. -/
def refNum : Option (Fin 4) → Nat
  | some r => r.val
  | none => 0

/-- OWNER of a plane: 0 none, 1 to 3 for MGMT0 to MGMT2 (R346). -/
def ownerCode : Option PortId → Nat
  | some q => q.val + 1
  | none => 0

/-! ### The plane registers -/

/-- PID (R345). -/
def Hub.regPid (h : Hub) (p : PlaneId) : Word :=
  let g := fld (b2n (h.inGroup .a)) 1 25 + fld (b2n (h.inGroup .b)) 1 24 + fld (b2n (h.inGroup .c)) 1 23
  let num := p.num + (if h.following then 3 else 0)
  mkWord [fld num 4 28, fld h.chim.role.code 2 26, g, fld (h.plane p).sdig.toNat 16 0]

/-- PSTATE (R346). -/
def Hub.regPstate (h : Hub) (p : PlaneId) : Word :=
  let x := h.plane p
  mkWord [fld x.loop.state.code 3 29, fld (modeCode x.sel.mode) 2 27, fld x.power.code 2 25,
    fld (b2n x.sel.active.isSome) 1 24, fld (refNum x.sel.active) 2 22, fld (b2n x.sel.auto.isSome) 1 21,
    fld (refNum x.sel.auto) 2 19, fld x.activeHql 4 15, fld x.loop.effbw.toNat 4 11,
    fld (b2n (x.loop.resid != 0)) 1 10, fld (b2n x.grid.reg) 1 9, fld (b2n x.covered) 1 8,
    fld (b2n x.loop.forced) 1 7, fld (b2n x.sel.sw.isSome) 1 6, fld (b2n x.lockWindow) 1 5,
    fld (b2n (h.outlier p)) 1 4, fld (b2n (h.marginal && h.inGroup p)) 1 3, fld (ownerCode x.owner) 3 0]

/-- PCTL as it reads: MODE and FREF (R348). -/
def Plane.regPctl (x : Plane) : Word := mkWord [fld (modeCode x.sel.mode) 2 30, fld x.sel.fref.val 2 28]

/-- REFCFG (R349). -/
def Plane.regRefcfg (x : Plane) : Word :=
  mkWord [fld (b2n x.sel.revert) 1 16, fld x.sel.prio[3].toNat 4 12, fld x.sel.prio[2].toNat 4 8,
    fld x.sel.prio[1].toNat 4 4, fld x.sel.prio[0].toNat 4 0]

/-- FSUM (R354). -/
def Plane.regFsum (x : Plane) : Word :=
  let srcs := List.finRange 64
  let sticky := srcs.find? fun n => x.flt.src[n.val].sticky
  let live := srcs.find? fun n => x.flt.src[n.val].live
  let iso := x.loop.forced || x.ck.toList.any (·.isol) || x.pu.toList.any (·.isol) || x.ti.toList.any (·.dis) ||
    x.link.toList.any (·.isol) || (srcs.any fun n => decide (n.val < 8) && x.flt.src[n.val].react)
  let num := fun (o : Option (Fin 64)) =>
    match o with
    | some n => n.val
    | none => 0
  mkWord [fld (b2n x.inHusk) 1 31, fld (b2n sticky.isSome) 1 30, fld (b2n live.isSome) 1 29, fld (b2n iso) 1 28,
    fld (num sticky) 6 22, fld (num live) 6 16]

/-- FINJ (R355). -/
def Plane.regFinj (x : Plane) : Word :=
  let i := x.flt.inj
  mkWord [fld i.chk.toNat 3 29, fld (b2n i.dbl) 1 28, fld i.tgt.toNat 6 22, fld i.left.toNat 11 0]

/-- TANDEM (R358). -/
def Hub.regTandem (h : Hub) : Word :=
  let c := h.chim
  mkWord [fld c.role.code 2 28, fld (imgRoleCode h.udecl.role) 2 26, fld (chStateCode c.st[0]) 2 24,
    fld (chStateCode c.st[1]) 2 22, fld c.active.val 1 21, fld (b2n c.ex[0]) 1 20, fld (b2n c.ex[1]) 1 19,
    fld (b2n c.joinPend) 1 18, fld (b2n c.leavePend) 1 17, fld (b2n c.loss) 1 16, fld (satInt 16 c.ech) 16 0]

/-- A signed value or the code that says there is none (R352). -/
def orInvalid : Option Int → Word
  | some v => BitVec.ofNat 32 (satInt 32 v)
  | none => 0x80000000

/-- REFSTAT view n of a reference (R350). DESIGN CHOICE (log entry 101): TCSEC reads 0 while the timecode is invalid. -/
def Plane.refView (x : Plane) (r : Fin 4) : Word :=
  let f := x.ref[r.val]
  let tc : Timecode := if h : r.val < 2 then x.tc[r.val] else {}
  mkWord [fld f.state.code 3 29, fld f.hql 4 25, fld (b2n f.disputed) 1 24, fld (b2n f.heldOut) 1 23,
    fld (b2n tc.valid) 1 22, fld (b2n (tc.valid && tc.secOk)) 1 21, fld (b2n f.foffFail) 1 20,
    fld (b2n f.pjmpFail) 1 19, fld f.wtr 10 6, fld (if r = 2 then min (x.esmc.ms / 100) 63 else 63) 6 0]

/-- A comparator reading as the view codes it (R350). -/
def Hub.cmpCode (h : Hub) (i : Fin 3) : Nat :=
  let c := h.cmp[i.val]
  if !h.compares i || !c.valid then 0x8001 else if c.mism then 0x8000 else satInt 16 c.reading

/-- The 16 REFSTAT views (R350). -/
def Hub.views (h : Hub) (p : PlaneId) : Vector Word 16 :=
  let x := h.plane p
  let s := fun (v : Int) => BitVec.ofNat 32 (satInt 32 v)
  ⟨#[x.refView 0, x.refView 1, x.refView 2, x.refView 3,
     s x.ref[0].fmeas, s x.ref[1].fmeas, s x.ref[2].fmeas, s x.ref[3].fmeas,
     mkWord [fld (h.cmpCode 0) 16 16, fld (h.cmpCode 1) 16 0],
     mkWord [fld (h.cmpCode 2) 16 16, fld (b2n (h.exceeds 0)) 1 15, fld (b2n (h.exceeds 1)) 1 14, fld (b2n (h.exceeds 2)) 1 13],
     s x.loop.resid, BitVec.ofNat 32 (if x.loop.state = .ember then satNat 32 x.loop.emberT else 0), s x.loop.hval,
     mkWord [fld (b2n (x.loop.drift && x.loop.state == .ember)) 1 31, fld (satInt 31 x.loop.slope) 31 0],
     s x.grid.d,
     mkWord [fld (min x.grid.dAge 65535) 16 16, fld (b2n x.grid.dValid) 1 15, fld (b2n x.grid.rlgnPend) 1 14,
       fld (satInt 14 x.vcobDif) 14 0]], rfl⟩

/-- Everything a status bank holds of a plane (R39). WSEL, WDATA, ATTN and ACAUSE are port-local, SCHED is write-only
and REFSTAT is kept by view. -/
def Hub.gather (h : Hub) (p : PlaneId) : Bank :=
  let x := h.plane p
  { regs := ⟨#[h.regPid p, h.regPstate p, mkWord [x.phist.toNat], x.regPctl, x.regRefcfg, 0, mkWord [x.loop.bw.toNat],
      orInvalid x.loop.phase, x.loop.freq, orInvalid x.loop.step, x.time.sec, tagLow x.time.frame 0,
      0, 0, 0, x.regFsum, x.regFinj, 0, 0, h.regTandem], rfl⟩
    views := h.views p }

/-- A plane's banks as it stands before its first frame boundary (R341, R451): until an image is applied they hold the Reset
column of R350. The plane stands as its first window records are fetched. -/
def Hub.firstBank (h : Hub) (p : PlaneId) : Hub :=
  let b := h.gather p
  let x := { h.plane p with bank := b, fill := b }
  { h.setPlane p x with shots := h.shots.set p x, last := h.last.set p x }

/-! ### Leaving cycle 0 -/

/-- Conditions that a detector sees at once are sampled: references, dispute, loop, VCO-B, grid, links, the plane's
physical conditions and the millisecond tails of sources 42, 49 and 50 (R388, R389). -/
def Plane.resample (x : Plane) : Plane :=
  let refs := ([0, 1, 2, 3] : List (Fin 4)).foldl (fun (z : Plane) i =>
    (z.setDet (Fin.ofNat 64 i.val) (x.ref[i.val].state == .lost)).setDet (Fin.ofNat 64 (4 + i.val))
      (x.ref[i.val].state == .failed)) x
  let y := refs.setDet 8 (!x.sel.disputes.isEmpty)
  let y := y.loopSources.setDet 10 (x.vcobOut || x.vcobBad)
  let y := ([11, 43, 44, 47] : List (Fin 64)).foldl (fun (z : Plane) n => z.setDet n x.flt.src[n.val].cond) y
  let y := y.linkSources
  let y := y.setDet 45 (x.flt.src.toList.any (·.wire))
  let y := y.setDet 42 (decide (0 < x.flt.ovTail))
  let y := y.setDet 49 (decide (0 < x.flt.bcTail))
  y.setDet 50 (decide (0 < x.flt.msTail))

/-- The plane leaves cycle 0: the delay writes of its boundary have followed the gate writes (R126), the next bank is gathered,
immediate conditions are sampled, a frame that opens a subtype group latches what the group reports, and the plane stands
as its window records are fetched until the next boundary (R40). -/
def Hub.leaveZero (h : Hub) (p : PlaneId) : Hub :=
  if (h.plane p).time.cyc = 0 then
    let h := h.modPlane p Plane.applyDelays
    let x := h.plane p
    let y := { x with fill := h.gather p }
    let z := if x.time.frame % 16 = 0 then y.resample.latchGroup else y.resample
    { h.setPlane p z with shots := h.shots.set p z }
  else h

/-- Move a plane on to a cycle of its present frame. -/
def Hub.toCycle (h : Hub) (p : PlaneId) (c : Fin 40) : Hub :=
  if (h.plane p).time.cyc < c.val then (h.leaveZero p).modPlane p fun x => x.advanceTo c.val else h

/-- An event at a cycle of the frame: the plane moves there, then the event acts. -/
def Hub.eventAt (h : Hub) (p : PlaneId) (c : Fin 40) (f : Plane → Plane) : Hub :=
  h.ifActive p fun h => (h.toCycle p c).onPlane p f

/-- K of R282: the longer one-way delay of the two ports in cycles, rounded up. -/
def chimneyK (u : UnitDecl) : Nat := (max u.dch[0] u.dch[1] + 1999) / 2000

/-- A crossed signal of age `age` at its crossing port is released at age + 14 + K, in the cycle of the frame in progress that this
age names (R282). DESIGN CHOICE (log entry 120): the release is the cycle in which R497 has it captured, and the conditions of R284
are judged there. -/
def Hub.releaseCrossed (h : Hub) (p : PlaneId) (port : Fin 8) (ref tau age : Nat) (suspect : Bool) : Hub :=
  let a := age + 14 + chimneyK h.udecl
  let t := (h.plane p).time
  if t.now ≤ ref + a ∧ ref + a < t.boundary + 40 then
    let g := h.toCycle p (Fin.ofNat 40 (ref + a - t.boundary))
    g.emit p { src := .chin port, ref := ref, tau := tau, age := a, suspect := suspect || g.chimneySuspect p }
  else h

/-- CHIMNEY_CROSSING_RELEASE: a signal that crossed by a port of the plane's pair is released at its fixed age with its reference
cycle and τ; while no pair is joined, crossed inputs are inactive (R281, R282, R284, R286). -/
def execChimneyCrossingRelease (p : PlaneId) (port : Fin 8) (ref tau : Nat) (rel : Release) (s : State) :
    Host.Outcome State Fault Refusal :=
  s.answer (if s.hub.fabricRuns p ∧ s.hub.chim.opened = true ∧ s.hub.udecl.chPair[port.val] = p then
      s.hub.releaseCrossed p port ref tau rel.age rel.suspect
    else s.hub)

end Sys2Proof.Machine
end

