-- ==== Sys2Proof/Machine/Gens.lean ====
section
/-! DEFINITION. Generators, beacons, readout frames and the resumption of what a training hold deferred (chapter
*Epochs, beacons and holds for endpoint boards*). A generator command names the cycle of its instant; it
acts where the lattice has an instant there. -/

namespace Sys2Proof.Machine

/-- The image has the generator send messages: it does so and serves a group (R245). -/
def genSends (d : GenDecl) : Bool := d.msg && d.groups != 0

/-- The beacon generators (R243). -/
def isBeacon (g : Fin 8) : Bool := g == 4 || g == 5

/-- A generator is at work: the grid is registered, the plane runs, and it is enabled (R244, R264). -/
def Plane.genRuns (x : Plane) (g : Fin 8) : Bool :=
  x.grid.reg && x.clocked && x.gen[g.val].set.en && !x.gen[g.val].off

/-- Change a generator. -/
def Plane.modGen (x : Plane) (g : Fin 8) (f : Gen → Gen) : Plane := { x with gen := upd x.gen g f }

/-! ### Lattices -/

/-- Instants `base + k × step` that lie in [lo, hi). -/
def latticeCount (base step lo hi : Nat) : Nat :=
  let upTo := fun n => if n ≤ base then 0 else (n - base + step - 1) / step
  upTo hi - upTo lo

/-- A generator's lattice as its base and step in cycles; a beacon generator's is that of its nominal instants (R243, R244). -/
def Plane.lattice (x : Plane) (g : Fin 8) : Option (Nat × Nat) :=
  let d := x.sect.gens[g.val]
  let n := x.gen[g.val]
  let l := match g.val with
    | 0 => some (0, Config.cycPerSec)
    | 1 => some (d.phase * 40, d.period * 40)
    | 7 => (tagCycle n.set.startSec n.set.startLow).map fun s => (s, n.set.uper.toNat)
    | k => if k = 4 ∨ k = 5 then some (n.base.getD (n.org + d.phase * 40), n.set.bint.toNat * 40)
           else some (n.org + d.phase * 40, d.period * 40)
  l.filter fun a => a.2 != 0

/-- Cycle e is an event instant of the generator, nominal for a beacon generator: a lattice instant at or after the first
(R243, R244, R249). -/
def Plane.isInstant (x : Plane) (g : Fin 8) (e : Nat) : Bool :=
  let n := x.gen[g.val]
  match x.lattice g with
  | none => false
  | some (b, st) => decide (n.first ≤ e) && (n.old.contains e || (decide (b ≤ e) && (e - b) % st == 0))

/-- Event instants of the generator in [lo, hi). -/
def Plane.instants (x : Plane) (g : Fin 8) (lo hi : Nat) : Nat :=
  let n := x.gen[g.val]
  let lo := max lo n.first
  match x.lattice g with
  | none => 0
  | some (b, st) => (n.old.filter fun e => decide (lo ≤ e ∧ e < hi)).length + latticeCount b st lo hi

/-- The last event instant of the generator's present lattice at or before cycle e. -/
def Plane.lastInstant (x : Plane) (g : Fin 8) (e : Nat) : Option Nat :=
  match x.lattice g with
  | none => none
  | some (b, st) =>
    let k := b + (e - b) / st * st
    if b ≤ e ∧ x.gen[g.val].first ≤ k then some k else none

/-! ### Readout frames -/

/-- The first cycle of the readout frame that cycle e lies in: it opened at an event of generator 6, and one that opened
before a disable runs to its end (R256). -/
def Plane.readoutStart (x : Plane) (e : Nat) : Option Nat :=
  let n := x.gen[6]
  let f := (if n.set.en && !n.off then x.lastInstant 6 e else none).orElse fun _ => n.ended
  f.filter fun f => decide (f ≤ e ∧ e < f + x.sect.gens[6].rdl * 40)

/-- The readout frame that ends at cycle e, at which its gap opens (R256). -/
def Plane.gapAt (x : Plane) (e : Nat) : Option Nat :=
  (x.readoutStart (e - 40)).filter fun f => f + x.sect.gens[6].rdl * 40 == e

/-- Beacons of a deferring generator that the readout frame from cycle f defers before cycle e: its first LIM nominal instants
(R258). -/
def Plane.deferred (x : Plane) (g : Fin 8) (f e : Nat) : Nat := min (x.instants g f e) x.sect.gens[g.val].lim

/-- The readout frame in which a nominal instant of the generator meets a deferral, with the nominal instants in it before
(R257, R258). -/
def Plane.meets (x : Plane) (g : Fin 8) (e : Nat) : Option Nat :=
  if x.sect.gens[g.val].defers then (x.readoutStart e).map fun f => x.instants g f e else none

/-! ### Messages -/

/-- Count an event of a generator as misscheduled; source 50 follows at the millisecond (R247). -/
def Plane.misscheduled (x : Plane) (g : Fin 8) : Plane :=
  { x.count (Fin.ofNat 32 g.val) with flt := { x.flt with msNow := true } }

/-- Enqueue an event's message to every group the generator serves; one that finds a queue full is misscheduled (R245, R247). DESIGN
CHOICE (log entry 122): the groups with room still get the message, and the event counts once. -/
def Plane.genSend (x : Plane) (g : Fin 8) (e : GEntry) : Plane :=
  let r := (List.finRange 32).foldl (fun (a : Plane × Bool) i =>
    if bitAt x.sect.gens[g.val].groups i.val then
      let b := a.1.gpush i e
      (b.1, a.2 && b.2)
    else a) (x, true)
  if r.2 then r.1 else r.1.misscheduled g

/-- COUNT or NUM of a generator's event at cycle e: SEC[14:0] for generator 0, else the events before it (R248). -/
def Plane.genCount (x : Plane) (g : Fin 8) (e : Nat) : BitVec 15 :=
  BitVec.ofNat 15 (if g = 0 then cycSec e else x.instants g 0 e)

/-- The message of an event at cycle e (R161): EPOCH or READOUT-FRAME. -/
def Plane.genEntry (x : Plane) (g : Fin 8) (e : Nat) (n : BitVec 15) : GEntry :=
  { type := if g = 6 then codeReadout else codeEpoch, head := BitVec.ofNat 8 (g.val * 32)
    tau := 512 * e + x.eventFine g, low := n
    payload := 0, passed := 0, at_ := x.time.clk }

/-- The BEACON of an instant (R161). -/
def Plane.beaconEntry (x : Plane) (g : Fin 8) (e : Nat) (forced : Bool) (defer : BitVec 3) : GEntry :=
  { type := codeBeacon, head := BitVec.ofNat 8 (g.val * 32 + (if forced then 16 else 0)), tau := 512 * e
    low := BitVec.ofNat 15 (defer.toNat * 4096), payload := 0, passed := 0, at_ := x.time.clk }

/-- At the enqueue cycle of a gap's opening, the beacons its readout frame deferred are enqueued, oldest first (R258). -/
def Plane.flushBeacons (x : Plane) (g : Fin 8) (e : Nat) : Plane :=
  match if x.sect.gens[g.val].defers then x.gapAt e else none with
  | none => x
  | some f =>
    let n := x.deferred g f e
    if x.gen[g.val].flushed.any (fun a => a.1 == e) then x
    else
      let y := x.modGen g fun m => { m with flushed := m.flushed ++ [(e, n)] }
      (List.range n).foldl (fun (z : Plane) i => z.genSend g (z.beaconEntry g e false (BitVec.ofNat 3 (i + 1)))) y

/-- The event at instant e comes into being at its enqueue cycle: its message is enqueued, but for a beacon that is deferred
(R245, R257, R258). -/
def Plane.enqueueEvent (x : Plane) (g : Fin 8) (e : Nat) : Plane :=
  let y := x.modGen g fun n => { n with enq := n.enq ++ [e] }
  if isBeacon g then
    match x.meets g e with
    | none => y.genSend g (y.beaconEntry g e false 0)
    | some k => if k < x.sect.gens[g.val].lim then y else y.genSend g (y.beaconEntry g e true 0)
  else y.genSend g (x.genEntry g e (x.genCount g e))

/-- GENERATOR_ENQUEUE: the event whose instant is LEAD cycles ahead comes into being, once; deferred beacons whose gap opens at
that instant go first (R245, R258). While the fabric is offline none does, and its instant decides what becomes of it (R247, R264). -/
def Plane.genEnqueue (x : Plane) (g : Fin 8) : Plane :=
  if !(x.genRuns g && genSends x.sect.gens[g.val] && x.fab.online) then x
  else
    let e := x.time.now + x.sect.gens[g.val].lead
    let y := if isBeacon g then x.flushBeacons g e else x
    if x.isInstant g e && !(x.gen[g.val].enq.contains e) then y.enqueueEvent g e else y

/-! ### Events -/

/-- An event that did not come into being at its enqueue cycle: skipped within LEAD after ORG, met by a fabric that is offline at its
instant, or misscheduled, as where the fabric was offline at its enqueue cycle alone (R247, R264). -/
def Plane.unsent (x : Plane) (g : Fin 8) : Plane :=
  if x.time.now < x.gen[g.val].org + x.sect.gens[g.val].lead ∨ x.fab.online = false then x.count 8
  else x.misscheduled g

/-- An instant arrives: whether its event came into being at its enqueue cycle, and what of it is over. -/
def Plane.arrive (x : Plane) (g : Fin 8) : Plane × Bool :=
  let now := x.time.now
  (x.modGen g fun n => { n with enq := n.enq.filter fun e => decide (now < e) },
    !(genSends x.sect.gens[g.val]) || x.gen[g.val].enq.contains now)

/-- A nominal beacon instant: the beacon is sent with its pulse, deferred, or FORCED (R258, R259). -/
def Plane.beaconEvent (x : Plane) (g : Fin 8) : Plane :=
  let (y, had) := x.arrive g
  let sent := fun (z : Plane) => (if had then z else z.unsent g).pulseEvent g
  match x.meets g x.time.now with
  | none => sent y
  | some k =>
    if k < x.sect.gens[g.val].lim then y.modGen g fun n => { n with p := BitVec.ofNat 3 (k + 1) }
    else
      let z := y.count 11
      sent { z with flt := { z.flt with bcNow := true } }

/-- GENERATOR_EVENT: the instant of an event drives the pulse outputs; epoch instants at which source 10 is live are
counted (R243, R248, R253). A cycle off the generator's lattice is no event. -/
def Plane.genEvent (x : Plane) (g : Fin 8) : Plane :=
  if !(x.genRuns g && x.isInstant g x.time.now) then x
  else if isBeacon g then x.beaconEvent g
  else
    let (y, had) := x.arrive g
    let y := y.modGen g fun m => { m with count := x.genCount g x.time.now }
    let y := if had then y else y.unsent g
    let y := if (g = 2 ∨ g = 3) ∧ x.flt.src[10].live = true then y.count (Fin.ofNat 32 (7 + g.val)) else y
    y.pulseEvent g

/-- A gap opens: the beacons its readout frame deferred are sent with one pulse, those not enqueued in time are skipped or
misscheduled, and p returns to 0 (R247, R258, R259). -/
def Plane.gapOpens (x : Plane) (g : Fin 8) : Plane :=
  let now := x.time.now
  match if x.genRuns g && x.sect.gens[g.val].defers then x.gapAt now else none with
  | none => x
  | some f =>
    let n := x.deferred g f now
    let had := ((x.gen[g.val].flushed.filter fun a => a.1 == now).map (·.2)).sum
    let y := x.modGen g fun m => { m with p := 0, flushed := m.flushed.filter fun a => decide (now < a.1) }
    let y := if genSends x.sect.gens[g.val] then (List.range (n - had)).foldl (fun (z : Plane) _ => z.unsent g) y else y
    if n = 0 then y else y.pulseEvent g

/-! ### Lattices and settings -/

/-- A generator starts on the lattice of a new ORG (R244, R264). -/
def Gen.restart (g : Gen) (org : Nat) : Gen :=
  { g with org := org, off := false, first := org, enq := [], flushed := [], p := 0, base := none, old := [], ended := none }

/-- Every generator restarts from a new ORG; those entries of group queues that a generator sent on the old grid are
discarded and counted (R244, R264). -/
def Plane.genRestart (x : Plane) (org : Nat) : Plane :=
  let old := fun (e : GEntry) => e.type != codeTrainHold
  let n := (x.gq.toList.map fun q => (q.q.filter old).length).sum
  let y := { x with
    gen := x.gen.map fun (g : Gen) => g.restart org
    gq := x.gq.map fun (q : GQueue) => { q with q := q.q.filter fun e => !old e } }
  y.countN 28 n

/-- A changed BINT runs from the last nominal instant enqueued; instants of the old one before it stay, back to the start of the
readout frame in progress (R249, R258). DESIGN CHOICE (log entry 107): so does one written while the generator is disabled. -/
def Plane.newBint (x : Plane) (g : Fin 8) (lead : Nat) : Gen :=
  let n := x.gen[g.val]
  let now := x.time.now
  let keep := (x.readoutStart now).getD now
  match x.lattice g with
  | none => n
  | some (b, st) =>
    if b ≤ now + lead then
      let last := b + (now + lead - b) / st * st
      let k0 := (keep - b + st - 1) / st
      let runs := (List.range ((last - b) / st - k0)).map fun k => b + (k0 + k) * st
      { n with base := some last, old := (n.old.filter fun e => decide (keep ≤ e)) ++ runs }
    else { n with base := some b }

/-- Put settings in force (R248, R249): from an enable or a new START, UPER or UFINE, the first event is the first whose
enqueue cycle is at or after the commit; a disable ends what was ahead; a new BINT runs from the last nominal instant
enqueued. DESIGN CHOICE (log entry 121): a disabled beacon generator drops the beacons that the readout frame in progress has
deferred, neither sent nor counted. -/
def Plane.applyGen (x : Plane) (g : Fin 8) (s : GenSet) : Plane :=
  let o := x.gen[g.val].set
  let lead := x.sect.gens[g.val].lead
  let y := x.modGen g fun n => { (if o.bint = s.bint then n else x.newBint g lead) with set := s, wait := none }
  if o.en && !s.en then
    y.modGen g fun n => { n with
      enq := [], flushed := [], p := 0, ended := (x.lastInstant g x.time.now).orElse fun _ => n.ended }
  else if (!o.en && s.en) || o.startSec != s.startSec || o.startLow != s.startLow || o.uper != s.uper ||
      o.ufine != s.ufine then
    y.modGen g fun n => { n with first := x.time.now + lead, enq := [] }
  else y

/-- The settings a generator has committed, deferred ones included. -/
def Gen.committed (g : Gen) : GenSet := g.wait.getD g.set

/-- Commit settings of a generator, deferred while a training hold covers the plane (R249). -/
def Plane.writeGen (x : Plane) (g : Fin 8) (f : GenSet → GenSet) : Plane :=
  let n := x.gen[g.val]
  let s := f n.committed
  if s = n.committed then x
  else if x.covered || n.wait.isSome then x.modGen g fun n => { n with wait := some s }
  else x.applyGen g s

/-- Commit epoch phase delays of a link, deferred as R249 says. -/
def Plane.writeEpd (x : Plane) (l : Fin 32) (a b : Word) : Plane :=
  let k := x.link[l.val]
  if x.covered || k.epdWait.isSome then x.modLink l fun k => { k with epdWait := some (a, b) }
  else x.modLink l fun k => { k with epd2 := a, epd3 := b }

/-- A generator takes the settings a hold deferred (R249). -/
def Plane.resumeGen (x : Plane) (g : Fin 8) : Plane :=
  match x.gen[g.val].wait with
  | some s => x.applyGen g s
  | none => x

/-- A link takes the writes a hold deferred (R166, R249). -/
def Link.resume (k : Link) : Link :=
  match k.epdWait with
  | some (a, b) => { k with waitHeld := false, epd2 := a, epd3 := b, epdWait := none }
  | none => { k with waitHeld := false }

/-- What a training hold deferred takes place: delays, pulse settings, trigger delays, D and TURN, generator writes and
the switch's commit (R262). -/
def Plane.resumeAll (x : Plane) : Plane :=
  let y := (List.finRange 8).foldl Plane.resumeGen x.resumeOutputs
  { y with
    link := y.link.map Link.resume
    sel := { y.sel with sw := y.sel.sw.map fun (w : Switch) => { w with deferred := false } } }

/-! ### Meanings -/

/-- GENERATOR_EVENT (R243, R248). -/
def execGeneratorEvent (p : PlaneId) (g : Fin 8) (cyc : Fin 40) (s : State) : Host.Outcome State Fault Refusal :=
  s.answer (s.hub.eventAt p cyc fun x => x.genEvent g)

/-- GENERATOR_ENQUEUE (R245, R247). -/
def execGeneratorEnqueue (p : PlaneId) (g : Fin 8) (cyc : Fin 40) (s : State) : Host.Outcome State Fault Refusal :=
  s.answer (s.hub.eventAt p cyc fun x => x.genEnqueue g)

/-- READOUT_GAP_START (R258). -/
def execReadoutGapStart (p : PlaneId) (s : State) : Host.Outcome State Fault Refusal :=
  s.answer (s.hub.event p fun x => (x.gapOpens 4).gapOpens 5)

/-- DEFERRED_ACTIONS_RESUME: nothing resumes while a hold covers the plane, nor at the boundary at which it ends (R262). -/
def execDeferredActionsResume (p : PlaneId) (s : State) : Host.Outcome State Fault Refusal :=
  s.answer (s.hub.event p fun x => if x.paused then x else x.resumeAll)

/-- GENERATOR_ENABLE_WRITE: structural (R249, R374). -/
def execGeneratorEnableWrite (port : PortId) (p : PlaneId) (g : Fin 8) (on : Bool) (s : State) :
    Host.Outcome State Fault Refusal :=
  s.answer (s.hub.hostWrite port p 0x0E false true false
    fun h => h.onPlane p fun x => x.writeGen g fun v => { v with en := on })

/-- BINT_WRITE of generator 4, or 5 for `second`: 8 to 255 (R243, R249). -/
def execBintWrite (port : PortId) (p : PlaneId) (second : Bool) (bint : Byte) (s : State) :
    Host.Outcome State Fault Refusal :=
  s.answer (s.hub.hostWrite port p 0x0E (decide (bint.toNat < 8)) true false
    fun h => h.onPlane p fun x => x.writeGen (if second then 5 else 4) fun v => { v with bint := bint })

/-- The smallest UPER of the user generator (R249, R374). -/
def uperMin (d : GenDecl) : Nat := if d.msg then 320 else 4

/-- USER_GENERATOR_WRITE: UPER below its least value and a START that breaks R7 are out of range (R249, R374). -/
def execUserGeneratorWrite (port : PortId) (p : PlaneId) (startSec startLow uper : Word) (ufine : BitVec 9)
    (s : State) : Host.Outcome State Fault Refusal :=
  s.answer (s.hub.hostWrite port p 0x0E
    (decide (uper.toNat < uperMin (s.hub.plane p).sect.gens[7]) || (tagCycle startSec startLow).isNone) true false
    fun h => h.onPlane p fun x => x.writeGen 7 fun v =>
      { v with startSec := startSec, startLow := startLow, uper := uper, ufine := ufine })

/-- EPOCH_PHASE_DELAY_WRITE: k_e in [31:20], f_e in [19:11], the rest reserved (R254, R370). -/
def execEpochPhaseDelayWrite (port : PortId) (p : PlaneId) (l : Fin 32) (epd2 epd3 : Word) (s : State) :
    Host.Outcome State Fault Refusal :=
  s.answer (s.hub.hostWrite port p 0x0E (bits epd2 10 0 != 0 || bits epd3 10 0 != 0) true false
    fun h => h.onPlane p fun x => x.writeEpd l epd2 epd3)

/-! ### Pulse outputs in a cycle -/

/-- PU_PULSE_END in a cycle: the output goes low where its high state ends there; an extended one stays high (R133). -/
def execPuPulseEnd (p : PlaneId) (pulse : PulseEnd 4) (s : State) : Host.Outcome State Fault Refusal :=
  s.answer (s.hub.eventAt p pulse.cyc fun x =>
    { x with pu := upd x.pu pulse.out fun u => { u with high := u.high && decide (x.time.clk < u.endAt / 512) } })

/-- PU_ASSIGNMENT_EFFECT in a cycle: the new generator takes the output while it is low; its pulses in progress are
omitted and counted, saturating (R134). -/
def execPuAssignmentEffect (p : PlaneId) (pu : Fin 4) (low : LowFound) (s : State) :
    Host.Outcome State Fault Refusal :=
  s.answer (s.hub.eventAt p low.cyc fun x => { x with pu := upd x.pu pu fun u => u.assign x.time.clk low.inProgress })

/-- TO_PULSE_END in a cycle: the output goes low where its high state ends there; an extended one stays high (R230). -/
def execToPulseEnd (p : PlaneId) (pulse : PulseEnd 16) (s : State) : Host.Outcome State Fault Refusal :=
  s.answer (s.hub.eventAt p pulse.cyc fun x =>
    { x with trigOut := upd x.trigOut pulse.out fun t => { t with high := t.high && decide (x.time.clk < t.endAt) } })

end Sys2Proof.Machine
end

