-- ==== Sys2Proof/Machine/Select.lean ====
section
/-! DEFINITION. References, their monitors, disputes, the selection tick and the switch commit (chapter
*Reference inputs, quality levels and selection*). -/

namespace Sys2Proof.Machine

/-! ### Reference states -/

/-- Put the DISPUTED marks and source 8 where the standing disputes say (R71, R72). -/
def Plane.markDisputes (x : Plane) : Plane :=
  let marked := fun (i : Fin 4) => x.sel.disputes.any fun d => (d.x == i && d.markX) || (d.y == i && d.markY)
  let y := { x with ref := Vector.ofFn fun i => { x.ref[i.val] with disputed := marked i } }
  y.setDet 8 (!x.sel.disputes.isEmpty)

/-- The pair of a dispute is still QUALIFIED with equal HQL and priority (R72). -/
def Plane.samePair (x : Plane) (a b : Fin 4) : Bool :=
  x.ref[a.val].state == .qualified && x.ref[b.val].state == .qualified &&
  x.ref[a.val].hql == x.ref[b.val].hql && x.sel.prio[a.val] == x.sel.prio[b.val]

/-- End the disputes whose pair no longer matches (R72). -/
def Plane.sweepDisputes (x : Plane) : Plane :=
  { x with sel := { x.sel with disputes := x.sel.disputes.filter fun d => x.samePair d.x d.y } }.markDisputes

/-- What follows from a change of a reference at a boundary: disputes end and the pending switch is
re-evaluated (R72, R74). -/
def Plane.refsChanged (x : Plane) (p : PlaneId) : Plane := x.sweepDisputes.review p

/-- Commit priorities and revertive operation (R66, R72, R74). -/
def Plane.setPrio (x : Plane) (p : PlaneId) (revert : Bool) (prio : Vector (BitVec 4) 4) : Plane :=
  { x with sel := { x.sel with revert := revert, prio := prio } }.refsChanged p

/-- The state a reference takes from its tests (R62). -/
def Ref.next (r : Ref) (enabled : Bool) : RefState :=
  if !enabled then .off
  else if !r.act then .lost
  else if !r.testsPass then .failed
  else if r.state = .qualified then .qualified
  else .wait

/-- Judge a reference anew: its HQL, its state, the wait-to-restore it starts (R62, R63), sources n and
4 + n (R64), and the cause of a change (R357 bit 15). -/
def Plane.judgeRef (x : Plane) (p : PlaneId) (r : Fin 4) : Plane :=
  let d := x.sect.refs[r.val]
  let old := x.ref[r.val]
  let cur := { old with hql := if d.enabled then x.sourceHql r else 0 }
  let st := cur.next d.enabled
  let wtr := if st = .wait then (if old.state = .wait then old.wtr else if old.everQual then d.wtrSec else 10)
    else 0
  let y := { x with ref := upd x.ref r fun _ => { cur with state := st, wtr := wtr } }
  if st = old.state ∧ cur.hql = old.hql then y
  else
    let y := if st = old.state then y else y.raise 15
    let y := y.setDet (Fin.ofNat 64 r.val) (st == .lost)
    let y := y.setDet (Fin.ofNat 64 (4 + r.val)) (st == .failed)
    y.refsChanged p

/-- Change the monitors of a reference and judge it. -/
def Plane.modRef (x : Plane) (p : PlaneId) (r : Fin 4) (f : Ref → Ref) : Plane :=
  { x with ref := upd x.ref r f }.judgeRef p r

/-- Start monitoring: every enabled reference LOST, its timecode invalid, its ESMC quality failed, and every
time and count from nothing; a reference held out stays held out (R490). -/
def Plane.monitorStart (x : Plane) (b000Year : Nat) : Plane :=
  let y := { x with
    ref := Vector.ofFn fun i =>
      { state := if x.sect.refs[i.val].enabled then .lost else .off, heldOut := x.ref[i.val].heldOut
        hql := if x.sect.refs[i.val].enabled ∧ x.sect.refs[i.val].qsrc = .fixed then
          x.sect.refs[i.val].fixedHql else 0 }
    tc := Vector.replicate 2 { year := b000Year }
    esmc := {}
    sel := { x.sel with disputes := [], auto := none } }
  let f := fun (z : Plane) (i : Fin 4) =>
    (z.setDet (Fin.ofNat 64 i.val) (z.ref[i.val].state == .lost)).setDet (Fin.ofNat 64 (4 + i.val)) false
  (([0, 1, 2, 3] : List (Fin 4)).foldl f y).setDet 8 false

/-- REF3's HQL follows the state of its source across the crossing, or the state carried on the Chimney
lane, as the mirror of the partner's plane shows it (R58). DESIGN CHOICE (log entry 114): the spec gives this crossing no latency;
at a frame boundary of the receiving plane the source plane's present state is taken. -/
def Hub.crossHql (h : Hub) (p : PlaneId) : Nat :=
  let d := (h.plane p).sect
  match d.ref3 with
  | .none => 0
  | .plane q => ref3Hql d (h.plane q).loop.state (h.plane q).activeHql
  | .chimney =>
    let w := (h.chim.mirror.get p).regs[1]
    let st : LoopState :=
      match bits w 31 29 with
      | 0 => .free
      | 1 => .acquire
      | 2 => .locked
      | 3 => .ember
      | 4 => .soft
      | _ => .husk
    ref3Hql d st (bits w 18 15)

/-- Let REF3 take the HQL its source now has. -/
def Plane.followCross (x : Plane) (p : PlaneId) (hql : Nat) : Plane :=
  if x.sect.refs[3].enabled ∧ x.sect.refs[3].qsrc = .plane ∧ x.ref[3].hql ≠ hql then
    let y := { x with ref := upd x.ref 3 fun r => { r with hql := hql } }
    let st := y.ref[3].next true
    if st = x.ref[3].state then y.refsChanged p
    else
      let wtr := if st = .wait then (if x.ref[3].everQual then x.sect.refs[3].wtrSec else 10) else 0
      let y := { y with ref := upd y.ref 3 fun r => { r with state := st, wtr := wtr } }
      ((((y.raise 15).setDet 3 (st == .lost)).setDet 7 (st == .failed))).refsChanged p
  else x

/-! ### Timecode -/

/-- A missing or invalid frame: the third in a row makes the timecode invalid and discards its quality
(R48, R51). DESIGN CHOICE (log entry 96): after a missing frame, as after an invalid one, the next valid frame is compared with
none. -/
def Timecode.badFrame (t : Timecode) : Timecode :=
  if 3 ≤ t.bad + 1 then
    { t with bad := t.bad + 1, lastTod := none, qRun := 0, qEff := none, valid := false }
  else { t with bad := t.bad + 1, lastTod := none, qRun := 0 }

/-- The year of a frame counted on from the last one: B000 rolls over after day 365 or 366 (R52). DESIGN CHOICE (log entry 96): a
rollover is a valid frame of day 1 whose last valid frame had day 365 or a later one, so a gap over day 1 advances nothing. -/
def Timecode.yearOf (t : Timecode) (f : IrigFrame) : Nat :=
  f.year (if f.day = 1 ∧ 365 ≤ t.lastDay then t.year + 1 else t.year)

/-- The frame follows the one before it by exactly 1 s, or there is none to follow (R48). -/
def Timecode.follows (t : Timecode) (f : IrigFrame) : Bool :=
  match t.lastTod with
  | none => true
  | some l => f.tod (t.yearOf f) == l + 1

/-- A received frame (R48, R50 to R52); own is the plane's SEC for the second the on-time edge marks. -/
def Timecode.frame (t : Timecode) (u : UnitDecl) (own : Word) (f : IrigFrame) : Timecode :=
  if f.markersOk && f.digitsOk && t.follows f then
    let year := t.yearOf f
    let tod := f.tod year
    let cand := BitVec.ofInt 32 ((tod : Int) - ((u.epochDay * 86400 + u.epochSec : Nat) : Int))
    { t with
      valid := true, bad := 0, lastTod := some tod, year := year, lastDay := f.day
      qRun := if t.qLast = some f.q then t.qRun + 1 else 1
      qLast := some f.q, cand := cand, secOk := cand == own }
  else t.badFrame

/-- The plane's SEC for the second that began one second before the present instant, the grid offset
included: the second the on-time edge of a frame just received marks (R52). -/
def Plane.markedSec (x : Plane) : Word :=
  BitVec.ofInt 32 (((x.time.now : Int) + x.grid.goff - 250000000) / 500000000)

/-! ### Disputes -/

/-- A reference votes for a and not for b (R71). -/
def Plane.votes (x : Plane) (a b r : Fin 4) : Bool :=
  let near := fun (i : Fin 4) => decide ((x.ref[r.val].fmeas - x.ref[i.val].fmeas).natAbs ≤ x.sect.fdis)
  r != a && r != b && x.ref[r.val].state == .qualified && near a && !(near b)

/-- The outcome of a new dispute of a and b (R71). -/
def Plane.dispute (x : Plane) (a b : Fin 4) : Dispute :=
  let va := ([0, 1, 2, 3] : List (Fin 4)).any (x.votes a b)
  let vb := ([0, 1, 2, 3] : List (Fin 4)).any (x.votes b a)
  if va && !vb then { x := a, y := b, markX := false, markY := true }
  else if vb && !va then { x := a, y := b, markX := true, markY := false }
  else if x.sel.active = some a then { x := a, y := b, markX := false, markY := true }
  else if x.sel.active = some b then { x := a, y := b, markX := true, markY := false }
  else { x := a, y := b, markX := true, markY := true }

/-- The dispute is that of the pair a, b. -/
def Dispute.isOf (d : Dispute) (a b : Fin 4) : Bool := d.x == a && d.y == b

/-- A standing dispute of the pair at a PPS: ten agreeing instants in a row end it (R72). -/
def Dispute.second (d : Dispute) (apart : Bool) : Option Dispute :=
  if apart then some { d with agree := 0 }
  else if 10 ≤ d.agree + 1 then none
  else some { d with agree := d.agree + 1 }

/-- Judge one pair at a PPS (R70, R72). -/
def Plane.judgePair (x : Plane) (q : Fin 4 × Fin 4) : Plane :=
  let (a, b) := q
  let apart := decide (x.sect.fdis < (x.ref[a.val].fmeas - x.ref[b.val].fmeas).natAbs)
  let ds := x.sel.disputes
  if x.samePair a b && decide (1 ≤ x.ref[a.val].hql ∧ x.ref[a.val].hql ≤ 14) then
    if ds.any (·.isOf a b) then
      { x with sel := { x.sel with
          disputes := ds.filterMap fun d => bif d.isOf a b then d.second apart else some d } }
    else if apart then { x with sel := { x.sel with disputes := ds ++ [x.dispute a b] } }
    else x
  else x

/-- The pairs of references. -/
def refPairs : List (Fin 4 × Fin 4) := [(0, 1), (0, 2), (0, 3), (1, 2), (1, 3), (2, 3)]

/-- The references at a PPS: 1 s measurements of every reference that is not LOST, disputes, and the
wait-to-restore that counts seconds (R63, R70 to R72). -/
def Plane.refSecond (x : Plane) (p : PlaneId) (freq : Vector Int 4) : Plane :=
  let y := { x with ref := Vector.ofFn fun i =>
    let r := x.ref[i.val]
    { r with fmeas := if r.state = .lost ∨ r.state = .off then r.fmeas else freq[i.val]
             wtr := r.wtr - 1 } }
  (refPairs.foldl Plane.judgePair y).refsChanged p

/-! ### Selection -/

/-- The selection tick (R66, R68, R69, R86): AUTO's choice is noted, and a switch starts where the mode, the
loop and the oven gate allow one (R450). -/
def Plane.tick (x : Plane) : Plane :=
  let b := x.best
  let y := { x with sel := { x.sel with auto := b } }
  if y.sel.sw.isSome || y.inHusk || y.loop.forced || !y.oven.gate || y.reloading then y
  else
    match y.sel.mode with
    | .hold => y
    | .forced =>
      if y.ref[y.sel.fref.val].usable && y.sel.active != some y.sel.fref then y.startSwitch y.sel.fref else y
    | _ =>
      match b with
      | none => y
      | some r =>
        let calls :=
          match y.sel.active with
          | none => true
          | some a =>
            if y.sel.revert then r != a
            else !y.ref[a.val].candidate || decide (y.ref[r.val].hql < y.ref[a.val].hql)
        if calls && !y.barred r then y.startSwitch r else y

/-- What a commit does to the loop (R82, R92, R94): from this boundary on the slew runs towards the sum. -/
def Plane.commitLoop (x : Plane) (step dfreq : Int) : Plane :=
  if x.loop.state = .soft then x
  else
    let y := { x with loop := { x.loop with resid := x.loop.resid + step } }
    match y.loop.state with
    | .free => y.setLoop .acquire
    | .acquire => y.setLoop .acquire
    | .locked => if dfreq.natAbs ≤ 10 then y.setLoop .locked else y.setLoop .acquire
    | .ember => if dfreq.natAbs ≤ 10 then y.setLoop .locked else y.setLoop .acquire
    | .soft => y
    | .husk => y

/-- The commit of the pending switch, once its measurement has ended (R73, R75 to R79). The step is in ps and the frequency difference
in units of 1e-9. -/
def Plane.commitSwitch (x : Plane) (p : PlaneId) (step dfreq : Int) : Plane :=
  match x.sel.sw with
  | none => x
  | some s =>
    if s.left ≠ 0 then x
    else if x.paused then { x with sel := { x.sel with sw := some { s with deferred := true } } }
    else if x.ref[s.target.val].state = .qualified ∧ x.ref[s.target.val].heldOut = false then
      let st := phaseOf (x.inputType s.target) step
      let y := (x.switchRec p 0x02 s.target st).count 14
      let y := { y with
        sel := { y.sel with active := some s.target, sw := none }
        loop := { y.loop with step := some st } }
      let y := y.history 6
      let y := if x.sect.stepTol < st.natAbs then y.fireEvent 13 else y
      (y.commitLoop st dfreq).refreshBw
    else x.abandonSwitch p

/-! ### Meanings -/

/-- REF_LOSS_DECLARED: activity fails and the other tests have no measurement (R46, R53, R493, R494). -/
def execRefLossDeclared (p : PlaneId) (r : Fin 4) (s : State) : Host.Outcome State Fault Refusal :=
  s.answer (s.hub.event p fun x =>
    x.modRef p r fun f => { f with act := false, foffFail := false, pjmpFail := false, pjmpGood := 0, pjmpLast := none })

/-- REF_ACTIVE_AGAIN: activity passes and the tests start with no measurement (R46, R53, R493, R494). A disabled reference is not
monitored (R44). -/
def execRefActiveAgain (p : PlaneId) (r : Fin 4) (s : State) : Host.Outcome State Fault Refusal :=
  s.answer (s.hub.event p fun x =>
    if x.sect.refs[r.val].enabled then
      x.modRef p r fun f => { f with act := true, foffFail := false, pjmpFail := false, pjmpGood := 0, pjmpLast := none }
    else x)

/-- The timecode input is decoded: its reference is enabled, or it is itself the registration source (R44, R103). That a disabled
reference leaves the timecode of the registration source decoded is a DESIGN CHOICE (log entry 100). -/
def Plane.tcHeard (x : Plane) (tc : Fin 2) : Bool :=
  x.sect.refs[tc.val].enabled || (if tc = 0 then x.sect.regSrc == .tc0 else x.sect.regSrc == .tc1)

/-- TIMECODE_FRAME (R44, R48, R50 to R52): a valid frame that disagrees with the registered grid's SEC counts in
plane counter 18. -/
def execTimecodeFrame (p : PlaneId) (tc : Fin 2) (f : IrigFrame) (s : State) :
    Host.Outcome State Fault Refusal :=
  s.answer (s.hub.event p fun x =>
    if !x.tcHeard tc then x else
    let t := x.tc[tc.val].frame s.hub.udecl x.markedSec f
    let y := { x with tc := upd x.tc tc fun _ => t }
    let y := if t.bad = 0 ∧ t.secOk = false ∧ x.grid.reg then y.count 18 else y
    y.judgeRef p (Fin.ofNat 4 tc.val))

/-- TIMECODE_FRAME_MISSING (R48). -/
def execTimecodeFrameMissing (p : PlaneId) (tc : Fin 2) (s : State) : Host.Outcome State Fault Refusal :=
  s.answer (s.hub.event p fun x =>
    if x.tcHeard tc then { x with tc := upd x.tc tc (·.badFrame) }.judgeRef p (Fin.ofNat 4 tc.val) else x)

/-- TC_QUALITY_EFFECT: a code received in 3 consecutive valid frames takes effect (R51). -/
def execTcQualityEffect (p : PlaneId) (tc : Fin 2) (s : State) : Host.Outcome State Fault Refusal :=
  s.answer (s.hub.event p fun x =>
    let t := x.tc[tc.val]
    if t.valid ∧ 3 ≤ t.qRun then
      { x with tc := upd x.tc tc fun t => { t with qEff := t.qLast } }.judgeRef p (Fin.ofNat 4 tc.val)
    else x)

/-- ESMC_PDU_RECEIVED (R55 to R57): a valid PDU waits for its boundary; an invalid slow-protocol frame and a
code outside option 1 count in plane counter 19. Every other frame is discarded (R54). A disabled REF2 is not monitored (R44). -/
def execEsmcPduReceived (p : PlaneId) (f : EsmcFrame) (s : State) : Host.Outcome State Fault Refusal :=
  s.answer (s.hub.event p fun x =>
    if !x.sect.refs[2].enabled then x
    else if f.valid then
      let y := { x with esmc := { x.esmc with pend := some f.ssm, ms := 0 } }
      if ssmKnown f.ssm then y else y.count 19
    else if f.slow then x.count 19
    else x)

/-- ESMC_QUALITY_EFFECT: the PDU received takes effect (R57). -/
def execEsmcQualityEffect (p : PlaneId) (s : State) : Host.Outcome State Fault Refusal :=
  s.answer (s.hub.event p fun x =>
    match x.esmc.pend with
    | none => x
    | some c => { x with esmc := { x.esmc with hql := ssmHql c, pend := none } }.judgeRef p 2)

/-- ESMC_TIMEOUT: no valid PDU for 5 s, so the quality is failed (R57). -/
def execEsmcTimeout (p : PlaneId) (s : State) : Host.Outcome State Fault Refusal :=
  s.answer (s.hub.event p fun x =>
    { x with esmc := { x.esmc with hql := 0, pend := none } }.judgeRef p 2)

/-- FREQ_OFFSET_MEASUREMENT in units of 1e-12: fails beyond FOFF, passes within 0.8 FOFF (R61, R494). -/
def execFreqOffsetMeasurement (p : PlaneId) (r : Fin 4) (offset : Int) (s : State) :
    Host.Outcome State Fault Refusal :=
  s.answer (s.hub.event p fun x =>
    if x.sect.refs[r.val].enabled && x.ref[r.val].act then
      let foff := x.sect.refs[r.val].foffPpm * 1000000
      x.modRef p r fun f => { f with foffFail :=
        if foff < offset.natAbs then true
        else if offset.natAbs * 10 ≤ foff * 8 then false else f.foffFail }
    else x)

/-- PHASE_JUMP_MEAN in ps: fails on a difference beyond PJMP from the mean before, passes after ten
consecutive means within it (R61, R494). -/
def execPhaseJumpMean (p : PlaneId) (r : Fin 4) (mean : Int) (s : State) : Host.Outcome State Fault Refusal :=
  s.answer (s.hub.event p fun x =>
    if x.sect.refs[r.val].enabled && x.ref[r.val].act then
      x.modRef p r fun f =>
        match f.pjmpLast with
        | none => { f with pjmpLast := some mean }
        | some l =>
          if x.sect.refs[r.val].pjmpNs * 1000 < (mean - l).natAbs then
            { f with pjmpLast := some mean, pjmpFail := true, pjmpGood := 0 }
          else
            { f with pjmpLast := some mean, pjmpGood := min (f.pjmpGood + 1) 10
                     pjmpFail := f.pjmpFail && decide (f.pjmpGood + 1 < 10) }
    else x)

/-- WAIT_TO_RESTORE_EXPIRY: a reference in WAIT becomes QUALIFIED (R62, R63). -/
def execWaitToRestoreExpiry (p : PlaneId) (r : Fin 4) (s : State) : Host.Outcome State Fault Refusal :=
  s.answer (s.hub.event p fun x =>
    if x.ref[r.val].state = .wait then
      let y := { x with ref := upd x.ref r fun f => { f with state := .qualified, everQual := true, wtr := 0 } }
      (y.raise 15).refsChanged p
    else x)

/-- REFERENCE_PRIORITY_WRITE (R66, R349). -/
def execReferencePriorityWrite (port : PortId) (p : PlaneId) (revert : Bool) (prio : Vector (BitVec 4) 4)
    (s : State) : Host.Outcome State Fault Refusal :=
  s.answer (s.hub.hostWrite port p 0x04 false false (s.hub.plane p).reloading
    fun h => h.onPlane p fun x => x.setPrio p revert prio)

/-- SELECTION_TICK (R66). -/
def execSelectionTick (p : PlaneId) (s : State) : Host.Outcome State Fault Refusal :=
  s.answer (s.hub.event p fun x => x.tick)

/-- A follower plane's switch-over is over once it is on REF3 again (R284). -/
def Hub.settleMove (h : Hub) (p : PlaneId) : Hub :=
  if h.following ∧ (h.plane p).sel.active = some 3 then { h with chim := { h.chim with moving := h.chim.moving.set p 0 } }
  else h

/-- SWITCH_COMMIT with the step measured over the 12,500 frames that end here (R73 to R79). -/
def execSwitchCommit (p : PlaneId) (step dfreq : Int) (s : State) : Host.Outcome State Fault Refusal :=
  s.answer ((s.hub.event p fun x => x.commitSwitch p step dfreq).settleMove p)

end Sys2Proof.Machine
end

