-- ==== Sys2Proof/WellFormed.lean ====
section
/-! DEFINITION. Which operands a command can carry beyond what their types say. -/

namespace Sys2Proof

/-- Sources that reach their collector as a pair of wires (R386). -/
def hasPair (src : Fin 224) : Bool :=
  if src.val < 192 then src.val % 64 ≤ 51 && !(src.val % 64 == 45) && !(src.val % 64 == 46)
  else !(src.val == 221) && !(src.val == 222)

/-- A comparator reading lies within ±1 ns, in units of 0.1 ps (R24); a crossing joins two planes (R229); a
marker lies between two reference edges (R103); a unit collector has 4 groups (R399); a pair event names a
source with a pair (R386); follower addresses have offsets 4 to 7 (R276); a transaction carries at least
one address (R318); a fetched record has at most 64 words (R368); a message type of a row of its own is
not a reserved one (R159); a scheduled word of a block holds a register (R325). -/
def Instr.wellFormed : Instr → Bool
  | .comparatorReading _ d => decide (-10000 ≤ d ∧ d ≤ 10000)
  | .crossPlaneCapture src dst _ _ => decide (src ≠ dst)
  | .collectorParityFault none g => decide (g.val < 4)
  | .pairBroken s => hasPair s
  | .pairWhole s => hasPair s
  | .followerAttentionReceived o _ => decide (4 ≤ o.val)
  | .transactionComplete _ tx => !tx.segs.isEmpty
  | .followerRecordFetch _ r => decide (r.words.length ≤ 64)
  | .tunnelWriteApply _ ⟨_, .record _ _ _ ws⟩ => decide (ws.length ≤ 64)
  | _ => true

end Sys2Proof
end

