-- ==== Sys2Proof/Machine/Faults.lean ====
section
/-! DEFINITION. Fault reaction, isolation, pair and parity faults, injection, and the FAULT and FINJ writes (chapter
*Fault collection and reaction*). -/

namespace Sys2Proof.Machine

/-- Change a plane source. -/
def Plane.modSrc (x : Plane) (n : Fin 64) (f : Src → Src) : Plane :=
  { x with flt := { x.flt with src := upd x.flt.src n f } }

/-- Change a unit source. -/
def Hub.modUSrc (h : Hub) (n : Fin 32) (f : Src → Src) : Hub := { h with usrc := upd h.usrc n f }

/-! ### Isolation -/

/-- Link l meets the condition of source 39, 40 or 41 (R392). -/
def Plane.linkMeets (x : Plane) (n : Fin 3) (l : Fin 32) : Bool :=
  if n = 0 then x.link[l.val].crcLive else if n = 1 then x.linkDown l else x.link[l.val].rtt.live

/-- Isolate every link that meets a link source's condition (R178, R392). -/
def Plane.isolateLinks (x : Plane) (n : Fin 3) : Plane :=
  { x with link := Vector.ofFn fun l =>
      let k := x.link[l.val]
      if x.linkMeets n l then { k with isol := true, isolBy := k.isolBy ||| (1#3 <<< n.val) } else k }

/-- Disable every trigger input that meets source 36's condition (R206, R392). -/
def Plane.disableInputs (x : Plane) : Plane :=
  { x with ti := x.ti.map fun (t : TrigIn) => { t with dis := t.dis || t.live } }

/-- Hold the references out that a source isolates, or REF3 outside a join, and let the others go (R64, R272). -/
def Plane.holdRefs (x : Plane) (p : PlaneId) : Plane :=
  let held := fun (i : Fin 4) => x.flt.src[i.val].react || (x.flt.src[(Fin.ofNat 64 (4 + i.val)).val]).react ||
    (i == 3 && x.sel.held3)
  { x with ref := Vector.ofFn fun i => { x.ref[i.val] with heldOut := held i } }.refsChanged p

/-- Isolate the element of a source that is not plane-wide (R392). -/
def Plane.isolateElement (x : Plane) (p : PlaneId) (n : Fin 64) : Plane :=
  if n.val < 8 then x.holdRefs p
  else if 16 ≤ n.val ∧ n.val < 36 then x.isolateOut (Fin.ofNat 20 (n.val - 16)) true
  else if n = 36 then x.disableInputs
  else if n = 39 then x.isolateLinks 0
  else if n = 40 then x.isolateLinks 1
  else if n = 41 then x.isolateLinks 2
  else x

/-- While an isolation of links or inputs is in force, every further element that meets its condition is isolated
(R392). -/
def Plane.isolateMore (x : Plane) : Plane :=
  let y := if x.flt.src[36].react then x.disableInputs else x
  let y := if x.flt.src[39].react then y.isolateLinks 0 else y
  let y := if x.flt.src[40].react then y.isolateLinks 1 else y
  if x.flt.src[41].react then y.isolateLinks 2 else y

/-- Lift a link source's isolation; a link another source isolates stays isolated. -/
def Plane.releaseLinks (x : Plane) (n : Fin 3) : Plane :=
  { x with link := x.link.map fun (k : Link) =>
      let by' := k.isolBy &&& ~~~(1#3 <<< n.val)
      { k with isolBy := by', isol := by' != 0 } }

/-! ### Reaction -/

/-- The speed commanded of all fans (R484): 100 % while a fan source is live, else 30 % in unit standby, else by the
internal temperature between 40 and 100 %. That a live fan source comes before standby is a DESIGN CHOICE (log entry 13). -/
def Hub.setFans (h : Hub) : Hub :=
  let pct :=
    if h.usrc[8].live || h.usrc[9].live || h.usrc[10].live || h.usrc[11].live then 100
    else if h.ustby then 30
    else max 40 (min 100 (Config.fanCurve h.env.tint))
  { h with env := { h.env with fanPct := pct } }

/-- Ember is forced, or no longer forced, as the sticky bits now say (R86, R392). -/
def Hub.reforce (h : Hub) (p : PlaneId) : Hub :=
  if h.forcing p then h.onPlaneFree p fun v x => x.forceEmber p v
  else h.onPlane p fun x => x.endForced p

/-- A unit source forces Ember in the plane from this boundary on, or does so no longer (R86, R489). -/
def Hub.takeForce (h : Hub) (p : PlaneId) (n : Fin 32) (on : Bool) : Hub :=
  (h.modPlane p fun x =>
    { x with flt := { x.flt with uforce := if on then x.flt.uforce ||| (1#32 <<< n.val) else x.flt.uforce &&& ~~~(1#32 <<< n.val) } }).reforce p

/-- A unit source forces Ember, or does so no longer: the planes whose word clock runs are handed it (R489). At one whose clock stands
no reaction is applied, and one that ends leaves nothing (R390, R457). -/
def Hub.handForce (h : Hub) (n : Fin 32) (on : Bool) : Hub :=
  PlaneId.all.foldl (fun (g : Hub) p =>
    if g.active p then g.handTo p (.force n on)
    else if on then g
    else g.modPlane p fun x => { x with flt := { x.flt with uforce := x.flt.uforce &&& ~~~(1#32 <<< n.val) } }) h

/-- The planes are handed what the unit's sources force otherwise than before (R489). -/
def Hub.handChanged (h : Hub) (before : BitVec 32) : Hub :=
  (List.finRange 32).foldl (fun (k : Hub) n =>
    if bitAt before n.val = k.unitForces n then k else k.handForce n (k.unitForces n)) h

/-- One plane source's reaction: the cause of NOTIFY and its isolation, unless that is in force (R388, R391, R393). -/
def Plane.reactTo (x : Plane) (p : PlaneId) (n : Fin 64) : Plane :=
  let s := x.flt.src[n.val]
  if !s.sticky then x
  else
    let y := if s.sev = .record then x else x.raise 12
    match s.sev with
    | .record => y
    | .notify => y
    | .isolate => if s.react then y else (y.modSrc n fun t => { t with react := true }).isolateElement p n
    | .safe => y.modSrc n fun t => { t with husk := true }

/-- A plane-local or unit source number whose reaction sends the plane into Husk (R391, R399). -/
def Hub.isSafe (h : Hub) (p : PlaneId) (n : Nat) : Bool :=
  if n < 64 then
    let s := (h.plane p).flt.src[(Fin.ofNat 64 n).val]
    s.sticky && s.sev == .safe
  else
    let s := h.usrc[(Fin.ofNat 32 (n - 192)).val]
    s.sticky && s.sev == .safe

/-- The lowest number of a list. -/
def lowest : List Nat → Option Nat
  | [] => none
  | n :: rest =>
    match lowest rest with
    | none => some n
    | some m => some (min n m)

/-- Group g of a plane collector fails its parity check in elapsed cycle `seen`: image severities, sticky bits set without firing,
source 46 (R399). -/
def Plane.parityFault (x : Plane) (g : Fin 8) (seen : Nat) : Plane :=
  let y := { x with flt := { x.flt with
    parity := x.flt.parity.filter fun e => e.1 != g
    src := Vector.ofFn fun n =>
      let s := x.flt.src[n.val]
      if n.val / 8 = g.val then { s with sticky := true, sev := if n.val = 46 then .safe else if 52 ≤ n.val then .record else x.sect.sev[n.val] }
      else s } }
  let y := y.setDetAt 46 true seen
  { y with flt := { y.flt with src := upd y.flt.src 46 (fun s => { s with ev := 1 }) } }

/-- The boundary that opened the present frame lies at least 4 cycles after elapsed cycle `seen` (R393). -/
def Plane.dueSince (x : Plane) (seen : Nat) : Bool := decide (seen + 4 ≤ x.time.clk - x.time.cyc)

/-- Every parity fault an injection left due (R393, R399, R401). -/
def Plane.parityFaults (x : Plane) : Plane :=
  let y := (x.flt.parity.filter fun e => x.dueSince e.2).foldl (fun (z : Plane) e => z.parityFault e.1 e.2) x
  { y with flt := { y.flt with parity := x.flt.parity.filter fun e => !x.dueSince e.2 } }

/-- Note in a unit source that its reaction is in force (R371). -/
def Hub.noteUnit (h : Hub) (n : Nat) : Hub :=
  let u := Fin.ofNat 32 (n - 192)
  let s := h.usrc[u.val]
  if !s.sticky then h
  else
    match s.sev with
    | .record => h
    | .notify => h
    | .isolate => h.modUSrc u fun t => { t with react := true }
    | .safe => h.modUSrc u fun t => { t with husk := true }

/-- The unit sources among the fired ones force Ember in the plane where they are to (R391, R393). -/
def Hub.unitReact (h : Hub) (p : PlaneId) (n : Nat) : Hub :=
  let u := Fin.ofNat 32 (n - 192)
  if h.unitForces u then h.modPlane p fun x => { x with flt := { x.flt with uforce := x.flt.uforce ||| (1#32 <<< u.val) } } else h

/-- The reactions due in a plane at one boundary, those whose sample lies at least 4 cycles before it: Husk first, with the
lowest-numbered SAFE source as its cause, then isolations and causes, then forced Ember (R88, R393, R395, R396, R399). -/
def Hub.react (h : Hub) (p : PlaneId) : Hub :=
  let parity := (h.plane p).flt.parity.any fun e => (h.plane p).dueSince e.2
  let h := h.modPlane p Plane.parityFaults
  let fired := ((h.plane p).flt.fired.filter fun e => (h.plane p).dueSince e.2).map (·.1)
  let h := h.modPlane p fun x => { x with flt := { x.flt with fired := x.flt.fired.filter fun e => !x.dueSince e.2 } }
  let h :=
    match lowest ((if parity then [46] else []) ++ fired.filter (h.isSafe p)) with
    | none => h
    | some n => h.onPlaneFree p fun v x => x.enterHusk p v n
  let h := h.onPlane p fun x =>
    (fired.filter fun n => decide (n < 64)).foldl (fun (z : Plane) n => z.reactTo p (Fin.ofNat 64 n)) x
  let units := fired.filter fun n => decide (192 ≤ n)
  let h := units.foldl (fun (g : Hub) n => g.unitReact p n) (units.foldl Hub.noteUnit h)
  if h.forcing p then h.reforce p else h

/-! ### Clearing -/

/-- The detector of a plane source begins again from nothing: counts, held verdicts and measurement windows
(R389). -/
def Plane.restartDetector (x : Plane) (n : Fin 64) : Plane :=
  if n = 9 then { x with loop := { x.loop with acqLate := false } }
  else if n = 10 then { x with vcobBad := false }
  else if n = 15 then { x with grid := { x.grid with badRun := 0, goodRun := 0, badLive := false } }
  else if n = 11 ∨ n = 43 ∨ n = 44 ∨ n = 47 then x.modSrc n fun s => { s with cond := false }
  else if 16 ≤ n.val ∧ n.val < 32 then
    { x with ck := upd x.ck (Fin.ofNat 16 (n.val - 16)) fun c => { c with verdict := .none, bad := 0, good := 0 } }
  else if 32 ≤ n.val ∧ n.val < 36 then
    { x with pu := upd x.pu (Fin.ofNat 4 (n.val - 32)) fun c => { c with verdict := .none, bad := 0, good := 0 } }
  else if n = 36 then
    { x with ti := x.ti.map fun (t : TrigIn) => t.rejudge x.time.clk }
  else if n = 39 then
    { x with link := x.link.map fun (k : Link) => { k with msErr := 0, crcGood := 0, crcLive := false } }
  else if n = 41 then
    { x with link := x.link.map fun (k : Link) => { k with rtt := { k.rtt with bad := 0, good := 0, live := false } } }
  else if n = 42 then { x with flt := { x.flt with ovTail := 0, ovNow := false } }
  else if n = 49 then { x with flt := { x.flt with bcTail := 0, bcNow := false } }
  else if n = 50 then { x with flt := { x.flt with msTail := 0, msNow := false } }
  else x

/-- Lift the isolation a plane source caused (R389, R392). -/
def Plane.liftElement (x : Plane) (p : PlaneId) (n : Fin 64) : Plane :=
  if n.val < 8 then x.holdRefs p
  else if 16 ≤ n.val ∧ n.val < 36 then x.isolateOut (Fin.ofNat 20 (n.val - 16)) false
  else if n = 36 then { x with ti := x.ti.map fun (t : TrigIn) => { t with dis := false } }
  else if n = 39 then x.releaseLinks 0
  else if n = 40 then x.releaseLinks 1
  else if n = 41 then x.releaseLinks 2
  else x

/-- The source has fired at the boundary that opened the present frame, so that a clear committed there leaves its bit set (R380,
R389). -/
def Plane.firedHere (x : Plane) (n : Fin 64) : Bool := x.time.cyc == 0 && x.flt.fired.contains (n.val, x.time.clk)

/-- Clear the sticky bit of a plane source (R389): isolation lifted, detector restarted, LIVE clear. A source that fires at the same
boundary keeps that firing (R380). -/
def Plane.clearSticky (x : Plane) (p : PlaneId) (n : Fin 64) : Plane :=
  if x.firedHere n then
    let y := x.modSrc n fun s => { s with react := false }
    { y with flt := { y.flt with fired := y.flt.fired.filter fun e => e.1 != n.val || e.2 == x.time.clk } }.liftElement p n
  else
    let y := (x.modSrc n fun s => { s with sticky := false, det := false, live := false, wire := false, react := false, ev := 0 }).setRun n none
    let y := { y with flt := { y.flt with fired := y.flt.fired.filter fun e => e.1 != n.val } }
    (y.liftElement p n).restartDetector n

/-- Comparator i compares plane p. -/
def comparesPlane (i : Fin 3) (p : PlaneId) : Bool := (cmpPlanes i).1 == p || (cmpPlanes i).2 == p

/-- The comparators of a plane count anew (R389). They are those of the other planes too: that source 14 of those planes is then
judged anew as well is a DESIGN CHOICE (log entry 98). -/
def Hub.restartComparators (h : Hub) (p : PlaneId) : Hub :=
  { h with cmp := Vector.ofFn fun i =>
      let c := h.cmp[i.val]
      if comparesPlane i p then { c with overRun := 0, clearRun := 0, exceed := false, beyond := false, inRun := 0 } else c }.judgeOutliers

/-- Clear the sticky bit of a plane source and end the forced Ember that no other bit holds. -/
def Hub.clearPlaneSticky (h : Hub) (p : PlaneId) (n : Fin 64) : Hub :=
  let here := (h.plane p).firedHere n
  let h := h.onPlane p fun x => x.clearSticky p n
  let h := if n = 14 ∧ here = false then h.restartComparators p else h
  if h.forcing p then h else h.reforce p

/-- One of a feed's four judgements begins again (R389): 0 absent, 1 reversed, 2 under-voltage, 3 over-voltage. -/
def Feed.restart (f : Feed) (k : Fin 4) : Feed :=
  if k = 0 then { f with absent := false, aRun := 0 } else if k = 1 then { f with reversed := false, rRun := 0 }
  else if k = 2 then { f with underV := false, uRun := 0 } else { f with overV := false, oRun := 0 }

/-- The detector of a unit source begins again from nothing (R389). -/
def Hub.restartUnitDetector (h : Hub) (n : Fin 32) : Hub :=
  if n.val < 8 then
    { h with env := { h.env with feed := upd h.env.feed (Fin.ofNat 2 n.val) (·.restart (Fin.ofNat 4 (n.val / 2))) } }
  else if n.val < 12 then { h with env := { h.env with fanOk := upd h.env.fanOk (Fin.ofNat 4 n.val) fun _ => true } }
  else if n = 12 then { h with env := { h.env with inletBad := false, rateBad := false } }
  else if n = 13 then { h with env := { h.env with intBad := false } }
  else if n = 31 then { h with env := { h.env with humBad := false, presBad := false } }
  else if 18 ≤ n.val ∧ n.val < 21 then h.modPort (Fin.ofNat 3 n.val) fun x => { x with sclStuck := false }
  else if 21 ≤ n.val ∧ n.val < 24 then h.modPort (Fin.ofNat 3 n.val) fun x => { x with sdaStuck := false }
  else h

/-- Clear the sticky bit of a unit source (R389): the planes are handed that it forces Ember no longer (R489), and the fans follow a
fan source that is live no longer (R484). -/
def Hub.clearUnitSticky (h : Hub) (n : Fin 32) : Hub :=
  let forced := h.unitForces n
  let h := h.modUSrc n fun s => { s with sticky := false, det := false, live := false, wire := false, react := false, ev := 0 }
  let h := (h.restartUnitDetector n).setFans
  if forced then h.handForce n false else h

/-! ### Severity -/

/-- The severity of these sources is fixed (R385). -/
def fixedSev (src : Fin 224) : Option Severity :=
  if src.val < 192 then
    if src.val % 64 = 46 then some .safe else if 52 ≤ src.val % 64 then some .record else none
  else if src.val = 222 then some .safe else none

/-- A SEV write asks for a severity the source cannot have (R385). -/
def sevRange (src : Fin 224) (sev : Severity) : Bool :=
  match fixedSev src with
  | some s => s != sev
  | none => false

/-- Commit a severity of a plane source (R394): a raise while STICKY is set applies its reaction now, and a forced Ember
that no sticky bit causes any more ends. -/
def Hub.setSev (h : Hub) (p : PlaneId) (n : Fin 64) (sev : Severity) : Hub :=
  let s := (h.plane p).flt.src[n.val]
  let h := h.modPlane p fun x => x.modSrc n fun t =>
    { t with sev := sev, react := t.react && (!planeWide n.val || sev == .isolate) }
  let raised := s.sticky && decide (sevCode s.sev < sevCode sev)
  let h :=
    if raised then
      let h := if sev = .safe then h.onPlaneFree p fun v x => x.enterHusk p v n.val else h
      h.onPlane p fun x => x.reactTo p n
    else h
  if h.forcing p && !(raised && sev == .isolate && planeWide n.val) then h else h.reforce p

/-- Commit a severity of a unit source (R394): what it changes in the planes is handed over to them (R489). -/
def Hub.setUSev (h : Hub) (n : Fin 32) (sev : Severity) : Hub :=
  let s := h.usrc[n.val]
  let forced := h.unitForces n
  let h := h.modUSrc n fun t => { t with sev := sev, react := t.react && (engineSource n || sev == .isolate) }
  let raised := s.sticky && decide (sevCode s.sev < sevCode sev)
  let h := if raised then h.ucause 0 else h
  let h := if forced && !h.unitForces n then h.handForce n false else h
  if raised && sev == .safe then (h.modUSrc n fun t => { t with husk := true }).handFire n.val
  else if raised && sev == .isolate then (h.modUSrc n fun t => { t with react := true }).handFire n.val
  else h

/-! ### Injection -/

/-- The injection running ends (R402): a pair it held broken reads valid samples from now on, and FINJ keeps what was last written
(R11). -/
def Plane.stopInject (x : Plane) : Plane := { x with flt := { x.flt with inj := { x.flt.inj with left := 0 } } }

/-- Why FINJ is out of range (R355, R402). -/
def injectRange (chk : BitVec 3) (double : Bool) (tgt : BitVec 6) : Bool :=
  decide (6 ≤ chk) || (double && chk != 3) ||
  (if chk = 2 then decide (32 ≤ tgt) else if chk = 3 then decide (4 ≤ tgt)
   else if chk = 5 then !decide (tgt ≤ 44 ∨ (47 ≤ tgt ∧ tgt ≤ 51)) else tgt != 0)

/-- Another plane runs a CHK 4 injection (R402). -/
def Hub.storeInjected (h : Hub) (p : PlaneId) : Bool :=
  PlaneId.all.any fun q => q != p && (h.plane q).flt.inj.chk == 4 && (h.plane q).flt.inj.left != 0

/-- Why FINJ is refused (R355, R402, R461): CHK 4 needs CONTROL for every plane, and STATE stands outside RUN. -/
def Hub.injectReason (h : Hub) (q : PortId) (p : PlaneId) (chk : BitVec 3) (double : Bool) (tgt : BitVec 6) : Reason :=
  let right := if chk = 4 then !h.controlsAll q else !h.controls q p
  firstReason right (h.foreign q p) (injectRange chk double tgt) false
    ((chk == 4 && h.storeInjected p) || !h.active p || (h.plane p).power != .run)

/-- FINJ takes effect: an injection of NCHK checks, or the end of the one running (R355, R400). -/
def Hub.injectEffect (h : Hub) (p : PlaneId) (chk : BitVec 3) (double : Bool) (tgt : BitVec 6) (nchk : BitVec 11) : Hub :=
  h.onPlane p fun x => { x with flt := { x.flt with inj := { chk := chk, dbl := double, tgt := tgt, left := nchk } } }

/-- Commit FINJ, its refusal recorded at an address. -/
def Hub.inject (h : Hub) (q : PortId) (p : PlaneId) (chk : BitVec 3) (double : Bool) (tgt : BitVec 6) (nchk : BitVec 11) :
    Hub :=
  h.judged q (h.addrOf q (offOf p)) 0x10 (h.injectReason q p chk double tgt) fun h => h.injectEffect p chk double tgt nchk

/-! ### Pairs -/

/-- Declare a plane source's pair broken or whole (R386, R387): an injection that holds the pair broken goes on doing so, and a
pair broken of itself stays broken at its end (R401). -/
def Plane.setWire (x : Plane) (n : Fin 64) (b : Bool) : Plane :=
  let r := x.flt.pairRun n
  let x := if b then x.setRun n (r.map fun r => { r with own := false }) else x
  (x.modSrc n fun s => { s with wire := b || r.any (·.run == 3) }).judgeSource n x.time.clk

/-- Declare a unit source's pair broken or whole (R386, R387). -/
def Hub.setUWire (h : Hub) (n : Fin 32) (b : Bool) : Hub :=
  let h := h.modUSrc n fun s => { s with wire := b }
  let h := h.setUDet n h.usrc[n.val].det
  (h.setUDet 29 (h.usrc.toList.any (·.wire))).setFans

/-- A pair of a plane's or the unit's collector changes. -/
def Hub.pairEvent (h : Hub) (src : Fin 224) (b : Bool) : Hub :=
  if !hasPair src then h
  else if src.val < 192 then
    h.event (PlaneId.ofIndex (src.val / 64)) fun x => x.setWire (Fin.ofNat 64 (src.val % 64)) b
  else if h.powered then h.setUWire (Fin.ofNat 32 (src.val - 192)) b
  else h

/-- The unit collector fails a parity check (R399): image severities, sticky bits set without firing, and source 222, whose firing
sends every plane into Husk once it has seen it (R489); the planes are handed what its sources now force. -/
def Hub.unitParity (h : Hub) (g : Fin 8) : Hub :=
  let before := h.unitForcing
  let h := { h with usrc := Vector.ofFn fun n =>
    let s := h.usrc[n.val]
    if n.val / 8 = g.val then { s with sticky := true, sev := if n.val = 30 then .safe else h.udecl.usev[n.val] } else s }
  (h.fireUEvent 30).handChanged before

/-! ### Husk -/

/-- HUSKCLR takes effect: the loop leaves HUSK and the Husk of every source ends (R398). -/
def Hub.clearHusk (h : Hub) (p : PlaneId) : Hub :=
  let h := h.onPlane p fun x =>
    { x with flt := { x.flt with src := x.flt.src.map fun (s : Src) => { s with husk := false } } }.leaveHusk p
  if PlaneId.all.any fun q => (h.plane q).inHusk then h
  else { h with usrc := h.usrc.map fun (s : Src) => { s with husk := false } }

/-! ### Meanings -/

/-- FAULT_REACTION (R393). -/
def execFaultReaction (p : PlaneId) (s : State) : Host.Outcome State Fault Refusal :=
  s.answer (s.hub.ifActive p fun h => h.react p)

/-- PAIR_BROKEN (R386, R387). -/
def execPairBroken (src : Fin 224) (s : State) : Host.Outcome State Fault Refusal :=
  s.answer (s.hub.pairEvent src true)

/-- PAIR_WHOLE (R386, R387). -/
def execPairWhole (src : Fin 224) (s : State) : Host.Outcome State Fault Refusal :=
  s.answer (s.hub.pairEvent src false)

/-- SHORT_BROKEN_RUN: ignored and counted per collector (R386). -/
def execShortBrokenRun (coll : Option PlaneId) (s : State) : Host.Outcome State Fault Refusal :=
  s.answer (match coll with
    | some p => s.hub.event p fun x => x.count 31
    | none => if s.hub.powered then { s.hub with ushort := s.hub.ushort.add 1 } else s.hub)

/-- COLLECTOR_PARITY_FAULT of a plane's collector, or of the unit's, whose groups are 0 to 3 (R399). -/
def execCollectorParityFault (coll : Option PlaneId) (g : Fin 8) (s : State) : Host.Outcome State Fault Refusal :=
  s.answer (match coll with
    | some p => s.hub.ifActive p fun h =>
        let h := h.onPlaneFree p fun v x =>
          let y := (x.parityFault g x.time.clk).enterHusk p v 46
          let y := { y with flt := { y.flt with fired := y.flt.fired.filter fun e => e.1 != 46 } }
          y.reactTo p 46
        if h.forcing p then h.reforce p else h
    | none => if s.hub.powered ∧ g.val < 4 then s.hub.unitParity g else s.hub)

/-- STICKY_CLEAR: not structural (R389, R397); a unit source needs CONTROL for every plane (R367). -/
def execStickyClear (port : PortId) (src : Fin 224) (s : State) : Host.Outcome State Fault Refusal :=
  s.answer (if src.val < 192 then
      let p := PlaneId.ofIndex (src.val / 64)
      s.hub.hostWrite port p 0x0E false false false fun h => h.clearPlaneSticky p (Fin.ofNat 64 (src.val % 64))
    else s.hub.unitWrite port 0x0E (s.hub.unitReason port false false false)
      fun h => h.clearUnitSticky (Fin.ofNat 32 (src.val - 192)))

/-- SEVERITY_WRITE (R385, R394). -/
def execSeverityWrite (port : PortId) (src : Fin 224) (sev : Severity) (s : State) :
    Host.Outcome State Fault Refusal :=
  s.answer (if src.val < 192 then
      let p := PlaneId.ofIndex (src.val / 64)
      s.hub.hostWrite port p 0x0E (sevRange src sev) false false fun h => h.setSev p (Fin.ofNat 64 (src.val % 64)) sev
    else s.hub.unitWrite port 0x0E (s.hub.unitReason port (sevRange src sev) false false)
      fun h => h.setUSev (Fin.ofNat 32 (src.val - 192)) sev)

/-- FAULT_INJECT_START (R400 to R402). -/
def execFaultInjectStart (port : PortId) (p : PlaneId) (chk : BitVec 3) (double : Bool) (tgt : BitVec 6)
    (nchk : BitVec 11) (s : State) : Host.Outcome State Fault Refusal :=
  s.answer (s.hub.inject port p chk double tgt nchk)

/-- FAULT_INJECT_STOP (R402). -/
def execFaultInjectStop (port : PortId) (p : PlaneId) (s : State) : Host.Outcome State Fault Refusal :=
  s.answer (s.hub.inject port p 0 false 0 0)

/-- OVEN_FAULT: the condition of source 11, armed once the oven has first settled or its gate has opened without it
(R382, R450). -/
def execOvenFault (p : PlaneId) (present : Bool) (s : State) : Host.Outcome State Fault Refusal :=
  s.answer (s.hub.event p fun x =>
    let b := present && x.oven.gate
    (x.modSrc 11 fun c => { c with cond := b }).setDet 11 b)

/-- PLANE_SUPPLY_FAULT: source 43 is live (R382). -/
def execPlaneSupplyFault (p : PlaneId) (s : State) : Host.Outcome State Fault Refusal :=
  s.answer (s.hub.event p fun x => (x.modSrc 43 fun c => { c with cond := true }).setDet 43 true)

/-- PLANE_SUPPLY_RESTORED: source 43 clears (R382). -/
def execPlaneSupplyRestored (p : PlaneId) (s : State) : Host.Outcome State Fault Refusal :=
  s.answer (s.hub.event p fun x => (x.modSrc 43 fun c => { c with cond := false }).setDet 43 false)

/-- HUSK_CLEAR: refused with STATE while a SAFE sticky bit stands (R398). In no Husk it has nothing to leave. -/
def execHuskClear (port : PortId) (p : PlaneId) (s : State) : Host.Outcome State Fault Refusal :=
  s.answer (s.hub.hostWrite port p 0x03 false false (!(s.hub.huskMayClear p)) fun h => h.clearHusk p)

/-- CONFIG_CRC_CHECK: a mismatch makes source 47 live until the next reload of the plane (R297). -/
def execConfigCrcCheck (p : PlaneId) (matching : Bool) (s : State) : Host.Outcome State Fault Refusal :=
  s.answer (s.hub.event p fun x =>
    if matching then x else (x.modSrc 47 fun c => { c with cond := true }).setDet 47 true)

end Sys2Proof.Machine
end

