-- ==== Sys2Proof/Machine/Sha256.lean ====
section
/-! DEFINITION. SHA-256, which the spec names without restating it (R291, R292, R421, R443): the algorithm is that of
FIPS 180-4 (PRESUMED, assumption 30). -/

namespace Sys2Proof.Machine

/-- The round constants of SHA-256. -/
def shaK : List Word :=
    [0x428a2f98, 0x71374491, 0xb5c0fbcf, 0xe9b5dba5, 0x3956c25b, 0x59f111f1, 0x923f82a4, 0xab1c5ed5]
    ++ [0xd807aa98, 0x12835b01, 0x243185be, 0x550c7dc3, 0x72be5d74, 0x80deb1fe, 0x9bdc06a7, 0xc19bf174]
    ++ [0xe49b69c1, 0xefbe4786, 0x0fc19dc6, 0x240ca1cc, 0x2de92c6f, 0x4a7484aa, 0x5cb0a9dc, 0x76f988da]
    ++ [0x983e5152, 0xa831c66d, 0xb00327c8, 0xbf597fc7, 0xc6e00bf3, 0xd5a79147, 0x06ca6351, 0x14292967]
    ++ [0x27b70a85, 0x2e1b2138, 0x4d2c6dfc, 0x53380d13, 0x650a7354, 0x766a0abb, 0x81c2c92e, 0x92722c85]
    ++ [0xa2bfe8a1, 0xa81a664b, 0xc24b8b70, 0xc76c51a3, 0xd192e819, 0xd6990624, 0xf40e3585, 0x106aa070]
    ++ [0x19a4c116, 0x1e376c08, 0x2748774c, 0x34b0bcb5, 0x391c0cb3, 0x4ed8aa4a, 0x5b9cca4f, 0x682e6ff3]
    ++ [0x748f82ee, 0x78a5636f, 0x84c87814, 0x8cc70208, 0x90befffa, 0xa4506ceb, 0xbef9a3f7, 0xc67178f2]

/-- The initial hash value of SHA-256. -/
def shaInit : List Word := [0x6a09e667, 0xbb67ae85, 0x3c6ef372, 0xa54ff53a, 0x510e527f, 0x9b05688c, 0x1f83d9ab, 0x5be0cd19]

/-- The message schedule, newest word first, extended by one word. -/
def shaExtend (w : List Word) : List Word :=
  let a := w.getD 1 0
  let b := w.getD 14 0
  let s1 := a.rotateRight 17 ^^^ a.rotateRight 19 ^^^ (a >>> 10)
  let s0 := b.rotateRight 7 ^^^ b.rotateRight 18 ^^^ (b >>> 3)
  (s1 + w.getD 6 0 + s0 + w.getD 15 0) :: w

/-- The schedule of a block, oldest word first. -/
def shaSchedule : Nat → List Word → List Word
  | 0, w => w.reverse
  | n + 1, w => shaSchedule n (shaExtend w)

/-- One round with its constant and schedule word, on the eight working variables. -/
def shaRound (v : List Word) (kw : Word × Word) : List Word :=
  match v with
  | [a, b, c, d, e, f, g, h] =>
    let t1 := h + (e.rotateRight 6 ^^^ e.rotateRight 11 ^^^ e.rotateRight 25) + ((e &&& f) ^^^ (~~~e &&& g)) + kw.1 + kw.2
    let t2 := (a.rotateRight 2 ^^^ a.rotateRight 13 ^^^ a.rotateRight 22) + ((a &&& b) ^^^ (a &&& c) ^^^ (b &&& c))
    [t1 + t2, a, b, c, d + t1, e, f, g]
  | other => other

/-- Take one block of 16 words into the hash value. -/
def shaBlock (hash block : List Word) : List Word :=
  let w := shaSchedule 48 block.reverse
  List.zipWith (· + ·) hash ((shaK.zip w).foldl shaRound hash)

/-- Take the blocks of a word list, 16 words each; `fuel` bounds their number. -/
def shaBlocks : Nat → List Word → List Word → List Word
  | 0, hash, _ => hash
  | n + 1, hash, ws => if ws.isEmpty then hash else shaBlocks n (shaBlock hash (ws.take 16)) (ws.drop 16)

/-- The padded message: a 1 bit, zeros, and the length in bits. -/
def shaPad (msg : List Byte) : List Byte :=
  let zeros := (119 - msg.length % 64) % 64
  let len := 8 * msg.length
  msg ++ [0x80] ++ List.replicate zeros 0 ++ (List.range 8).map fun i => BitVec.ofNat 8 (len / 256 ^ (7 - i))

/-- SHA-256 of a byte sequence. -/
def sha256 (msg : List Byte) : BitVec 256 :=
  let ws := (wordsOf (shaPad msg)).1
  BitVec.ofNat 256 ((shaBlocks (ws.length / 16) shaInit ws).foldl (fun n w => n * 2 ^ 32 + w.toNat) 0)

/-- The 32 bytes of a digest, most significant first. -/
def digestBytes (d : BitVec 256) : List Byte := (List.range 32).map fun i => BitVec.ofNat 8 (d.toNat / 256 ^ (31 - i))

end Sys2Proof.Machine
end

