-- ==== Sys2Proof/Machine/Snapshots.lean ====
section
/-! DEFINITION. The global snapshot (R407, R412 to R416) and what an attestation latches at its capture (R444). A plane is
captured as its last frame ended, so that what happens at a boundary is outside the capture. -/

namespace Sys2Proof.Machine

/-! ### The counters by number -/

/-- The counters of three planes, the Chimney queues and the unit, by their numbers (R407). -/
def counterList (planes : Tri Plane) (outs ins : Vector Counter 16) (units : Vector Counter 32) : List Counter :=
  let xs := PlaneId.all.map planes.get
  (xs.flatMap fun (x : Plane) => x.link.toList.flatMap fun (k : Link) => k.cnt.toList) ++
  (xs.flatMap fun (x : Plane) => x.link.toList.flatMap fun (k : Link) => [k.dqCmd.occ, k.dqBulk.occ, k.uqStat.occ, k.uqBulk.occ]) ++
  (xs.flatMap fun (x : Plane) => x.gq.toList.map fun (g : GQueue) => g.occ) ++
  outs.toList ++ ins.toList ++ (xs.flatMap fun (x : Plane) => x.cnt.toList) ++ units.toList

/-- The occupancy counters of the Chimney queues. -/
def Chimney.occOut (c : Chimney) : Vector Counter 16 := c.out.map fun (t : Queue) => t.occ
def Chimney.occIn (c : Chimney) : Vector Counter 16 := c.inq.map fun (t : Queue) => t.occ

/-- Every counter of the unit by its number (R407). -/
def Hub.allCounters (h : Hub) : List Counter := counterList h.planes h.chim.occOut h.chim.occIn h.ucnt

/-! ### Overflow bits -/

/-- A counter after its overflow bit has been cleared: a bit that was set at the capture clears, unless the counter has wrapped since,
its count then below the captured one (R405, R413, R417). -/
def Counter.clearOvf (c cap : Counter) : Counter := { c with ovf := c.ovf && (!cap.ovf || decide (c.count.toNat < cap.count.toNat)) }

/-- A queue of a link or the Chimney likewise. -/
def Queue.clearOvf (t : Queue) (cap : Counter) : Queue := { t with occ := t.occ.clearOvf cap }

/-- A link likewise. -/
def Link.clearOvf (k cap : Link) : Link :=
  { k with cnt := Vector.ofFn fun i => (k.cnt[i.val]).clearOvf cap.cnt[i.val]
           dqCmd := k.dqCmd.clearOvf cap.dqCmd.occ, dqBulk := k.dqBulk.clearOvf cap.dqBulk.occ
           uqStat := k.uqStat.clearOvf cap.uqStat.occ, uqBulk := k.uqBulk.clearOvf cap.uqBulk.occ }

/-- A plane likewise. -/
def Plane.clearOvf (x cap : Plane) : Plane :=
  { x with cnt := Vector.ofFn fun i => (x.cnt[i.val]).clearOvf cap.cnt[i.val]
           link := Vector.ofFn fun l => (x.link[l.val]).clearOvf cap.link[l.val]
           gq := Vector.ofFn fun g => { x.gq[g.val] with occ := (x.gq[g.val].occ).clearOvf cap.gq[g.val].occ } }

/-- Every overflow bit of a finished capture clears (R361, R413). -/
def Hub.clearOvf (h : Hub) : Hub :=
  let s := h.snap
  { h with
    planes := ⟨h.planes.a.clearOvf s.part.a, h.planes.b.clearOvf s.part.b, h.planes.c.clearOvf s.part.c⟩
    ucnt := Vector.ofFn fun i => (h.ucnt[i.val]).clearOvf s.units[i.val]
    chim := { h.chim with
      out := Vector.ofFn fun i => (h.chim.out[i.val]).clearOvf s.outs[i.val]
      inq := Vector.ofFn fun i => (h.chim.inq[i.val]).clearOvf s.ins[i.val] } }

/-! ### The request -/

/-- The unit belongs to a joined pair. -/
def Hub.joined (h : Hub) : Bool := h.chim.role != .solo

/-- Source 51 of every plane of the unit: a Chimney queue overflowed, counted in unit counter 30 (R279, R411). -/
def Hub.chimneyOverflow (h : Hub) : Hub :=
  PlaneId.all.foldl (fun (g : Hub) p => g.event p fun x => x.setDet 51 true) (h.ucount 30)

/-- A message enters outbound Chimney queue 480 + i, or is discarded there (R200, R279). -/
def Hub.chimneyPush (h : Hub) (i : Fin 16) (e : QEntry) : Hub :=
  let full := h.chim.out[i.val].isFull
  let h := { h with chim := { h.chim with out := upd h.chim.out i (·.push e) } }
  if full then h.chimneyOverflow else h

/-- A leader's scheduled action enters queue 483: 0 a SCHED commit, 1 a snapshot, 2 a REALIGN, 3 a join, 4 a leave (R279). -/
def Hub.laneAction (h : Hub) (type : Byte) : Hub :=
  if h.udecl.role = .leader then h.chimneyPush 3 { type := type, payload := 0 } else h

/-- The reference plane of a snapshot: the lowest-lettered running one, and leader plane A while joined, which is none of a
follower's (R412, R414). -/
def Hub.snapPlane (h : Hub) : Option PlaneId :=
  match h.chim.role with
  | .leader => some .a
  | .follower => none
  | .solo => h.refPlane

/-- A snapshot is requested, `ago` cycles before; one pending takes the request in (R380, R412). The request is handed over to the
planes whose clock runs; while joined the pair's boundary is counted in the leader from the commit, and a follower learns of it over
lane 3 (R414, R489). -/
def Hub.requestSince (h : Hub) (ovfclr : Bool) (ago : Nat) : Hub :=
  let s := h.snap
  if s.pending then { h with snap := { s with ovfclr := s.ovfclr || ovfclr } }
  else
    let seen : Tri (Option Nat) := if h.joined then h.planes.map fun (x : Plane) => some (x.time.clk - ago) else Tri.same none
    let h := { h with snap := { s with
      pending := true, ovfclr := ovfclr, seen := seen, tag := none, waits := Tri.same false, far := none } }
    if h.joined then h.laneAction 1
    else PlaneId.all.foldl (fun (g : Hub) p =>
      if g.active p then { g with hand := g.hand.set p (g.hand.get p ++ [Hand.snapshot]) } else g) h

/-- A snapshot is requested now. -/
def Hub.requestSnapshot (h : Hub) (ovfclr : Bool) : Hub := h.requestSince ovfclr 0

/-- The boundary at which the reference plane stands is the snapshot's: the first one at least 4 cycles after the request was
seen there, or at least 16 frames after its commit while joined (R412, R414). -/
def Hub.snapDue (h : Hub) (p : PlaneId) : Bool :=
  let t := (h.plane p).time
  match h.snap.seen.get p with
  | none => false
  | some c => decide (c + (if h.joined then 640 else 4) ≤ t.clk - t.cyc)

/-! ### The capture -/

/-- The running digest: that of the four sections in force (R291). With no image applied the spec states none. -/
def Hub.runningDigest (h : Hub) : BitVec 256 :=
  if h.cfg.applied then
    sha256 (digestBytes h.udig ++ digestBytes h.planes.a.sdig ++ digestBytes h.planes.b.sdig ++ digestBytes h.planes.c.sdig)
  else Config.bareDigest

/-- An attestation that waits for the capture latches the running digest (R444). -/
def Hub.latchDigest (h : Hub) : Hub :=
  if h.auth.busy && h.auth.waiting then
    let d := h.runningDigest
    let t := h.snap
    { h with auth := { h.auth with waiting := false, capDig := d, capSec := t.sec, capLow := t.low, capPst := t.pstate } }
  else h

/-- The planes as their last frames ended; one whose word clock stands holds its values (R413). -/
def Hub.frozen (h : Hub) (p : PlaneId) : Plane := if h.active p then h.last.get p else h.plane p

/-- PSTATE of a plane as captured: that of its last frame's end, or the last one published while its word clock stands
(R413). -/
def Hub.capturedPstate (h : Hub) (p : PlaneId) : Word :=
  if h.active p then { h with planes := h.last }.regPstate p else (h.plane p).bank.regs[1]

/-- A plane is captured (R413). -/
def Hub.capturePlane (h : Hub) (p : PlaneId) : Hub :=
  { h with snap := { h.snap with
      part := h.snap.part.set p (h.frozen p), waits := h.snap.waits.set p false
      spst := h.snap.spst.set p (h.capturedPstate p) } }

/-- The six captured PSTATE words: those of D to F are what the follower of a joined leader captured, and are 0 otherwise
(R445). -/
def Hub.capturedAll (h : Hub) : Vector Word 6 :=
  let s := h.snap.spst
  let d := h.snap.far.getD (Tri.same 0)
  ⟨#[s.a, s.b, s.c, d.a, d.b, d.c], rfl⟩

/-- The capture is complete when no running plane still waits for its boundary (R413), and a joined leader has what its follower
captured (R445): a plane whose clock has stopped meanwhile supplies what it holds. -/
def Hub.finishSnapshot (h : Hub) : Hub :=
  match h.snap.tag with
  | none => h
  | some (sec, low) =>
    if (PlaneId.all.any fun p => h.snap.waits.get p && h.active p) || (h.chim.role == .leader && h.snap.far.isNone) then h
    else
      let h := PlaneId.all.foldl (fun (g : Hub) p => if g.snap.waits.get p then g.capturePlane p else g) h
      let clr := h.snap.ovfclr
      let h := { h with snap := { h.snap with
        pending := false, ovfclr := false, valid := true, sec := sec, low := low, tag := none
        counts := counterList h.snap.part h.snap.outs h.snap.ins h.snap.units, pstate := h.capturedAll } }
      ((if clr then h.clearOvf else h).latchDigest).ucause 4

/-- The snapshot boundary with a tag: the unit's and the Chimney's counters are captured with the planes that stand at the boundary,
as `here` says, and with every plane whose clock stands; the others wait for their own boundary (R412, R413). -/
def Hub.captureWith (h : Hub) (sec low : Word) (here : PlaneId → Bool) : Hub :=
  let now := fun (q : PlaneId) => !h.active q || here q
  let h := { h with snap := { h.snap with
    tag := some (sec, low), units := h.ucnt, outs := h.chim.occOut, ins := h.chim.occIn
    waits := ⟨!now .a, !now .b, !now .c⟩ } }
  (PlaneId.all.foldl (fun (g : Hub) q => if now q then g.capturePlane q else g) h).finishSnapshot

/-- The snapshot boundary of reference plane p: a plane of its coherent group stands at the same boundary with the same tag
(R412). -/
def Hub.captureAt (h : Hub) (p : PlaneId) : Hub :=
  let t := (h.plane p).time
  h.captureWith t.sec (tagLow t.frame 0) fun q =>
    let u := (h.plane q).time
    u.sec == t.sec && u.frame == t.frame && u.cyc == t.cyc && (q == p || (h.inGroup p && h.inGroup q))

/-- The pair's snapshot in a joined follower: its planes capture at the boundary with the leader's tag (R414). -/
def Hub.farSnapshot (h : Hub) (ovfclr : Bool) (sec : Word) (frame : Nat) : Hub :=
  let h := { h with snap := { h.snap with pending := true, ovfclr := h.snap.ovfclr || ovfclr } }
  h.captureWith sec (tagLow frame 0) fun q => (h.plane q).time.sec == sec && (h.plane q).time.frame == frame

/-- The pending snapshot is captured at its boundary (R413). -/
def Hub.takeSnapshot (h : Hub) : Hub :=
  match h.snapPlane with
  | none => h
  | some p => if h.snap.pending && h.snap.tag.isNone then h.captureAt p else h

/-- The boundary that closes a plane's present frame carries the snapshot's tag, or a later one. -/
def Hub.tagReached (h : Hub) (p : PlaneId) : Bool :=
  match h.snap.tag with
  | none => false
  | some (sec, low) =>
    let t := (h.plane p).time
    decide (sec.toNat * Config.framesPerSec + bits low 31 8 ≤ t.sec.toNat * Config.framesPerSec + t.frame + 1)

/-- A frame of a plane ends: the plane stands as snapshots capture it, and one that waited for this boundary is captured; a joined
follower's waits for the boundary with the tag (R412 to R414). -/
def Hub.endFrame (h : Hub) (p : PlaneId) : Hub :=
  let h := { h with last := h.last.set p (h.plane p) }
  if h.snap.waits.get p && (h.chim.role != .follower || h.tagReached p) then (h.capturePlane p).finishSnapshot else h

end Sys2Proof.Machine
end

