-- ==== Sys2Proof/Machine/Boundaries.lean ====
section
/-! DEFINITION. The grid's instants: frame boundary, PPS, group boundary, millisecond and housekeeping tick, with the
comparators and the crossings between domains (R24 to R42, R155, R167, R381, R489). -/

namespace Sys2Proof.Machine

/-! ### A frame -/

/-- The event sources of a plane stop being live (R384). -/
def Plane.endEvents (x : Plane) : Plane :=
  (List.finRange 64).foldl (fun (z : Plane) n =>
    if z.flt.src[n.val].ev = 0 then z else (z.modSrc n fun s => { s with ev := 0 }).setDet n false) x

/-- The DAMPER bits of a lane-3 slot 0: bit i holds the partner's outbound queue while inbound queue 496 + i holds 4 entries or more
(R279). -/
def Chimney.damper (c : Chimney) : BitVec 16 :=
  BitVec.ofNat 16 ((List.finRange 16).map fun i => if 4 ≤ c.inq[i.val].q.length then 2 ^ i.val else 0).sum

/-- The partner's DAMPER bits in force on a port at elapsed cycle clk of plane A (R193, R279). -/
def Chimney.damperAt (c : Chimney) (ch : Fin 2) (clk : Nat) : BitVec 16 :=
  match c.dampPend[ch.val] with
  | some (d, n) => if n ≤ clk then d else c.damped[ch.val]
  | none => c.damped[ch.val]

/-- A lane-3 slot 0 has come, or has failed or is missing: its bits are in force 10 cycles later, and all are set at once without
it (R191, R193, R279). -/
def Chimney.hear (c : Chimney) (ch : Fin 2) (clk : Nat) (bits : Option (BitVec 16)) : Chimney :=
  match bits with
  | none => { c with damped := upd c.damped ch fun _ => 0xFFFF, dampPend := upd c.dampPend ch fun _ => none }
  | some d =>
    { c with damped := upd c.damped ch fun _ => c.damperAt ch clk, dampPend := upd c.dampPend ch fun _ => some (d, clk + 10) }

/-- An outbound queue is held in the slot that begins at elapsed cycle clk: by the partner's bit, or with the active port not UP,
where the bits are taken as all set (R191, R279). -/
def Chimney.holds (c : Chimney) (i : Fin 16) (clk : Nat) : Bool :=
  c.st[c.active.val] != .up || bitAt (c.damperAt c.active clk) i.val

/-- One lane-3 traffic slot that begins at elapsed cycle clk of plane A offered to outbound queue 480 + i: at most 4 messages leave a queue
in an interval. A leader's tunnel request stays until it is acknowledged; every other entry leaves its queue (R278, R279). -/
def Chimney.sendOne (c : Chimney) (span clk : Nat) (i : Fin 16) : Chimney :=
  let sends := c.sends.filter fun e => decide (clk < e.2 + span)
  let request := c.role == .leader && decide (i.val < 3)
  let done := if request then c.outSent.toList.getD i.val 0 else 0
  if c.holds i clk || decide (4 ≤ (sends.filter fun e => e.1 == i).length) || decide (c.out[i.val].q.length ≤ done) then c
  else if request then { c with sends := sends ++ [(i, clk)], outSent := upd c.outSent (Fin.ofNat 3 i.val) (· + 1) }
  else { c with sends := sends ++ [(i, clk)], out := upd c.out i Queue.pop }

/-- The seven lane-3 traffic slots of a frame that ends at elapsed cycle clk, which queues 480 to 483 take in turn (R266, R279; their
order is a DESIGN CHOICE, log entry 74). -/
def Chimney.drain (c : Chimney) (dch : Nat) (clk : Nat) : Chimney :=
  let span := (2 * dch + Config.turnCh) / 2000 + 100
  ([(0, 35), (1, 30), (2, 25), (3, 20), (0, 15), (1, 10), (2, 5)] : List (Fin 16 × Nat)).foldl
    (fun (c : Chimney) e => c.sendOne span (clk - e.2) e.1) c

/-- The Chimney's part of a frame of plane A, whose lane 3 it is timed by: its queues are sent from while the units are joined or
being joined, and the bits of its next slot 0 are evaluated (R192, R273, R279). -/
def Hub.drainLane3 (h : Hub) (p : PlaneId) : Hub :=
  if p ≠ .a then h
  else
    let c := if h.chim.role = .solo ∧ h.chim.joinPend = false then h.chim
      else h.chim.drain h.udecl.dch[h.chim.active.val] (h.plane p).time.clk
    { h with chim := { c with slot0 := c.damper } }

/-- The frame in progress ends: what cycle 0 leaves behind is gathered, its cycles pass, fine moves and the slew have
advanced through it, and the automatic Damper is evaluated in the last of them (R36, R92, R124, R192); a snapshot captures the plane as it then stands
(R413). -/
def Hub.closeFrame (h : Hub) (p : PlaneId) : Hub :=
  ((h.leaveZero p).modPlane p fun x => (x.elapse (40 - x.time.cyc)).fineMoves.slewFrame.evalDamper).endFrame p |>.drainLane3 p |>.modPlane p
    fun x => { x with time := { x.time with frames := x.time.frames + 1 }, phistNow := 0 }

/-- A pending switch is one frame nearer its commit (R73). -/
def Plane.countSwitch (x : Plane) : Plane :=
  { x with sel := { x.sel with sw := x.sel.sw.map fun (s : Switch) => { s with left := s.left - 1 } } }

/-- What a frame boundary does to the references and the loop: an active reference that stopped serving in the frame before
leaves the loop; then what is judged at this boundary (`judge`) and REF3's HQL, the pending switch, which is one frame nearer
its commit, and the resumption of SOFT (R58, R67, R74, R75, R88); v is the loop output. -/
def Plane.openLoop (x : Plane) (p : PlaneId) (hql : Nat) (v : Int) (judge : Plane → Plane) : Plane :=
  let y := (judge (x.countSwitch.dropActive p v)).followCross p hql
  ((y.refsChanged p).resumeSoft p).noteRealign

/-- Two planes' time counters hold the same value (R24). -/
def sameTime (a b : Time) : Bool := a.sec == b.sec && a.frame == b.frame && a.cyc == b.cyc

/-- A comparator checks two time counters once per frame, when the later-lettered plane of its pair has opened it
(R24). -/
def Hub.checkCounters (h : Hub) (p : PlaneId) : Hub :=
  { h with cmp := Vector.ofFn fun i =>
      let c := h.cmp[i.val]
      let q := cmpPlanes i
      let later : PlaneId := if i = 0 then .b else .c
      if later = p ∧ h.compares i = true then
        { c with frameMis := c.frameMis || !sameTime (h.plane q.1).time (h.plane q.2).time }
      else c }

/-- A frame opens with the time counter already set: bank published, event sources ended, references with what is judged at
this boundary, loop, links and slot 0 (R36). -/
def Hub.openFrame (h : Hub) (p : PlaneId) (judge : Plane → Plane) : Hub :=
  let hql := h.crossHql p
  let h := h.modPlane p fun x => { x with bank := x.fill }
  let h := h.onPlaneFree p fun v x => ((x.endEvents.openLoop p hql v judge).applyPending).isolateMore
  let h := h.checkCounters p
  h.modPlane p fun x => x.sendSlot0 (h.linkBase p)

/-! ### A second -/

/-- The count of VCO-B periods over a second (R35, R114). -/
def Plane.countVcob (x : Plane) (n : Nat) : Plane :=
  let d : Int := (n : Int) - x.sect.fB
  { x with vcobDif := d, vcobBad := d != 0 }.setDet 10 (x.vcobOut || d != 0)

/-- A generator that waited for the first PPS after a reload starts with this one as ORG (R264). -/
def Plane.startWaiting (x : Plane) : Plane :=
  { x with gen := x.gen.map fun (g : Gen) => if g.off then g.restart x.time.now else g }

/-- A second opens: what a PPS does whatever was measured over the second (R36, R95, R106, R119, R226, R264). -/
def Plane.openSecond (x : Plane) (v : Int) : Plane :=
  let y := ((x.loopSecond v).releaseEarly.rateInterval true).startWaiting
  { y with grid := { y.grid with dAge := min (y.grid.dAge + 1) 65535 } }

/-- The time counter moves on to the next second, or frame. -/
def Time.nextSecond (t : Time) : Time := { t with sec := t.sec + 1, frame := 0, cyc := 0 }
def Time.nextFrame (t : Time) : Time := { t with frame := t.frame + 1, cyc := 0 }

/-- A PPS: the time counter, the frame it opens, and the second it ends, with what was measured over it (R36, R70,
R114). -/
def Hub.ppsStep (h : Hub) (p : PlaneId) (m : Option PpsMeas) : Hub :=
  let h := (h.closeFrame p).modPlane p fun x => { x with time := x.time.nextSecond }
  let h := h.onPlaneFree p fun v x => x.openSecond v
  h.openFrame p fun x =>
    match m with
    | none => x
    | some m => (x.refSecond p m.freq).countVcob m.vcob

/-- A frame boundary: the boundary after frame 12,499,999 is a PPS (R36). -/
def Hub.frameStep (h : Hub) (p : PlaneId) : Hub :=
  if (h.plane p).time.frame + 1 < Config.framesPerSec then
    ((h.closeFrame p).modPlane p fun x => { x with time := x.time.nextFrame }).openFrame p id
  else h.ppsStep p none

/-! ### A group -/

/-- A group boundary: scheduled link values and training holds (R155, R157, R166, R261 to R263). -/
def Plane.groupStep (x : Plane) : Plane :=
  let y := { x with link := x.link.map fun (k : Link) => k.groupD (x.time.frame % 12500 != 0) }.turnSched
  let y := { y with link := Vector.ofFn fun l => y.link[l.val].remember x.link[l.val] x.time.clk }
  let z := (List.finRange 32).foldl (fun (z : Plane) g => z.holdBoundary g) { y with grpAt := y.time.frames }
  if x.covered && !z.covered then { z with heldTo := some z.time.frames } else z

/-- What the leader sees of a follower plane after a switch-over: its loop has held, then its switch has committed
(R284, R285). -/
def moveSeen (b : Bank) (n : Nat) : Nat :=
  let actv := bitAt b.regs[1] 24
  if n = 1 then (if actv then 1 else 2) else if n = 2 then (if actv && bits b.regs[1] 23 22 == 3 then 0 else 2) else n

/-- The mirror takes the partner's bank of a plane and its unit registers, while a Chimney port is UP (R58, R272, R277). A joined
leader sees in it whether a hold covers the follower plane (R346, R461). -/
def Hub.takeMirror (h : Hub) (p : PlaneId) (b : Option PartnerBank) : Hub :=
  match b with
  | none => h
  | some b =>
    if h.chim.st[0] = .up ∨ h.chim.st[1] = .up then
      let m := if h.chim.role = .leader then h.chim.moving.set p (moveSeen b.bank (h.chim.moving.get p)) else h.chim.moving
      let h := { h with chim := { h.chim with mirror := h.chim.mirror.set p b.bank, mirrorU := b.unit, moving := m } }
      if h.chim.role = .leader then h.modPlane p fun x => { x with grid := { x.grid with farHold := bitAt b.bank.regs[1] 8 } }
      else h
    else h

/-! ### A millisecond -/

/-- The milliseconds a source of the kind of 42, 49 and 50 stays live: four from one in which its cause occurred (R200,
R247, R258). -/
def tailStep (now : Bool) (tail : Nat) : Nat := if now then 4 else tail - 1

/-- Judge sources 42, 49 and 50 at a millisecond. -/
def Plane.tails (x : Plane) : Plane :=
  let f := x.flt
  let y := { x with flt := { f with
    ovTail := tailStep f.ovNow f.ovTail, bcTail := tailStep f.bcNow f.bcTail, msTail := tailStep f.msNow f.msTail
    ovNow := false, bcNow := false, msNow := false } }
  let y := y.setDet 42 (decide (0 < y.flt.ovTail))
  let y := y.setDet 49 (decide (0 < y.flt.bcTail))
  y.setDet 50 (decide (0 < y.flt.msTail))

/-- A plane's millisecond (R84, R137, R167, R179, R205, R226). -/
def Plane.msStep (x : Plane) (m : MsMeas) : Plane :=
  let y := ((((x.phaseMs m.phase).senseAll m.term).linksMs m.rtt).tiMs m.ti).rateInterval false
  let y := { y with esmc := { y.esmc with ms := min (y.esmc.ms + 1) 6300 } }
  y.tails

/-- A Chimney port's round-trip reading (R268). -/
def Chimney.reading (c : Chimney) (tol dch : Nat) (ch : Fin 2) (v : Int) : Chimney × Bool :=
  let e := v - (2 * dch + Config.turnCh : Nat)
  let beyond := decide (tol < e.natAbs)
  let bad := if beyond then min (c.exBad[ch.val] + 1) 3 else 0
  let good := if beyond then 0 else min (c.exGood[ch.val] + 1) 3
  ({ c with
      exBad := upd c.exBad ch fun _ => bad
      exGood := upd c.exGood ch fun _ => good
      ex := upd c.ex ch fun b => if 3 ≤ bad then true else if 3 ≤ good then false else b
      ech := if ch = c.active then e else c.ech }, beyond)

/-- The leader's reading of one Chimney port at a millisecond (R268). -/
def Hub.chimneyReading (h : Hub) (ch : Fin 2) (r : Option Int) : Hub :=
  match r with
  | none => h
  | some v =>
    if h.udecl.role = .leader ∧ h.chim.st[ch.val] = .up then
      let q := h.chim.reading h.udecl.chtol h.udecl.dch[ch.val] ch v
      let h := { h with chim := q.1 }
      if q.2 then h.ucount (Fin.ofNat 32 (20 + ch.val)) else h
    else h

/-- The overflow marks of the Chimney queues at a millisecond (R372). -/
def Chimney.ms (c : Chimney) : Chimney := { c with out := c.out.map Queue.ms, inq := c.inq.map Queue.ms }

/-- A millisecond ends in a plane; the unit's Chimney measurements are kept with plane A's (R167, R268). A follower plane whose time
counter still disagrees begins another millisecond of suspect crossings (R284). -/
def Hub.msBoundary (h : Hub) (p : PlaneId) (m : MsMeas) : Hub :=
  let h := h.onPlane p fun x => x.msStep m
  let off := h.chim.sights[h.chim.active.val].timeOff.get p
  let h := { h with chim := { h.chim with timeBad := h.chim.timeBad.set p (if off then 2 else h.chim.timeBad.get p - 1) } }
  if p = .a then
    let h := (h.chimneyReading 0 m.chRtt[0]).chimneyReading 1 m.chRtt[1]
    { h with chim := h.chim.ms }
  else h

/-! ### The housekeeping domain -/

/-- An attention message of a port was lost at some plane address (R335, R383). -/
def Port.lost (x : Port) : Bool := x.acause.toList.any fun w => bitAt w 31

/-- The unit collector samples its immediate conditions (R381, R383). -/
def Hub.sampleUnit (h : Hub) : Hub :=
  let h := h.setUDet 16 h.nv.lock
  let h := h.setUDet 17 (h.nv.erases.toList.any fun n => decide (80000 ≤ n))
  let h := ([24, 25, 26] : List (Fin 32)).foldl (fun (g : Hub) n =>
    g.setUDet n (g.port (Fin.ofNat 3 (n.val - 24))).lost) h
  let h := ([27, 28] : List (Fin 32)).foldl (fun (g : Hub) n => g.setUDet n g.usrc[n.val].cond) h
  h.setUDet 29 (h.usrc.toList.any (·.wire))

/-- The unit's event sources are one period older (R384). -/
def Hub.ageEvents (h : Hub) : Hub :=
  (List.finRange 32).foldl (fun (g : Hub) n =>
    let s := g.usrc[n.val]
    if s.ev = 0 then g
    else
      let g := g.modUSrc n fun s => { s with ev := s.ev - 1 }
      if s.ev = 1 then g.setUDet n false else g) h

/-- The Chimney queues count a housekeeping period, 20 cycles (R409). -/
def Chimney.tick (c : Chimney) : Chimney := { c with out := c.out.map (Queue.tick 20), inq := c.inq.map (Queue.tick 20) }

/-- The unit causes set since the last tick: a joined follower's go over lane 3, each a message of the unit's origin (R276, R279). -/
def Hub.carryCauses (h : Hub) : Hub :=
  let w := (h.port 0).ufresh
  let h := h.allPorts fun x => { x with ufresh := 0 }
  if h.following then
    (List.range 8).foldl (fun (g : Hub) i =>
      if bitAt w i then g.chimneyPush 3 { type := BitVec.ofNat 8 i, payload := 0 } else g) h
  else h

/-- A housekeeping period ends. -/
def Hub.hkTick (h : Hub) : Hub :=
  let h := h.ageEvents.sampleUnit.carryCauses
  { h with chim := h.chim.tick, ticks := h.ticks + 1 }.allPorts fun x => { x with tick := x.tick + 1 }

/-- Write the unit records that waited for the ring, as far as it takes them (R437). -/
def Hub.writeWaiting : Nat → Hub → Hub
  | 0, h => h
  | n + 1, h =>
    match h.log.waiting with
    | [] => h
    | r :: rest => if h.log.blocked then h else Hub.writeWaiting n ({ h with log := { h.log with waiting := rest } }.writeEntry r)

/-- Take one record from a plane's outgoing queue: a joined follower's attention cause goes over lane 3, and a log record waits
while the ring cannot take it (R42, R276, R279, R437). -/
def Hub.takeRecord (h : Hub) (p : PlaneId) : Hub :=
  match (h.plane p).outq with
  | [] => h
  | r :: rest =>
    match r with
    | .cause bit =>
      let h := h.modPlane p fun x => { x with outq := rest }
      if h.following then h.chimneyPush 3 { type := BitVec.ofNat 8 bit, payload := BitVec.ofNat 64 (offOf p).val } else h
    | .log e =>
      if h.log.blocked then h
      else (h.modPlane p fun x => { x with outq := rest }).writeEntry e

/-! ### Comparators -/

/-- A comparator after a reading (R24, R25, R31). -/
def Comparator.read (c : Comparator) (tolPs : Nat) (d : Int) : Comparator :=
  let mism := c.frameMis
  let above := mism || decide (10 * tolPs < d.natAbs)
  let overRun := if above then min (c.overRun + 1) 3 else 0
  let clearRun := if above then 0 else min (c.clearRun + 1) 3
  let far := mism || decide (6000 < d.natAbs)
  let inRun := if far then 0 else min (c.inRun + 1) 3
  { reading := d, mism := mism, valid := true, frameMis := false, overRun := overRun, clearRun := clearRun
    exceed := if 3 ≤ overRun then true else if 3 ≤ clearRun then false else c.exceed
    beyond := if far then true else if 3 ≤ inRun then false else c.beyond, inRun := inRun }

/-- A comparator's reading: a suspended comparison gives none (R28). A changed declaration sets cause 19, a marginal
group is counted in its members, and source 14 is judged (R25, R26, R357, R410). -/
def Hub.compare (h : Hub) (i : Fin 3) (d : Int) : Hub :=
  if !h.compares i then
    { h with cmp := upd h.cmp i fun c => { c with valid := false, frameMis := false } }
  else
    let old := h.cmp[i.val].exceed
    let h := { h with cmp := upd h.cmp i fun c => c.read h.udecl.groupTolPs d }
    let q := cmpPlanes i
    let h := if h.cmp[i.val].exceed = old then h else (h.cause q.1 19).cause q.2 19
    let h := h.judgeOutliers
    if h.marginal then h.allPlanes fun p x => if h.inGroup p then x.count 17 else x else h

/-! ### Meanings -/

/-- FRAME_BOUNDARY (R36). -/
def execFrameBoundary (p : PlaneId) (s : State) : Host.Outcome State Fault Refusal :=
  s.answer (s.hub.ifActive p fun h => h.frameStep p)

/-- PPS, with what was measured over the second it ends (R36). -/
def execPps (p : PlaneId) (m : PpsMeas) (s : State) : Host.Outcome State Fault Refusal :=
  s.answer (s.hub.ifActive p fun h => h.ppsStep p (some m))

/-- GROUP_BOUNDARY, with what the partner sends for the mirror (R155, R277). -/
def execGroupBoundary (p : PlaneId) (mirror : Option PartnerBank) (s : State) : Host.Outcome State Fault Refusal :=
  s.answer (s.hub.ifActive p fun h => (h.takeMirror p mirror).onPlane p fun x => x.groupStep)

/-- MILLISECOND_BOUNDARY (R167). -/
def execMillisecondBoundary (p : PlaneId) (m : MsMeas) (s : State) : Host.Outcome State Fault Refusal :=
  s.answer (s.hub.ifActive p fun h => h.msBoundary p m)

/-- HOUSEKEEPING_TICK (R381). -/
def execHousekeepingTick (s : State) : Host.Outcome State Fault Refusal :=
  s.answer (if s.hub.powered then s.hub.hkTick else s.hub)

/-- COMPARATOR_READING in units of 0.1 ps (R24). -/
def execComparatorReading (cmp : Fin 3) (diff : Int) (s : State) : Host.Outcome State Fault Refusal :=
  s.answer (if s.hub.powered then s.hub.compare cmp diff else s.hub)

/-- HOUSEKEEPING_RECORD_TAKE (R42). -/
def execHousekeepingRecordTake (p : PlaneId) (s : State) : Host.Outcome State Fault Refusal :=
  s.answer (if s.hub.powered then s.hub.takeRecord p else s.hub)

/-- LOG_ERASE_COMPLETE: the ring takes entries again (R436, R437). -/
def execLogEraseComplete (s : State) : Host.Outcome State Fault Refusal :=
  s.answer (if s.hub.powered then
      Hub.writeWaiting Config.unitLogDepth { s.hub with log := { s.hub.log with erasing := none } }
    else s.hub)

/-- Write w enters a list of waiting writes: in the order in which their STOPs are seen, those of one cycle in the order of
their port numbers (R41, R324). -/
def insertWrite (w : HeldWrite) : List HeldWrite → List HeldWrite
  | [] => [w]
  | v :: rest =>
    if w.seen < v.seen ∨ (w.seen = v.seen ∧ w.port.val < v.port.val) then w :: v :: rest else v :: insertWrite w rest

/-- A field of the unit that the plane sees waits for the boundary as a write does (R41, R489). -/
def Hub.keepField (h : Hub) (p : PlaneId) (k : WriteKind) : Hub :=
  h.modPlane p fun x =>
    { x with commits := insertWrite { port := 0, plane := p, off := 0, cfg := {}, kind := k, seen := x.time.clk } x.commits }

/-- The plane sees a value handed over: a firing enters its due reactions with the cycle it is seen in, a snapshot request has been
seen, and a field of the unit waits for the boundary (R393, R412, R489). -/
def Hub.seeValue (h : Hub) (p : PlaneId) (v : Hand) : Hub :=
  match v with
  | .fire n => h.modPlane p fun x => { x with flt := { x.flt with fired := x.flt.fired ++ [(n, x.time.clk)] } }
  | .snapshot => { h with snap := { h.snap with seen := h.snap.seen.set p (some (h.plane p).time.clk) } }
  | .standby b => h.keepField p (.standby b)
  | .force n b => h.keepField p (.force n b)

/-- UNIT_VALUE_HANDOVER: the plane sees every value handed over to it, in order (R489). -/
def execUnitValueHandover (p : PlaneId) (s : State) : Host.Outcome State Fault Refusal :=
  s.answer (s.hub.ifActive p fun h =>
    (h.hand.get p).foldl (fun (g : Hub) v => g.seeValue p v) { h with hand := h.hand.set p [] })

end Sys2Proof.Machine
end

