-- ==== Sys2Proof/Machine/Environment.lean ====
section
/-! DEFINITION. Feeds, fans and the environment (R464, R465, R484, R487). Voltages are in mV, temperatures in tenths of
a degree, humidity in tenths of a percent, pressure in tenths of a kPa. -/

namespace Sys2Proof.Machine

/-! ### Feeds -/

/-- A state that changes after two consecutive means that call for it (R465): the state and its run. -/
def twice (st : Bool) (run : Nat) (set clear : Bool) : Bool × Nat :=
  if (if st then clear else set) then (if 1 ≤ run then (!st, 0) else (st, run + 1)) else (st, 0)

/-- A feed judged on one millisecond's mean (R465). -/
def Feed.judge (f : Feed) (m : Int) : Feed :=
  let a := twice f.absent f.aRun (decide (-18000 < m ∧ m < 18000)) (decide (19000 ≤ m ∨ m ≤ -19000))
  let r := twice f.reversed f.rRun (decide (m ≤ -18000)) (decide (-17000 < m))
  let u := twice f.underV f.uRun (decide (18000 ≤ m ∧ m < 36000)) (decide (36500 ≤ m ∨ m < 18000))
  let o := twice f.overV f.oRun (decide (75000 < m)) (decide (m ≤ 74500))
  { f with absent := a.1, aRun := a.2, reversed := r.1, rRun := r.2, underV := u.1, uRun := u.2, overV := o.1
           oRun := o.2, mean := m }

/-- USTATE.FEEDA or FEEDB: from 36 to 75 V with none of the states live (R465). -/
def Feed.present (f : Feed) : Bool :=
  decide (36000 ≤ f.mean ∧ f.mean ≤ 75000) && !f.absent && !f.reversed && !f.underV && !f.overV

/-- USTATE [28:25] (R359). -/
def Env.feedBits (e : Env) : Nat :=
  fld (b2n e.feed[0].present) 1 3 + fld (b2n e.feed[1].present) 1 2 + fld (b2n e.feed[0].reversed) 1 1 +
  b2n e.feed[1].reversed

/-- The states a feed reports differ. -/
def Feed.differs (f g : Feed) : Bool :=
  f.absent != g.absent || f.reversed != g.reversed || f.underV != g.underV || f.overV != g.overV

/-- Judge a feed: its four sources follow, and a change of its state is logged and sets UCAUSE bit 6 (R465). -/
def Hub.judgeFeed (h : Hub) (n : Fin 2) (mean : Int) : Hub :=
  let old := h.env.feed[n.val]
  let new := old.judge mean
  let before := h.env.feedBits
  let h := { h with env := { h.env with feed := upd h.env.feed n fun _ => new } }
  let h := (((h.setUDet (Fin.ofNat 32 n.val) new.absent).setUDet (Fin.ofNat 32 (2 + n.val)) new.reversed).setUDet
    (Fin.ofNat 32 (4 + n.val)) new.underV).setUDet (Fin.ofNat 32 (6 + n.val)) new.overV
  if old.differs new then
    (h.ulog 0x20 0xFF (data2 (mkWord [fld before 4 4, fld h.env.feedBits 4 0]) 0)).ucause 6
  else h

/-! ### Fans -/

/-- A fan checked over 5 s: absent or below 70 % of its commanded speed, or at 80 % and more (R484). -/
def Hub.checkFan (h : Hub) (fan : Fin 4) (present : Bool) (percent : Nat) : Hub :=
  let ok := if !present || decide (percent < 70) then false else if 80 ≤ percent then true else h.env.fanOk[fan.val]
  let h := { h with env := { h.env with fanOk := upd h.env.fanOk fan fun _ => ok } }
  (h.setUDet (Fin.ofNat 32 (8 + fan.val)) (!ok)).setFans

/-! ### Environment -/

/-- A limit with its hysteresis: passed, and again within (R487). -/
def limit (st set clear : Bool) : Bool := if set then true else if clear then false else st

/-- A plane's temperature, source 44 (R487). -/
def Plane.heat (x : Plane) (t : Int) : Plane :=
  x.modSrc 44 fun s => { s with cond := limit s.cond (decide (900 < t)) (decide (t < 850)) }

/-- Housekeeping ticks of 60 min (R5). -/
def hourTicks : Nat := 90000000000

/-- The spread between the highest and the lowest of a list of samples. -/
def spread (l : List Int) : Int :=
  match l with
  | [] => 0
  | t :: rest => rest.foldl max t - rest.foldl min t

/-- The more extreme of what has been sampled before and a sample. -/
def further (pick : Int → Int → Int) (old : Option Int) (t : Int) : Option Int := some ((old.map fun o => pick o t).getD t)

/-- One environment sample at a housekeeping tick (R434, R487). -/
def Env.sample (e : Env) (tick : Nat) (m : EnvMeas) : Env :=
  let ins := (e.inlets.filter fun a => decide (tick ≤ a.1 + hourTicks)) ++ [(tick, m.inlet)]
  let width := spread (ins.map (·.2))
  { e with
    tinlet := m.inlet
    tint := m.internal
    inlets := ins
    inHi := further max e.inHi m.inlet
    inLo := further min e.inLo m.inlet
    intHi := further max e.intHi m.internal
    inletBad := limit e.inletBad (decide (m.inlet < 150 ∨ 350 < m.inlet)) (decide (155 ≤ m.inlet ∧ m.inlet ≤ 345))
    rateBad := limit e.rateBad (decide (50 < width)) (decide (width ≤ 40))
    intBad := limit e.intBad (decide (700 < m.internal)) (decide (m.internal < 650))
    humBad := limit e.humBad (decide (m.humidity < 100 ∨ 800 < m.humidity)) (decide (120 ≤ m.humidity ∧ m.humidity ≤ 780))
    presBad := limit e.presBad (decide (m.pressure < 701)) (decide (711 ≤ m.pressure)) }

/-- The sources a sample judges: 204, 205, 223 and 44 of each plane (R383, R487). -/
def Hub.sampleEnv (h : Hub) (m : EnvMeas) : Hub :=
  let h := { h with env := h.env.sample h.ticks m }
  let h := ((h.setUDet 12 (h.env.inletBad || h.env.rateBad)).setUDet 13 h.env.intBad).setUDet 31
    (h.env.humBad || h.env.presBad)
  (PlaneId.all.foldl (fun (g : Hub) p =>
    let g := g.modPlane p fun x => x.heat (m.plane.get p)
    g.event p fun x => x.setDet 44 x.flt.src[44].cond) h).setFans

/-! ### Meanings -/

/-- FEED_JUDGEMENT of one millisecond's mean (R465). -/
def execFeedJudgement (feed : Fin 2) (mean : Int) (s : State) : Host.Outcome State Fault Refusal :=
  s.answer (if s.hub.powered then s.hub.judgeFeed feed mean else s.hub)

/-- A feed's own input protection opens or closes (R464). -/
def Hub.cutFeed (h : Hub) (feed : Fin 2) (cut : Bool) : Hub :=
  { h with env := { h.env with feed := upd h.env.feed feed fun f => { f with cut := cut } } }

/-- FEED_OVERVOLTAGE_DISCONNECT (R464). -/
def execFeedOvervoltageDisconnect (feed : Fin 2) (s : State) : Host.Outcome State Fault Refusal :=
  s.answer (s.hub.cutFeed feed true)

/-- FEED_RECONNECT (R464). -/
def execFeedReconnect (feed : Fin 2) (s : State) : Host.Outcome State Fault Refusal :=
  s.answer (s.hub.cutFeed feed false)

/-- FAN_SPEED_CHECK (R484). -/
def execFanSpeedCheck (fan : Fin 4) (present : Bool) (percent : Nat) (s : State) : Host.Outcome State Fault Refusal :=
  s.answer (if s.hub.powered then s.hub.checkFan fan present percent else s.hub)

/-- ENVIRONMENT_SAMPLE (R487). -/
def execEnvironmentSample (m : EnvMeas) (s : State) : Host.Outcome State Fault Refusal :=
  s.answer (if s.hub.powered then s.hub.sampleEnv m else s.hub)

end Sys2Proof.Machine
end

