-- ==== Sys2Proof/Machine/Grid.lean ====
section
/-! DEFINITION. The pulse grid: marker capture, registration, REALIGN and the disagreement D (R103 to R111). -/

namespace Sys2Proof.Machine

/-! ### Markers -/

/-- The marker is that of the plane's registration source (R43, R103). -/
def Plane.markerCounts (x : Plane) (src : MarkerSrc) : Bool :=
  match x.sect.regSrc, src with
  | .tc0, .tc0 => true
  | .tc1, .tc1 => true
  | .active, .tc0 => x.sel.active == some 0
  | .active, .tc1 => x.sel.active == some 1
  | .active, .ref3 => x.sel.active == some 3
  | _, _ => false

/-- The marker is valid: its timecode is, or REF3 passes activity (R48, R43). -/
def Plane.markerValid (x : Plane) : MarkerSrc → Bool
  | .tc0 => x.tc[0].valid
  | .tc1 => x.tc[1].valid
  | .ref3 => x.ref[3].act

/-- The nearest PPS of a time counter, by its SEC (R107). DESIGN CHOICE (log entry 103): at half a second, the later one. -/
def Time.nearestSec (t : Time) : Word := if 2 * (t.frame * 40 + t.cyc) < 500000000 then t.sec else t.sec + 1

/-- The SEC that the source of REF3 gives to the PPS it sends: its own, or that of the leader's bank across the Chimney
(R105, R110). DESIGN CHOICE (log entry 102): the SEC of the marker, also where the grid offset is negative. -/
def Hub.ref3Sec (h : Hub) (p : PlaneId) : Word :=
  match (h.plane p).sect.ref3 with
  | .none => 0
  | .plane q => (h.plane q).time.nearestSec
  | .chimney =>
    let b := h.chim.mirror.get p
    { sec := b.regs[10], frame := bits b.regs[11] 31 8 : Time }.nearestSec

/-- The second a marker opens (R52, R105). -/
def Plane.markedSecond (x : Plane) (src : MarkerSrc) (ref3 : Word) : Word :=
  match src with
  | .tc0 => x.tc[0].cand + 1
  | .tc1 => x.tc[1].cand + 1
  | .ref3 => ref3

/-- The captured instant: with source ACTIVE on a station reference the nearer reference edge, the earlier of two equally
near, else the cycle (R103, R107). -/
def Plane.captured (x : Plane) (src : MarkerSrc) (before after : Nat) : Int :=
  let now : Int := x.time.now
  if x.sect.regSrc = .active ∧ src ≠ .ref3 ∧ x.loop.state ≠ .soft then
    if before ≤ after then now - before else now + after
  else now

/-- The first lattice instant at least 10 ms after the capture, with its SEC (R104, R105). -/
def latticeOf (edge goff capture : Int) (sec : Word) : Lattice :=
  let k := -((edge + goff - (capture + 5000000)) / 500000000)
  { instant := edge + goff + k * 500000000, sec := sec + BitVec.ofInt 32 k }

/-- A number of cycles taken to the nearest PPS, from -250,000,000 on (R106). DESIGN CHOICE (log entry 103): half a second lies
before the later PPS. -/
def wrapSecond (v : Int) : Int := (v + 250000000) % 500000000 - 250000000

/-- Judge the disagreement of a marker (R106). -/
def Plane.judgeD (x : Plane) (d : Int) : Plane :=
  let far := decide (x.sect.gridTol < d.natAbs)
  let bad := if far then min (x.grid.badRun + 1) 3 else 0
  let good := if far then 0 else min (x.grid.goodRun + 1) 3
  { x with grid := { x.grid with
      d := d, dValid := true, dAge := 0, badRun := bad, goodRun := good
      badLive := if 3 ≤ bad then true else if 3 ≤ good then false else x.grid.badLive } }.loopSources

/-- A valid marker of the registration source: D is updated on a registered grid, and a waiting registration or REALIGN
takes its lattice (R104, R106, R107). DESIGN CHOICE (log entry 104): a REALIGN keeps the lattice it has taken, also where the loop
leaves LOCKED and SOFT or starts a slew before it executes. -/
def Plane.capture (x : Plane) (src : MarkerSrc) (before after : Nat) (ref3 : Word) : Plane :=
  if x.markerCounts src && x.markerValid src then
    let e := x.captured src before after
    let y := if x.grid.reg then x.judgeD (wrapSecond (e + x.grid.goff)) else x
    let y := y.noteRealign
    let waits := y.mayRegister || y.mayRealign
    if waits && y.grid.cap.isNone then
      { y with grid := { y.grid with cap := some (latticeOf e y.grid.goff y.time.now (y.markedSecond src ref3)) } }
    else y
  else x

/-! ### Setting the count -/

/-- The time counter is set to FRAME 0, CYC 0 of a second; labels sent before keep the old count (R104, R177). The second that it
cuts is not whole, and the new one may be (R95). -/
def Plane.setCount (x : Plane) (sec : Word) : Plane :=
  let y := if x.time.frame = 0 ∧ x.time.cyc = 0 then x
    else { x with loop := { x.loop with wholeSec := x.loop.state == .locked, lastRec := false } }
  { y with grid := { x.grid with toMove := none }, time := { x.time with
      sec := sec, frame := 0, cyc := 0, prevClk := x.time.clk, prevTag := (x.time.now : Int) - x.time.clk } }

/-- The SEC of a lattice reached at the present instant: whole seconds that passed since the first lattice instant count
(R105, R108). -/
def Plane.latticeSec (x : Plane) (l : Lattice) : Word :=
  l.sec + BitVec.ofNat 32 (((x.time.now : Int) - l.instant + 250000000) / 500000000).toNat

/-- The SEC a registration takes (R105). -/
def Plane.firstSec (x : Plane) : Option Word :=
  if x.sect.regSrc = .none then some x.sect.startSec
  else x.grid.cap.map x.latticeSec

/-- A frame that a grid movement cuts: it ends here, and its successor opens at the new PPS (R203). DESIGN CHOICE (log entry 118): a
frame cut before its cycle 39 evaluates the automatic Damper of its successor's slot 0 at the cut (R192). -/
def Hub.moveCount (h : Hub) (p : PlaneId) (f : Plane → Plane) : Hub :=
  let whole := (h.plane p).time.cyc == 0
  let h := if whole then h else ((h.modPlane p Plane.evalDamper).endFrame p).modPlane p fun x => { x with phistNow := 0 }
  let h := h.onPlane p f
  if whole then h.modPlane p fun x => x.sendSlot0 (h.linkBase p) else h.openFrame p id

/-- The grid is registered at the present instant with a SEC (R104, R105, R119, R244): a pending REALIGN ends with it
(R108). -/
def Plane.register (x : Plane) (sec : Word) : Plane :=
  let y := x.setCount sec
  let y := { y with grid := { y.grid with
    reg := true, cap := none, rlgnPend := false, rlgnFirst := false, org := y.time.now } }
  ((y.releaseAll.genRestart y.time.now).history 9).loopSources

/-- The grid is moved by a REALIGN (R107, R119, R242, R264). -/
def Plane.moveGrid (x : Plane) (sec : Word) : Plane :=
  let y := (x.discardFabric.setCount sec)
  let y := { y with grid := { y.grid with moved := true, org := y.time.now } }
  y.releaseAll.genRestart y.time.now

/-- A REALIGN executes at the present instant with a SEC: it registers an unregistered grid, moves one that stands
elsewhere, and leaves one that stands there (R107 to R109, R273). -/
def Hub.realignTo (h : Hub) (p : PlaneId) (sec : Word) : Hub :=
  let x := h.plane p
  let done := fun (z : Plane) => { z with grid := { z.grid with rlgnPend := false, rlgnFirst := false, cap := none, toMove := none } }
  if !x.grid.reg then h.moveCount p fun x => ((x.discardFabric).register sec).history 10
  else if sec.toNat * Config.cycPerSec = x.time.now then h.onPlane p fun x => (done x).history 10
  else h.moveCount p fun x => ((done x).moveGrid sec).history 10

/-- A pending REALIGN executes (R107 to R109). -/
def Hub.realign (h : Hub) (p : PlaneId) : Hub :=
  let x := h.plane p
  if !x.grid.reg then
    match x.firstSec with
    | none => h
    | some sec => h.realignTo p sec
  else h.realignTo p x.time.nearestSec

/-! ### Meanings -/

/-- A joined leader announces over lane 3 the REALIGN for which a plane has just taken its lattice (R275, R279); g is the hub after
the capture. -/
def Hub.announceRealign (h : Hub) (p : PlaneId) (g : Hub) : Hub :=
  if h.joined && (g.plane p).grid.rlgnPend && (h.plane p).grid.cap.isNone && (g.plane p).grid.cap.isSome then g.laneAction 2 else g

/-- TIME_MARKER_CAPTURE in a cycle that lies `before` cycles after one reference edge and `after` cycles before the next
(R103, R104, R106). -/
def execTimeMarkerCapture (p : PlaneId) (src : MarkerSrc) (cyc : Fin 40) (before after : Nat) (s : State) :
    Host.Outcome State Fault Refusal :=
  s.answer (s.hub.announceRealign p (s.hub.eventAt p cyc fun x => x.capture src before after (s.hub.ref3Sec p)))

/-- GRID_REGISTRATION: the plane has been LOCKED with its grid unregistered and has a captured marker, or source NONE
(R104, R105). -/
def execGridRegistration (p : PlaneId) (s : State) : Host.Outcome State Fault Refusal :=
  s.answer (s.hub.ifActive p fun h =>
    let x := h.plane p
    if x.mayRegister then
      match x.firstSec with
      | none => h
      | some sec => h.moveCount p fun x => x.register sec
    else h)

/-- REALIGN_EXECUTE: a hold or a slew in progress defers it (R107, R108). -/
def execRealignExecute (p : PlaneId) (s : State) : Host.Outcome State Fault Refusal :=
  s.answer (s.hub.ifActive p fun h =>
    if (h.plane p).ownsRealign && (h.plane p).grid.cap.isSome then h.realign p else h)

/-- REALIGN_REQUEST: structural; with source NONE, and at a joined follower, refused with STATE; merged with one pending
(R107, R108, R275). -/
def execRealignRequest (port : PortId) (p : PlaneId) (s : State) : Host.Outcome State Fault Refusal :=
  s.answer (s.hub.hostWrite port p 0x03 false true ((s.hub.plane p).sect.regSrc == .none || s.hub.following)
    fun h => h.onPlane p Plane.requestRealign)

/-- REALIGN_CANCEL: with none pending it has no effect (R108). -/
def execRealignCancel (port : PortId) (p : PlaneId) (s : State) : Host.Outcome State Fault Refusal :=
  s.answer (s.hub.hostWrite port p 0x03 false true s.hub.following
    fun h => h.onPlane p fun x => x.cancelRealign)

/-- A grid offset outside the second (R374). -/
def goffRange (v : Int) : Bool := decide (v < -250000000 ∨ 249999999 < v)

/-- Commit a grid offset: it enters D at once (R106, R374). -/
def Plane.setGoff (x : Plane) (v : Int) : Plane :=
  { x with grid := { x.grid with
    goff := v, d := if x.grid.dValid then wrapSecond (x.grid.d + v - x.grid.goff) else x.grid.d } }

/-- GRID_OFFSET_WRITE: structural; it enters D at once (R374). -/
def execGridOffsetWrite (port : PortId) (p : PlaneId) (goff : Int) (s : State) : Host.Outcome State Fault Refusal :=
  s.answer (s.hub.hostWrite port p 0x0E (goffRange goff) true false fun h => h.onPlane p fun x => x.setGoff goff)

end Sys2Proof.Machine
end

