-- ==== Sys2Proof/Machine/Crc32.lean ====
section
/-! DEFINITION. The CRC-32 of the parameter store (R427): polynomial 0x04C11DB7 with reflected input and output, initial value and
final XOR 0xFFFFFFFF. -/

namespace Sys2Proof.Machine

/-- One bit of the reflected register: 0xEDB88320 is the polynomial with its bits reversed. -/
def crc32Bit (r : Word) : Word := if bitAt r 0 then (r >>> 1) ^^^ 0xEDB88320 else r >>> 1

/-- The register after one byte. -/
def crc32Byte (r : Word) (b : Byte) : Word :=
  crc32Bit (crc32Bit (crc32Bit (crc32Bit (crc32Bit (crc32Bit (crc32Bit (crc32Bit (r ^^^ b.zeroExtend 32))))))))

/-- The CRC-32 of a sequence of bytes. -/
def crc32 (l : List Byte) : Word := ~~~(l.foldl crc32Byte 0xFFFFFFFF)

end Sys2Proof.Machine
end

