-- ==== Sys2Proof/Machine/Nv.lean ====
section
/-! DEFINITION. The parameter store: pages, passwords, records, compaction and the hub-maintained pages (R418 to R434). -/

namespace Sys2Proof.Machine

/-! ### Records and sectors -/

/-- Page numbers of the password digests (R427). -/
def pageRpw : BitVec 16 := 0xFF00
def pageWpw : BitVec 16 := 0xFF01

/-- The bytes the CRC of a record covers: PAGE, SEQ and DATA (R427). -/
def NvRec.covered (r : NvRec) : List Byte :=
  [BitVec.ofNat 8 (r.page.toNat / 256), BitVec.ofNat 8 r.page.toNat] ++ wordBytes r.seq ++ r.data

/-- The CRC of a record matches. -/
def NvRec.crcOk (r : NvRec) : Bool := r.crc == crc32 r.covered

/-- The record is valid (R428). -/
def NvRec.valid (r : NvRec) : Bool := r.state == 0x00FF && r.crcOk && r.mark == 0xA55A5AA5

/-- The record's CRC fails where one was begun (R432). -/
def NvRec.badCrc (r : NvRec) : Bool := r.state == 0x00FF && !r.crcOk

/-- A record as the hub programs it (R427, R428). -/
def newRec (page : BitVec 16) (seq : Word) (data : List Byte) : NvRec :=
  { page := page, seq := seq, data := data, crc := crc32 { page := page, seq := seq, data := data, crc := 0 : NvRec }.covered }

/-- A record whose programming failed or was cut short: whether its STATE, its CRC or its MARK is what differs is the flash's, freely
(R428, R432). -/
def NvRec.damaged (r : NvRec) (v : Int) : NvRec :=
  if v % 3 = 0 then { r with state := 0x0000 } else if v % 3 = 1 then { r with crc := ~~~r.crc }
  else { r with mark := 0xFFFFFFFF }

/-- The header passes HCRC, over MAGIC and GEN (R427, R431). -/
def NvSector.headerOk (t : NvSector) : Bool := t.hcrc == crc32 (wordBytes t.magic ++ wordBytes t.gen)

/-- The index build uses the sector: its header passes and it is ACTIVE (R431). -/
def NvSector.usable (t : NvSector) : Bool := t.headerOk && t.st == .active

/-- The sector that takes records: the one in use, the higher GEN of two (R427, R431). -/
def Nv.active (n : Nv) : Fin 2 :=
  let a := n.sect[0]
  let b := n.sect[1]
  if b.usable ∧ (a.usable = false ∨ a.gen < b.gen) then 1 else 0

/-- Change a sector. -/
def Nv.modSect (n : Nv) (i : Fin 2) (f : NvSector → NvSector) : Nv := { n with sect := upd n.sect i f }

/-- Records whose CRC fails when the index build or a compaction reads them (R432). -/
def NvSector.badCrcs (t : NvSector) : Nat := (t.recs.filter NvRec.badCrc).length

/-- The newest valid record of each page, newest first, with `k` failing checks still to come: a failing record is
skipped for the newest older one, and counted (R430, R432). -/
def newestEach : Nat → List (BitVec 16) → List NvRec → List NvRec × Nat
  | _, _, [] => ([], 0)
  | k, seen, r :: rest =>
    if !r.valid || seen.contains r.page then newestEach k seen rest
    else
      match k with
      | 0 => let t := newestEach 0 (r.page :: seen) rest; (r :: t.1, t.2)
      | j + 1 => let t := newestEach j seen rest; (t.1, t.2 + 1)

/-- The newest valid record of a page in the sector in use (R427). -/
def Nv.newest (n : Nv) (page : BitVec 16) : Option NvRec :=
  n.sect[n.active.val].recs.find? fun r => r.valid && r.page == page

/-! ### Injected CRC failures -/

/-- The plane that runs a CHK 4 injection (R401). -/
def Hub.storeInjector (h : Hub) : Option PlaneId :=
  PlaneId.all.find? fun p => (h.plane p).flt.inj.chk == 4 && (h.plane p).flt.inj.left != 0

/-- Record CRC checks an injection still fails. -/
def Hub.storeFailures (h : Hub) : Nat :=
  match h.storeInjector with
  | none => 0
  | some p => (h.plane p).flt.inj.left.toNat

/-- Use up k injected checks: they count down LEFT, and count in the plane and in unit counter 4 (R400, R432). -/
def Hub.useStoreChecks (h : Hub) (k : Nat) : Hub :=
  match h.storeInjector with
  | none => h
  | some p =>
    (h.modPlane p fun x => x.spendChecks k).ucountN 4 k

/-! ### Appending -/

/-- Compaction steps 1 to 3: the other sector is erased, takes the next GEN and the newest record of each page (R430);
page 122's erase count and unit counters 2 and 4 follow. -/
def Hub.compact (h : Hub) : Hub :=
  let a := h.nv.active
  let o : Fin 2 := 1 - a
  let c := newestEach h.storeFailures [] h.nv.sect[a.val].recs
  let g := h.nv.sect[a.val].gen + 1
  let n := h.nv.modSect o fun _ =>
    { magic := 0x50535452, gen := g, st := .receiving, hcrc := crc32 (wordBytes 0x50535452 ++ wordBytes g), recs := c.1 }
  let n := { n with erases := upd n.erases (Fin.ofNat 6 o.val) (· + 1) }
  (({ h with nv := n }.useStoreChecks c.2).ucountN 4 h.nv.sect[a.val].badCrcs).ucount 2

/-- A compaction is in progress: a sector is receiving. -/
def Nv.receiving (n : Nv) : Option (Fin 2) := ([0, 1] : List (Fin 2)).find? fun i => n.sect[i.val].st == .receiving

/-- The sector the next record goes to. -/
def Nv.target (n : Nv) : Fin 2 := n.receiving.getD n.active

/-- Compact when a record must be appended and the sector has no free position (R430). -/
def Hub.makeRoom (h : Hub) : Hub :=
  if h.nv.sect[h.nv.target.val].recs.length < Config.nvPositions then h else h.compact

/-- Compaction steps 5 and 6: the receiving sector becomes ACTIVE and the old one OBSOLETE (R430). -/
def Nv.settle (n : Nv) : Nv :=
  match n.receiving with
  | none => n
  | some i => (n.modSect (1 - i) fun s => { s with st := .obsolete }).modSect i fun s => { s with st := .active }

/-- A record goes into the next free position. One whose programming failed stays damaged there (R427, R428, R432). -/
def Hub.append (h : Hub) (page : BitVec 16) (data : List Byte) (ok : Bool) : Hub :=
  let g := if ok then h else h.fresh.2
  let r := newRec page g.nv.seq data
  { g with nv := g.nv.modSect g.nv.target fun s => { s with recs := (if ok then r else r.damaged h.fresh.1) :: s.recs } }

/-- A record goes into the next free position, for which room is made first (R428, R430). -/
def Hub.put (h : Hub) (page : BitVec 16) (data : List Byte) (ok : Bool) : Hub := h.makeRoom.append page data ok

/-- The RAM copy of a page, with its CRC (R428, R432). -/
def Nv.setRam (n : Nv) (page : Nat) (data : List Byte) : Nv :=
  let m := n.ram.writeBytes (32 * page) data
  { n with ram := m, ramCrc := upd n.ramCrc (Fin.ofNat 128 page) fun _ => crc32 (m.readBytes (32 * page) 32) }

/-- What a record changes when it takes effect: the page's copy in RAM, or a password digest, whose acceptance is
cleared in every port (R423, R428). -/
def Hub.recordEffect (h : Hub) (page : BitVec 16) (data : List Byte) : Hub :=
  if page = pageRpw then
    { h with nv := { h.nv with rpw := some (BitVec.ofNat 256 (beNat data)) } }.allPorts fun x => { x with rpwok := false }
  else if page = pageWpw then
    { h with nv := { h.nv with wpw := some (BitVec.ofNat 256 (beNat data)) } }.allPorts fun x => { x with wpwok := false }
  else { h with nv := h.nv.setRam page.toNat data }

/-- Program a record with its one retry (R428), and end the compaction it triggered (R430). The Bool says it took
effect. -/
def Hub.program (h : Hub) (page : BitVec 16) (data : List Byte) (ok1 ok2 : Bool) : Hub × Bool :=
  let h := h.put page data ok1
  let h := if ok1 then h else h.put page data ok2
  let ok := ok1 || ok2
  let h := { h with nv := { h.nv.settle with seq := h.nv.seq + 1 } }
  if ok then
    (({ h with nv := { h.nv with writes := h.nv.writes + 1 } }.ucount 1).recordEffect page data, true)
  else (h, false)

/-- Start a programming operation, with the compaction it triggers (R426, R430). -/
def Hub.startOp (h : Hub) (op : NvOp) : Hub :=
  let h := h.makeRoom
  { h with nv := { h.nv with op := some op } }

/-- The oldest waiting write of the hub starts once no operation runs (R434). -/
def Hub.startWaiting (h : Hub) : Hub :=
  match h.nv.op, h.nv.waiting with
  | none, op :: rest => { h with nv := { h.nv with waiting := rest } }.startOp op
  | _, _ => h

/-- The hub is to write one of its pages: the write follows the operation in progress (R434). -/
def Hub.ownWrite (h : Hub) (page : Fin 128) (data : List Byte) : Hub :=
  { h with nv := { h.nv with waiting := h.nv.waiting ++ [{ port := none, page := BitVec.ofNat 16 page.val, data := data }] } }

/-! ### Access -/

/-- A read of a page lacks its password (R418). -/
def Port.readLacks (x : Port) (page : Fin 128) : Bool :=
  decide (64 ≤ page.val ∧ page.val < 120) && !(x.rpwok || x.wpwok)

/-- A write of a page lacks its password or right (R314, R418). -/
def Hub.writeLacks (h : Hub) (q : PortId) (page : Fin 128) : Bool :=
  !(h.grants q).nvWrite || (decide (page.val < 120) && !(h.port q).wpwok) ||
  (decide (116 ≤ page.val ∧ page.val < 120) && !(h.grants q).auth)

/-- NVCTL.PAGE of a port, which takes effect at the STOP (R364). -/
def Hub.namePage (h : Hub) (q : PortId) (page : Fin 128) : Hub :=
  h.modPort q fun x => { x with page := BitVec.ofNat 7 page.val }

/-- The CRC of a page's RAM copy matches the one kept with it (R432). -/
def Nv.copyOk (n : Nv) (page : Fin 128) : Bool := crc32 (n.ram.readBytes (32 * page.val) 32) == n.ramCrc[page.val]

/-- CMD READ: the page is loaded into the port's buffer; a CRC failure of its RAM copy, real or injected, counts, leaves the
buffer and calls for a reload (R425, R432). -/
def Hub.loadPage (h : Hub) (q : PortId) (page : Fin 128) : Hub :=
  if h.storeInjector.isSome || !(h.nv.copyOk page) then
    let h := (if h.storeInjector.isSome then h.useStoreChecks 1 else h.ucount 4).modPort q fun x => { x with nverr := true }
    { h with nv := { h.nv with stale := if h.nv.stale.contains page then h.nv.stale else h.nv.stale ++ [page] } }
  else
    h.modPort q fun x => { x with buf := h.nv.ram.readBytes (32 * page.val) 32, nverr := false }

/-- CMD READ with its judgement, written at an address (R418). -/
def Hub.nvRead (h : Hub) (q : PortId) (addr : BitVec 7) (page : Fin 128) : Hub :=
  h.judged q addr 0x19 (firstReason ((h.port q).readLacks page) false false false false) fun h => h.loadPage q page

/-- A lockout refuses every WRITE and every KEY with STATE, whatever else would (R424). -/
def Hub.unlessLocked (h : Hub) (why : Reason) : Reason := if h.nv.lock then .state else why

/-- CMD WRITE with its judgement (R418, R424, R426). -/
def Hub.nvWrite (h : Hub) (q : PortId) (addr : BitVec 7) (page : Fin 128) : Hub :=
  h.judged q addr 0x19
    (h.unlessLocked (firstReason (h.writeLacks q page) false (decide (120 ≤ page.val)) false h.nv.op.isSome))
    fun h => h.startOp { port := some q, page := BitVec.ofNat 16 page.val, data := (h.port q).buf }

/-! ### Passwords -/

/-- The password of a record, or 8 bytes of 0x00 where none was ever set, equals a key (R420). -/
def keyMatches (digest : Option (BitVec 256)) (key : BitVec 64) : Bool :=
  match digest with
  | none => key == 0
  | some d => sha256 (payloadBytes key) == d

/-- The store locks out after the 8th failure: source 208, acceptances, the log (R424). -/
def Hub.lockOut (h : Hub) : Hub :=
  let h := { h with nv := { h.nv with lock := true, locks := h.nv.locks + 1 } }.setUDet 16 true
  (h.allPorts fun x => { x with rpwok := false, wpwok := false }).ulog 0x31 0xFF (data2 0 0)

/-- A password failure of a port (R421, R424). -/
def Hub.passwordFails (h : Hub) (q : PortId) (write : Bool) : Hub :=
  let h := h.modPort q fun x =>
    { x with nverr := true, rpwok := x.rpwok && write, wpwok := x.wpwok && !write }
  let h := { h with nv := { h.nv with fails := h.nv.fails + 1, failed := h.nv.failed + 1 } }.ucount 0
  let h := h.ulog 0x30 (BitVec.ofNat 8 q.val) (data2 (BitVec.ofNat 32 h.nv.fails) 0)
  if 8 ≤ h.nv.fails then h.lockOut else h

/-- CMD KEY with KSEL 0 or 1: the key register is compared and cleared (R421). -/
def Hub.presentKey (h : Hub) (q : PortId) (write : Bool) : Hub :=
  let key := (h.port q).key
  let good := keyMatches (if write then h.nv.wpw else h.nv.rpw) key
  let h := h.modPort q fun x => { x with key := 0 }
  if good then
    h.modPort q fun x => { x with nverr := false, rpwok := x.rpwok || !write, wpwok := x.wpwok || write }
  else h.passwordFails q write

/-- A KEY command refused in a lockout is counted (R424). -/
def Hub.keyRefused (h : Hub) : Hub := if h.powered && h.nv.lock then h.ucount 0 else h

/-- CMD KEY with KSEL 0 or 1 and its judgement (R424). -/
def Hub.nvKey (h : Hub) (q : PortId) (addr : BitVec 7) (write : Bool) : Hub :=
  h.keyRefused.judged q addr 0x19 (h.unlessLocked .none) fun h => h.presentKey q write

/-- CMD KEY with KSEL 2 or 3: a programming operation that appends the digest of the key register, which is cleared
(R423). -/
def Hub.nvPassword (h : Hub) (q : PortId) (addr : BitVec 7) (write : Bool) : Hub :=
  h.keyRefused.judged q addr 0x19
    (h.unlessLocked (firstReason (!(h.port q).wpwok || !(h.grants q).nvWrite) false false false h.nv.op.isSome))
    fun h =>
      (h.startOp { port := some q, page := if write then pageWpw else pageRpw
                   data := digestBytes (sha256 (payloadBytes (h.port q).key)) }).modPort q fun x => { x with key := 0 }

/-- KSEL of a port, which takes effect at the STOP (R364). -/
def Hub.setKsel (h : Hub) (q : PortId) (k : BitVec 2) : Hub := h.modPort q fun x => { x with ksel := k }

/-! ### The end of an operation -/

/-- BUSY clears, ERR of the issuing port tells whether the write took effect, and its UCAUSE bit 1 is set (R426); a write of the hub's
own that waited starts (R434). -/
def Hub.endOp (h : Hub) (op : NvOp) (ok1 ok2 : Bool) : Hub :=
  let r := h.program op.page op.data ok1 ok2
  let h := { r.1 with nv := { r.1.nv with op := none } }
  let h := match op.port with
    | none => h
    | some q => h.modPort q fun x => { x with nverr := !r.2 }.ucauseSet 1
  h.startWaiting

/-! ### Hub-maintained pages -/

/-- A four-byte number, saturating (R434). -/
def be4 (n : Nat) : List Byte := wordBytes (BitVec.ofNat 32 (satNat 32 n))

/-- The number at a place of a page, 0 where the page was never written (R434). -/
def Nv.total (n : Nv) (page : Fin 128) (off : Nat) : Nat :=
  match n.newest (BitVec.ofNat 16 page.val) with
  | none => 0
  | some r => beNat ((r.data.drop off).take 4)

/-- A page of 32 bytes from its first ones, the rest 0xFF. -/
def padPage (l : List Byte) : List Byte := l ++ List.replicate (32 - l.length) 0xFF

/-- One signed byte of a temperature in °C (R434). -/
def degByte (c : Int) : Byte := BitVec.ofNat 8 (satInt 8 c)

/-- A temperature in tenths of a degree as whole °C: `c` where that is one of the two beside it, else the lower one (R434; DESIGN
CHOICE, log entry 125). -/
def wholeDeg (t c : Int) : Int := if c = t / 10 ∨ c = -(-t / 10) then c else t / 10

/-- The byte of an extreme of page 124: the more extreme of what the page holds and what has been sampled since power good, 0xFF
where there is neither (R434). -/
def extreme (pick : Int → Int → Int) (old : Option Byte) (now : Option Int) (c : Int) : Byte :=
  match old, now with
  | none, none => 0xFF
  | none, some t => degByte (wholeDeg t c)
  | some b, none => b
  | some b, some t => degByte (pick b.toInt (wholeDeg t c))

/-- A byte of page 124 as its record holds it, none where the page was never written. -/
def Nv.heldExtreme (n : Nv) (i : Nat) : Option Byte := (n.newest 124).map fun r => r.data.getD i 0xFF

/-- An inlet temperature, in tenths of a degree, outside 15 to 35 °C (R434). -/
def Hub.inletOutside (h : Hub) : Bool := decide (h.env.tinlet < 150 ∨ 350 < h.env.tinlet)

/-- Page 121 with hours and Kindlings added (R434). -/
def Hub.page121 (h : Hub) (hour kindling : Nat) : List Byte :=
  let n := h.nv
  padPage (be4 (n.total 121 0 + hour) ++ be4 (n.total 121 4 + kindling) ++
    be4 (n.total 121 8 + (if h.ustby then hour else 0)) ++ be4 (n.total 121 12 + (if h.inletOutside then hour else 0)))

/-- What the hub writes to a page it maintains; reserved pages are never written (R434). -/
def Hub.pageContent (h : Hub) (page : Fin 128) (hiIn loIn hiInt : Int) : Option (List Byte) :=
  let n := h.nv
  if page = 120 then
    some (padPage ([BitVec.ofNat 8 h.cfg.boot.val, 0xFF, 0xFF, 0xFF] ++ be4 h.cfg.boots))
  else if page = 121 then some (h.page121 1 0)
  else if page = 122 then some (padPage ((n.erases.toList.map be4).flatten ++ be4 n.writes))
  else if page = 123 then some (padPage (be4 n.failed ++ be4 n.locks ++ be4 n.loads))
  else if page = 124 then
    some (padPage [extreme max (n.heldExtreme 0) h.env.inHi hiIn, extreme min (n.heldExtreme 1) h.env.inLo loIn,
      extreme max (n.heldExtreme 2) h.env.intHi hiInt])
  else none

/-- The page is written only if its content has changed (R434). -/
def Nv.unchanged (n : Nv) (page : Fin 128) (data : List Byte) : Bool :=
  (page == 123 || page == 124) && n.ram.readBytes (32 * page.val) 32 == data

/-- The hub writes one of its pages: after the operation in progress, and after a host's programming command of the same tick
(R434). -/
def Hub.hubPage (h : Hub) (page : Fin 128) (hiIn loIn hiInt : Int) : Hub :=
  match h.pageContent page hiIn loIn hiInt with
  | none => h
  | some data =>
    if h.nv.unchanged page data then h
    else
      let h := h.ownWrite page data
      if h.ucommits.any fun w => decide (w.seen < h.ticks) then h else h.startWaiting

/-! ### The index build -/

/-- Two valid records in the two sectors carry the same SEQ (R431). -/
def Nv.duplicates (n : Nv) : Nat :=
  if n.sect[0].usable ∧ n.sect[1].usable then
    (n.sect[0].recs.filter fun r => r.valid && n.sect[1].recs.any fun t => t.valid && t.seq == r.seq).length
  else 0

/-- Records of the sectors the index build uses whose CRC fails (R431, R432). -/
def Nv.badCrcs (n : Nv) : Nat :=
  (n.sect.toList.map fun (t : NvSector) => if t.usable then t.badCrcs else 0).sum

/-- One more than the highest SEQ of a list of records, 0 for none (R427). -/
def nextSeq (l : List NvRec) : Word := l.foldl (fun m r => if m ≤ r.seq then r.seq + 1 else m) 0

/-- RAM holds the newest record of every page, with its CRC (R431, R432). -/
def Nv.loadRam (n : Nv) : Nv :=
  (List.finRange 128).foldl (fun (m : Nv) p =>
    match n.newest (BitVec.ofNat 16 p.val) with
    | none => m
    | some r => m.setRam p.val (r.data.take 32)) { n with ram := {}, ramCrc := Vector.replicate 128 0xFF6CAB0B }

/-- The password digest a record holds. -/
def Nv.digest (n : Nv) (page : BitVec 16) : Option (BitVec 256) :=
  (n.newest page).map fun r => BitVec.ofNat 256 (beNat r.data)

/-- The index build: a sector still RECEIVING, or with a header that fails, is ignored, duplicates are resolved for the higher GEN, RAM,
digests and totals are loaded, and an operation in progress is gone (R429, R431). -/
def Nv.build (n : Nv) : Nv :=
  let a := n.active
  let n := (n.modSect (1 - a) fun s => if s.usable then { s with st := .obsolete } else s).loadRam
  { n with
    seq := nextSeq (n.sect[a.val].recs.filter NvRec.valid)
    op := none
    waiting := []
    rpw := n.digest pageRpw
    wpw := n.digest pageWpw
    fails := 0
    lock := false
    stale := []
    erases := Vector.ofFn fun i => n.total 122 (4 * i.val)
    writes := n.total 122 24
    failed := n.total 123 0
    locks := n.total 123 4
    loads := n.total 123 8 }

/-! ### Meanings -/

/-- An upset of RAM has left a page's copy at odds with its CRC. -/
def Nv.upset (n : Nv) (page : Fin 128) : Nv := { n with ramCrc := upd n.ramCrc page fun c => if n.copyOk page then ~~~c else c }

/-- NV_READ; `rd.crcOk` false says that an upset has hit the page's RAM copy (R425, R432). -/
def execNvRead (port : PortId) (rd : PageRead) (s : State) : Host.Outcome State Fault Refusal :=
  let h := if rd.crcOk || !s.hub.powered then s.hub else { s.hub with nv := s.hub.nv.upset rd.page }
  s.answer ((h.namePage port rd.page).nvRead port (h.addrOf port 0) rd.page)

/-- NV_WRITE (R426). -/
def execNvWrite (port : PortId) (page : Fin 128) (s : State) : Host.Outcome State Fault Refusal :=
  s.answer ((s.hub.namePage port page).nvWrite port (s.hub.addrOf port 0) page)

/-- NV_PROGRAM_COMPLETE: the first attempt and the retry read back as written, or do not (R426, R428). -/
def execNvProgramComplete (ok1 ok2 : Bool) (s : State) : Host.Outcome State Fault Refusal :=
  s.answer (match s.hub.nv.op with
    | none => s.hub
    | some op => if s.hub.powered then s.hub.endOp op ok1 ok2 else s.hub)

/-- NV_KEY (R421). -/
def execNvKey (port : PortId) (write : Bool) (s : State) : Host.Outcome State Fault Refusal :=
  s.answer ((s.hub.setKsel port (if write then 1 else 0)).nvKey port (s.hub.addrOf port 0) write)

/-- NV_PASSWORD_CHANGE (R423). -/
def execNvPasswordChange (port : PortId) (write : Bool) (s : State) : Host.Outcome State Fault Refusal :=
  s.answer ((s.hub.setKsel port (if write then 3 else 2)).nvPassword port (s.hub.addrOf port 0) write)

/-- A key register with one word shifted into its low half (R364). -/
def Port.shiftKey (x : Port) (w : Word) : Port := { x with key := (x.key <<< 32) ||| w.zeroExtend 64 }

/-- NV_KEY_SHIFT (R364). -/
def execNvKeyShift (port : PortId) (w : Word) (s : State) : Host.Outcome State Fault Refusal :=
  s.answer (s.hub.modPort port fun x => x.shiftKey w)

/-- Bytes put into a buffer from an offset on, modulo its length. -/
def putBytes (buf : List Byte) (off : Nat) : List Byte → List Byte
  | [] => buf
  | b :: rest => putBytes (buf.set (off % 32) b) (off + 1) rest

/-- A page buffer with one word written at OFFSET, which advances by 4 (R364). -/
def Port.writeBuf (x : Port) (w : Word) : Port :=
  { x with buf := putBytes x.buf x.offset.toNat (wordBytes w), offset := x.offset + 4 }

/-- NV_DATA_WRITE (R364). -/
def execNvDataWrite (port : PortId) (w : Word) (s : State) : Host.Outcome State Fault Refusal :=
  s.answer (s.hub.modPort port fun x => x.writeBuf w)

/-- PAGE_RELOAD: a page whose RAM copy failed its check is loaded from its record (R432). -/
def execPageReload (page : Fin 128) (s : State) : Host.Outcome State Fault Refusal :=
  s.answer
    (if s.hub.nv.stale.contains page then
      let n := s.hub.nv
      let data := ((n.newest (BitVec.ofNat 16 page.val)).map NvRec.data).getD (List.replicate 32 0xFF)
      { s.hub with nv := { n.setRam page.val data with stale := n.stale.filter (· != page) } }
    else s.hub)

/-- HUB_PAGE_WRITE: a write of a hub-maintained page is due; the operands are the whole °C to which the extremes of page 124 round
(R434). -/
def execHubPageWrite (page : Fin 128) (inletMax inletMin intMax : Int) (s : State) :
    Host.Outcome State Fault Refusal :=
  s.answer (if s.hub.powered then s.hub.hubPage page inletMax inletMin intMax else s.hub)

end Sys2Proof.Machine
end

