-- ==== Sys2Proof/Machine/P256.lean ====
section
/-! DEFINITION. The verification of an ECDSA signature over the curve P-256, which the spec names without restating it (R292): curve
and algorithm are those of FIPS 186-5 and SEC 1 (PRESUMED, assumption 30). Points are in Jacobian coordinates, with Z = 0 for the
point at infinity. -/

namespace Sys2Proof.Machine

/-- The field prime, the curve's b, the order of its base point, and the base point. -/
def p256P : Nat := 0xffffffff00000001000000000000000000000000ffffffffffffffffffffffff
def p256B : Nat := 0x5ac635d8aa3a93e7b3ebbd55769886bc651d06b0cc53b0f63bce3c3e27d2604b
def p256N : Nat := 0xffffffff00000000ffffffffffffffffbce6faada7179e84f3b9cac2fc632551
def p256X : Nat := 0x6b17d1f2e12c4247f8bce6e563a440f277037d812deb33a0f4a13945d898c296
def p256Y : Nat := 0x4fe342e2fe1a7f9b8ee7eb4a7c0f9e162bce33576b315ececbb6406837bf51f5

/-- A difference in the field. -/
def p256Sub (a b : Nat) : Nat := (a + p256P - b) % p256P

/-- A point as X, Y, Z. -/
structure JPoint where
  x : Nat
  y : Nat
  z : Nat
  deriving DecidableEq, Repr, Inhabited

/-- The point at infinity. -/
def JPoint.infinity : JPoint := ⟨1, 1, 0⟩

/-- Twice a point. -/
def JPoint.double (a : JPoint) : JPoint :=
  if a.z = 0 then a
  else
    let z2 := a.z * a.z % p256P
    let y2 := a.y * a.y % p256P
    let m := 3 * (p256Sub a.x z2 * ((a.x + z2) % p256P)) % p256P
    let s := 4 * a.x * y2 % p256P
    let x := p256Sub (m * m % p256P) (2 * s % p256P)
    ⟨x, p256Sub (m * p256Sub s x % p256P) (8 * (y2 * y2 % p256P) % p256P), 2 * a.y * a.z % p256P⟩

/-- The sum of two points. -/
def JPoint.add (a b : JPoint) : JPoint :=
  if a.z = 0 then b
  else if b.z = 0 then a
  else
    let za := a.z * a.z % p256P
    let zb := b.z * b.z % p256P
    let u1 := a.x * zb % p256P
    let u2 := b.x * za % p256P
    let s1 := a.y * (zb * b.z % p256P) % p256P
    let s2 := b.y * (za * a.z % p256P) % p256P
    if u1 = u2 then (if s1 = s2 then a.double else JPoint.infinity)
    else
      let d := p256Sub u2 u1
      let r := p256Sub s2 s1
      let d2 := d * d % p256P
      let d3 := d2 * d % p256P
      let v := u1 * d2 % p256P
      let x := p256Sub (p256Sub (r * r % p256P) d3) (2 * v % p256P)
      ⟨x, p256Sub (r * p256Sub v x % p256P) (s1 * d3 % p256P), a.z * b.z % p256P * d % p256P⟩

/-- k times a point, by the low n bits of k, the highest first. -/
def JPoint.times (a : JPoint) (k : Nat) : Nat → JPoint
  | 0 => JPoint.infinity
  | n + 1 =>
    let t := (a.times (k / 2) n).double
    if k % 2 = 1 then t.add a else t

/-- A power modulo m, by the low n bits of the exponent. -/
def powMod (m a e : Nat) : Nat → Nat
  | 0 => 1 % m
  | n + 1 =>
    let t := powMod m a (e / 2) n
    let s := t * t % m
    if e % 2 = 1 then s * a % m else s

/-- The inverse modulo a prime below 2^256. -/
def invMod (m a : Nat) : Nat := powMod m a (m - 2) 256

/-- A point of the curve, given by its affine coordinates. -/
def onCurve (x y : Nat) : Bool :=
  decide (x < p256P ∧ y < p256P) && y * y % p256P == (p256Sub (x * x % p256P * x % p256P) (3 * x % p256P) + p256B) % p256P

/-- The signature r, s over a digest verifies under the public key with the coordinates qx, qy (R292). -/
def ecdsaVerify (qx qy : Nat) (digest : BitVec 256) (r s : Nat) : Bool :=
  onCurve qx qy && decide (0 < r ∧ r < p256N ∧ 0 < s ∧ s < p256N) &&
  let w := invMod p256N s
  let g := (⟨p256X, p256Y, 1⟩ : JPoint).times (digest.toNat * w % p256N) 256
  let q := (⟨qx, qy, 1⟩ : JPoint).times (r * w % p256N) 256
  let t := g.add q
  t.z != 0 && t.x * powMod p256P (t.z * t.z % p256P) (p256P - 2) 256 % p256P % p256N == r

end Sys2Proof.Machine
end

