-- ==== Sys2Proof/Machine/Ownership.lean ====
section
/-! DEFINITION. Ownership of planes and the end of scheduled transactions (R316, R317, R326), which standby, loads and
reloads share with the ports. -/

namespace Sys2Proof.Machine

/-- Set a cause of a plane in one port's copy, as `Hub.cause` does in every port's (R357). -/
def Hub.causeIn (h : Hub) (q : PortId) (p : PlaneId) (bit : Nat) : Hub :=
  let x := h.port q
  let calls := !(bitAt x.acause[(offOf p).val] bit) && bit < 21 && bitAt x.en[(offOf p).val] bit
  if calls then
    let full := !((h.plane p).outq.length < Config.outQueueDepth)
    let h := h.modPlane p (·.send (.cause bit))
    if full then h.modPort q fun x => { x with acause := upd x.acause (offOf p) (· ||| (1#32 <<< bit)) }
    else h.modPort q (·.cause (offOf p) bit)
  else h.modPort q (·.cause (offOf p) bit)

/-- Send a plane's log entry that concerns a port (R378). -/
def Hub.logPort (h : Hub) (p : PlaneId) (type : Byte) (q : PortId) (w4 : Word) : Hub :=
  h.modPlane p fun x => x.send (.log (x.mkRec p type (BitVec.ofNat 8 q.val) (data2 w4 0)))

/-- Ownership of a plane ends, with its record and, in every port but the one that released it, cause 17 (R317, R357).
The code is 0 for a release, 1 for OWNTO and 2 for a load (R379). -/
def Hub.endOwner (h : Hub) (p : PlaneId) (code : Nat) : Hub :=
  match (h.plane p).owner with
  | none => h
  | some o =>
    let h := h.modPlane p fun x => { x with owner := none }
    let h := h.logPort p 0x51 o (mkWord [fld code 4 4, fld (ownerCode (some o)) 4 0])
    ([0, 1, 2] : List PortId).foldl (fun (g : Hub) q => if code = 0 ∧ q = o then g else g.causeIn q p 17) h

/-- The word that names a scheduled transaction's tag (R353, R379). -/
def Sched.tag (s : Sched) : Word := mkWord [fld s.secLo.toNat 8 24, s.frame.toNat]

/-- A held word is one of plane p of this unit, or of the follower plane that has the place of p (R276). -/
def HeldWrite.atPlane (w : HeldWrite) (p : PlaneId) : Bool := w.plane == p

/-- A scheduled transaction still holds words of a plane. -/
def Sched.names (s : Sched) (p : PlaneId) : Bool := s.writes.any fun w => w.atPlane p

/-- A scheduled transaction without its words of a plane. -/
def Sched.without (s : Sched) (p : PlaneId) : Sched := { s with writes := s.writes.filter fun w => !w.atPlane p }

/-- The plane of this unit an address offset belongs to, or whose place it has in the follower. -/
def placeOf (off : Fin 8) : PlaneId := PlaneId.ofIndex (off.val % 4 + 2)

/-- Set a cause at an address offset in one port's copy. -/
def Hub.causeAt (h : Hub) (q : PortId) (off : Fin 8) (bit : Nat) : Hub :=
  if off.val < 4 then h.causeIn q (placeOf off) bit else h.modPort q (·.cause off bit)

/-- Record the discard of a port's scheduled transaction at a plane: reason SCHED, an entry and cause 14 (R326, R357). -/
def Hub.schedLost (h : Hub) (q : PortId) (p : PlaneId) (s : Sched) : Hub :=
  (((h.refuse q (h.addrOf q s.off) 0x0C .sched).logPort p 0x52 q s.tag)).causeAt q s.off 14

/-- Discard what one port has scheduled for a plane. -/
def Hub.discardSchedsOf (h : Hub) (p : PlaneId) (q : PortId) : Hub :=
  let hit := (h.port q).scheds.filter (·.names p)
  let h := h.modPort q fun x =>
    { x with scheds := (x.scheds.map fun (s : Sched) => s.without p).filter fun s => !s.writes.isEmpty }
  hit.foldl (fun (g : Hub) s => g.schedLost q p s) h

/-- Discard what every port has scheduled for a plane (R326, R453). -/
def Hub.discardScheds (h : Hub) (p : PlaneId) : Hub :=
  ([0, 1, 2] : List PortId).foldl (fun (g : Hub) q => g.discardSchedsOf p q) h

/-- A scheduled transaction was written at a follower address, or holds a write of one. -/
def Sched.far (s : Sched) : Bool := decide (4 ≤ s.off.val) || s.writes.any fun w => decide (4 ≤ w.off.val)

/-- At the end of a leave the follower addresses go, and with them every scheduled transaction that names one (R326). -/
def Hub.discardFarScheds (h : Hub) : Hub :=
  ([0, 1, 2] : List PortId).foldl (fun (g : Hub) q =>
    let hit := (g.port q).scheds.filter Sched.far
    let g := g.modPort q fun x => { x with scheds := x.scheds.filter fun s => !s.far }
    hit.foldl (fun (k : Hub) s => k.schedLost q (placeOf s.off) s) g) h

/-! ### Meanings -/

/-- OWNERSHIP_CLAIM: it succeeds when the plane is unowned or already owned by the port (R316). -/
def execOwnershipClaim (port : PortId) (p : PlaneId) (s : State) : Host.Outcome State Fault Refusal :=
  s.answer (s.hub.hostWrite port p 0x03 false false false fun h => h.modPlane p fun x => { x with owner := some port })

/-- A release by a port that does not own the plane ends nothing (R317). -/
def Hub.release (h : Hub) (q : PortId) (p : PlaneId) : Hub :=
  if (h.plane p).owner = some q then h.endOwner p 0 else h

/-- OWNERSHIP_RELEASE (R316, R317). -/
def execOwnershipRelease (port : PortId) (p : PlaneId) (s : State) : Host.Outcome State Fault Refusal :=
  s.answer (s.hub.hostWrite port p 0x03 false false false fun h => h.release port p)

/-- OWNERSHIP_TIMEOUT: an OWNTO of 0 means never (R317). -/
def execOwnershipTimeout (p : PlaneId) (s : State) : Host.Outcome State Fault Refusal :=
  s.answer (if s.hub.powered ∧ (s.hub.plane p).sect.ownto ≠ 0 then s.hub.endOwner p 1 else s.hub)

end Sys2Proof.Machine
end

