-- ==== Sys2Proof/Machine/Tandem.lean ====
section
/-! DEFINITION. Tandem operation over the Chimney (R266 to R289), as one unit of the pair sees it. The partner's side
reaches it through the operands of the commands and through the mirror. -/

namespace Sys2Proof.Machine

/-! ### Records -/

/-- A tandem event of the unit: its entry, and cause 18 on every plane (R357, R379). The code is 1 join, 2 leave,
3 abandoned, 4 refused, 5 switch-over, 6 loss. -/
def Hub.tandemEvent (h : Hub) (code : Nat) : Hub :=
  let h := h.ulog 0x40 0xFF (data2 (BitVec.ofNat 32 code) 0)
  if code = 4 then h else PlaneId.all.foldl (fun (g : Hub) p => g.cause p 18) h

/-- Change the Chimney. -/
def Hub.modChim (h : Hub) (f : Chimney → Chimney) : Hub := { h with chim := f h.chim }

/-! ### REF3 of a follower plane -/

/-- The plane takes its REF3 from the Chimney. -/
def Plane.onChimney (x : Plane) : Bool := x.sect.ref3 == .chimney

/-- Hold a Chimney REF3 out of selection, or let it in (R272, R286). -/
def Plane.hold3 (x : Plane) (p : PlaneId) (b : Bool) : Plane :=
  if x.onChimney then { x with sel := { x.sel with held3 := b } }.holdRefs p else x

/-- The loop that has REF3 loses it and holds (R67, R285, R286). -/
def Plane.leave3 (x : Plane) (p : PlaneId) (v : Int) : Plane :=
  if x.sel.active = some 3 then (if x.loop.inLoop then x.toEmber p v else x.noActive) else x

/-- A follower plane takes FORCED on REF3 (R273). -/
def Plane.takeRef3 (x : Plane) (p : PlaneId) (v : Int) : Plane :=
  ((x.hold3 p false).setMode p v .forced).setFref p 3

/-- A follower plane is separated: REF3 is held out again, the loop that had it holds, and the plane takes a mode with
its forced reference (R273, R286, R287). -/
def Plane.dropRef3 (x : Plane) (p : PlaneId) (v : Int) (m : LoopMode) (r : Fin 4) : Plane :=
  (((x.hold3 p true).leave3 p v).setMode p v m).setFref p r

/-- A follower plane whose word clock stands takes or gives back its mode and forced reference without a review; it is held out of
REF3 as `out` says (R273, R286, R461). -/
def Plane.modeStopped (x : Plane) (out : Bool) (m : LoopMode) (r : Fin 4) : Plane :=
  { x with sel := { x.sel with mode := m, fref := r, held3 := if x.onChimney then out else x.sel.held3 } }

/-- Every plane of a follower takes a mode with its forced reference. -/
def Hub.modeAll (h : Hub) (out : Bool) (m : PlaneId → LoopMode) (r : PlaneId → Fin 4) (f : PlaneId → Int → Plane → Plane) : Hub :=
  PlaneId.all.foldl (fun (g : Hub) p =>
    if g.active p then g.onPlaneFree p (f p) else g.modPlane p fun x => x.modeStopped out (m p) (r p)) h

/-! ### The two ports -/

/-- A port of the Chimney is UP. -/
def Chimney.isUp (c : Chimney) (ch : Fin 2) : Bool := c.st[ch.val] == .up

/-- The UID of the partner a port sees. -/
def Chimney.partnerOn (c : Chimney) (ch : Fin 2) : Option (BitVec 32) := c.sights[ch.val].partner.map PartnerId.uid

/-- The partner is the matched one: its image is the one this unit's image names, and carries this unit's digest (R270). -/
def Hub.matched (h : Hub) (i : PartnerId) : Bool := i.digest == h.partner && i.carries == h.runningDigest

/-- The partner is another one than the partner joined, or than the one on the active port (R271). -/
def Hub.otherPartner (h : Hub) (ch : Fin 2) (i : PartnerId) : Bool :=
  (h.chim.mate.any fun m => m != i.uid) ||
  (ch != h.chim.active && (h.chim.partnerOn h.chim.active).any fun m => m != i.uid)

/-- A lane is UP under R175, judged with D_CH and TURN_CH: its last whole group passed its checks, named the lane, echoed D_CH, and
its labels came back within 10 cycles of 2 × D_CH + TURN_CH (R177, R268). -/
def laneUp (dch : Nat) : LaneState → Bool
  | .group checked named echo trip =>
    let due := (2 * dch + Config.turnCh) / 2000
    checked && named && echo.toNat == dch && decide (trip ≤ due + 10) && decide (due ≤ trip + 10)
  | .dark => false
  | .light => false
  | .aligned => false

/-- The state of a Chimney port that sees so much (R268 to R271). A unit whose image declares NONE, and one in standby, keeps it
dark. The order of the cases is a DESIGN CHOICE where the rules leave it open (log entry 110). -/
def Hub.judgePort (h : Hub) (ch : Fin 2) (s : PortSight) : ChState :=
  if h.udecl.role = .none ∨ h.ustby = true ∨ s.lanes.toList.contains .dark = true then .down
  else if s.lanes.toList.contains .light then .seek
  else if (s.partner.all fun i => !h.matched i || h.otherPartner ch i) then .mismatch
  else if s.lanes.toList.all (laneUp h.udecl.dch[ch.val]) then .up
  else .seek

/-- A Chimney port takes a state (R268, R285): an excursion is judged anew from an entry into UP, and a lost standby port of a
joined pair is counted. -/
def Hub.chimneyState (h : Hub) (ch : Fin 2) (st : ChState) : Hub :=
  let old := h.chim.st[ch.val]
  let h := h.modChim fun c =>
    let c := { c with st := upd c.st ch fun _ => st }
    if st = .up ∧ old ≠ .up then
      { c with ex := upd c.ex ch fun _ => false, exBad := upd c.exBad ch fun _ => 0, exGood := upd c.exGood ch fun _ => 0 }
    else c
  if h.joined ∧ old = .up ∧ st ≠ .up ∧ ch ≠ h.chim.active then h.ucount 19 else h

/-- Both ports are judged anew by what they see: each time one sees something else, the active port or the partner joined changes,
and under a new image or at the end of standby (R269 to R271, R459). -/
def Hub.rejudgePorts (h : Hub) : Hub :=
  let h := h.chimneyState 0 (h.judgePort 0 h.chim.sights[0])
  h.chimneyState 1 (h.judgePort 1 h.chim.sights[1])

/-- A Chimney port hears a lane-3 slot 0, and the active one of a follower plane whose time counter disagrees: its crossings are
suspect in this millisecond and the next (R279, R284). -/
def Chimney.sees (c : Chimney) (ch : Fin 2) (clk : Nat) (s : PortSight) : Chimney :=
  let c := { c.hear ch clk s.slot0 with sights := upd c.sights ch fun _ => s }
  if ch = c.active then
    { c with timeBad := ⟨if s.timeOff.a then 2 else c.timeBad.a, if s.timeOff.b then 2 else c.timeBad.b,
                         if s.timeOff.c then 2 else c.timeBad.c⟩ }
  else c

/-- A Chimney port sees something else. -/
def Hub.chimneySees (h : Hub) (ch : Fin 2) (s : PortSight) : Hub :=
  (h.modChim fun c => c.sees ch (h.plane .a).time.clk s).rejudgePorts

/-! ### Joining -/

/-- A plane allows a join: in RUN, with no reload ordered and under no training hold (R272, R306). -/
def Plane.joinable (x : Plane) : Bool := x.power == .run && x.next.isNone && !x.covered

/-- A check of R272 but that of Husk fails. -/
def Hub.joinFails (h : Hub) (r : PartnerReady) : Bool :=
  h.udecl.role != .leader || !(h.chim.isUp 0 || h.chim.isUp 1) || !r.ref3Qual || !r.planesOk ||
  !(PlaneId.all.all fun p => (h.plane p).joinable && h.active p) || h.chim.joinPend || h.chim.leavePend ||
  h.chim.role != .solo

/-- Some plane of the unit is in Husk. -/
def Hub.anyHusk (h : Hub) : Bool := PlaneId.all.any fun p => (h.plane p).inHusk

/-- Why a join command is refused (R272, R397). -/
def Hub.joinReason (h : Hub) (q : PortId) (r : PartnerReady) : Reason :=
  h.unitReason q false h.anyHusk (h.joinFails r)

/-- The join command: a failed check is logged beside its refusal; the join is pending from its commit on (R272). -/
def Hub.joinCmd (h : Hub) (q : PortId) (addr : BitVec 7) (r : PartnerReady) : Hub :=
  let why := h.joinReason q r
  let h := if h.powered && (why == .husk || why == .state) then h.tandemEvent 4 else h
  h.judged q addr 0x13 why fun h => (h.modChim fun c =>
    { c with active := if c.isUp 0 then 0 else 1, joinPend := true, announced := false
             joinSec := (h.plane .a).time.sec }).rejudgePorts

/-- The announcement in the leader, and in a follower its planes' FORCED on REF3 (R273). -/
def Hub.announce (h : Hub) : Hub :=
  if h.udecl.role = .leader then
    if h.chim.joinPend then (h.modChim fun c => { c with announced := true }).laneAction 3 else h
  else if h.udecl.role = .follower ∧ h.chim.role = .solo ∧ h.chim.announced = false then
    let h := (h.modChim fun c => { c with
      announced := true, joinPend := true
      active := if c.isUp 0 then 0 else 1
      kept := ⟨(h.plane .a).sel.mode, (h.plane .b).sel.mode, (h.plane .c).sel.mode⟩
      keptRef := ⟨(h.plane .a).sel.fref, (h.plane .b).sel.fref, (h.plane .c).sel.fref⟩ }).rejudgePorts
    h.modeAll false (fun _ => .forced) (fun _ => 3) fun p v x => x.takeRef3 p v
  else h

/-- PPS J may come: a leader's REALIGNs are done and three seconds have passed since S; a follower's planes have been
LOCKED for a whole second before this instant and are covered by no hold (R273, R289). -/
def Hub.joinDue (h : Hub) : Bool :=
  h.chim.joinPend && h.chim.announced &&
  (if h.udecl.role = .leader then
    decide (3 ≤ ((h.plane .a).time.sec - h.chim.joinSec).toNat) && !(PlaneId.all.any fun p => (h.plane p).grid.rlgnPend)
  else
    PlaneId.all.all fun p => h.active p && (h.plane p).loop.state == .locked &&
      decide ((h.plane p).loop.lockAt + Config.cycPerSec ≤ (h.plane p).time.clk) && !(h.plane p).covered)

/-- The units enter their joined roles at PPS J; a follower's planes take their leader planes' PPS and SEC (R273). -/
def Hub.completeJoin (h : Hub) (secs : Tri Word) : Hub :=
  let role : Role := if h.udecl.role = .leader then .leader else .follower
  let h := if role = .follower then PlaneId.all.foldl (fun (g : Hub) p => g.realignTo p (secs.get p)) h else h
  (h.modChim fun c => { c with
    role := role, joinPend := false, announced := false, loss := false, opened := true, moving := Tri.same 0
    mate := c.partnerOn c.active, tnext := Vector.replicate 3 0, tdone := Vector.replicate 3 0
    outSent := Vector.replicate 3 0 }).rejudgePorts.tandemEvent 1

/-- The join is abandoned: follower planes return to the mode they kept, and what queue 483 still holds of it goes (R273). -/
def Hub.abandonJoin (h : Hub) : Hub :=
  if h.chim.joinPend then
    let back := h.udecl.role == .follower && h.chim.announced
    let kept := h.chim.kept
    let refs := h.chim.keptRef
    let h := h.modChim fun c => { c with joinPend := false, announced := false, out := upd c.out 3 Queue.clear, sends := [] }
    let h := if back then h.modeAll true kept.get refs.get fun p v x => x.dropRef3 p v (kept.get p) (refs.get p) else h
    h.tandemEvent 3
  else h

/-! ### Separating -/

/-- Entries of the tunnel not yet acknowledged: the leader's outbound queues 480 to 482 (R278, R279). -/
def Chimney.unacked (c : Chimney) : Nat := c.out[0].q.length + c.out[1].q.length + c.out[2].q.length

/-- Crossed inputs of a plane are inactive, and no follower plane's hold is seen any more (R32, R286). -/
def Plane.dropCrossed (x : Plane) : Plane :=
  { x with grid := { x.grid with farHold := false }, fab := { x.fab with sigs := x.fab.sigs.filter fun (s : Signal) =>
      match s.src with
      | .chin _ => false
      | _ => true } }

/-- A snapshot that is pending goes on as a unit's that is not joined: one not captured is seen from now on, and one that waits for
its follower's PSTATE words is without them (R412, R445). -/
def Hub.loneSnapshot (h : Hub) : Hub :=
  if h.snap.pending && h.snap.tag.isNone then
    { h with snap := { h.snap with seen := h.planes.map fun (x : Plane) => some x.time.clk } }
  else h.finishSnapshot

/-- The units are separated, by a leave or as a loss, and the unit is SOLO (R286, R287). -/
def Hub.separate (h : Hub) (lost : Bool) : Hub :=
  let following := h.chim.role == .follower
  let kept := h.chim.kept
  let refs := h.chim.keptRef
  let n := if h.chim.role = .leader then h.chim.unacked else 0
  let h := h.modChim fun c => { c with
    role := .solo, joinPend := false, leavePend := false, announced := false, opened := false, loss := lost
    moving := Tri.same 0, out := c.out.map Queue.clear, inq := c.inq.map Queue.clear, mate := none
    outSent := Vector.replicate 3 0, sends := [] }
  let h := ((h.rejudgePorts.ucountN 30 n).allPlanes fun _ x => { x.dropCrossed with commits := x.commits.filter fun w => !w.tunnel }).allPorts
    fun x => { x with sent := [], fetch := [] }
  let h := { h with ucommits := h.ucommits.filter fun w => !w.tunnel }
  let h := h.discardFarScheds.loneSnapshot
  let mode := fun (p : PlaneId) => if lost then LoopMode.hold else kept.get p
  let fref := fun (p : PlaneId) => if lost then (h.plane p).sel.fref else refs.get p
  let h := if following then h.modeAll true mode fref fun p v x => x.dropRef3 p v (mode p) (fref p) else h
  let h := if lost then PlaneId.all.foldl (fun (g : Hub) p => g.event p fun x => x.setDet 51 true) h else h
  h.tandemEvent (if lost then 6 else 2)

/-! ### Switch-over -/

/-- The standby port becomes the active one, each follower loop holds until its measured step, and the tunnel sends again what is
not acknowledged (R278, R285). -/
def Hub.switchOver (h : Hub) (inFlight : Nat) : Hub :=
  let o := h.chim.active
  if h.joined ∧ h.chim.isUp o = false ∧ h.chim.isUp (1 - o) = true then
    let h := ((h.modChim fun c => { c with
      active := 1 - o, outSent := Vector.replicate 3 0, moving := Tri.same (if c.role = .follower then 2 else 1) }).rejudgePorts.ucount 18).ucountN 30 inFlight
    let h := if h.following then
        PlaneId.all.foldl (fun (g : Hub) p => g.eventFree p fun v x => x.leave3 p v) h
      else h
    h.tandemEvent 5
  else h

/-! ### The tunnel, seen from the leader -/

/-- The register a write names in a tunnel entry. -/
def WriteKind.reg5 : WriteKind → BitVec 5
  | .reg r _ => r
  | .record _ _ _ => 0x0E
  | .standby _ => 0x16
  | .force _ _ => 0x0E

/-- A port's write of a follower register or record enters the tunnel (R278, R279): one entry of its queue, whose payload
names the register, and the write itself with its number beside it. -/
def Hub.enterTunnel (h : Hub) (q : PortId) (off : Fin 8) (k : WriteKind) : Hub :=
  let full := h.chim.out[q.val].isFull
  let n := h.chim.tnext[q.val]
  let h := h.chimneyPush (Fin.ofNat 16 q.val) { type := BitVec.ofNat 8 off.val, payload := k.reg5.zeroExtend 64 }
  if full then h
  else (h.modChim fun c => { c with tnext := upd c.tnext q (· + 1) }).modPort q fun x => { x with sent := x.sent ++ [(n, off, k)] }

/-- A cause word of a follower address reaches a port: an enabled cause that was clear calls for a message (R276, R333). -/
def Port.followerCause (x : Port) (off : Fin 8) (w : Word) : Port :=
  let old := x.acause[off.val]
  let en : Word := if off = 4 then x.uen.zeroExtend 32 else x.en[off.val].zeroExtend 32
  let y := { x with acause := upd x.acause off (· ||| w) }
  if w &&& ~~~old &&& en = 0 then y else y.pendMsg off.castSucc

/-! ### Meanings -/

/-- JOIN_COMMAND (R272). -/
def execJoinCommand (port : PortId) (ready : PartnerReady) (s : State) : Host.Outcome State Fault Refusal :=
  s.answer (s.hub.joinCmd port (s.hub.addrOf port 1) ready)

/-- JOIN_ANNOUNCE at the PPS of S + 1 (R273). -/
def execJoinAnnounce (s : State) : Host.Outcome State Fault Refusal :=
  s.answer (if s.hub.powered then s.hub.announce else s.hub)

/-- JOIN_COMPLETE at PPS J, with the SEC each leader plane has there (R273). -/
def execJoinComplete (leaderSec : Tri Word) (s : State) : Host.Outcome State Fault Refusal :=
  s.answer (if s.hub.powered ∧ s.hub.joinDue = true then s.hub.completeJoin leaderSec else s.hub)

/-- JOIN_ABANDON at the PPS of S + 12 (R273). -/
def execJoinAbandon (s : State) : Host.Outcome State Fault Refusal :=
  s.answer (if s.hub.powered then s.hub.abandonJoin else s.hub)

/-- The leave command: refused while the units are not joined, or a join is pending (R286, R289). -/
def Hub.leaveCmd (h : Hub) (q : PortId) (addr : BitVec 7) : Hub :=
  h.judged q addr 0x13 (h.unitReason q false false (h.chim.role != .leader || h.chim.joinPend))
    fun h => (h.modChim fun c => { c with leavePend := true }).laneAction 4

/-- LEAVE_COMMAND (R286). -/
def execLeaveCommand (port : PortId) (s : State) : Host.Outcome State Fault Refusal :=
  s.answer (s.hub.leaveCmd port (s.hub.addrOf port 1))

/-- LEAVE_EFFECT at the first PPS at least 1 s after the command; a follower learns of the leave over lane 3. With neither port
UP, the pending leave is a loss (R286, R289). -/
def execLeaveEffect (s : State) : Host.Outcome State Fault Refusal :=
  s.answer (if s.hub.powered ∧ (s.hub.chim.leavePend = true ∨ s.hub.following = true) then
      s.hub.separate (s.hub.joined && !s.hub.chim.isUp 0 && !s.hub.chim.isUp 1)
    else s.hub)

/-- CHIMNEY_PORT_STATE: a port sees something else on its lanes (R268). -/
def execChimneyPortState (ch : Fin 2) (sight : PortSight) (s : State) : Host.Outcome State Fault Refusal :=
  s.answer (if s.hub.powered then s.hub.chimneySees ch sight else s.hub)

/-- CHIMNEY_SWITCH_OVER with the crossing events in flight on the lost port (R285). -/
def execChimneySwitchOver (inFlight : Nat) (s : State) : Host.Outcome State Fault Refusal :=
  s.answer (if s.hub.powered then s.hub.switchOver inFlight else s.hub)

/-- CHIMNEY_LOSS: the active port has left UP and the standby is not UP (R287). -/
def execChimneyLoss (s : State) : Host.Outcome State Fault Refusal :=
  s.answer (if s.hub.powered ∧ s.hub.joined = true ∧ s.hub.chim.isUp 0 = false ∧ s.hub.chim.isUp 1 = false then
      s.hub.separate true
    else s.hub)

/-- FOLLOWER_RECORD_FETCH: a record fetched over the tunnel is at the leader's port (R277). -/
def execFollowerRecordFetch (port : PortId) (rec : FollowerRecord) (s : State) :
    Host.Outcome State Fault Refusal :=
  s.answer (if s.hub.chim.role = .leader then
      s.hub.modPort port fun x => { x with fetch := x.fetch ++ [((rec.space, rec.index), rec.words.take 64)] }
    else s.hub)

/-- TUNNEL_ACK: the leader releases the oldest entry of the port's tunnel (R278). -/
def execTunnelAck (port : PortId) (s : State) : Host.Outcome State Fault Refusal :=
  s.answer ((s.hub.modChim fun c => { c with
      out := upd c.out (Fin.ofNat 16 port.val) Queue.pop
      outSent := upd c.outSent port (· - 1) }).modPort port fun x => { x with sent := x.sent.drop 1 })

/-- FOLLOWER_ATTENTION_RECEIVED in a joined leader, whose ports raise attention naming the follower address (R276). -/
def execFollowerAttentionReceived (offset : Fin 8) (cause : Word) (s : State) : Host.Outcome State Fault Refusal :=
  s.answer (if s.hub.chim.role = .leader ∧ 4 ≤ offset.val then s.hub.allPorts fun x => x.followerCause offset cause
    else s.hub)

end Sys2Proof.Machine
end

