-- ==== Sys2Proof/Machine/Start.lean ====
section
/-! DEFINITION. How a plane takes a section of an image and how it starts: at Kindling, at a standby exit and at the end of
a reload (R295 to R305, R449, R453 to R457). -/

namespace Sys2Proof.Machine

/-! ### Run-time settings from a section (R298) -/

/-- Settings of a CK output from its declaration; a running output takes them as writes (R124, R129). -/
def Plane.imageCk (x : Plane) (d : PlaneDecl) : Plane :=
  (List.finRange 16).foldl (fun (z : Plane) n =>
    let c := d.ck[n.val]
    let z := z.modCk n fun k => { k with hgate := c.gate, wait := [], held := false }
    { z with ck := upd z.ck n fun k => if k.run = .running ∧ k.k = c.k ∧ k.f = c.f then k else k.setDelay c.k c.f }) x

/-- Settings of a PU output from its declaration. -/
def puSet (d : PuDecl) : PuSet := { gen := d.gen, coarse := d.coarse, fine := d.fine, width := d.width }

/-- Settings of a generator from its declaration (R249). -/
def genSet (d : GenDecl) : GenSet :=
  { en := d.enabled, bint := BitVec.ofNat 8 d.period, startSec := d.startSec, startLow := d.startLow
    uper := BitVec.ofNat 32 d.period, ufine := d.ufine }

/-- Settings of a link from its declaration; its counters and its state stay. Another D or TURN than the one committed is
announced as a write's is (R157, R166); at a start it is in force at once. -/
def Link.image (k : Link) (d : LinkDecl) : Link :=
  { k with
    wait := if (d.d, d.turn) = k.committedD then k.wait else some (d.d, d.turn), waitHeld := false, rtttol := d.rtttol
    damph := 0, hsel := false, epd2 := d.epd2, epd3 := d.epd3, epdWait := none
    dqCmd := { k.dqCmd with nthr := d.nthr[0] }, dqBulk := { k.dqBulk with nthr := d.nthr[1] }
    uqStat := { k.uqStat with nthr := d.nthr[2] }, uqBulk := { k.uqBulk with nthr := d.nthr[3] } }

/-- A severity from the image, with those of R385 fixed. -/
def imageSev (d : PlaneDecl) (n : Fin 64) : Severity :=
  if n = 46 then .safe else if 52 ≤ n.val then .record else d.sev[n.val]

/-- Put a section in force with every run-time setting at its image value (R298). Generators are left to the start or the
reload. -/
def Plane.takeSection (x : Plane) (d : PlaneDecl) : Plane :=
  let y := x.imageCk d
  let y := { y with
    sect := d
    sel := { y.sel with mode := d.mode, fref := d.fref, revert := d.revertive, prio := Vector.ofFn fun i => d.refs[i.val].prio }
    loop := { y.loop with bw := d.bwcode, freq := 0 }
    grid := { y.grid with goff := d.goff }
    pu := Vector.ofFn fun i => { y.pu[i.val] with hgate := d.pu[i.val].gate, wait := none }.setAll (puSet d.pu[i.val])
    trigOut := Vector.ofFn fun i => { y.trigOut[i.val] with fine := d.trigOut[i.val].fine, wait := none }
    link := Vector.ofFn fun l => y.link[l.val].image d.links[l.val]
    gq := Vector.ofFn fun g => { y.gq[g.val] with nthr := d.groups[g.val].nthr }
    fab := { y.fab with cells := Vector.ofFn fun i => d.fabric.cells[i.val].init, bad := [] }
    flt := { y.flt with inj := {}, src := Vector.ofFn fun n => { y.flt.src[n.val] with sev := imageSev d n } } }
  y.refreshBw

/-- Generators take the image's settings afresh. -/
def Plane.imageGens (x : Plane) : Plane :=
  { x with gen := Vector.ofFn fun g => { set := genSet x.sect.gens[g.val] } }

/-! ### A start -/

/-- A CK output as it starts: stopped, at its written delay, with a deferred write taken. -/
def Ck.start (c : Ck) : Ck :=
  let k := c.committed.1
  let f := c.committed.2
  { hgate := c.hgate, isol := c.isol, k := k, f := f, fnow := f }

/-- A PU output as it starts. -/
def Pu.start (u : Pu) : Pu :=
  let v := u.committed
  { hgate := u.hgate, isol := u.isol, set := v, omitted := u.omitted }

/-- A queue without entries or marks; its threshold and counter stay. -/
def Queue.start (q : Queue) : Queue := { nthr := q.nthr, occ := q.occ }

/-- A group queue without entries or marks. -/
def GQueue.start (q : GQueue) : GQueue := { nthr := q.nthr, occ := q.occ }

/-- A link as it starts: OFF, with its settings, isolation and counters. -/
def Link.start (k : Link) : Link :=
  { isol := k.isol, isolBy := k.isolBy, d := k.committedD.1, turn := k.committedD.2
    rtttol := k.rtttol, damph := k.damph, hsel := k.hsel
    epd2 := k.committedEpd.1, epd3 := k.committedEpd.2
    dqCmd := k.dqCmd.start, dqBulk := k.dqBulk.start, uqStat := k.uqStat.start, uqBulk := k.uqBulk.start, cnt := k.cnt }

/-- A source whose plane's clock runs again: its detector begins from nothing, and what is sticky stays (R389, R390). -/
def Src.start (s : Src) : Src := { s with det := false, live := false, wire := false, cond := false, ev := 0 }

/-- The loop as it starts: FREE with steering value and FREQ 0 and no history, reporting the selected bandwidth code (R82,
R91, R456); Husk is left only by HUSKCLR or Kindling (R398). -/
def Loop.start (l : Loop) : Loop :=
  { state := if l.state = .husk then .husk else .free
    bw := l.bw, effbw := l.bw, forced := l.forced, step := l.step }

/-- The word clock of a plane is released and the plane starts: its loop in FREE, its grid unregistered, its outputs by
their start policy, its links from DOWN where its oven gate is open, its monitors and detectors from nothing (R449, R453 to
R456, R490). `released` says that REF3 of the Chimney may be selected. -/
def Plane.release (x : Plane) (b000Year : Nat) (released : Bool) : Plane :=
  let y := { x with
    power := .run
    withUnit := false
    time := {}
    sel := { x.sel with active := none, auto := none, sw := none, disputes := [], held3 := x.onChimney && !released }
    loop := x.loop.start
    grid := { goff := x.grid.goff }
    vcobLock := false, vcobOut := false, vcobBad := false, vcobDif := 0
    ck := x.ck.map Ck.start
    pu := x.pu.map Pu.start
    trigOut := x.trigOut.map fun (t : TrigOut) => { fine := t.committed }
    ti := x.ti.map fun (t : TrigIn) => { dis := t.dis }
    cnt := (x.countN 23 (x.link.toList.map fun (k : Link) => k.tests.length).sum).cnt
    link := x.link.map Link.start
    gq := x.gq.map GQueue.start
    hold := Vector.replicate 32 {}
    grpT := 0, grpAt := 0, vcobAcc := 0, vcobOdd := false
    fab := { online := true, cells := x.fab.cells, bad := x.fab.bad }
    gen := x.gen.map fun (g : Gen) => { set := g.committed }
    flt := { src := x.flt.src.map Src.start, uforce := x.flt.uforce, inj := { x.flt.inj with left := 0 } }
    ref := x.ref.map fun (r : Ref) => { r with heldOut := false } }
  let y := { y with ref := Vector.ofFn fun i =>
    { y.ref[i.val] with heldOut := y.flt.src[i.val].react || (y.flt.src[(Fin.ofNat 64 (4 + i.val)).val]).react ||
        (i == 3 && y.sel.held3) } }
  let y := y.startSched.monitorStart b000Year
  let y := if y.inHusk then y else y.history 0
  if y.oven.gate then y.lightLinks else y

/-- Unit sources that are still sticky when a plane's clock runs again apply their reaction at its first frame boundary
(R457), after the firings of the plane's own start; a snapshot still pending is seen in the plane from then on (R412, R489). -/
def Hub.lateUnit (h : Hub) (p : PlaneId) : Hub :=
  let late := (List.finRange 32).filterMap fun n =>
    let s := h.usrc[n.val]
    if s.sticky && (s.sev == .safe || s.sev == .isolate && !engineSource n) then some (192 + n.val, 0) else none
  let seen := if h.snap.pending then h.snap.seen.set p (some 0) else h.snap.seen
  { h with hand := h.hand.set p [], snap := { h.snap with seen := seen } }.modPlane p fun x =>
    { x with flt := { x.flt with fired := x.flt.fired ++ late } }

/-- A Chimney REF3 may be selected: the units are joined, or a join has been announced (R272). -/
def Hub.ref3Free (h : Hub) : Bool := h.joined || h.chim.announced

/-- Start a plane: its comparators count anew (R390), a unit source that forces Ember no more leaves it, and its first bank is
gathered at once. -/
def Hub.startPlane (h : Hub) (p : PlaneId) : Hub :=
  let g := ((h.onPlane p fun x => x.release h.udecl.b000Year h.ref3Free).lateUnit p).restartComparators p
  let g := g.modPlane p fun x => { x with flt := { x.flt with uforce := x.flt.uforce &&& g.unitForcing } }
  (g.modPlane p fun x => { x with loop := { x.loop with forced := x.loop.forced && g.forcing p } }).firstBank p

/-- The clock plans of two sections agree (R115). -/
def sameClockPlan (a b : PlaneDecl) : Bool :=
  a.fB == b.fB &&
  ((List.finRange 16).all fun i =>
    let c := a.ck[i.val]
    let d := b.ck[i.val]
    c.srcB == d.srcB && c.n == d.n && c.fmt == d.fmt && c.enabled == d.enabled && c.early == d.early &&
    a.trigOut[i.val].coarse == b.trigOut[i.val].coarse) &&
  (List.finRange 4).all fun i => a.pu[i.val].fmt == b.pu[i.val].fmt && a.pu[i.val].enabled == b.pu[i.val].enabled

end Sys2Proof.Machine
end

