-- ==== Sys2Proof/Machine/Power.lean ====
section
/-! DEFINITION. Power good, Kindling, the image at Kindling, and the oven gate (R295, R296, R448 to R451, R466). -/

namespace Sys2Proof.Machine

/-! ### Kindling -/

/-- What a port declares until an image is applied, and in BARE (R15, R296, R313). -/
def barePort : PortDecl :=
  { rights := ⟨#[.none, .read, .read, .read, .none, .none, .none, .none], rfl⟩, image := true, auth := true }

/-- The event log at power-up: its ring goes on from one above the highest SEQ (R435). -/
def EvLog.powerUp (l : EvLog) : EvLog :=
  { ring := l.ring, seq := l.ring.foldl (fun m e => max m (e.2[0].toNat + 1)) 0 }

/-- Change the image state. -/
def Hub.modCfg (h : Hub) (f : Cfg → Cfg) : Hub := { h with cfg := f h.cfg }

/-- Change a slot. -/
def Hub.modSlot (h : Hub) (i : Fin 2) (f : Slot → Slot) : Hub := h.modCfg fun c => { c with slot := upd c.slot i f }

/-- A slot after a loss of power: an erase, a stream or a verification that was cut leaves it unverified (R301). -/
def Slot.powerUp (s : Slot) (erasing busy : Bool) : Slot :=
  { s with
    erased := s.erased && !erasing
    verified := s.verified && !(erasing || busy)
    cut := s.cut || erasing || busy
    known := s.known && !erasing }

/-- A stream or a verification of the slot is in progress. -/
def Cfg.busyWith (c : Cfg) (i : Fin 2) : Bool :=
  c.verifying.contains i || (c.openBy.map fun o => o.2) == some i

/-- The configuration flash after a loss of power, with the boot record the store holds (R294, R434). -/
def Cfg.powerUp (c : Cfg) (n : Nv) : Cfg :=
  { slot := Vector.ofFn fun i => c.slot[i.val].powerUp (c.erasing.contains i) (c.busyWith i)
    boot := if n.ram.read (32 * 120) = 1 then 1 else 0
    boots := n.total 120 4 }

/-- Everything volatile is at its reset value; what was made, the flash devices and the feeds' protection stay (R448,
R449). -/
def Hub.fromFlash (h : Hub) : Hub :=
  (PlaneId.all.foldl Hub.firstBank
  { ident := h.ident
    powered := true
    conv := h.conv
    ports := Vector.replicate 3 { cfg := barePort, answers := true }
    nv := h.nv.build
    log := h.log.powerUp
    cfg := h.cfg.powerUp h.nv.build
    env := { feed := h.env.feed.map fun (f : Feed) => { cut := f.cut } }
    freeIdx := h.freeIdx }).setFans

/-- Record a bus recovery of a port: its entry and its counter (R339, R379, R411). -/
def Hub.recordRecovery (h : Hub) (q : PortId) (ok : Bool) : Hub :=
  (h.ulog 0x50 (BitVec.ofNat 8 q.val) (data2 (mkWord [fld (b2n ok) 1 8, q.val]) 0)).ucount (Fin.ofNat 32 (15 + q.val))

/-- A port whose SDA is low before it first answers is recovered; whether that succeeds is the bus's (R338, R449). -/
def Hub.kindleBus (h : Hub) (q : PortId) (sdaLow : Bool) : Hub :=
  if sdaLow then h.fresh.2.recordRecovery q (h.fresh.1 % 2 != 0) else h

/-- The security element's self-test result (R441). -/
def Hub.selfTest (h : Hub) (ok : Bool) : Hub :=
  if ok then h else { h with auth := { h.auth with err := true } }.setUDet 14 true

/-- The resolution of duplicate record numbers (R431). -/
def Hub.resolved (h : Hub) (n : Nat) : Hub := if n = 0 then h else (h.ucountN 3 n).fireUEvent 15

/-- Kindling up to the boot-slot read (R449). -/
def Hub.kindle (h : Hub) (sdaLow : Vector Bool 3) (selfTestOk : Bool) : Hub :=
  let dup := h.nv.duplicates
  let bad := h.nv.badCrcs
  let h := ((h.fromFlash.selfTest selfTestOk).ucountN 4 bad).resolved dup
  let h := h.ulog 0x21 0xFF (data2 0 0)
  let h := (h.ownWrite 121 (h.page121 0 1)).startWaiting
  ((h.kindleBus 0 sdaLow[0]).kindleBus 1 sdaLow[1]).kindleBus 2 sdaLow[2]

/-- Power good is lost: a record whose MARK was programmed stays, and a compaction past its step 5 has made its sector
ACTIVE; one cut before its header was whole leaves a sector without records that fails its check (R429 to R431, R448). -/
def Hub.losePower (h : Hub) (markDone headerOk : Bool) : Hub :=
  let h :=
    match h.nv.op with
    | none => h
    | some op =>
      let h := h.append op.page op.data markDone
      let n := h.nv
      let n :=
        match n.receiving with
        | none => n
        | some i =>
          if markDone then n.modSect i fun s => { s with st := .active }
          else if headerOk then n
          else n.modSect i fun s => { s with hcrc := 0xFFFFFFFF, recs := [] }
      { h with nv := { n with op := none } }
  { h with powered := false }

/-! ### Checking an image -/

/-- The four section digests, unit first (R291). -/
def digestInput (f : ImageFile) : List Byte :=
  digestBytes f.sdigU ++ digestBytes f.sdig.a ++ digestBytes f.sdig.b ++ digestBytes f.sdig.c

/-- The image digest (R291). -/
def imageDigest (f : ImageFile) : BitVec 256 := sha256 (digestInput f)

/-- The header check (R290). -/
def headerOk (f : ImageFile) : Bool :=
  f.magic == 0x48525448 && f.format == 1 && decide (f.length ≤ 8388608) && decide (f.role ≤ 2) && f.layoutOk

/-- A big-endian number of n bytes in a slot. -/
def Slot.be (s : Slot) (a n : Nat) : Nat := beNat (s.mem.readBytes a n)

/-- Where section i, the unit's or a plane's, has its entry of SECTIONS, and its offset and length (R290). -/
def secEntry (i : Nat) : Nat := 0x80 + 80 * i
def Slot.secOffset (s : Slot) (i : Nat) : Nat := s.be (secEntry i) 4
def Slot.secLength (s : Slot) (i : Nat) : Nat := s.be (secEntry i + 4) 4

/-- The section digest stated in the header, and the one of the bytes (R290, R291). -/
def Slot.secDigest (s : Slot) (i : Nat) : BitVec 256 := BitVec.ofNat 256 (s.be (secEntry i + 8) 32)
def Slot.secHash (s : Slot) (i : Nat) : BitVec 256 := sha256 (s.mem.readBytes (s.secOffset i) (s.secLength i))

/-- The interface digest stated in the header (R290). -/
def Slot.ifDigest (s : Slot) (i : Nat) : BitVec 256 := BitVec.ofNat 256 (s.be (secEntry i + 40) 32)

/-- The header has its published form: the zero fields are zero, PUBKEY begins with 0x04, and the sections follow one another at
multiples of 256 between the header and the signature (R290). -/
def Slot.layoutOk (s : Slot) : Bool :=
  let zero := fun (a n : Nat) => s.be a n == 0
  let starts := [512, s.secOffset 0 + s.secLength 0, s.secOffset 1 + s.secLength 1, s.secOffset 2 + s.secLength 2]
  zero 0x06 2 && zero 0x0D 3 && zero 0x71 3 && zero 0x78 8 && zero 0x1E0 32 && zero (secEntry 0 + 40) 32 &&
  ((List.range 4).all fun i => zero (secEntry i + 72) 8) && s.be 0x30 1 == 4 && (s.be 0x0C 1 != 0 || zero 0x10 32) &&
  ((List.range 4).all fun i => s.secOffset i % 256 == 0 && decide (starts.getD i 0 ≤ s.secOffset i)) &&
  decide (s.secOffset 3 + s.secLength 3 + 64 ≤ s.be 8 4)

/-- The sections and the signature lie within an image of a slot's size; without that the header check fails first (R290, R292). -/
def Slot.fits (s : Slot) : Bool := s.layoutOk && decide (s.be 8 4 ≤ 8388608)

/-- Every section digest and the image digest match the bytes (R291, R292). -/
def Slot.digestOk (s : Slot) : Bool :=
  s.fits && ((List.range 4).all fun i => s.secHash i == s.secDigest i) &&
  BitVec.ofNat 256 (s.be 0x1C0 32) == sha256 ((List.range 4).flatMap fun i => digestBytes (s.secDigest i))

/-- The signature over bytes 0 to LENGTH − 65 verifies under PUBKEY (R292). -/
def Slot.sigOk (s : Slot) : Bool :=
  let n := s.be 8 4 - 64
  s.fits && ecdsaVerify (s.be 0x31 32) (s.be 0x51 32) (sha256 (s.mem.readBytes 0 n)) (s.be n 32) (s.be (n + 32) 32)

/-- What a read of the slot finds, where its sections declare what `f` does: of a slot whose bytes are known everything else comes
from them; of one as it was delivered, from `f` (R290 to R292). -/
def Slot.parse (s : Slot) (f : ImageFile) : ImageFile :=
  if s.known then { f with
    magic := BitVec.ofNat 32 (s.be 0 4), format := BitVec.ofNat 16 (s.be 4 2), length := s.be 8 4
    role := BitVec.ofNat 8 (s.be 0x0C 1), partner := BitVec.ofNat 256 (s.be 0x10 32), pubkey := s.mem.readBytes 0x30 65
    layoutOk := s.layoutOk
    sdigU := s.secDigest 0, sdig := ⟨s.secDigest 1, s.secDigest 2, s.secDigest 3⟩
    idig := ⟨s.ifDigest 1, s.ifDigest 2, s.ifDigest 3⟩, digestOk := s.digestOk, sigOk := s.sigOk }
  else f

/-- An enrolled key digest, of page 116 + i; all 0xFF or all 0x00 is none (R293). -/
def Nv.enrolled (n : Nv) (i : Nat) : Option (BitVec 256) :=
  let d := BitVec.ofNat 256 (beNat (n.ram.readBytes (32 * (116 + i)) 32))
  if d = 0 ∨ d = BitVec.allOnes 256 then none else some d

/-- The signer's key is the factory key or an enrolled one (R292). -/
def Hub.keyKnown (h : Hub) (f : ImageFile) : Bool :=
  let d := sha256 f.pubkey
  d == h.ident.factory || (List.range 4).any fun i => h.nv.enrolled i == some d

/-- The first check an image fails, by the RESULT code of R365, 0 for none (R292). -/
def Hub.checkImage (h : Hub) (f : ImageFile) : Nat :=
  if !(headerOk f) then 3 else if !f.digestOk then 4 else if !f.sigOk then 5 else if !h.keyKnown f then 6 else 0

/-- The check of what a slot's read found, 7 for a flash error (R295, R365). -/
def Hub.checkRead (h : Hub) : SlotRead → Nat
  | .readError => 7
  | .bytes f => h.checkImage f

/-- An image is rejected: its entry, and unit counter 7 where it was read (R379, R411). -/
def Hub.rejectImage (h : Hub) (slot : Fin 2) (code : Nat) : Hub :=
  let h := h.ulog 0x12 0xFF (data2 (mkWord [fld slot.val 1 31, fld code 4 0]) 0)
  if code = 7 then h else h.ucount 7

/-- Set or end the condition of source 219 or 220 (R383). -/
def Hub.imageCond (h : Hub) (n : Fin 32) (b : Bool) : Hub := (h.modUSrc n fun s => { s with cond := b }).setUDet n b

/-- An image is accepted: the conditions of sources 219 and 220 end (R383). -/
def Hub.acceptImage (h : Hub) : Hub := (h.imageCond 27 false).imageCond 28 false

/-! ### Applying an image -/

/-- The role a header byte declares (R290). -/
def roleOf (b : Byte) : ImgRole := if b = 1 then .leader else if b = 2 then .follower else .none

/-- Attention and PEC settings of a port from its declarations (R322, R332, R362). -/
def Port.settings (x : Port) (d : PortDecl) : Port :=
  { x with pecNext := d.pec, uen := d.uen, en := d.en, haddr := d.haddr, speed := d.speed }

/-- Put a unit section in force (R290, R298, R305, R385); the settings a host may change stay when the section is the one
in force. What its severities force otherwise is handed to the planes (R489). -/
def Hub.takeUnit (h : Hub) (f : ImageFile) : Hub :=
  let keep := h.cfg.applied && h.udig == f.sdigU
  let before := h.unitForcing
  let h := { h with
    udecl := { f.unit with role := roleOf f.role }
    udig := f.sdigU
    partner := f.partner
    ports := Vector.ofFn fun q => { h.ports[q.val] with cfg := f.unit.ports[q.val] } }
  if keep then h
  else Hub.handChanged { h with
    ports := Vector.ofFn fun q => (h.ports[q.val]).settings f.unit.ports[q.val]
    usrc := Vector.ofFn fun n => { h.usrc[n.val] with sev := if n = 30 then .safe else f.unit.usev[n.val] }
    chim := { h.chim with
      out := Vector.ofFn fun i => { h.chim.out[i.val] with nthr := f.unit.chimNthr[i.val] }
      inq := Vector.ofFn fun i => { h.chim.inq[i.val] with nthr := f.unit.chimNthr[i.val + 16] } } } before

/-- The section and interface digests of a plane's section come into force. -/
def Hub.takeDigests (h : Hub) (p : PlaneId) (f : ImageFile) (slot : Fin 2) : Hub :=
  let h := h.modPlane p fun x => { x with sdig := f.sdig.get p, idig := f.idig.get p }
  { h with cfg := { h.cfg with pslot := h.cfg.pslot.set p slot } }

/-- The entry of a whole image: 0x10, or 0x11 for a fallback, with the slot and digest bytes 0 to 11 (R379). -/
def Hub.logImage (h : Hub) (type : Byte) (slot : Fin 2) (f : ImageFile) : Hub :=
  let d := (imageDigest f).toNat
  h.ulog type 0xFF ⟨#[BitVec.ofNat 32 slot.val, BitVec.ofNat 32 (d / 2 ^ 224), BitVec.ofNat 32 (d / 2 ^ 192),
    BitVec.ofNat 32 (d / 2 ^ 160)], rfl⟩

/-- UPSTATE goes to RUN when every plane's gate has opened (R451). -/
def Hub.checkRun (h : Hub) : Hub :=
  if h.upstate = .kindling ∧ h.cfg.applied = true ∧ (PlaneId.all.all fun p => (h.plane p).oven.gate) = true then
    { h with upstate := .run }
  else h

/-- Apply an image at Kindling: the unit section, and every plane started from its section (R295, R449). -/
def Hub.applyImage (h : Hub) (slot : Fin 2) (f : ImageFile) (fallback : Bool) : Hub :=
  let h := h.acceptImage.takeUnit f
  let h := { h with cfg := { h.cfg with applied := true, uslot := slot }, nv := { h.nv with loads := h.nv.loads + 1 } }
  let h := PlaneId.all.foldl (fun (g : Hub) p =>
    (g.takeDigests p f slot).modPlane p fun x => (x.takeSection (f.planes.get p)).imageGens) h
  let h := PlaneId.all.foldl Hub.startPlane h
  ((h.rejudgePorts.ucount 6).logImage (if fallback then 0x11 else 0x10) slot f).checkRun

/-- The read of a slot at Kindling found no image to run (R295). -/
def Hub.failRead (h : Hub) (slot : Fin 2) (code : Nat) : Hub :=
  (h.rejectImage slot code).imageCond (if code = 7 then 28 else 27) true

/-- A slot that passes its check at Kindling is verified, unless power was lost in its erase, stream or verification (R295,
R301). -/
def Slot.readOk (s : Slot) (f : ImageFile) : Slot := if s.cut then s else { s with verified := true, file := some f }

/-- Apply what a slot's read found, when it passes its check. -/
def Hub.tryRead (h : Hub) (slot : Fin 2) (r : SlotRead) (fallback : Bool) : Hub × Bool :=
  match r with
  | .readError => (h.failRead slot 7, false)
  | .bytes f =>
    let f := h.cfg.slot[slot.val].parse f
    if h.checkImage f = 0 then ((h.applyImage slot f fallback).modSlot slot fun s => s.readOk f, true)
    else (h.failRead slot (h.checkImage f), false)

/-- The boot slot, then the other one, then BARE (R295, R296). -/
def Hub.bootImage (h : Hub) (reads : Vector SlotRead 2) : Hub :=
  let b := h.cfg.boot
  let r := h.tryRead b reads[b.val] false
  if r.2 then r.1
  else
    let t := r.1.tryRead (1 - b) reads[(1 - b).val] true
    if t.2 then t.1 else { t.1 with upstate := .bare }

/-! ### Meanings -/

/-- KINDLING: power good becomes true, which it does only with the converter running (R449, R466). -/
def execKindling (sdaLow : Vector Bool 3) (selfTestOk : Bool) (s : State) : Host.Outcome State Fault Refusal :=
  s.answer (if s.hub.powered || !s.hub.conv then s.hub else s.hub.kindle sdaLow selfTestOk)

/-- POWER_GOOD_LOSS, by a converter that stops below 32 V, which it may also do before power good is true, or by a rail; `markDone` says
whether the operation in progress had passed the point at which it takes effect (R429, R430, R448, R466). -/
def execPowerGoodLoss (loss : PowerLoss) (s : State) : Host.Outcome State Fault Refusal :=
  let h := if s.hub.powered then s.hub.losePower loss.markDone loss.headerOk else s.hub
  s.answer { h with conv := h.conv && !loss.converter }

/-- CONVERTER_START (R466). -/
def execConverterStart (s : State) : Host.Outcome State Fault Refusal :=
  s.answer { s.hub with conv := true }

/-- IMAGE_APPLY, with what the reads of slot 0 and slot 1 find (R295). -/
def execImageApply (slots : Vector SlotRead 2) (s : State) : Host.Outcome State Fault Refusal :=
  s.answer (if s.hub.powered ∧ s.hub.upstate = .kindling ∧ s.hub.cfg.applied = false then s.hub.bootImage slots else s.hub)

/-- The gate of a plane opens: a plane whose clock runs enables its optics (R450). -/
def Hub.openGate (h : Hub) (p : PlaneId) (f : Plane → Plane) : Hub :=
  let shut := !(h.plane p).oven.gate
  let h := h.modPlane p fun x => { f x with oven := { (f x).oven with gate := true } }
  let h := if shut && h.active p then h.onPlane p Plane.lightLinks else h
  h.checkRun

/-- OVEN_SETTLED (R450): the condition of source 11 is over. -/
def execOvenSettled (p : PlaneId) (s : State) : Host.Outcome State Fault Refusal :=
  s.answer (if s.hub.powered then
      (s.hub.openGate p fun x => { x with oven := { x.oven with settled := true } }.modSrc 11 fun c => { c with cond := false }).event p
        fun x => x.setDet 11 false
    else s.hub)

/-- OVEN_GATE_TIMEOUT: an oven still not settled opens its gate, and source 11 is armed and live (R450). -/
def execOvenGateTimeout (p : PlaneId) (s : State) : Host.Outcome State Fault Refusal :=
  s.answer (if s.hub.powered ∧ (s.hub.plane p).oven.settled = false then
      (s.hub.openGate p fun x => x.modSrc 11 fun c => { c with cond := true }).event p fun x => x.setDet 11 true
    else s.hub)

end Sys2Proof.Machine
end

