-- ==== Sys2Proof/Machine/Standby.lean ====
section
/-! DEFINITION. Plane standby and unit standby (R452 to R459). -/

namespace Sys2Proof.Machine

/-! ### Entry -/

/-- A LOAD or RELOAD that has committed and not reached F₁ names the plane (R452, R458). -/
def Plane.loadPending (x : Plane) : Bool := x.next.isSome || x.reloading

/-- F_s: what standby ends at once, and every output stops starting anything new (R264, R402, R453). -/
def Plane.enterStandby (x : Plane) (p : PlaneId) (withUnit : Bool) : Plane :=
  let y := ((((x.abandonSwitch p).cancelRealign).dropHolds).stopInject).haltOutputs
  { y with power := .entering, withUnit := withUnit }

/-- The state refuses a standby entry of the plane (R452). -/
def Hub.standbyBarred (h : Hub) (p : PlaneId) : Bool :=
  let x := h.plane p
  x.power != .run || x.loadPending || h.ustby

/-- Commit PCTL.STBY = 1. -/
def Hub.standbyEnter (h : Hub) (p : PlaneId) : Hub := h.onPlane p fun x => x.enterStandby p false

/-! ### F_x -/

/-- Every plane is stopped: unit standby is reached, with its entry and UCAUSE bit 5 (R458). -/
def Hub.checkStandby (h : Hub) : Hub :=
  if h.ustby = true ∧ h.upstate ≠ .standby ∧ (PlaneId.all.all fun p => (h.plane p).power == .stopped) = true then
    ({ h with upstate := .standby }.ulog 0x22 0xFF (data2 1 0)).ucause 5
  else h

/-- F_x in the plane: links OFF, queues and fabric empty, the loop without history, the clocks stopped (R453). -/
def Plane.stopClocks (x : Plane) : Plane :=
  let y := (x.darkenLinks.emptyQueues).fabricOff
  { y with
    power := .stopped
    loop := { y.loop with hist := [], mins := [], lastRec := false, wholeSec := false, hvalid := false, hval := 0, steer := 0 } }

/-- F_x, with the scheduled transactions of the plane discarded (R453). DESIGN CHOICE (log entry 127): a switch that a tick has started
since F_s is abandoned here, as one pending at F_s is there. -/
def Hub.reachStandby (h : Hub) (p : PlaneId) : Hub :=
  (((h.onPlane p fun x => (x.abandonSwitch p).stopClocks).discardScheds p).judgeOutliers).checkStandby

/-! ### Exit -/

/-- Leave standby: before F_x the entry is cancelled, after it the plane's clocks are to start again (R454, R455). -/
def Plane.leaveStandby (x : Plane) : Plane :=
  match x.power with
  | .entering => { x.unhaltOutputs with power := .run, withUnit := false }
  | .stopped => { x with power := .leaving, withUnit := false }
  | .off => x
  | .run => x
  | .leaving => x
  | .reloadKeep => x
  | .reloadChange => x

/-- Commit PCTL.STBY = 2, which a stopped plane takes as well (R327, R454, R455). -/
def Hub.standbyLeave (h : Hub) (p : PlaneId) : Hub := h.modPlane p Plane.leaveStandby

/-- Why PCTL.STBY = 2 is refused: it is the one write a plane in standby takes with its clock stopped (R327). -/
def Hub.leaveReason (h : Hub) (q : PortId) (p : PlaneId) : Reason :=
  let w := (h.plane p).power
  firstReason (!h.controls q p) (h.foreign q p) false false (!(h.active p || w == .stopped || w == .leaving))

/-! ### The unit -/

/-- Why UCTL.USTBY = 1 is refused (R458). -/
def Hub.ustbyReason (h : Hub) (q : PortId) : Reason :=
  h.unitReason q false h.anyHusk (h.ustby || h.cfg.load.isSome || PlaneId.all.any fun p => (h.plane p).loadPending)

/-- A port goes to sleep with the unit, from the end of its transaction, and loses its password acceptances (R330, R340,
R422). -/
def Port.sleepUnit (x : Port) : Port :=
  let y := { x with rpwok := false, wpwok := false }
  if x.asleep then y
  else if x.latch.isSome then { y with sleepDue := true }
  else { y with asleep := true, unitSlept := true }

/-- A plane's part of the unit's entry: a running plane enters standby, and one whose exit had not begun stays (R458). -/
def Hub.standbyWithUnit (h : Hub) (p : PlaneId) : Hub :=
  let x := h.plane p
  if x.power = .run then h.onPlane p fun x => x.enterStandby p true
  else if x.power = .leaving then h.modPlane p fun x => { x with power := .stopped, withUnit := true }
  else h

/-- A plane's part of the unit's exit: a plane whose standby came with the unit's leaves it (R459). -/
def Hub.leaveWithUnit (h : Hub) (p : PlaneId) : Hub := if (h.plane p).withUnit then h.standbyLeave p else h

/-- The unit's standby field is handed over to a plane whose word clock runs, and acts at once where it stands (R455, R458,
R489). -/
def Hub.handStandby (h : Hub) (b : Bool) (p : PlaneId) : Hub :=
  if h.active p then { h with hand := h.hand.set p (h.hand.get p ++ [Hand.standby b]) }
  else if b then h.standbyWithUnit p
  else h.leaveWithUnit p

/-- Commit UCTL.USTBY = 1 (R458). -/
def Hub.unitEnter (h : Hub) : Hub :=
  let h := h.allPorts Port.sleepUnit
  let h := if h.joined then h.separate true else h
  let h := h.modChim fun c => { c with st := Vector.replicate 2 .down }
  let h := PlaneId.all.foldl (fun (g : Hub) p => g.handStandby true p) { h with ustby := true }
  h.setFans.checkStandby

/-- A port that slept with the unit and has not woken since wakes (R331). -/
def Port.wakeUnit (x : Port) : Port :=
  if x.unitSlept then { x with asleep := false, unitSlept := false, sleepDue := false } else { x with sleepDue := false }

/-- Commit UCTL.USTBY = 2 (R459). -/
def Hub.unitLeave (h : Hub) : Hub :=
  let h := ({ h with ustby := false, upstate := .run }.allPorts Port.wakeUnit).rejudgePorts
  let h := PlaneId.all.foldl (fun (g : Hub) p => g.handStandby false p) h
  ((h.setFans).ulog 0x22 0xFF (data2 0 0)).ucause 5

/-! ### Meanings -/

/-- PLANE_STANDBY_ENTER: structural in Husk, and refused outside RUN or during a load (R452, R453). -/
def execPlaneStandbyEnter (port : PortId) (p : PlaneId) (s : State) : Host.Outcome State Fault Refusal :=
  s.answer (s.hub.hostWrite port p 0x03 false true (s.hub.standbyBarred p) fun h => h.standbyEnter p)

/-- STANDBY_DRAIN_COMPLETE: F_x, once every CK drain is complete and every PU and TO output is low (R453). -/
def execStandbyDrainComplete (p : PlaneId) (s : State) : Host.Outcome State Fault Refusal :=
  s.answer (s.hub.ifActive p fun h =>
    if (h.plane p).power = .entering ∧ (h.plane p).drained = true then h.reachStandby p else h)

/-- PLANE_STANDBY_LEAVE (R454, R455). -/
def execPlaneStandbyLeave (port : PortId) (p : PlaneId) (s : State) : Host.Outcome State Fault Refusal :=
  s.answer (s.hub.judged port (s.hub.addrOf port (offOf p)) 0x03 (s.hub.leaveReason port p) fun h => h.standbyLeave p)

/-- PLANE_CLOCK_RESTART: a plane whose exit has committed starts as after Kindling, with its run-time settings (R298,
R455, R456). -/
def execPlaneClockRestart (p : PlaneId) (s : State) : Host.Outcome State Fault Refusal :=
  s.answer (if s.hub.powered ∧ (s.hub.plane p).power = .leaving then s.hub.startPlane p else s.hub)

/-- UNIT_STANDBY_ENTER (R458). -/
def execUnitStandbyEnter (port : PortId) (s : State) : Host.Outcome State Fault Refusal :=
  s.answer (s.hub.unitWrite port 0x16 (s.hub.ustbyReason port) Hub.unitEnter)

/-- UNIT_STANDBY_LEAVE: outside unit standby there is nothing to leave (R459). -/
def execUnitStandbyLeave (port : PortId) (s : State) : Host.Outcome State Fault Refusal :=
  s.answer (s.hub.unitWrite port 0x16 (s.hub.unitReason port false false false)
    fun h => if h.ustby then h.unitLeave else h)

end Sys2Proof.Machine
end

