-- ==== Sys2Proof/Machine/Images.lean ====
section
/-! DEFINITION. The image commands, streaming, verification, and reloads (R299 to R306). -/

namespace Sys2Proof.Machine

/-! ### Slots -/

/-- A slot is in force while a section in force came from it (R294). -/
def Hub.inForce (h : Hub) (i : Fin 2) : Bool :=
  h.cfg.applied && (h.cfg.uslot == i || h.cfg.pslot.a == i || h.cfg.pslot.b == i || h.cfg.pslot.c == i)

/-- A load or reload that has not completed brings a section from the slot. -/
def Hub.loadUses (h : Hub) (i : Fin 2) : Bool :=
  h.cfg.load == some i || PlaneId.all.any fun p => ((h.plane p).next.map Prod.fst) == some i

/-- The port holds this slot open, or a slot at all (R300). -/
def Hub.holdsOpen (h : Hub) (q : PortId) : Option (Fin 2) :=
  match h.cfg.openBy with
  | none => none
  | some (o, i) => if o = q then some i else none

/-- A command is accepted: LASTCMD, and RESULT busy (R365). -/
def Hub.begins (h : Hub) (cmd : BitVec 4) : Hub := h.modCfg fun c => { c with lastCmd := cmd, result := 1 }

/-- A command ends with a RESULT code, and UCAUSE bit 2 is set (R362, R365). -/
def Hub.ends (h : Hub) (code : Nat) : Hub := (h.modCfg fun c => { c with result := BitVec.ofNat 4 code }).ucause 2

/-! ### Why a command is refused (R299) -/

/-- Every command needs the IMAGE right; the state refuses it last (R299, R462). -/
def Hub.imageReason (h : Hub) (q : PortId) (state : Bool) : Reason :=
  firstReason (!(h.grants q).image) false false false state

/-- The state refuses ERASE: the slot is in force, open, or in use. -/
def Hub.eraseBarred (h : Hub) (i : Fin 2) : Bool :=
  h.inForce i || (h.cfg.openBy.map Prod.snd) == some i || h.cfg.verifying.contains i || h.loadUses i

/-- The state refuses OPEN: the slot is not erased, or another port holds one open. -/
def Hub.openBarred (h : Hub) (q : PortId) (i : Fin 2) : Bool :=
  !h.cfg.slot[i.val].erased || (h.cfg.openBy.isSome && (h.holdsOpen q).isNone)

/-- A plane of the list is outside RUN or already named by a load. -/
def Hub.loadBlocked (h : Hub) (ps : List PlaneId) : Bool :=
  ps.any fun p => (h.plane p).power != .run || (h.plane p).loadPending

/-- Why LOAD is refused; in BARE the IMAGE right suffices (R296, R299). -/
def Hub.loadReason (h : Hub) (q : PortId) (i : Fin 2) : Reason :=
  let bare := h.upstate == .bare
  firstReason (!(h.grants q).image || (!bare && !h.controlsAll q)) (!bare && PlaneId.all.any (h.foreign q)) false h.anyHusk
    (!h.cfg.slot[i.val].verified || h.cfg.load.isSome || h.joined || h.chim.joinPend || h.ustby ||
      (if bare then PlaneId.all.any (fun p => (h.plane p).loadPending) else h.loadBlocked PlaneId.all))

/-- The planes PLANES names: bit 2 A, bit 1 B, bit 0 C (R365). -/
def namedPlanes (w : BitVec 3) : List PlaneId := PlaneId.all.filter fun p => bitAt w (2 - p.num)

/-- The slot's section of a plane has another interface digest than the one in force (R302). -/
def Hub.interfaceDiffers (h : Hub) (i : Fin 2) (p : PlaneId) : Bool :=
  match h.cfg.slot[i.val].file with
  | none => true
  | some f => f.idig.get p != (h.plane p).idig

/-- Why RELOAD is refused (R299, R302, R365). -/
def Hub.reloadReason (h : Hub) (q : PortId) (i : Fin 2) (w : BitVec 3) : Reason :=
  let ps := namedPlanes w
  firstReason (!(h.grants q).image || ps.any fun p => !h.controls q p) (ps.any (h.foreign q)) (w == 0)
    (ps.any fun p => (h.plane p).inHusk)
    (!h.cfg.slot[i.val].verified || h.cfg.load.isSome || h.joined || h.chim.joinPend || h.ustby || h.loadBlocked ps ||
      ps.any (h.interfaceDiffers i))

/-- The commands of CFGCTL (R365). -/
inductive CfgCmd where
  | erase (i : Fin 2)
  | openSlot (i : Fin 2)
  | close
  | boot (i : Fin 2)
  | load (i : Fin 2)
  | reload (i : Fin 2) (w : BitVec 3)
  deriving DecidableEq, Repr

/-- Why a command of CFGCTL is refused. -/
def Hub.cfgReason (h : Hub) (q : PortId) : CfgCmd → Reason
  | .erase i => h.imageReason q (h.eraseBarred i)
  | .openSlot i => h.imageReason q (h.openBarred q i)
  | .close => h.imageReason q (h.holdsOpen q).isNone
  | .boot i => h.imageReason q (!h.cfg.slot[i.val].verified)
  | .load i => h.loadReason q i
  | .reload i w => h.reloadReason q i w

/-! ### Effects -/

/-- ERASE starts: the slot is no longer verified (R299). -/
def Hub.startErase (h : Hub) (i : Fin 2) : Hub :=
  let h := (h.begins 1).modSlot i fun s => { s with erased := false, verified := false, file := none }
  h.modCfg fun c => { c with erasing := if c.erasing.contains i then c.erasing else c.erasing ++ [i] }

/-- An erase ends: every byte of the slot reads 0xFF (R299, R300). -/
def Hub.endErase (h : Hub) : Hub :=
  match h.cfg.erasing with
  | [] => h
  | i :: rest => ((h.modCfg fun c => { c with erasing := rest }).modSlot i fun _ => { erased := true, known := true }).ends 2

/-- OPEN (R299). -/
def Hub.openSlot (h : Hub) (q : PortId) (i : Fin 2) : Hub :=
  ((h.begins 2).modCfg fun c => { c with openBy := some (q, i) }).ends 2

/-- CLOSE: the slot is no longer open and its verification starts (R299, R301). -/
def Hub.closeSlot (h : Hub) (q : PortId) : Hub :=
  match h.holdsOpen q with
  | none => h
  | some i => (h.begins 3).modCfg fun c => { c with openBy := none, verifying := c.verifying ++ [i] }

/-- BOOT: the boot record names the slot, and page 120 is to hold it (R294, R299, R434). -/
def Hub.bootSlot (h : Hub) (i : Fin 2) : Hub :=
  let h := (h.begins 4).modCfg fun c => { c with boot := i, boots := c.boots + 1 }
  let h :=
    match h.pageContent 120 0 0 0 with
    | none => h
    | some data => h.ownWrite 120 data
  h.ends 2

/-- LOAD or RELOAD commits: each named plane takes the slot's section at its next frame boundary (R302, R305). -/
def Hub.orderLoad (h : Hub) (q : PortId) (i : Fin 2) (ps : List PlaneId) : Hub :=
  ps.foldl (fun (g : Hub) p => g.modPlane p fun x => { x with next := some (i, q) }) h

/-- A command of CFGCTL takes effect. -/
def Hub.cfgEffect (h : Hub) (q : PortId) : CfgCmd → Hub
  | .erase i => h.startErase i
  | .openSlot i => h.openSlot q i
  | .close => h.closeSlot q
  | .boot i => h.bootSlot i
  | .load i => ((h.begins 5).modCfg fun c => { c with load := some i, unitIn := false }).orderLoad q i PlaneId.all
  | .reload i w => (h.begins 6).orderLoad q i (namedPlanes w)

/-- A command of CFGCTL, judged and applied, its refusal recorded at an address. -/
def Hub.cfgCommand (h : Hub) (q : PortId) (addr : BitVec 7) (c : CfgCmd) : Hub :=
  h.judged q addr 0x1D (h.cfgReason q c) fun h => h.cfgEffect q c

/-! ### Streaming -/

/-- A block has been programmed since the erase, or waits to be (R300). -/
def Hub.blockUsed (h : Hub) (i : Fin 2) (b : Nat) : Bool :=
  h.cfg.slot[i.val].blocks.contains b ||
  h.ports.toList.any fun x => x.blocks.any fun e => e.1 == i && e.2.1 == b

/-- Why a block write is refused (R300): RANGE for its length, STATE for a programmed block or no open slot, and for one more block of
a transaction that has filled both buffers (DESIGN CHOICE, log entry 126). -/
def Hub.blockReason (h : Hub) (q : PortId) (b : Nat) (len : Nat) : Reason :=
  firstReason (!(h.grants q).image) false (decide (256 < len) || len == 0 || len % 4 != 0) false
    (match h.holdsOpen q with
     | none => true
     | some i => h.blockUsed i b || decide (2 ≤ (h.port q).blocks.length))

/-- A block enters a buffer of the port that holds the slot open (R300). -/
def Hub.bufferBlock (h : Hub) (q : PortId) (b : Nat) (data : List Byte) : Hub :=
  match h.holdsOpen q with
  | none => h
  | some i => h.modPort q fun x => { x with blocks := x.blocks ++ [(i, b, data)] }

/-- The port's oldest waiting block is programmed at the start of its place; the rest of the block stays 0xFF (R300). DESIGN CHOICE
(log entry 112): a loss of power leaves no part of a block. -/
def Hub.programBlock (h : Hub) (q : PortId) : Hub :=
  match (h.port q).blocks with
  | [] => h
  | (i, b, data) :: rest =>
    (h.modPort q fun x => { x with blocks := rest }).modSlot i fun s =>
      { s with mem := s.mem.writeBytes (256 * b) data, blocks := s.blocks ++ [b], erased := false }

/-! ### Verification -/

/-- A verification ends: a slot that passes is verified, and an image has been accepted (R301, R383). -/
def Hub.endVerify (h : Hub) (r : SlotRead) : Hub :=
  match h.cfg.verifying with
  | [] => h
  | i :: rest =>
    let h := h.modCfg fun c => { c with verifying := rest }
    match r with
    | .readError => (h.rejectImage i 7).ends 7
    | .bytes f =>
      let f := h.cfg.slot[i.val].parse f
      let code := h.checkImage f
      if code = 0 then
        ((h.modSlot i fun s => { s with verified := true, file := some f, erased := false }).acceptImage).ends 2
      else ((h.modSlot i fun s => { s with erased := false }).rejectImage i code).ends code

/-! ### F₀ -/

/-- A reload ends what it ends at F₀, and the loop holds as while Ember is forced (R303). -/
def Plane.beginReload (x : Plane) (p : PlaneId) (v : Int) : Plane :=
  let y := ((((x.abandonSwitch p).cancelRealign).dropHolds).stopInject).fabricOff
  match y.loop.state with
  | .acquire => y.toEmber p v
  | .locked => y.toEmber p v
  | .soft => y.toEmber p v
  | .free => y
  | .ember => y
  | .husk => y

/-- The plane at F₀: with its clock plan kept it runs on; otherwise its outputs stop, its links go OFF and its queues are
emptied (R201, R303). -/
def Plane.atF0 (x : Plane) (p : PlaneId) (v : Int) (keep : Bool) : Plane :=
  if keep then { x.beginReload p v with power := .reloadKeep }
  else
    let y := ((x.beginReload p v).haltOutputs.darkenLinks).emptyQueues
    { y with power := .reloadChange }

/-- The clock plan stays: the plane runs and its new section agrees in it (R115, R303). -/
def Hub.keepsPlan (h : Hub) (p : PlaneId) (i : Fin 2) : Bool :=
  match h.cfg.slot[i.val].file with
  | none => false
  | some f => (h.plane p).power == .run && sameClockPlan (h.plane p).sect (f.planes.get p)

/-- Nothing is left of the loads and reloads that were ordered. -/
def Hub.noLoads (h : Hub) : Bool := !(PlaneId.all.any fun p => (h.plane p).next.isSome)

/-- Husk came first: the plane's reload, or a whole load no plane of which has passed F₀, is abandoned and recorded in the
port that ordered it (R306, R461). -/
def Hub.abandonLoad (h : Hub) (p : PlaneId) (q : PortId) : Hub :=
  let whole := h.cfg.load.isSome
  let h := h.refuse q (h.addrOf q 0) 0x1D .husk
  let h := h.allPlanes fun o x => if whole || o == p then { x with next := none } else x
  let h := if whole then h.modCfg fun c => { c with load := none, unitIn := false } else h
  if h.noLoads then h.modCfg fun c => { c with result := 0 } else h

/-- F₀ of a plane a load or reload names (R303). -/
def Hub.reachF0 (h : Hub) (p : PlaneId) : Hub :=
  let x := h.plane p
  match x.next with
  | none => h
  | some (i, q) =>
    if x.reloading then h
    else if x.inHusk && !(h.cfg.load.isSome && PlaneId.all.any fun o => (h.plane o).reloading || (h.plane o).next.isNone) then
      h.abandonLoad p q
    else
      let keep := h.keepsPlan p i
      ((h.onPlaneFree p fun v x => x.atF0 p v keep).discardScheds p).judgeOutliers

/-! ### F₁ -/

/-- The unit section of a whole load comes into force, and every ownership ends (R305, R317). -/
def Hub.loadUnit (h : Hub) (f : ImageFile) (i : Fin 2) : Hub :=
  if h.cfg.load.isSome && !h.cfg.unitIn then
    let h := h.takeUnit f
    let h := h.modCfg fun c => { c with unitIn := true, applied := true, uslot := i }
    PlaneId.all.foldl (fun (g : Hub) p => g.endOwner p 2) h
  else h

/-- Generators after a reload that keeps the clock plan: one whose plan is unchanged goes on, another waits for the first
PPS (R264). -/
def Plane.reloadGens (x : Plane) (old : PlaneDecl) (same : Bool) : Plane :=
  if same then x
  else (List.finRange 8).foldl (fun (z : Plane) i =>
    let d := z.sect.gens[i.val]
    if old.gens[i.val] = d then z.applyGen i (genSet d)
    else z.modGen i fun _ => { set := genSet d, off := true }) x

/-- Links follow their declarations: enabled ones come out of OFF, disabled ones go OFF. -/
def Plane.relight (x : Plane) : Plane :=
  let y := (List.finRange 32).foldl (fun (z : Plane) l =>
    if !z.sect.links[l.val].enabled && z.link[l.val].state != .off then z.setLink l .off else z) x
  if y.oven.gate then y.lightLinks else y

/-- The plane at F₁ with its clock plan kept (R303, R304): trigger inputs are judged afresh (R205), and REF3 of a Chimney is held
out of selection outside a join; `released` says that it may be selected (R272). -/
def Plane.atF1 (x : Plane) (d : PlaneDecl) (same : Bool) (b000Year : Nat) (released : Bool) : Plane :=
  let y := if same then x else x.takeSection d
  let y := y.reloadGens x.sect same
  let y := { y with
    power := .run, fab := { online := true, cells := y.fab.cells }
    sel := { y.sel with held3 := y.onChimney && !released }
    ti := y.ti.map fun (t : TrigIn) => t.rejudge y.time.clk }
  (y.monitorStart b000Year).relight

/-- References are held out as the section and the sources in force say (R64, R272). -/
def Hub.holdOut (h : Hub) (p : PlaneId) : Hub := h.onPlane p fun x => x.holdRefs p

/-- Source 47 ends with a reload of the plane (R297). -/
def Plane.freshConfig (x : Plane) : Plane := (x.modSrc 47 fun s => { s with cond := false }).setDet 47 false

/-- The attention configuration at a plane's address returns to its image value in every port (R298). -/
def Hub.resetEn (h : Hub) (p : PlaneId) : Hub :=
  { h with ports := Vector.ofFn fun q =>
      let x := h.ports[q.val]
      { x with en := upd x.en (offOf p) fun _ => x.cfg.en[(offOf p).val] } }

/-- The plane's section comes into force at F₁ (R303, R304). -/
def Hub.takePlane (h : Hub) (p : PlaneId) (i : Fin 2) (f : ImageFile) : Hub :=
  let x := h.plane p
  let d := f.planes.get p
  let keep := x.power == .reloadKeep
  let same := keep && x.sdig == f.sdig.get p
  let h := if x.sdig = f.sdig.get p then h else h.resetEn p
  let h := h.takeDigests p f i
  let h := h.modPlane p fun x => { x with next := none }
  let h :=
    if keep then ((h.onPlane p fun x => x.atF1 d same h.udecl.b000Year h.ref3Free).holdOut p).reforce p
    else (h.modPlane p fun x => (x.takeSection d).imageGens).startPlane p
  let h := h.onPlane p fun x =>
    (x.freshConfig.raise 20).log p 0x13 (data2 (mkWord [fld i.val 1 31, b2n keep]) 0)
  h.ucount 8

/-- The last plane of a load or reload has reached F₁ (R305, R379, R411, R434). -/
def Hub.finishLoads (h : Hub) (f : ImageFile) (i : Fin 2) : Hub :=
  if h.noLoads then
    let h :=
      if h.cfg.load.isSome then
        let h := h.modCfg fun c => { c with load := none, unitIn := false }
        let h := if h.upstate = .bare then { h with upstate := .run } else h
        ({ h with nv := { h.nv with loads := h.nv.loads + 1 } }.ucount 6).logImage 0x10 i f
      else h
    h.ends 2
  else h

/-- F₁ of a plane in a reload. -/
def Hub.reachF1 (h : Hub) (p : PlaneId) : Hub :=
  let x := h.plane p
  match x.next with
  | none => h
  | some (i, _) =>
    match h.cfg.slot[i.val].file with
    | none => h
    | some f => if x.reloading then (((h.loadUnit f i).takePlane p i f).finishLoads f i).rejudgePorts.judgeOutliers else h

/-! ### Meanings -/

/-- IMAGE_ERASE (R299). -/
def execImageErase (port : PortId) (slot : Fin 2) (s : State) : Host.Outcome State Fault Refusal :=
  s.answer (s.hub.cfgCommand port (s.hub.addrOf port 0) (.erase slot))

/-- ERASE_COMPLETE (R299). -/
def execEraseComplete (s : State) : Host.Outcome State Fault Refusal :=
  s.answer (if s.hub.powered then s.hub.endErase else s.hub)

/-- IMAGE_OPEN (R299). -/
def execImageOpen (port : PortId) (slot : Fin 2) (s : State) : Host.Outcome State Fault Refusal :=
  s.answer (s.hub.cfgCommand port (s.hub.addrOf port 0) (.openSlot slot))

/-- BLOCK_PROGRAM_COMPLETE (R300). -/
def execBlockProgramComplete (port : PortId) (s : State) : Host.Outcome State Fault Refusal :=
  s.answer (if s.hub.powered then s.hub.programBlock port else s.hub)

/-- IMAGE_CLOSE (R299). -/
def execImageClose (port : PortId) (s : State) : Host.Outcome State Fault Refusal :=
  s.answer (s.hub.cfgCommand port (s.hub.addrOf port 0) .close)

/-- VERIFICATION_COMPLETE, with what the read of the slot finds (R301). -/
def execVerificationComplete (read : SlotRead) (s : State) : Host.Outcome State Fault Refusal :=
  s.answer (if s.hub.powered then s.hub.endVerify read else s.hub)

/-- IMAGE_BOOT (R299). -/
def execImageBoot (port : PortId) (slot : Fin 2) (s : State) : Host.Outcome State Fault Refusal :=
  s.answer (s.hub.cfgCommand port (s.hub.addrOf port 0) (.boot slot)).startWaiting

/-- IMAGE_LOAD (R305). -/
def execImageLoad (port : PortId) (slot : Fin 2) (s : State) : Host.Outcome State Fault Refusal :=
  s.answer (s.hub.cfgCommand port (s.hub.addrOf port 0) (.load slot))

/-- IMAGE_RELOAD (R302). -/
def execImageReload (port : PortId) (slot : Fin 2) (planes : BitVec 3) (s : State) : Host.Outcome State Fault Refusal :=
  s.answer (s.hub.cfgCommand port (s.hub.addrOf port 0) (.reload slot planes))

/-- RELOAD_F0 (R303). -/
def execReloadF0 (p : PlaneId) (s : State) : Host.Outcome State Fault Refusal :=
  s.answer (if s.hub.powered then s.hub.reachF0 p else s.hub)

/-- RELOAD_F1 (R303). -/
def execReloadF1 (p : PlaneId) (s : State) : Host.Outcome State Fault Refusal :=
  s.answer (if s.hub.powered then s.hub.reachF1 p else s.hub)

end Sys2Proof.Machine
end

