-- ==== Sys2Proof/Machine/Certificate.lean ====
section
/-! DEFINITION. The attestation key and the device certificate of a unit (R440, R442, R443): the public key of the unit's private key,
the signature it makes, and the DER bytes of the certificate, which the spec names without restating their encoding: X.509 v3 is that
of RFC 5280, DER that of ITU-T X.690, the key and signature forms those of SEC 1 and RFC 5480 (PRESUMED, log entry 124). -/

namespace Sys2Proof.Machine

/-! ### The key -/

/-- A point in affine coordinates, 0 and 0 for the point at infinity. -/
def JPoint.affine (a : JPoint) : Nat × Nat :=
  let w := invMod p256P a.z
  let w2 := w * w % p256P
  (a.x * w2 % p256P, a.y * w2 % p256P * w % p256P)

/-- A multiple of the base point. -/
def basePoint (k : Nat) : Nat × Nat := ((⟨p256X, p256Y, 1⟩ : JPoint).times k 256).affine

/-- The coordinates of the unit's public key (R440). -/
def Ident.pubKey (i : Ident) : Nat × Nat := basePoint i.priv.toNat

/-- r and s of a signature over a digest with a per-signature number k (R443). -/
def ecdsaParts (d k : Nat) (digest : BitVec 256) : Nat × Nat :=
  let r := (basePoint k).1 % p256N
  (r, invMod p256N k * ((digest.toNat + r * d) % p256N) % p256N)

/-- The first of n numbers from k on whose r and s are both in range; the last one where none is. -/
def ecdsaSearch (d : Nat) (digest : BitVec 256) (k : Nat) : Nat → Nat × Nat
  | 0 => ecdsaParts d k digest
  | n + 1 =>
    let v := ecdsaParts d k digest
    if v.1 = 0 ∨ v.2 = 0 then ecdsaSearch d digest (k + 1) n else v

/-- The element's signature, r then s, with the per-signature number it draws from 1 to the order of the curve less 1 (R443). -/
def Ident.sign (i : Ident) (nonce digest : BitVec 256) : BitVec 512 :=
  let v := ecdsaSearch i.priv.toNat digest (1 + nonce.toNat % (p256N - 1)) 8
  BitVec.ofNat 512 (v.1 * 2 ^ 256 + v.2)

/-! ### DER -/

/-- A length: one byte below 128, else the number of its bytes and the bytes. -/
def derLength (n : Nat) : List Byte :=
  if n < 128 then [BitVec.ofNat 8 n]
  else if n < 256 then [0x81, BitVec.ofNat 8 n]
  else [0x82, BitVec.ofNat 8 (n / 256), BitVec.ofNat 8 n]

/-- A value with its tag and length. -/
def der (tag : Byte) (body : List Byte) : List Byte := tag :: (derLength body.length ++ body)

/-- A sequence of values. -/
def derSeq (parts : List (List Byte)) : List Byte := der 0x30 parts.flatten

/-- The bytes of a non-negative INTEGER's value, led by 0x00 where the highest bit is set. -/
def derNat (bytes : List Byte) : List Byte :=
  match bytes.dropWhile (· == 0) with
  | [] => der 0x02 [0]
  | b :: rest => der 0x02 (if bitAt b 7 then 0 :: b :: rest else b :: rest)

/-- A BIT STRING of whole bytes. -/
def derBits (body : List Byte) : List Byte := der 0x03 (0 :: body)

/-- The bytes of an ASCII string. -/
def ascii (s : String) : List Byte := s.toList.map fun c => BitVec.ofNat 8 c.toNat

/-- Object identifiers: ecdsa-with-SHA256, id-ecPublicKey, prime256v1, the name attributes O, CN and serialNumber, and the extensions
subjectKeyIdentifier, keyUsage, basicConstraints and authorityKeyIdentifier. -/
def oidEcdsaSha256 : List Byte := der 0x06 [0x2A, 0x86, 0x48, 0xCE, 0x3D, 0x04, 0x03, 0x02]
def oidEcPublicKey : List Byte := der 0x06 [0x2A, 0x86, 0x48, 0xCE, 0x3D, 0x02, 0x01]
def oidPrime256v1 : List Byte := der 0x06 [0x2A, 0x86, 0x48, 0xCE, 0x3D, 0x03, 0x01, 0x07]
def oidO : List Byte := der 0x06 [0x55, 0x04, 0x0A]
def oidCn : List Byte := der 0x06 [0x55, 0x04, 0x03]
def oidSerial : List Byte := der 0x06 [0x55, 0x04, 0x05]
def oidSki : List Byte := der 0x06 [0x55, 0x1D, 0x0E]
def oidKeyUsage : List Byte := der 0x06 [0x55, 0x1D, 0x0F]
def oidBasic : List Byte := der 0x06 [0x55, 0x1D, 0x13]
def oidAki : List Byte := der 0x06 [0x55, 0x1D, 0x23]

/-- One relative name: a set of one attribute with a PrintableString. -/
def derName (oid : List Byte) (s : List Byte) : List Byte := der 0x31 (derSeq [oid, der 0x13 s])

/-! ### The certificate -/

/-- A number as n decimal digits with leading zeros. -/
def decimals : Nat → Nat → List Byte
  | 0, _ => []
  | n + 1, v => decimals n (v / 10) ++ [BitVec.ofNat 8 (48 + v % 10)]

/-- The ordering variant (R2, R359). -/
def Ident.variantName (i : Ident) : List Byte := ascii (if i.variant = 1 then "CT-396-MM" else "CT-396-SM")

/-- The subject of the certificate agrees with UID (R442). -/
def Ident.subject (i : Ident) : List Byte :=
  derSeq [derName oidO (ascii "Agararen"), derName oidCn i.variantName, derName oidSerial (decimals 9 i.serial.toNat)]

/-- The public key of the certificate, as an uncompressed point (R442). -/
def Ident.spki (i : Ident) : List Byte :=
  let k := i.pubKey
  derSeq [derSeq [oidEcPublicKey, oidPrime256v1],
    derBits (4 :: (digestBytes (BitVec.ofNat 256 k.1) ++ digestBytes (BitVec.ofNat 256 k.2)))]

/-- An extension with its value. -/
def derExt (oid : List Byte) (critical : Bool) (value : List Byte) : List Byte :=
  derSeq [oid, if critical then der 0x01 [0xFF] else [], der 0x04 value]

/-- The part of the certificate that the device CA signs (R442): v3, the CA's serial number, the algorithm, the issuer, the validity to
99991231235959Z, subject, key and extensions. -/
def Ident.tbs (i : Ident) : List Byte :=
  let c := i.cert
  derSeq
    [der 0xA0 (der 0x02 [2]), derNat c.serial, derSeq [oidEcdsaSha256], derSeq c.issuer,
     derSeq [c.notBefore, der 0x18 (ascii "99991231235959Z")], i.subject, i.spki,
     der 0xA3 (derSeq
       [derExt oidBasic true (derSeq []), derExt oidKeyUsage true (der 0x03 [7, 0x80]),
        derExt oidSki false (der 0x04 c.ski), derExt oidAki false (derSeq [der 0x80 c.aki])])]

/-- The certificate as its DER bytes (R442). -/
def Ident.certDer (i : Ident) : List Byte := derSeq [i.tbs, derSeq [oidEcdsaSha256], derBits i.cert.sig]

/-- What holds of every unit as made: a variant of R2, a serial of at most 9 digits, a private key of the curve, and a certificate of at
most 4,096 bytes (R2, R359, R440, R442). No command alters the unit's identity, so it holds of the unit for good. -/
def Ident.made (i : Ident) : Bool :=
  (i.variant == 1 || i.variant == 2) && decide (i.serial.toNat < 1000000000) &&
  decide (0 < i.priv.toNat ∧ i.priv.toNat < p256N) && decide (i.certDer.length ≤ 4096)

end Sys2Proof.Machine
end

