-- ==== Sys2Proof/Machine/Windows.lean ====
section
/-! DEFINITION. The thirteen window spaces: which item an index names (R367, R368), who may read it (R314), and what its
record reads (R369 to R378). -/

namespace Sys2Proof.Machine

/-! ### Items -/

/-- An item that a window index names (R368). -/
inductive Item where
  | out (p : PlaneId) (o : Fin 20)
  | link (p : PlaneId) (l : Fin 32)
  | source (p : PlaneId) (n : Fin 64)
  | unitSource (n : Fin 32)
  | counter (n : Nat)
  | linkQueue (p : PlaneId) (l : Fin 32) (k : Fin 4)
  | groupQueue (p : PlaneId) (g : Fin 32)
  | chimneyQueue (i : Fin 32)
  | ti (p : PlaneId) (i : Fin 16)
  | trigOut (p : PlaneId) (i : Fin 16)
  | gen (p : PlaneId) (g : Fin 8)
  | grid (p : PlaneId)
  | cert (k : Nat)
  | auth (k : Fin 4)
  | log (i : Nat)
  | block (b : Nat)
  | cell (p : PlaneId) (c : Fin 128)
  | rate (p : PlaneId) (m : Fin 16)
  | rtt (p : PlaneId) (l : Fin 32)
  deriving DecidableEq, Repr

/-- A queue by its number (R182). -/
def queueItem (q : Fin 512) : Item :=
  if q.val < 384 then .linkQueue (PlaneId.ofIndex (q.val / 128)) (Fin.ofNat 32 (q.val / 4)) (Fin.ofNat 4 q.val)
  else if q.val < 480 then .groupQueue (PlaneId.ofIndex ((q.val - 384) / 32)) (Fin.ofNat 32 q.val)
  else .chimneyQueue (Fin.ofNat 32 q.val)

/-- A fault source by its number. -/
def sourceItem (n : Nat) : Item :=
  if n < 192 then .source (PlaneId.ofIndex (n / 64)) (Fin.ofNat 64 n) else .unitSource (Fin.ofNat 32 (n - 192))

/-- A trigger input or output by its index (R368). -/
def trigItem (i : Nat) : Item :=
  if i % 32 < 16 then .ti (PlaneId.ofIndex (i / 32)) (Fin.ofNat 16 i) else .trigOut (PlaneId.ofIndex (i / 32)) (Fin.ofNat 16 i)

/-- A generator or a grid by its index; 9 to 15 of a plane name nothing (R368). -/
def epochItem (i : Nat) : Option Item :=
  if 48 ≤ i then none
  else if i % 16 < 8 then some (.gen (PlaneId.ofIndex (i / 16)) (Fin.ofNat 8 i))
  else if i % 16 = 8 then some (.grid (PlaneId.ofIndex (i / 16)))
  else none

/-- A parameter cell or a rate monitor by its index (R368). -/
def fabricItem (i : Nat) : Option Item :=
  if i < 384 then some (.cell (PlaneId.ofIndex (i / 128)) (Fin.ofNat 128 i))
  else if i < 432 then some (.rate (PlaneId.ofIndex ((i - 384) / 16)) (Fin.ofNat 16 i))
  else none

/-- The item an index of a space names, none beyond the space (R367, R368). -/
def itemOf (space : BitVec 4) (index : BitVec 20) : Option Item :=
  let i := index.toNat
  match space.toNat with
  | 0 => if i < 60 then some (.out (PlaneId.ofIndex (i / 20)) (Fin.ofNat 20 i)) else none
  | 1 => if i < 96 then some (.link (PlaneId.ofIndex (i / 32)) (Fin.ofNat 32 i)) else none
  | 2 => if i < 224 then some (sourceItem i) else none
  | 3 => if i ≤ 1408 then some (.counter i) else none
  | 4 => if i < 512 then some (queueItem (Fin.ofNat 512 i)) else none
  | 5 => if i < 96 then some (trigItem i) else none
  | 6 => epochItem i
  | 7 => if i ≤ 1024 then some (.cert i) else none
  | 8 => if i < 4 then some (.auth (Fin.ofNat 4 i)) else none
  | 9 => if i < 8192 then some (.log i) else none
  | 10 => if i < 32768 then some (.block i) else none
  | 11 => fabricItem i
  | 12 => if i < 96 then some (.rtt (PlaneId.ofIndex (i / 32)) (Fin.ofNat 32 i)) else none
  | _ => none

/-- Words of a record of a space (R368). -/
def recordLen (space : BitVec 4) (index : BitVec 20) : Nat :=
  match space.toNat with
  | 0 => 3
  | 1 => 22
  | 3 => 2
  | 6 => 5
  | 8 => if index = 1 then 16 else 8
  | 9 => 8
  | 10 => 64
  | 11 => 4
  | 12 => 3
  | _ => 1

/-- The plane that owns an item; none for a unit item (R367). -/
def Item.plane : Item → Option PlaneId
  | .out p _ => some p
  | .link p _ => some p
  | .source p _ => some p
  | .unitSource _ => none
  | .counter _ => none
  | .linkQueue p _ _ => some p
  | .groupQueue p _ => some p
  | .chimneyQueue _ => none
  | .ti p _ => some p
  | .trigOut p _ => some p
  | .gen p _ => some p
  | .grid p => some p
  | .cert _ => none
  | .auth _ => none
  | .log _ => none
  | .block _ => none
  | .cell p _ => some p
  | .rate p _ => some p
  | .rtt p _ => some p

/-! ### Plane records -/

/-- Code of a sensing verdict (R369). -/
def Verdict.code : Verdict → Nat
  | .none => 0
  | .normal => 1
  | .openV => 2
  | .short => 3

/-- Code of a trigger input's verdict (R373). -/
def TiVerdict.code : TiVerdict → Nat
  | .notJudged => 0
  | .normal => 1
  | .openV => 2
  | .reversed => 3

/-- OUT of a CK output (R369): settings read the value last committed (R11). -/
def Plane.ckRecord (x : Plane) (n : Fin 16) : List Word :=
  let c := x.ck[n.val]
  let d := x.sect.ck[n.val]
  [mkWord [fld (b2n c.hgate) 1 31, fld (b2n c.isol) 1 30, fld (b2n (c.run != .stopped)) 1 29, fld c.verdict.code 2 27,
     fld (b2n d.enabled) 1 26, fld d.fmt 2 24, fld (b2n d.srcB) 1 23, fld (b2n d.early) 1 22, fld (b2n c.moving) 1 21,
     fld (b2n (x.covered && !c.wait.isEmpty)) 1 20, fld (d.n - 1) 16 0],
   mkWord [fld c.committed.1.toNat 17 0],
   mkWord [fld c.fnow.toNat 10 16, fld c.committed.2.toNat 10 0]]

/-- OUT of a PU output (R369). -/
def Plane.puRecord (x : Plane) (n : Fin 4) : List Word :=
  let u := x.pu[n.val]
  let v := u.committed
  [mkWord [fld (b2n u.hgate) 1 31, fld (b2n u.isol) 1 30, fld (b2n u.high) 1 29, fld u.verdict.code 2 27,
     fld (b2n x.sect.pu[n.val].enabled) 1 26,
     fld x.sect.pu[n.val].fmt 2 24, fld (b2n u.wait.isSome) 1 20, fld v.gen.val 3 16],
   mkWord [fld v.fine.toNat 8 24, fld v.width.toNat 24 0],
   mkWord [fld u.omitted.toNat 16 16, fld v.coarse.toNat 16 0]]

/-- Two subtypes in one word, the first in [31:16] (R370). -/
def Link.subPair (k : Link) (a b : Fin 16) : Word := mkWord [fld k.sub[a.val].toNat 16 16, fld k.sub[b.val].toNat 16 0]

/-- The head shown in W10 to W12 (R370). -/
def Link.head (k : Link) : QEntry := ((if k.hsel then k.uqBulk.q else k.uqStat.q).head?).getD ⟨0, 0⟩

/-- LINK (R370). -/
def Plane.linkRecord (x : Plane) (l : Fin 32) : List Word :=
  let k := x.link[l.val]
  let d := x.sect.links[l.val]
  let e := k.head
  [mkWord [fld k.state.code 4 28, fld (b2n k.isol) 1 27, fld (b2n k.rtt.live) 1 26, fld (b2n d.monitored) 1 25, fld k.damph.toNat 16 0],
   k.committedD.1, k.committedD.2, d.dmax,
   mkWord [fld (x.linkL l).toNat 16 16, fld (x.linkExm l).toNat 8 8],
   k.rtttol,
   mkWord [fld d.p.toNat 16 16, fld (8 - k.dqCmd.q.length) 4 12, fld (8 - k.dqBulk.q.length) 4 8, fld k.uqStat.q.length 4 4,
     fld k.uqBulk.q.length 4 0],
   mkWord [fld (b2n k.hsel) 1 28], 0, 0,
   mkWord [e.type.toNat], BitVec.ofNat 32 (bits e.payload 63 32), BitVec.ofNat 32 (bits e.payload 31 0),
   k.subPair 0 1, k.subPair 2 3, k.subPair 4 7, k.subPair 8 9, k.subPair 10 11, k.subPair 12 13, k.subPair 14 15,
   k.committedEpd.1, k.committedEpd.2]

/-- FAULT (R371). -/
def Src.record (s : Src) : List Word :=
  [mkWord [fld (b2n s.live) 1 31, fld (b2n s.sticky) 1 30, fld (b2n s.wire) 1 29, fld (sevCode s.sev) 2 27,
    fld (b2n (s.react || s.husk)) 1 26]]

/-- QTHR (R372). -/
def thrRecord (ov : Bool) (occ : Nat) (nthr : BitVec 3) : List Word := [mkWord [fld (b2n ov) 1 12, fld occ 4 8, fld nthr.toNat 3 0]]

/-- QTHR of a queue of a link or of the Chimney. -/
def Queue.record (q : Queue) : List Word := thrRecord q.ovLast q.q.length q.nthr

/-- A queue of a link by its class (R182). -/
def Link.queue (k : Link) (c : Fin 4) : Queue :=
  if c = 0 then k.dqCmd else if c = 1 then k.dqBulk else if c = 2 then k.uqStat else k.uqBulk

/-- TRIGIN of a TI input (R373). -/
def Plane.tiRecord (x : Plane) (i : Fin 16) : List Word :=
  let t := x.ti[i.val]
  let d := x.sect.ti[i.val]
  [mkWord [fld t.verdict.code 2 30, fld (b2n t.dis) 1 29, fld (b2n d.enabled) 1 28, fld d.himax.toNat 16 0]]

/-- TRIGIN of a TO output (R373). -/
def Plane.toRecord (x : Plane) (i : Fin 16) : List Word :=
  let t := x.trigOut[i.val]
  [mkWord [fld (b2n t.high) 1 31, fld (b2n t.wait.isSome) 1 16, fld x.sect.trigOut[i.val].coarse.toNat 8 8, fld t.committed.toNat 8 0]]

/-- EPOCH of a generator; a field that does not apply reads 0 (R374). -/
def Plane.genRecord (x : Plane) (g : Fin 8) : List Word :=
  let n := x.gen[g.val]
  let d := x.sect.gens[g.val]
  let s := n.committed
  let beacon := isBeacon g
  let user := g == 7
  [mkWord [fld (b2n s.en) 1 31, fld (b2n d.msg) 1 30, fld (b2n n.wait.isSome) 1 29, fld (if beacon then s.bint.toNat else 0) 8 16,
     fld (b2n (beacon && d.defers)) 1 15, fld (if beacon then n.p.toNat else 0) 3 12, fld (if beacon then d.lim else 0) 3 9,
     fld (if user then s.ufine.toNat else 0) 9 0],
   mkWord [n.count.toNat], if user then s.uper else 0, if user then s.startSec else 0, if user then s.startLow else 0]

/-- EPOCH of a grid (R374). -/
def Plane.gridRecord (x : Plane) : List Word := [BitVec.ofInt 32 x.grid.goff, 0, 0, 0, 0]

/-- FABRIC of a cell (R376). -/
def Plane.cellRecord (x : Plane) (c : Fin 128) : List Word :=
  let d := x.sect.fabric.cells[c.val]
  [x.fab.cells[c.val], d.min, d.max, mkWord [b2n d.signed]]

/-- FABRIC of a rate monitor (R376). -/
def Plane.rateRecord (x : Plane) (m : Fin 16) : List Word :=
  let r := x.fab.rates[m.val]
  [BitVec.ofNat 32 (satNat 32 r.last), mkWord [b2n (r.levelAt x.time.clk)], 0, 0]

/-- RTT (R377). -/
def Plane.rttRecord (x : Plane) (l : Fin 32) : List Word :=
  let r := x.link[l.val].rtt
  [BitVec.ofNat 32 (satNat 32 r.rtt), BitVec.ofNat 32 (satInt 32 r.dev),
   mkWord [fld r.age 16 16, fld (b2n r.valid) 1 15, fld (b2n r.beyond) 1 14]]

/-! ### Unit records -/

/-- CNT: what the last snapshot captured, 0 before the first (R372, R415). -/
def Snapshot.record (t : Snapshot) (n : Nat) : List Word :=
  if n = 1408 then [t.sec, t.low]
  else
    let c := t.counts.getD n {}
    [mkWord [fld (b2n c.ovf) 1 31, fld (c.count.toNat / 2 ^ 32) 16 0], BitVec.ofNat 32 (c.count.toNat % 2 ^ 32)]

/-- CERT (R375). -/
def Ident.certRecord (i : Ident) (k : Nat) : List Word :=
  let bytes := i.certDer
  if k = 0 then [BitVec.ofNat 32 bytes.length]
  else
    let b := fun (j : Nat) => bytes.getD (4 * k - 4 + j) 0
    [bytesWord (b 0) (b 1) (b 2) (b 3)]

/-- The n words of a long number, most significant first. -/
def wideWords (v n : Nat) : List Word := (List.range n).map fun i => BitVec.ofNat 32 (v / 2 ^ (32 * (n - 1 - i)))

/-- AUTHBUF (R375, R446). -/
def Auth.record (a : Auth) (k : Fin 4) : List Word :=
  if k = 0 then a.latched.toList
  else if k = 1 then wideWords a.sig.toNat 16
  else if k = 2 then wideWords a.rdig.toNat 8
  else a.sec :: a.low :: a.spst.toList

/-- LOG: an entry never written reads all ones (R378). -/
def EvLog.record (l : EvLog) (i : Nat) : List Word :=
  match l.ring.find? fun e => e.1 == i with
  | some e => e.2.toList
  | none => List.replicate 8 0xFFFFFFFF

/-- CFGDATA: the block of the slot that the port holds open; without one the content is unspecified (R300). -/
def Hub.blockRecord (h : Hub) (q : PortId) (b : Nat) : List Word :=
  match h.holdsOpen q with
  | some i => (wordsOf (h.cfg.slot[i.val].mem.readBytes (256 * b) 256)).1
  | none => (List.range 64).map fun w => Config.closedBlock h.freeIdx b w

/-! ### Reading -/

/-- A plane as its window records see it: as its last frame boundary left it (R40). While that boundary stands, and while the
word clock stands, that is the plane itself. -/
def Hub.shown (h : Hub) (p : PlaneId) : Plane :=
  if h.active p && (h.plane p).time.cyc != 0 then h.shots.get p else h.plane p

/-- The record of an item. -/
def Hub.itemRecord (h : Hub) (q : PortId) : Item → List Word
  | .out p o => if hn : o.val < 16 then (h.shown p).ckRecord ⟨o.val, hn⟩ else (h.shown p).puRecord (Fin.ofNat 4 o.val)
  | .link p l => (h.shown p).linkRecord l
  | .source p n => (h.shown p).flt.src[n.val].record
  | .unitSource n => h.usrc[n.val].record
  | .counter n => h.snap.record n
  | .linkQueue p l k => ((h.shown p).link[l.val].queue k).record
  | .groupQueue p g => let t := (h.shown p).gq[g.val]; thrRecord t.ovLast t.q.length t.nthr
  | .chimneyQueue i => (if hn : i.val < 16 then h.chim.out[i.val] else h.chim.inq[i.val - 16]).record
  | .ti p i => (h.shown p).tiRecord i
  | .trigOut p i => (h.shown p).toRecord i
  | .gen p g => (h.shown p).genRecord g
  | .grid p => (h.shown p).gridRecord
  | .cert k => h.ident.certRecord k
  | .auth k => h.auth.record k
  | .log i => h.log.record i
  | .block b => h.blockRecord q b
  | .cell p c => (h.shown p).cellRecord c
  | .rate p m => (h.shown p).rateRecord m
  | .rtt p l => (h.shown p).rttRecord l

/-- The port holds READ for some plane of the unit (R367). -/
def Hub.readsAny (h : Hub) (q : PortId) : Bool := PlaneId.all.any (h.reads q)

/-- The port may read an item (R314, R367). -/
def Hub.mayRead (h : Hub) (q : PortId) (i : Item) : Bool :=
  match i with
  | .counter _ => (h.grants q).counters
  | .auth _ => (h.grants q).auth
  | .block _ => (h.grants q).image
  | i =>
    match i.plane with
    | some p => h.reads q p
    | none => h.readsAny q

/-- A record as a port reads it: 0 in every word beyond the space or without the right (R314, R367). -/
def Hub.readRecord (h : Hub) (q : PortId) (space : BitVec 4) (index : BitVec 20) : List Word :=
  match itemOf space index with
  | none => List.replicate (recordLen space index) 0
  | some i => if h.mayRead q i then h.itemRecord q i else List.replicate (recordLen space index) 0

/-- A log entry that a port has read in whole counts as read (R436). -/
def Hub.noteRead (h : Hub) (q : PortId) (space : BitVec 4) (index : BitVec 20) : Hub :=
  if space = 9 ∧ h.readsAny q = true then
    match h.log.ring.find? fun e => e.1 == index.toNat with
    | none => h
    | some e => { h with log := { h.log with maxRead := some (max (h.log.maxRead.getD 0) e.2[0].toNat) } }
  else h

end Sys2Proof.Machine
end

