-- ==== Sys2Proof/Machine/Records.lean ====
section
/-! DEFINITION. Writes of window records: what a record's words ask for, why the record is refused, and its effect at the
commit (R321, R342, R367 to R376). -/

namespace Sys2Proof.Machine

/-! ### Reserved bits -/

/-- Reserved bits of a CK and of a PU record (R369). -/
def ckReserved : List Word := [0x000F0000, 0xFFFE0000, 0xFC00FC00]
def puReserved : List Word := [0x00080000, 0, 0]

/-- Reserved bits of a LINK record, those of the Damper included (R190, R370). -/
def linkReserved : List Word :=
  [0x01FF7C00, 0, 0, 0, 0xFF, 0xFFFE0000, 0, 0x0FFFFFFF, 0, 0, 0xFFFFFF00] ++ List.replicate 9 0 ++ [0x7FF, 0x7FF]

/-- The reserved bits of each word of a record (R369 to R377). -/
def Item.reserved : Item → List Word
  | .out _ o => if o.val < 16 then ckReserved else puReserved
  | .link _ _ => linkReserved
  | .source _ _ => [0x03FFFFFF]
  | .unitSource _ => [0x03FFFFFF]
  | .counter _ => []
  | .linkQueue _ _ _ => [0xFFFFE0F8]
  | .groupQueue _ _ => [0xFFFFE0F8]
  | .chimneyQueue _ => [0xFFFFE0F8]
  | .ti _ _ => [0x0FFF0000]
  | .trigOut _ _ => [0x7FFE0000]
  | .gen _ _ => [0x1F000000, 0xFFFF8000]
  | .grid _ => [0, 0xFFFFFFFF, 0xFFFFFFFF, 0xFFFFFFFF, 0xFFFFFFFF]
  | .cert _ => []
  | .auth _ => []
  | .log _ => []
  | .block _ => []
  | .cell _ _ => [0, 0, 0, 0xFFFFFFFE]
  | .rate _ _ => [0, 0xFFFFFFFE, 0xFFFFFFFF, 0xFFFFFFFF]
  | .rtt _ _ => [0, 0, 0x3FFF]

/-- A written word sets a reserved bit of its place. -/
def reservedSet (masks ws : List Word) : Bool := (masks.zip ws).any fun e => e.1 &&& e.2 != 0

/-- Word n of a record. -/
def wordAt (ws : List Word) (n : Nat) : Word := ws.getD n 0

/-! ### What a record asks for -/

/-- Delay of a written CK record (R369). -/
def ckAsked (ws : List Word) : BitVec 17 × BitVec 10 :=
  (BitVec.ofNat 17 (bits (wordAt ws 1) 16 0), BitVec.ofNat 10 (bits (wordAt ws 2) 9 0))

/-- Settings of a written PU record (R369). -/
def puAsked (ws : List Word) : PuSet :=
  { gen := Fin.ofNat 8 (bits (wordAt ws 0) 18 16), coarse := BitVec.ofNat 16 (bits (wordAt ws 2) 15 0)
    fine := BitVec.ofNat 8 (bits (wordAt ws 1) 31 24), width := BitVec.ofNat 24 (bits (wordAt ws 1) 23 0) }

/-- QOP of a written LINK record (R370). -/
def linkOp (ws : List Word) : Nat := bits (wordAt ws 7) 31 29

/-- PAYHI and PAYLO of a written LINK record (R370). -/
def linkPayload (ws : List Word) : BitVec 64 := BitVec.ofNat 64 ((wordAt ws 8).toNat * 2 ^ 32 + (wordAt ws 9).toNat)

/-- A severity by its code (R371). -/
def sevOf (n : Nat) : Severity := if n = 0 then .record else if n = 1 then .notify else if n = 2 then .isolate else .safe

/-- SEV of a written FAULT record. -/
def sevAsked (ws : List Word) : Severity := sevOf (bits (wordAt ws 0) 28 27)

/-- Settings of a written EPOCH record: a field that does not apply to the generator is ignored (R374). -/
def genAsked (g : Fin 8) (ws : List Word) (v : GenSet) : GenSet :=
  let w := wordAt ws 0
  let v := { v with en := bitAt w 31 }
  let v := if isBeacon g then { v with bint := BitVec.ofNat 8 (bits w 23 16) } else v
  if g = 7 then
    { v with ufine := BitVec.ofNat 9 (bits w 8 0), uper := wordAt ws 2, startSec := wordAt ws 3, startLow := wordAt ws 4 }
  else v

/-! ### Why a record is refused -/

/-- A LINK record holds a value out of range (R166, R370). -/
def linkRange (d : LinkDecl) (ws : List Word) : Bool :=
  decide (d.dmax.toNat < (wordAt ws 1).toNat) || decide (1000000 < (wordAt ws 2).toNat) ||
  decide ((wordAt ws 5).toNat < 1 ∨ 100000 < (wordAt ws 5).toNat) || decide (5 < linkOp ws) ||
  (linkOp ws == 5 && testRange (linkPayload ws))

/-- An EPOCH record holds a value out of range (R7, R249, R374). -/
def genRange (g : Fin 8) (d : GenDecl) (ws : List Word) : Bool :=
  if isBeacon g then decide (bits (wordAt ws 0) 23 16 < 8)
  else if g = 7 then
    decide ((wordAt ws 2).toNat < uperMin d) || (tagCycle (wordAt ws 3) (wordAt ws 4)).isNone
  else false

/-- A value of the record lies outside its range, reserved bits apart. -/
def Hub.itemRange (h : Hub) (i : Item) (ws : List Word) : Bool :=
  match i with
  | .out _ o => if o.val < 16 then decide (799 < (ckAsked ws).2.toNat) else (puAsked ws).width == 0
  | .link p l => linkRange (h.plane p).sect.links[l.val] ws
  | .source p n => sevRange (Fin.ofNat 224 (64 * p.num + n.val)) (sevAsked ws)
  | .unitSource n => sevRange (Fin.ofNat 224 (192 + n.val)) (sevAsked ws)
  | .gen p g => genRange g (h.plane p).sect.gens[g.val] ws
  | .grid _ => goffRange (wordAt ws 0).toInt
  | .cell p c => !(cellAccepts (h.plane p).sect.fabric.cells[c.val] (wordAt ws 0))
  | _ => false

/-- The record changes a setting whose write is structural (R342, R397). -/
def Hub.itemStructural (h : Hub) (i : Item) (ws : List Word) : Bool :=
  match i with
  | .out p o =>
    if hn : o.val < 16 then ckAsked ws != (h.plane p).ck[o.val].committed
    else puAsked ws != (h.plane p).pu[o.val - 16].committed
  | .link p l =>
    let k := (h.plane p).link[l.val]
    (wordAt ws 1, wordAt ws 2) != k.committedD || (wordAt ws 20, wordAt ws 21) != k.committedEpd
  | .trigOut p n => BitVec.ofNat 8 (bits (wordAt ws 0) 7 0) != (h.plane p).trigOut[n.val].committed
  | .gen p g => let v := (h.plane p).gen[g.val].committed; genAsked g ws v != v
  | .grid p => (wordAt ws 0).toInt != (h.plane p).grid.goff
  | _ => false

/-- The state refuses the record: a parameter cell of an offline fabric (R227), a nonce while BUSY (R380). -/
def Hub.itemState (h : Hub) (i : Item) : Bool :=
  match i with
  | .cell p _ => !(h.plane p).fab.online
  | .auth k => k == 0 && h.auth.busy
  | _ => false

/-- No word of the record has a write effect (R314). -/
def Item.readOnly : Item → Bool
  | .counter _ => true
  | .cert _ => true
  | .log _ => true
  | _ => false

/-- Why a whole record is refused (R314, R367, R462). -/
def Hub.recordReason (h : Hub) (q : PortId) (space : BitVec 4) (index : BitVec 20) (ws : List Word) : Reason :=
  match itemOf space index with
  | none => .range
  | some i =>
    if i.readOnly then .noEffect
    else
      let range := reservedSet i.reserved ws || h.itemRange i ws
      match i with
      | .block b => h.blockReason q b (4 * ws.length)
      | .auth _ => firstReason (!(h.grants q).auth) false range false (h.itemState i)
      | i =>
        match i.plane with
        | some p => h.planeReason q p range ((h.plane p).inHusk && h.itemStructural i ws) (h.itemState i)
        | none => h.unitReason q range false (h.itemState i)

/-! ### Effects -/

/-- A CK record takes effect: the gate, and the delay behind every gate write of its boundary (R126, R369). -/
def Plane.writeCk (x : Plane) (o : Fin 20) (n : Fin 16) (ws : List Word) : Plane :=
  let a := ckAsked ws
  let y := x.writeGate o (bitAt (wordAt ws 0) 31)
  if a = x.ck[n.val].committed then y else y.queueDelay n a.1 a.2

/-- A PU record takes effect: gate, then settings (R126, R369). -/
def Plane.writePuRecord (x : Plane) (o : Fin 20) (n : Fin 4) (ws : List Word) : Plane :=
  let a := puAsked ws
  let y := x.writeGate o (bitAt (wordAt ws 0) 31)
  if a = x.pu[n.val].committed then y else y.writePu n a

/-- QOP of a LINK record acts once (R184, R186, R370). -/
def Plane.linkAct (x : Plane) (l : Fin 32) (op : Nat) (payload : BitVec 64) : Plane :=
  match op with
  | 1 => x.enqCmd l payload
  | 2 => x.enqBulk l payload
  | 3 => x.modLink l fun k => { k with uqStat := k.uqStat.pop }
  | 4 => x.modLink l fun k => { k with uqBulk := k.uqBulk.pop }
  | 5 => x.injectTest l payload
  | _ => x

/-- A LINK record takes effect (R370). -/
def Plane.writeLink (x : Plane) (l : Fin 32) (base : Nat) (ws : List Word) : Plane :=
  let k := x.link[l.val]
  let damp := BitVec.ofNat 16 (bits (wordAt ws 0) 15 0)
  let y := if damp = k.damph then x else x.writeDamper l base damp
  let y := if (wordAt ws 1, wordAt ws 2) = k.committedD then y else y.writeD l (wordAt ws 1) (wordAt ws 2)
  let y := y.modLink l fun k => { k with rtttol := wordAt ws 5, hsel := bitAt (wordAt ws 7) 28 }
  let y := if (wordAt ws 20, wordAt ws 21) = k.committedEpd then y else y.writeEpd l (wordAt ws 20) (wordAt ws 21)
  y.linkAct l (linkOp ws) (linkPayload ws)

/-- A FAULT record of a plane takes effect: the sticky clear, then the severity (R371, R389, R394). -/
def Hub.writeSource (h : Hub) (p : PlaneId) (n : Fin 64) (ws : List Word) : Hub :=
  let h := if bitAt (wordAt ws 0) 30 then h.clearPlaneSticky p n else h
  if sevAsked ws = (h.plane p).flt.src[n.val].sev then h else h.setSev p n (sevAsked ws)

/-- A FAULT record of the unit takes effect. -/
def Hub.writeUnitSource (h : Hub) (n : Fin 32) (ws : List Word) : Hub :=
  let h := if bitAt (wordAt ws 0) 30 then h.clearUnitSticky n else h
  if sevAsked ws = h.usrc[n.val].sev then h else h.setUSev n (sevAsked ws)

/-- NTHR of a queue of a link (R409). -/
def Link.setThr (k : Link) (c : Fin 4) (n : BitVec 3) : Link :=
  if c = 0 then { k with dqCmd := { k.dqCmd with nthr := n } }
  else if c = 1 then { k with dqBulk := { k.dqBulk with nthr := n } }
  else if c = 2 then { k with uqStat := { k.uqStat with nthr := n } }
  else { k with uqBulk := { k.uqBulk with nthr := n } }

/-- NTHR of a Chimney queue: 0 to 15 outbound, 16 to 31 inbound (R182). -/
def Chimney.setThr (c : Chimney) (i : Fin 32) (n : BitVec 3) : Chimney :=
  if i.val < 16 then { c with out := upd c.out (Fin.ofNat 16 i.val) fun (t : Queue) => { t with nthr := n } }
  else { c with inq := upd c.inq (Fin.ofNat 16 i.val) fun (t : Queue) => { t with nthr := n } }

/-- A nonce takes the place of the last one; DONE clears (R365, R446). -/
def Auth.setNonce (a : Auth) (nonce : Vector Word 8) : Auth := { a with nonce := nonce, done := false }

/-- The threshold of a queue changes; its counter goes on (R409). -/
def Hub.setThreshold (h : Hub) (i : Item) (n : BitVec 3) : Hub :=
  match i with
  | .linkQueue p l c => h.modPlane p fun x => x.modLink l fun k => k.setThr c n
  | .groupQueue p g => h.modPlane p fun x => { x with gq := upd x.gq g fun (t : GQueue) => { t with nthr := n } }
  | .chimneyQueue k => h.modChim fun c => c.setThr k n
  | _ => h

/-- A record takes effect. Fields that only read are ignored (R342). -/
def Hub.recordAct (h : Hub) (q : PortId) (i : Item) (ws : List Word) : Hub :=
  match i with
  | .out p o =>
    h.onPlane p fun x =>
      if hn : o.val < 16 then x.writeCk o ⟨o.val, hn⟩ ws else x.writePuRecord o (Fin.ofNat 4 o.val) ws
  | .link p l => h.onPlane p fun x => x.writeLink l (h.linkBase p) ws
  | .source p n => h.writeSource p n ws
  | .unitSource n => h.writeUnitSource n ws
  | .trigOut p n =>
    h.onPlane p fun x =>
      let f := BitVec.ofNat 8 (bits (wordAt ws 0) 7 0)
      if f = x.trigOut[n.val].committed then x else x.writeTo n f
  | .gen p g => h.onPlane p fun x => x.writeGen g (genAsked g ws)
  | .grid p =>
    h.onPlane p fun x => if (wordAt ws 0).toInt = x.grid.goff then x else x.setGoff (wordAt ws 0).toInt
  | .cell p c => h.onPlane p fun x => x.setCell c (wordAt ws 0)
  | .auth k => if k = 0 then { h with auth := h.auth.setNonce (Vector.ofFn fun n => wordAt ws n.val) } else h
  | .block b => h.bufferBlock q b (ws.flatMap wordBytes)
  | .linkQueue _ _ _ => h.setThreshold i (BitVec.ofNat 3 (bits (wordAt ws 0) 2 0))
  | .groupQueue _ _ => h.setThreshold i (BitVec.ofNat 3 (bits (wordAt ws 0) 2 0))
  | .chimneyQueue _ => h.setThreshold i (BitVec.ofNat 3 (bits (wordAt ws 0) 2 0))
  | .counter _ => h
  | .ti _ _ => h
  | .cert _ => h
  | .log _ => h
  | .rate _ _ => h
  | .rtt _ _ => h

/-- Judge a whole record written at an address and apply it, or record its refusal (R315, R321). -/
def Hub.writeRecord (h : Hub) (q : PortId) (off : Fin 8) (space : BitVec 4) (index : BitVec 20) (ws : List Word) : Hub :=
  h.judged q (h.addrOf q off) 0x0E (h.recordReason q space index ws) fun h =>
    match itemOf space index with
    | none => h
    | some i => h.recordAct q i ws

/-! ### Meanings -/

/-- QUEUE_THRESHOLD_WRITE: a Chimney queue is a unit item (R367, R409). -/
def execQueueThresholdWrite (port : PortId) (q : Fin 512) (n : BitVec 3) (s : State) : Host.Outcome State Fault Refusal :=
  s.answer (match (queueItem q).plane with
    | some p => s.hub.hostWrite port p 0x0E false false false fun h => h.setThreshold (queueItem q) n
    | none => s.hub.unitWrite port 0x0E (s.hub.unitReason port false false false) fun h => h.setThreshold (queueItem q) n)

/-- AUTH_NONCE_WRITE: needs AUTH, and is refused with STATE while BUSY (R446). -/
def execAuthNonceWrite (port : PortId) (nonce : Vector Word 8) (s : State) : Host.Outcome State Fault Refusal :=
  s.answer (s.hub.judged port (s.hub.addrOf port 0) 0x0E
    (firstReason (!(s.hub.grants port).auth) false false false s.hub.auth.busy)
    fun h => { h with auth := h.auth.setNonce nonce })

end Sys2Proof.Machine
end

