-- ==== Sys2Proof/Machine/Ports.lean ====
section
/-! DEFINITION. The ports: unit registers as a port reads them (R359 to R365), the capture at START, sleep, the attention
engine, stuck lines and bus recovery (R318, R330 to R339). -/

namespace Sys2Proof.Machine

/-! ### Unit registers -/

/-- Code of the unit's state (R359). -/
def UpState.code : UpState → Nat
  | .run => 0
  | .standby => 1
  | .kindling => 2
  | .bare => 3

/-- UID (R359). -/
def Ident.uid (i : Ident) : Word := mkWord [fld i.variant.toNat 4 28, fld i.serial.toNat 28 0]

/-- A temperature in whole °C, from tenths. -/
def degrees (t : Int) : Nat := satInt 8 (meanOf t 10)

/-- USTATE (R359). -/
def Hub.regUstate (h : Hub) : Word :=
  let e := h.env
  let fans := b2n e.fanOk[0] + 2 * b2n e.fanOk[1] + 4 * b2n e.fanOk[2] + 8 * b2n e.fanOk[3]
  mkWord [fld h.upstate.code 3 29, fld e.feedBits 4 25, fld fans 4 21, fld (b2n (h.usrc.toList.any (·.sticky))) 1 20,
    fld (b2n (h.usrc.toList.any (·.live))) 1 19, fld (degrees e.tinlet) 8 8, fld (degrees e.tint) 8 0]

/-- SNAP (R361). -/
def Snapshot.reg (t : Snapshot) : Word :=
  mkWord [fld (bits t.low 31 8) 24 8, fld (b2n t.pending) 1 1, fld (b2n t.valid) 1 0]

/-- Code of a refusal reason (R363). -/
def Reason.code : Reason → Nat
  | .none => 0
  | .right => 1
  | .owner => 2
  | .range => 3
  | .husk => 4
  | .noEffect => 5
  | .void => 6
  | .state => 7
  | .sched => 8
  | .order => 9

/-- PORT in the view selected (R362). -/
def Port.reg (x : Port) (q : PortId) : Word :=
  if x.pview = 0 then
    mkWord [fld x.ref.reason.code 4 26, fld x.ref.taddr.toNat 7 19, fld x.ref.treg.toNat 5 14, fld x.ref.count.toNat 8 6,
      fld (b2n x.pecNext) 1 4, fld x.scheds.length 3 0]
  else if x.pview = 1 then mkWord [fld 1 2 30, fld x.ucause.toNat 8 0]
  else mkWord [fld 2 2 30, fld q.val 2 28, fld x.uen.toNat 8 0]

/-- NVCTL (R364). -/
def Hub.regNvctl (h : Hub) (q : PortId) : Word :=
  let x := h.port q
  mkWord [fld (b2n h.nv.op.isSome) 1 31, fld x.ksel.toNat 2 27, fld (b2n h.nv.lock) 1 26, fld (b2n x.rpwok) 1 25,
    fld (b2n x.wpwok) 1 24, fld (min h.nv.fails 8) 4 20, fld (b2n x.nverr) 1 19, fld x.page.toNat 7 12, fld x.offset.toNat 5 7]

/-- Buffer bytes from an offset on, modulo 32 (R364). -/
def Port.bufWord (x : Port) (off : Nat) : Word :=
  let b := fun (i : Nat) => x.buf.getD ((off + i) % 32) 0xFF
  bytesWord (b 0) (b 1) (b 2) (b 3)

/-- CFGSTAT (R365). -/
def Cfg.reg (c : Cfg) : Word :=
  let o := c.openBy
  mkWord [fld c.boot.val 1 31, fld c.uslot.val 1 30, fld c.pslot.a.val 1 29, fld c.pslot.b.val 1 28, fld c.pslot.c.val 1 27,
    fld (b2n c.slot[1].verified) 1 26, fld (b2n c.slot[0].verified) 1 25, fld (b2n o.isSome) 1 24,
    fld ((o.map fun e => e.2.val).getD 0) 1 23, fld ((o.map fun e => e.1.val).getD 0) 2 21, fld c.lastCmd.toNat 4 17,
    fld c.result.toNat 4 13]

/-- AUTH (R365). -/
def Auth.reg (a : Auth) : Word := mkWord [fld (b2n a.busy) 1 30, fld (b2n a.done) 1 29, fld (b2n a.err) 1 28]

/-- UVER (R359): map revision and highest FORMAT are 1. -/
def Ident.uver (i : Ident) : Word := mkWord [fld i.hwrev.toNat 8 24, fld 1 8 16, fld 1 8 8]

/-- The unit registers 0x14 to 0x1F as a port reads them (R344). SNAP needs COUNTERS and AUTH needs AUTH (R314). -/
def Hub.unitRegs (h : Hub) (q : PortId) : Vector Word 12 :=
  let x := h.port q
  let g := h.grants q
  ⟨#[h.ident.uid, h.regUstate, 0, if g.counters then h.snap.reg else 0, x.reg q, h.regNvctl q, 0, x.bufWord x.offset.toNat,
     h.cfg.reg, 0, if g.auth then h.auth.reg else 0, h.ident.uver], rfl⟩

/-- ATTN as it reads at an address (R356). -/
def Port.attnReg (x : Port) (off : Fin 8) : Word :=
  mkWord [fld x.haddr.toNat 7 25, fld x.speed.toNat 2 23, fld x.en[off.val].toNat 21 0]

/-! ### WSEL fields -/

/-- SPACE, VIEW, INDEX and AUTOINC of a WSEL word (R366). -/
def wselSpace (w : Word) : BitVec 4 := BitVec.ofNat 4 (bits w 27 24)
def wselView (w : Word) : Fin 16 := Fin.ofNat 16 (bits w 23 20)
def wselIndex (w : Word) : BitVec 20 := BitVec.ofNat 20 (bits w 19 0)
def wselAuto (w : Word) : Bool := bitAt w 31

/-- A WSEL word with another index. -/
def wselWith (w : Word) (i : BitVec 20) : Word := mkWord [bits w 31 20 * 2 ^ 20, i.toNat]

/-- A WSEL word is out of range: a reserved bit or a reserved space (R366). -/
def wselRange (w : Word) : Bool := bits w 30 28 != 0 || decide (12 < bits w 27 24)

/-! ### START -/

/-- What a START captures (R318, R323). -/
def Hub.capture (h : Hub) (q : PortId) : Latch :=
  let x := h.port q
  { cfg := x.cfg
    banks := h.planes.map fun (y : Plane) => y.bank
    mirror := h.chim.mirror
    unit := h.unitRegs q
    unitF := h.chim.mirrorU
    acause := x.acause
    attn := Vector.ofFn fun o => x.attnReg o
    pointer := x.pointer
    wsel := x.wsel
    recs := Vector.ofFn fun o =>
      if 1 ≤ o.val ∧ o.val < 4 then h.readRecord q (wselSpace x.wsel[o.val]) (wselIndex x.wsel[o.val]) else [] }

/-- A START: the port captures, and PEC takes its last written setting (R318, R322). -/
def Hub.start (h : Hub) (q : PortId) : Hub :=
  if h.powered && (h.port q).answers then
    let l := h.capture q
    h.modPort q fun x => { x with latch := some l, pec := x.pecNext }
  else h

/-- The port's transaction is over: a sleep that waited for it begins (R330, R340). -/
def Port.endTransaction (x : Port) : Port :=
  let y := { x with latch := none, fetch := [] }
  if y.sleepDue then { y with asleep := true, unitSlept := true, sleepDue := false } else y

/-- The port's transaction is voided: pointer and window indices are those of its START, and the void is recorded at the
address and register it concerns (R315, R323). -/
def Hub.voidTx (h : Hub) (q : PortId) (addr : BitVec 7) (reg : BitVec 5) : Hub :=
  h.modPort q fun x => (x.refuse addr reg .void).endTransaction

/-! ### Sleep -/

/-- A port sleeps by its own PORT write (R330). -/
def Port.sleep (x : Port) : Port := { x with asleep := true, unitSlept := false, sleepDue := false }

/-- An address byte the port answers wakes it (R330). -/
def Port.wake (x : Port) : Port := { x with asleep := false, unitSlept := false }

/-! ### The attention engine -/

/-- The address of a message's origin: 0x00 for the port test (R334, R338). -/
def Hub.originAddr (h : Hub) (q : PortId) (o : Fin 9) : BitVec 7 :=
  if o = 8 then 0 else h.addrOf q (Fin.ofNat 8 o.val)

/-- The cause word of an origin as it stands (R334). -/
def Port.causeWord (x : Port) (o : Fin 9) : Word :=
  if o = 8 then 0 else if o = 0 then x.ucause.zeroExtend 32 else x.acause[(Fin.ofNat 8 o.val).val]

/-- The bytes of an attempt, latched at its START (R334). -/
def Hub.attnBytes (h : Hub) (q : PortId) (m : AttnMsg) : List Byte :=
  let x := h.port q
  let body := [BitVec.ofNat 8 (x.haddr.toNat * 2), BitVec.ofNat 8 (h.originAddr q m.origin).toNat, m.seq] ++
    wordBytes (x.causeWord m.origin)
  if x.pecNext then body ++ [crc8 body] else body

/-- An attempt can start (R332, R336, R392): a message is pending, the engine is enabled and not isolated, and the port's
target logic is in no transaction. -/
def Hub.mayAttempt (h : Hub) (q : PortId) : Bool :=
  let x := h.port q
  h.powered && !x.msgs.isEmpty && x.haddr != 0 && !h.engineIsolated q && x.latch.isNone

/-- LOST at every plane address of the port (R335). -/
def Port.setLost (x : Port) : Port :=
  { x with acause := Vector.ofFn fun o => if o.val % 4 = 0 then x.acause[o.val] else x.acause[o.val] ||| 0x80000000 }

/-- The oldest message is lost: LOST, source 216 to 218, the count (R335, R411). -/
def Hub.loseMessage (h : Hub) (q : PortId) : Hub :=
  let h := h.modPort q fun x => { x with msgs := x.msgs.drop 1 }.setLost
  (h.setUDet (Fin.ofNat 32 (24 + q.val)) true).ucount (Fin.ofNat 32 (12 + q.val))

/-- An attempt of the oldest message failed: after the 8th retry it is lost (R335). -/
def Hub.attemptFails (h : Hub) (q : PortId) : Hub :=
  match (h.port q).msgs with
  | [] => h
  | m :: rest =>
    if 8 ≤ m.retries then h.loseMessage q
    else h.modPort q fun x => { x with msgs := { m with retries := m.retries + 1 } :: rest }

/-- The bytes of an attempt of the oldest message are on the bus. -/
def Hub.sendAttempt (h : Hub) (q : PortId) : Hub :=
  match (h.port q).msgs with
  | [] => h
  | m :: _ => let b := h.attnBytes q m; h.modPort q fun x => { x with attn := b }

/-- An attempt ends: acknowledged and counted, not acknowledged, or lost to another controller, which counts for nothing
(R335). -/
def Hub.attempt (h : Hub) (q : PortId) (out : AttnEnd) : Hub :=
  if h.mayAttempt q then
    let h := h.sendAttempt q
    match out with
    | .acked => (h.modPort q fun x => { x with msgs := x.msgs.drop 1 }).ucount (Fin.ofNat 32 (9 + q.val))
    | .nacked => h.attemptFails q
    | .lostArb => h
  else h

/-- The oldest message has been tried. -/
def Port.tried (x : Port) : Bool :=
  match x.msgs with
  | [] => false
  | m :: _ => m.retries != 0

/-! ### Stuck lines and recovery -/

/-- A line of a port is stuck, or no longer (R337): sources 210 to 215. -/
def Hub.setStuck (h : Hub) (q : PortId) (line : BusLine) (b : Bool) : Hub :=
  match line with
  | .scl => (h.modPort q fun x => { x with sclStuck := b }).setUDet (Fin.ofNat 32 (18 + q.val)) b
  | .sda => (h.modPort q fun x => { x with sdaStuck := b }).setUDet (Fin.ofNat 32 (21 + q.val)) b

/-- Step 1 of a recovery voids the port's target transaction (R339). -/
def Hub.voidTarget (h : Hub) (q : PortId) : Hub :=
  if (h.port q).latch.isSome then h.voidTx q (h.addrOf q 0) (h.port q).pointer else h

/-- A recovery runs on a port and is recorded with its result; with both lines high it drives nothing (R339). -/
def Hub.recover (h : Hub) (q : PortId) (lines : BusLines) : Hub :=
  match lines with
  | .bothHigh => h.recordRecovery q true
  | .sclHeld => (h.voidTarget q).recordRecovery q false
  | .freed _ => (h.voidTarget q).recordRecovery q true
  | .stuck => (h.voidTarget q).recordRecovery q false

/-- A port test: a recovery where the lines need one, then one message of origin 0x00 (R338). -/
def Hub.testPort (h : Hub) (q : PortId) (lines : BusLines) : Hub :=
  let h := if lines = .bothHigh then h else h.recover q lines
  h.modPort q fun x => x.pendMsg 8

/-- Why RECOVER or a port test is refused: CONTROL for any one plane, and a port cannot recover itself (R314, R338). -/
def Hub.busReason (h : Hub) (q : PortId) (range : Bool) : Reason :=
  firstReason (!(PlaneId.all.any (h.controls q))) false range false false

/-! ### Port-local fields -/

/-- ATTN is out of range (R356). -/
def attnRange (w : Word) : Bool :=
  let a := bits w 31 25
  decide (1 ≤ a ∧ a ≤ 7) || decide (0x78 ≤ a) || bits w 24 23 == 3 || bits w 22 21 != 0

/-- ATTN takes effect: HADDR and SPEED of the port, EN of the address (R356). -/
def Port.setAttn (x : Port) (off : Fin 8) (w : Word) : Port :=
  { x with haddr := BitVec.ofNat 7 (bits w 31 25), speed := BitVec.ofNat 2 (bits w 24 23)
           en := upd x.en off fun _ => BitVec.ofNat 21 (bits w 20 0) }

/-- Clear ACAUSE bits at an address; LOST clears at every address (R335, R357). -/
def Port.clearCause (x : Port) (off : Fin 8) (w : Word) : Port :=
  let y := { x with acause := upd x.acause off (· &&& ~~~w) }
  if bitAt w 31 then { y with acause := y.acause.map (· &&& 0x7FFFFFFF) } else y

/-- PORT is out of range (R362). -/
def portRange (w : Word) : Bool :=
  let v := bits w 31 30
  v == 3 || (v == 1 && bits w 29 8 != 0) || (v == 2 && bits w 27 8 != 0)

/-- A word of PORT takes effect on the view it names (R362); SLEEP acts at the end of its transaction. -/
def Port.setPort (x : Port) (w : Word) : Port :=
  let y := { x with pview := BitVec.ofNat 2 (bits w 31 30) }
  if y.pview = 0 then
    let y := if bitAt w 5 then { y with ref := {} } else y
    let y := { y with pecNext := bitAt w 4 }
    if bitAt w 3 then y.sleep else y
  else if y.pview = 1 then { y with ucause := y.ucause &&& ~~~(BitVec.ofNat 8 (bits w 7 0)) }
  else { y with uen := BitVec.ofNat 8 (bits w 7 0) }

/-- A port-local write at an address the port answers: its right is READ (R314). -/
def Hub.localWrite (h : Hub) (q : PortId) (addr : BitVec 7) (reg : BitVec 5) (range : Bool) (f : Fin 8 → Port → Port) : Hub :=
  if h.powered then
    match h.offset q addr with
    | none => h
    | some o =>
      if o.val % 4 = 0 then h.refuse q addr reg .noEffect
      else
        match firstReason (h.rightAt q o == .none) false range false false with
        | .none => h.modPort q fun x => f o x
        | r => h.refuse q addr reg r
  else h

/-! ### Meanings -/

/-- TRANSACTION_START (R318, R329). -/
def execTransactionStart (port : PortId) (s : State) : Host.Outcome State Fault Refusal := s.answer (s.hub.start port)

/-- TRANSACTION_VOID: a bad ending, at the address and register it concerned (R323). -/
def execTransactionVoid (port : PortId) (addr : BitVec 7) (reg : BitVec 5) (s : State) : Host.Outcome State Fault Refusal :=
  s.answer (if s.hub.powered then s.hub.voidTx port addr reg else s.hub)

/-- WINDOW_SELECT_WRITE (R321, R366). -/
def execWindowSelectWrite (port : PortId) (addr : BitVec 7) (word : Word) (s : State) : Host.Outcome State Fault Refusal :=
  s.answer (s.hub.localWrite port addr 0x0D (wselRange word) fun o x => { x with wsel := upd x.wsel o fun _ => word })

/-- PORT_SLEEP, a word of view 0 (R330, R362). -/
def execPortSleep (port : PortId) (s : State) : Host.Outcome State Fault Refusal :=
  s.answer (if s.hub.powered then s.hub.modPort port fun x => { x.sleep with pview := 0 } else s.hub)

/-- PORT_WAKE: an address the port does not answer leaves it asleep (R330). -/
def execPortWake (port : PortId) (addr : BitVec 7) (s : State) : Host.Outcome State Fault Refusal :=
  s.answer (if s.hub.powered ∧ (s.hub.offset port addr).isSome = true then s.hub.modPort port Port.wake else s.hub)

/-- REFUSAL_CLEAR: a word of view 0, which later reads return (R362). -/
def execRefusalClear (port : PortId) (s : State) : Host.Outcome State Fault Refusal :=
  s.answer (if s.hub.powered then s.hub.modPort port fun x => { x with ref := {}, pview := 0 } else s.hub)

/-- PEC_ENABLE_WRITE, a word of view 0: in force from the next START (R322). -/
def execPecEnableWrite (port : PortId) (on : Bool) (s : State) : Host.Outcome State Fault Refusal :=
  s.answer (if s.hub.powered then s.hub.modPort port fun x => { x with pecNext := on, pview := 0 } else s.hub)

/-- ATTENTION_CONFIG_WRITE (R332, R356). -/
def execAttentionConfigWrite (port : PortId) (addr : BitVec 7) (word : Word) (s : State) :
    Host.Outcome State Fault Refusal :=
  s.answer (s.hub.localWrite port addr 0x11 (attnRange word) fun o x => x.setAttn o word)

/-- ATTENTION_CAUSE_CLEAR (R357). -/
def execAttentionCauseClear (port : PortId) (addr : BitVec 7) (clear : Word) (s : State) :
    Host.Outcome State Fault Refusal :=
  s.answer (s.hub.localWrite port addr 0x12 (bits clear 30 21 != 0) fun o x => x.clearCause o clear)

/-- UNIT_CAUSE_CLEAR: a word of view 1, which later reads return (R362). -/
def execUnitCauseClear (port : PortId) (clear : Byte) (s : State) : Host.Outcome State Fault Refusal :=
  s.answer (if s.hub.powered then s.hub.modPort port fun x => { x with ucause := x.ucause &&& ~~~clear, pview := 1 } else s.hub)

/-- ATTENTION_ATTEMPT (R333 to R336). -/
def execAttentionAttempt (port : PortId) (out : AttnEnd) (s : State) : Host.Outcome State Fault Refusal :=
  s.answer (s.hub.attempt port out)

/-- ATTENTION_RETRY of a message that has been tried (R335). -/
def execAttentionRetry (port : PortId) (out : AttnEnd) (s : State) : Host.Outcome State Fault Refusal :=
  s.answer (if (s.hub.port port).tried then s.hub.attempt port out else s.hub)

/-- ATTENTION_HOLD_TIMEOUT: the attempt is abandoned, and counts like a byte not acknowledged (R335). -/
def execAttentionHoldTimeout (port : PortId) (s : State) : Host.Outcome State Fault Refusal :=
  s.answer (s.hub.attempt port .nacked)

/-- The hub drives a stuck line itself: it releases its drive, an attempt of its attention engine counts as not acknowledged, and a
transaction it serves as a target is voided (R337). -/
def Hub.releaseDrive (h : Hub) (q : PortId) : Hub := if (h.port q).latch.isSome then h.voidTarget q else h.attempt q .nacked

/-- LINE_STUCK_DETECT; `stuck.driven` says that the hub itself drives the line low (R337). -/
def execLineStuckDetect (port : PortId) (stuck : StuckLine) (s : State) : Host.Outcome State Fault Refusal :=
  s.answer (if s.hub.powered then
      let h := s.hub.setStuck port stuck.line true
      if stuck.driven then h.releaseDrive port else h
    else s.hub)

/-- LINE_STUCK_CLEAR (R337). -/
def execLineStuckClear (port : PortId) (line : BusLine) (s : State) : Host.Outcome State Fault Refusal :=
  s.answer (if s.hub.powered then s.hub.setStuck port line false else s.hub)

/-- BUS_RECOVER of another port (R338, R339). -/
def execBusRecover (port target : PortId) (lines : BusLines) (s : State) : Host.Outcome State Fault Refusal :=
  s.answer (s.hub.unitWrite port 0x16 (s.hub.busReason port (port == target)) fun h => h.recover target lines)

/-- PORT_TEST (R338). -/
def execPortTest (port target : PortId) (lines : BusLines) (s : State) : Host.Outcome State Fault Refusal :=
  s.answer (s.hub.unitWrite port 0x16 (s.hub.busReason port false) fun h => h.testPort target lines)

end Sys2Proof.Machine
end

