-- ==== Sys2Proof/Machine/Slots.lean ====
section
/-! DEFINITION. Downstream traffic slots and their accounting, messages received upstream, and trigger-input crossings
(R149 to R161, R173, R181 to R203, R207, R231 to R240, R252, R254). -/

namespace Sys2Proof.Machine

/-! ### Corrections -/

/-- Sample periods and FINE bins added to a tag of a type as it leaves on a link (R252, R254): the preset's delay for
EPOCH, ACCEPT and VETO; the epoch phase delay for EPOCH of generators 2 and 3. -/
def Plane.corrections (x : Plane) (l : Fin 32) (type head : Byte) : Nat × Nat :=
  let preset : Nat :=
    match x.groupOf l with
    | none => 0
    | some g =>
      match x.sect.groups[g.val].preset with
      | none => 0
      | some q => q.delay
  let epd : Word := if head = 0x40 then x.link[l.val].epd2 else if head = 0x60 then x.link[l.val].epd3 else 0
  if type = codeEpoch then (preset + bits epd 31 20, bits epd 19 11)
  else if type = codeAccept ∨ type = codeVeto then (preset, 0)
  else (0, 0)

/-- NS of a link, from its groups (R251). -/
def Plane.linkNs (x : Plane) (l : Fin 32) : Nat :=
  match x.groupOf l with
  | none => 1
  | some g => x.sect.groups[g.val].ns

/-- The instant a message carries on a link (R252). -/
def Plane.carried (x : Plane) (l : Fin 32) (type head : Byte) (tau : Nat) : Nat :=
  let c := x.corrections l type head
  correctTau tau c.1 c.2 (x.linkNs l) x.sect.fB

/-! ### What a slot can carry -/

/-- The link carries downstream traffic: UP and not isolated (R187, R198). DESIGN CHOICE (log entry 116): the table of R174 gives
MISTIMED, SWAP and LOOP downstream traffic, which R187, R191 and R198 bar from a link that is not UP; the latter are followed. -/
def Link.sends (k : Link) : Bool := k.state == .up && !k.isol

/-- The Damper in force on a link at the present cycle (R191, R193). -/
def Plane.damper (x : Plane) (l : Fin 32) : BitVec 16 :=
  let k := x.link[l.val]
  if !k.sends || !x.fab.online then 0xFFFF
  else
    match k.rxPend with
    | some (d, c) => if c ≤ x.time.clk then d else k.rxD
    | none => k.rxD

/-- Take the Damper that has come into force (R193). -/
def Link.takeDamper (k : Link) (clk : Nat) : Link :=
  match k.rxPend with
  | some (d, c) => if c ≤ clk then { k with rxD := d, rxPend := none } else k
  | none => k

/-- An issuer's message may leave in traffic slot s beginning now (R231, R232). -/
def Plane.issuerReady (x : Plane) (s : Nat) (i : Fin 32) : Bool :=
  match x.fab.issuers[i.val] with
  | none => false
  | some m => x.fab.online && bitAt x.sect.fabric.issuers[i.val].slots s && decide (m.elig ≤ x.time.now)

/-- An issuer targets a link (R231). -/
def Plane.issuerTargets (x : Plane) (i : Fin 32) (l : Fin 32) : Bool :=
  match x.sect.fabric.issuers[i.val].target with
  | .link t => t == l
  | .group g => bitAt x.sect.groups[g.val].links l.val

/-- The payload an issuer's message has on a link with sequence number q (R161, R232, R240, R252). -/
def Plane.issuerPayload (x : Plane) (l : Fin 32) (i : Fin 32) (m : IssMsg) (q : Byte) : BitVec 64 :=
  let d := x.sect.fabric.issuers[i.val]
  let num := fld d.num.toNat 8 56
  if d.veto then
    let t := x.carried l codeVeto 0 m.tau / 512 * 512
    mkPayload (num :: tagFields t ++ [fld m.len 16 8, q.toNat])
  else
    let t := x.carried l codeAccept 0 m.tau
    mkPayload (num :: tagFields t ++ [fld (b2n (m.suspect || x.inHusk)) 1 14, q.toNat])

/-- A test ACCEPT as it leaves on a link: corrected tag, SUSPECT in Husk, the link's sequence number (R161, R186,
R252). -/
def Plane.testPayload (x : Plane) (l : Fin 32) (w : BitVec 64) (q : Byte) : BitVec 64 :=
  let flags := fld (b2n (bitAt w 14 || x.inHusk)) 1 14 + fld 1 1 13 + fld (bits w 12 8) 5 8 + q.toNat
  match msgCycle x.time.now w with
  | none => mkPayload [fld (bits w 63 56) 8 56, fld (bits w 55 15) 41 15, flags]
  | some n =>
    let t := x.carried l codeAccept 0 (512 * n + msgFine w)
    mkPayload (fld (bits w 63 56) 8 56 :: tagFields t ++ [flags])

/-- The first entry of a group queue a link has not passed (R183). -/
def GQueue.headFor (q : GQueue) (l : Fin 32) : Option GEntry := q.q.find? fun e => !(bitAt e.passed l.val)

/-- Mark the first entry a link has not passed. -/
def markFirst (l : Fin 32) : List GEntry → List GEntry
  | [] => []
  | e :: rest => if bitAt e.passed l.val then e :: markFirst l rest else { e with passed := e.passed ||| (1#32 <<< l.val) } :: rest

/-- A link is a member of a declared group (R165, R183). -/
def Plane.memberOf (x : Plane) (g : Fin 32) (l : Fin 32) : Bool :=
  x.sect.groups[g.val].declared && bitAt x.sect.groups[g.val].links l.val

/-- The group entry a link would send: the earliest enqueued at its read positions, the lowest queue first (R188). -/
def Plane.groupHead (x : Plane) (l : Fin 32) : Option (Fin 32 × GEntry) :=
  (List.finRange 32).foldl (fun (best : Option (Fin 32 × GEntry)) g =>
    if x.memberOf g l then
      match x.gq[g.val].headFor l, best with
      | none, b => b
      | some e, none => some (g, e)
      | some e, some b => if e.at_ < b.2.at_ then some (g, e) else some b
    else best) none

/-- A link passes the entry at its read position of a group queue. -/
def Plane.passEntry (x : Plane) (g : Fin 32) (l : Fin 32) : Plane :=
  { x with gq := upd x.gq g fun q => { q with q := markFirst l q.q }.release x.sect.groups[g.val].links }

/-- Every group queue skips a link that is not UP or is isolated, and each skip is counted (R198). -/
def Plane.skipLink (x : Plane) (l : Fin 32) : Plane :=
  (List.finRange 32).foldl (fun (z : Plane) g =>
    if z.memberOf g l then
      let n := (z.gq[g.val].q.filter fun e => !(bitAt e.passed l.val)).length
      let y := { z with gq := upd z.gq g fun q =>
        { q with q := q.q.map fun (e : GEntry) => { e with passed := e.passed ||| (1#32 <<< l.val) } }.release z.sect.groups[g.val].links }
      y.countN 23 n
    else z) x

/-- A control entry is held by a Damper (R190). -/
def heldCmd (d : BitVec 16) : Bool := bitAt d 15 || bitAt d 0

/-- A BULK entry is held by a Damper (R190). -/
def heldBulk (d : BitVec 16) (payload : BitVec 64) : Bool :=
  let n := (msgNum payload).toNat
  bitAt d 15 || bitAt d 1 || (decide (n < 8) && bitAt d (2 + n))

/-- A queued entry of the link is pending and held by the Damper (R202). -/
def Link.starvedBack (k : Link) (d : BitVec 16) : Bool :=
  (match k.dqCmd.q with
   | [] => false
   | _ :: _ => heldCmd d) ||
  (match k.dqBulk.q with
   | [] => false
   | e :: _ => heldBulk d e.payload)

/-! ### Sending -/

/-- A slot is sent and counted retired, or wasted (R202). -/
def Link.put (k : Link) (wasted : Bool) (type : Byte) (payload : BitVec 64) : Link :=
  { k.count (if wasted then 1 else 0) with tx := mkSlot type payload }

/-- IDLE is sent and counted starved-back or starved-front (R202). -/
def Link.putIdle (k : Link) (d : BitVec 16) : Link :=
  { k.count (if k.starvedBack d then 3 else 2) with tx := mkSlot 0x00 0 }

/-- A direct-lane message is sent, in the link's sequence of ACCEPT and VETO (R161, R492, R408). -/
def Link.putDirect (k : Link) (type : Byte) (payload : BitVec 64) : Link :=
  { (k.put false type payload).count 4 with seq := k.seq + 1 }

/-- The payload of a group entry on a link, and the instant it names; a TRAIN-HOLD names none (R161, R252). -/
def Plane.groupPayload (x : Plane) (l : Fin 32) (e : GEntry) : BitVec 64 × Option Nat :=
  if e.type = codeTrainHold then (e.payload, none)
  else
    let t := x.carried l e.type e.head e.tau
    (mkPayload (fld e.head.toNat 8 56 :: tagFields t ++ [e.low.toNat]), some t)

/-- A group entry is sent: the endpoint will discard it as stale, or as a duplicate within 64 frames (R196, R197,
R202). -/
def Plane.sendGroup (x : Plane) (l : Fin 32) (g : Fin 32) (e : GEntry) : Plane :=
  let k := x.link[l.val]
  let q := x.groupPayload l e
  let now := x.time.frames
  let recent := k.recent.filter fun r => decide (now ≤ r.1 + 64)
  let wasted :=
    match q.2 with
    | none => false
    | some t => staleAt (x.time.now + 5) k.d.toNat t || recent.any fun r => r.2 == q.1
  let y := x.passEntry g l
  y.modLink l fun k => { k.put wasted e.type q.1 with recent := if q.2.isSome then (now, q.1) :: recent else recent }

/-- The next instant, from the present one on, of a lattice of whole seconds. -/
def Plane.nextInstant (x : Plane) (instant : Int) : Int :=
  let n : Int := x.time.now
  if n ≤ instant then instant else instant + (n - instant + 499999999) / 500000000 * 500000000

/-- The instants at which the plane's grid is to move: that of a waiting registration; while a REALIGN may execute, the next one
of its lattice; and the one a partner or a join has announced (R104, R107, R273, R275). -/
def Plane.cutInstants (x : Plane) : List Int :=
  (match x.grid.cap with
   | none => []
   | some l => if x.mayRegister || x.mayRealign then [x.nextInstant l.instant] else []) ++ x.grid.toMove.toList

/-- A grid movement cuts the slot that begins now (R203). -/
def Plane.slotCut (x : Plane) : Bool :=
  let n : Int := x.time.now
  x.cutInstants.any fun (c : Int) => decide (n < c ∧ c < n + 5)

/-- Queued traffic of a link in a slot: group queues, then DQ-CMD, then DQ-BULK, then IDLE (R188). -/
def Plane.fillQueued (x : Plane) (l : Fin 32) : Plane :=
  let k := x.link[l.val]
  let d := x.damper l
  match x.groupHead l with
  | some (g, e) => x.sendGroup l g e
  | none =>
    match k.dqCmd.q, k.dqBulk.q with
    | c :: _, b =>
      if heldCmd d then
        match b with
        | e :: _ =>
          if heldBulk d e.payload then x.modLink l fun k => k.putIdle d
          else x.modLink l fun k => { k.put false codeBulk e.payload with dqBulk := k.dqBulk.pop }
        | [] => x.modLink l fun k => k.putIdle d
      else x.modLink l fun k => { k.put false codeCmd c.payload with dqCmd := k.dqCmd.pop }
    | [], e :: _ =>
      if heldBulk d e.payload then x.modLink l fun k => k.putIdle d
      else x.modLink l fun k => { k.put false codeBulk e.payload with dqBulk := k.dqBulk.pop }
    | [], [] => x.modLink l fun k => k.putIdle d

/-- Fill a traffic slot of one link (R187, R188). `ready` are the issuers whose message leaves in this slot. A test ACCEPT whose tag
names no instant is never sent (R7, R160); that it is discarded in its turn and counted is a DESIGN CHOICE (log entry 46). -/
def Plane.fillSlot (x : Plane) (ready : List (Fin 32)) (l : Fin 32) : Plane :=
  let k := x.link[l.val]
  let issuer := ready.find? fun i => x.issuerTargets i l
  if !k.sends then
    let lost := (if issuer.isSome then 1 else 0) + k.tests.length
    let y := if x.fab.online then x.skipLink l else x
    (y.modLink l fun k => { k.putIdle 0xFFFF with tests := [] }).countN 23 lost
  else if x.slotCut || !x.fab.online then x.modLink l fun k => k.putIdle (x.damper l)
  else
    match issuer with
    | some i =>
      match x.fab.issuers[i.val] with
      | some m =>
        let type := if x.sect.fabric.issuers[i.val].veto then codeVeto else codeAccept
        x.modLink l fun k => k.putDirect type (x.issuerPayload l i m k.seq)
      | none => x.fillQueued l
    | none =>
      match k.tests with
      | w :: rest =>
        if (msgCycle x.time.now w).isSome then
          x.modLink l fun k => { k.putDirect codeAccept (x.testPayload l w k.seq) with tests := rest }
        else ((x.modLink l fun k => { k with tests := rest }).count 23).fillQueued l
      | [] => x.fillQueued l

/-- A traffic slot of every link begins (R188, R232). -/
def Plane.slotStart (x : Plane) (s : Nat) : Plane :=
  let ready := if x.slotCut then [] else (List.finRange 32).filter (x.issuerReady s)
  let y := { x with link := x.link.map fun (k : Link) => k.takeDamper x.time.clk }
  let y := (List.finRange 32).foldl (fun (z : Plane) l => z.fillSlot ready l) y
  { y with fab := { y.fab with issuers := Vector.ofFn fun i => if ready.contains i then none else y.fab.issuers[i.val] } }

/-! ### Trigger inputs -/

/-- A rising crossing of a trigger input (R206 to R208, R210): dead for 4 cycles, lost while the fabric is offline. -/
def Plane.crossing (x : Plane) (i : Fin 16) (fine : BitVec 9) : Plane :=
  let t := x.ti[i.val]
  if !x.sect.ti[i.val].enabled || t.dis then x
  else
    let dead : Bool :=
      match t.last with
      | some c => decide (x.time.clk < c + 4)
      | none => false
    bif dead then x.count 25
    else
      let n := x.time.now
      let y := { x with ti := upd x.ti i fun t => { t with last := some x.time.clk } }
      if y.fab.online then
        { y with fab := { y.fab with
          held := y.fab.held ++ [{ src := .ti i, ref := n, tau := 512 * n + fine.toNat, rel := n + 2, len := 0 }] } }
      else y.count 28

/-! ### Meanings -/

/-- TRAFFIC_SLOT_START of traffic slot 1 to 7, at cycle 5, 10, … 35 (R36, R188). -/
def execTrafficSlotStart (p : PlaneId) (slot : Fin 7) (s : State) : Host.Outcome State Fault Refusal :=
  s.answer (s.hub.eventAt p (Fin.ofNat 40 (5 * (slot.val + 1))) fun x => x.slotStart (slot.val + 1))

/-- UPSTREAM_TIME_SLOT, received whole in a cycle (R154). -/
def execUpstreamTimeSlot (p : PlaneId) (l : Fin 32) (cyc : Fin 40) (rx : Slot0Rx) (s : State) :
    Host.Outcome State Fault Refusal :=
  s.answer (s.hub.eventAt p cyc fun x => x.upSlot0 l (s.hub.linkBase p) rx)

/-- PRIMITIVE_RECEIVED (R173, R210). -/
def execPrimitiveReceived (p : PlaneId) (l : Fin 32) (cyc : Fin 40) (payload : BitVec 64) (s : State) :
    Host.Outcome State Fault Refusal :=
  s.answer (s.hub.eventAt p cyc fun x => x.receive l fun y => y.timedUp l payload false)

/-- UPSTREAM_VETO_RECEIVED (R173, R211). -/
def execUpstreamVetoReceived (p : PlaneId) (l : Fin 32) (cyc : Fin 40) (payload : BitVec 64) (s : State) :
    Host.Outcome State Fault Refusal :=
  s.answer (s.hub.eventAt p cyc fun x => x.receive l fun y => y.timedUp l payload true)

/-- STATUS_RECEIVED (R181). -/
def execStatusReceived (p : PlaneId) (l : Fin 32) (cyc : Fin 40) (payload : BitVec 64) (s : State) :
    Host.Outcome State Fault Refusal :=
  s.answer (s.hub.eventAt p cyc fun x => x.receive l fun y => y.pushStat l ⟨codeStatus, payload⟩)

/-- CMD_ACK_RECEIVED (R181). -/
def execCmdAckReceived (p : PlaneId) (l : Fin 32) (cyc : Fin 40) (payload : BitVec 64) (s : State) :
    Host.Outcome State Fault Refusal :=
  s.answer (s.hub.eventAt p cyc fun x => x.receive l fun y => y.pushStat l ⟨codeCmdAck, payload⟩)

/-- UPSTREAM_BULK_RECEIVED (R181, R199). -/
def execUpstreamBulkReceived (p : PlaneId) (l : Fin 32) (cyc : Fin 40) (payload : BitVec 64) (s : State) :
    Host.Outcome State Fault Refusal :=
  s.answer (s.hub.eventAt p cyc fun x => x.receive l fun y => y.pushBulk l payload)

/-- TRAIN_HOLD_COMPLETE_RECEIVED (R263). -/
def execTrainHoldCompleteReceived (p : PlaneId) (l : Fin 32) (cyc : Fin 40) (payload : BitVec 64) (s : State) :
    Host.Outcome State Fault Refusal :=
  s.answer (s.hub.eventAt p cyc fun x => x.receive l fun y => y.trainUp l payload)

/-- The message is one the hub must discard as a protocol error: a type not permitted upstream, or a PRIMITIVE, VETO or
TRAIN-HOLD whose tag names no instant (R159, R160). -/
def protocolError (now : Nat) (type : Byte) (payload : BitVec 64) : Bool :=
  !(upstreamType type) ||
  ((type == codePrimitive || type == codeVeto || type == codeTrainHold) && (msgCycle now payload).isNone)

/-- RESERVED_MESSAGE_RECEIVED (R159, R160). -/
def execReservedMessageReceived (p : PlaneId) (l : Fin 32) (cyc : Fin 40) (type : Byte) (payload : BitVec 64)
    (s : State) : Host.Outcome State Fault Refusal :=
  s.answer (s.hub.eventAt p cyc fun x => x.receive l fun y =>
    if protocolError y.time.now type payload then y.anomaly else y)

/-- TI_RISING_CROSSING (R207). -/
def execTiRisingCrossing (p : PlaneId) (ti : Fin 16) (cyc : Fin 40) (fine : BitVec 9) (s : State) :
    Host.Outcome State Fault Refusal :=
  s.answer (s.hub.eventAt p cyc fun x => x.crossing ti fine)

end Sys2Proof.Machine
end

