-- ==== Sys2Proof/Machine/Words.lean ====
section
/-! DEFINITION. Judgement and effect of whole register words (R342): the plane registers a host writes (R347 to R358), the unit
registers (R360 to R365), and the global snapshot and attestation they start (R412 to R414, R444, R446). -/

namespace Sys2Proof.Machine

/-! ### PCTL -/

/-- The fields of a PCTL word (R348). -/
structure Pctl where
  mode    : LoopMode
  fref    : Fin 4
  realign : Nat
  stby    : Nat
  huskclr : Bool
  own     : Nat
  hreq    : Nat
  hgrp    : Fin 32
  deriving DecidableEq, Repr

/-- A loop mode by its code (R346). -/
def modeOf (n : Nat) : LoopMode := if n = 0 then .auto else if n = 1 then .forced else if n = 2 then .soft else .hold

/-- The fields of a word. -/
def pctlOf (w : Word) : Pctl :=
  { mode := modeOf (bits w 31 30), fref := Fin.ofNat 4 (bits w 29 28), realign := bits w 26 25, stby := bits w 24 23
    huskclr := bitAt w 22, own := bits w 21 20, hreq := bits w 19 18, hgrp := Fin.ofNat 32 (bits w 17 13) }

/-- A PCTL word is out of range: a reserved bit, a reserved encoding, or an undeclared group (R260, R342, R348). -/
def Plane.pctlRange (x : Plane) (w : Word) : Bool :=
  let f := pctlOf w
  bitAt w 27 || bits w 12 0 != 0 || f.realign == 3 || f.stby == 3 || f.own == 3 || f.hreq == 3 ||
  (f.hreq != 0 && !x.sect.groups[f.hgrp.val].declared)

/-- The word only ends the standby of a stopped plane (R327, R455). -/
def Plane.exitOnly (x : Plane) (f : Pctl) : Bool :=
  (x.power == .stopped || x.power == .leaving) && f.stby == 2 && f.mode == x.sel.mode && f.fref == x.sel.fref &&
  f.realign == 0 && !f.huskclr && f.own == 0 && f.hreq == 0

/-- The state refuses a PCTL word (R275, R327, R348, R398, R452, R461). -/
def Hub.pctlState (h : Hub) (p : PlaneId) (f : Pctl) : Bool :=
  let x := h.plane p
  ((f.mode != x.sel.mode || f.fref != x.sel.fref) && (x.reloading || h.following)) ||
  (f.realign == 1 && x.sect.regSrc == .none) || (f.realign != 0 && h.following) ||
  (f.stby == 1 && h.standbyBarred p) || (f.huskclr && !h.huskMayClear p) || (f.hreq == 1 && x.power != .run) ||
  (!h.active p && !x.exitOnly f)

/-- Why a PCTL word is refused. -/
def Hub.pctlReason (h : Hub) (q : PortId) (p : PlaneId) (w : Word) : Reason :=
  let x := h.plane p
  let f := pctlOf w
  firstReason (!h.controls q p) (h.foreign q p) (x.pctlRange w) (x.inHusk && (f.realign != 0 || f.stby == 1)) (h.pctlState p f)

/-- REALIGN of a PCTL word (R107, R108). -/
def Plane.realignField (x : Plane) (n : Nat) : Plane :=
  if n = 1 then x.requestRealign else if n = 2 then x.cancelRealign else x

/-- A PCTL word takes effect, field by field: MODE with FREF, and plane power before a hold, which a plane that enters standby with the
same word does not take (R74, R264, R460). -/
def Hub.pctlEffect (h : Hub) (q : PortId) (p : PlaneId) (f : Pctl) : Hub :=
  let h := if f.mode = (h.plane p).sel.mode ∧ f.fref = (h.plane p).sel.fref then h
    else h.onPlaneFree p fun v x => x.setModeRef p v f.mode f.fref
  let h := if f.realign = 0 then h else h.onPlane p fun x => x.realignField f.realign
  let h := if f.stby = 1 then h.standbyEnter p else if f.stby = 2 then h.standbyLeave p else h
  let h := if f.huskclr then h.clearHusk p else h
  let h := if f.own = 1 then h.modPlane p fun x => { x with owner := some q } else if f.own = 2 then h.release q p else h
  if f.hreq = 1 then (if (h.plane p).power = .run then h.onPlane p fun x => x.requestHold f.hgrp else h)
  else if f.hreq = 2 then h.onPlane p fun x => x.endHold f.hgrp
  else h

/-! ### TANDEM -/

/-- What the mirror tells of the partner: every REF3 QUALIFIED, and every plane in RUN, out of Husk and under no hold
(R272, R346, R350). -/
def Hub.partnerReady (h : Hub) : PartnerReady :=
  let m := h.chim.mirror
  { ref3Qual := PlaneId.all.all fun p => bits (m.get p).views[3] 31 29 == 4
    planesOk := PlaneId.all.all fun p =>
      let w := (m.get p).regs[1]
      bits w 31 29 != 5 && bits w 26 25 == 0 && !bitAt w 8 }

/-- A TANDEM word takes effect, or is refused at an address (R272, R286, R358). -/
def Hub.tandemWord (h : Hub) (q : PortId) (addr : BitVec 7) (w : Word) : Hub :=
  match bits w 31 30 with
  | 0 => h.judged q addr 0x13 (h.unitReason q false false false) id
  | 1 => h.joinCmd q addr h.partnerReady
  | 2 => h.leaveCmd q addr
  | _ => h.judged q addr 0x13 (h.unitReason q true false false) id

/-! ### Plane words -/

/-- A FINJ word starts or stops an injection, or is refused at an address (R355). -/
def Hub.finjWord (h : Hub) (q : PortId) (addr : BitVec 7) (p : PlaneId) (w : Word) : Hub :=
  let chk := BitVec.ofNat 3 (bits w 31 29)
  let dbl := bitAt w 28
  let tgt := BitVec.ofNat 6 (bits w 27 22)
  h.judged q addr 0x10 (h.injectReason q p chk dbl tgt) fun h => h.injectEffect p chk dbl tgt (BitVec.ofNat 11 (bits w 21 11))

/-- Priorities of a REFCFG word (R349). -/
def refcfgPrio (w : Word) : Vector (BitVec 4) 4 := Vector.ofFn fun i => BitVec.ofNat 4 (bits w (4 * i.val + 3) (4 * i.val))

/-- Clear PHIST bits (R347); one that is set at the same boundary stays (R380). -/
def Plane.clearHistory (x : Plane) (w : BitVec 12) : Plane :=
  { x with phist := x.phist &&& ~~~w ||| (if x.time.cyc = 0 then x.phist &&& x.phistNow else 0) }

/-- A register word of plane p, judged at the commit and applied, its refusal recorded at an address (R320, R342). A
register with no write effect is NOEFFECT (R315). -/
def Hub.planeWord (h : Hub) (q : PortId) (addr : BitVec 7) (p : PlaneId) (r : BitVec 5) (w : Word) : Hub :=
  let x := h.plane p
  match r.toNat with
  | 0x02 => h.judged q addr r (h.planeReason q p (bits w 31 12 != 0) false false)
      fun h => h.modPlane p fun x => x.clearHistory (BitVec.ofNat 12 (bits w 11 0))
  | 0x03 => h.judged q addr r (h.pctlReason q p w) fun h => h.pctlEffect q p (pctlOf w)
  | 0x04 => h.judged q addr r (h.planeReason q p (bits w 31 17 != 0) false x.reloading)
      fun h => h.onPlane p fun x => x.setPrio p (bitAt w 16) (refcfgPrio w)
  | 0x06 => h.judged q addr r (h.planeReason q p (bits w 31 4 != 0) false x.reloading)
      fun h => h.onPlane p fun x => x.setBw (BitVec.ofNat 4 (bits w 3 0))
  | 0x08 => h.judged q addr r (h.planeReason q p false false false) fun h => h.onPlane p fun x => x.setFreq w
  | 0x10 => h.finjWord q addr p w
  | 0x13 => h.tandemWord q addr w
  | _ => h.judged q addr r .noEffect id

/-! ### Attestation -/

/-- No plane's word clock runs. -/
def Hub.noClock (h : Hub) : Bool := !(PlaneId.all.any h.active)

/-- Why AUTH.START is refused (R446). -/
def Hub.signReason (h : Hub) (q : PortId) : Reason :=
  firstReason (!(h.grants q).auth) false false false (h.auth.busy || h.noClock || h.chim.joinPend || h.chim.leavePend)

/-- A START ends with ERR and without a response (R441). -/
def Hub.signEndsErr (h : Hub) : Hub :=
  { h with auth := { h.auth with busy := false, waiting := false, done := false, err := true } }.ucause 3

/-- The element fails the request: source 206 is live, and the START ends with ERR (R441). -/
def Hub.signFails (h : Hub) : Hub := (h.setUDet 14 true).signEndsErr

/-- AUTH.START: the nonce is latched, BUSY set and a snapshot requested (R444). How the self-test after the capture comes out is kept
until then (log entry 18). -/
def Hub.startSigning (h : Hub) (selfTestOk : Bool) : Hub :=
  { h with auth := { h.auth with
      latched := h.auth.nonce, busy := true, done := false, err := false, waiting := true, selfOk := selfTestOk } }.requestSnapshot false

/-- The 100-byte message a response signs (R443). -/
def Hub.attestMessage (h : Hub) : List Byte :=
  let a := h.auth
  (a.latched.toList.flatMap wordBytes) ++ wordBytes h.ident.uid ++ digestBytes a.capDig ++ wordBytes a.capSec ++
  wordBytes a.capLow ++ (a.capPst.toList.flatMap wordBytes)

/-- The signing ends: SIG, RDIG, STAG and SPST are written, BUSY clears and DONE is set (R444). -/
def Hub.writeResponse (h : Hub) : Hub :=
  let a := h.auth
  let sig := h.ident.sign (Config.signNonce h.freeIdx) (sha256 h.attestMessage)
  { h with
    freeIdx := h.freeIdx + 1
    auth := { a with busy := false, done := true, err := false, sig := sig, rdig := a.capDig, sec := a.capSec, low := a.capLow
                     spst := a.capPst } }.ucause 3

/-- After the capture the element self-tests and signs: with a failed self-test, or while source 206 is live, the START ends with ERR
(R441, R444). -/
def Hub.endSigning (h : Hub) : Hub :=
  if !h.auth.selfOk then h.signFails else if h.usrc[14].live then h.signEndsErr else h.writeResponse

/-! ### Unit words -/

/-- A reading of a port's lines by a recovery whose command does not say what it finds: any of the four, freely. -/
def linesOf (v : Int) : BusLines :=
  if v % 4 = 0 then .bothHigh else if v % 4 = 1 then .sclHeld else if v % 4 = 2 then .freed 9 else .stuck

/-- UCTL is out of range; RECOVER may not name its own port (R338, R360). -/
def uctlRange (q : PortId) (w : Word) : Bool :=
  bits w 25 0 != 0 || bits w 31 30 == 3 || bits w 27 26 == 3 || (bitAt w 29 && bits w 27 26 == q.val)

/-- Why a UCTL word is refused: RECOVER and PTEST alone need CONTROL for any one plane (R314, R458). -/
def Hub.uctlReason (h : Hub) (q : PortId) (w : Word) : Reason :=
  let bus := bits w 31 30 == 0 && (bitAt w 29 || bitAt w 28)
  if bus then h.busReason q (uctlRange q w)
  else
    let enter := bits w 31 30 == 1
    h.unitReason q (uctlRange q w) (enter && h.anyHusk)
      (enter && (h.ustby || h.cfg.load.isSome || PlaneId.all.any fun p => (h.plane p).loadPending))

/-- A UCTL word takes effect (R338, R360, R458, R459). -/
def Hub.uctlEffect (h : Hub) (w : Word) : Hub :=
  let t : PortId := Fin.ofNat 3 (bits w 27 26)
  let h := if bits w 31 30 = 1 then h.unitEnter else if bits w 31 30 = 2 ∧ h.ustby = true then h.unitLeave else h
  let h := if bitAt w 29 then h.fresh.2.recover t (linesOf h.fresh.1) else h
  if bitAt w 28 then h.fresh.2.testPort t (linesOf h.fresh.1) else h

/-- A SNAP word (R361). -/
def Hub.snapWord (h : Hub) (q : PortId) (addr : BitVec 7) (w : Word) : Hub :=
  h.judged q addr 0x17 (firstReason (!(h.grants q).counters) false (bits w 7 4 != 0) false false)
    fun h => if bitAt w 3 then h.requestSnapshot (bitAt w 2) else h

/-- The CFGCTL command of a word, none for no action (R365). -/
def cfgOf (w : Word) : Option CfgCmd :=
  let i : Fin 2 := Fin.ofNat 2 (bits w 27 27)
  match bits w 31 28 with
  | 1 => some (.erase i)
  | 2 => some (.openSlot i)
  | 3 => some .close
  | 4 => some (.boot i)
  | 5 => some (.load i)
  | 6 => some (.reload i (BitVec.ofNat 3 (bits w 26 24)))
  | _ => none

/-- Why a CFGCTL word is refused; `before` is the hub as the tick's commands found it, and a command that an earlier one made
invalid is refused with ORDER (R299, R363). -/
def Hub.cfgWordReason (h before : Hub) (q : PortId) (w : Word) : Reason :=
  let range := bits w 23 0 != 0 || decide (6 < bits w 31 28)
  if range then firstReason (!(h.grants q).image) false true false false
  else
    match cfgOf w with
    | none => firstReason (!(h.grants q).image) false false false false
    | some c => if h.cfgReason q c ≠ .none ∧ before.cfgReason q c = .none then .order else h.cfgReason q c

/-- A CFGCTL word. -/
def Hub.cfgWord (h before : Hub) (q : PortId) (addr : BitVec 7) (w : Word) : Hub :=
  h.judged q addr 0x1D (h.cfgWordReason before q w) fun h =>
    match cfgOf w with
    | none => h
    | some c => h.cfgEffect q c

/-- CMD of an NVCTL word (R364, R418 to R426). -/
def Hub.nvWord (h : Hub) (q : PortId) (addr : BitVec 7) (w : Word) : Hub :=
  let page : Fin 128 := Fin.ofNat 128 (bits w 18 12)
  match bits w 30 29 with
  | 1 => h.nvRead q addr page
  | 2 => h.nvWrite q addr page
  | 3 => if bits w 28 27 < 2 then h.nvKey q addr (bitAt w 27) else h.nvPassword q addr (bitAt w 27)
  | _ => h

/-- An AUTH word; whether the element passes its self-test is the element's, freely (R365, R444). -/
def Hub.authWord (h : Hub) (q : PortId) (addr : BitVec 7) (w : Word) : Hub :=
  let start := bitAt w 31
  let why := if start && bits w 27 0 == 0 then h.signReason q
    else firstReason (!(h.grants q).auth) false (bits w 27 0 != 0) false false
  h.judged q addr 0x1E why fun h => if start then h.fresh.2.startSigning (h.fresh.1 % 2 == 0) else h

/-- A word of a unit register that commits at the housekeeping tick; one with no write effect is NOEFFECT (R315, R324). -/
def Hub.unitWord (h before : Hub) (q : PortId) (addr : BitVec 7) (r : BitVec 5) (w : Word) : Hub :=
  match r.toNat with
  | 0x16 => h.judged q addr r (h.uctlReason q w) fun h => h.uctlEffect w
  | 0x17 => h.snapWord q addr w
  | 0x19 => h.nvWord q addr w
  | 0x1D => h.cfgWord before q addr w
  | 0x1E => h.authWord q addr w
  | _ => h.judged q addr r .noEffect id

/-! ### Meanings -/

/-- HISTORY_CLEAR (R347). -/
def execHistoryClear (port : PortId) (p : PlaneId) (clear : BitVec 12) (s : State) : Host.Outcome State Fault Refusal :=
  s.answer (s.hub.hostWrite port p 0x02 false false false fun h => h.modPlane p fun x => x.clearHistory clear)

/-- SNAPSHOT_REQUEST (R361, R412). -/
def execSnapshotRequest (port : PortId) (ovfclr : Bool) (s : State) : Host.Outcome State Fault Refusal :=
  s.answer (s.hub.unitWrite port 0x17 (firstReason (!(s.hub.grants port).counters) false false false false)
    fun h => h.requestSnapshot ovfclr)

/-- SNAPSHOT_CAPTURE, at a frame boundary of the reference plane: while no plane's word clock runs, or the request has not been
seen 4 cycles before, it stays pending (R412 to R414). -/
def execSnapshotCapture (s : State) : Host.Outcome State Fault Refusal :=
  s.answer (match s.hub.snapPlane with
    | none => s.hub
    | some p => if s.hub.powered && s.hub.snapDue p then s.hub.takeSnapshot else s.hub)

/-- AUTH_START with the element's self-test (R441, R444). -/
def execAuthStart (port : PortId) (selfTestOk : Bool) (s : State) : Host.Outcome State Fault Refusal :=
  s.answer (s.hub.unitWrite port 0x1E (s.hub.signReason port) fun h => h.startSigning selfTestOk)

/-- SIGNING_COMPLETE: the element's self-test and signing, after the capture and while BUSY (R441, R444). -/
def execSigningComplete (s : State) : Host.Outcome State Fault Refusal :=
  s.answer (if s.hub.powered ∧ s.hub.auth.busy = true ∧ s.hub.auth.waiting = false then s.hub.endSigning else s.hub)

/-- SECURITY_ELEMENT_TIMEOUT: no answer for 100 ms, at Kindling or in a signing (R441). -/
def execSecurityElementTimeout (s : State) : Host.Outcome State Fault Refusal :=
  s.answer (if !s.hub.powered then s.hub
    else if s.hub.auth.busy then s.hub.signFails
    else { s.hub with auth := { s.hub.auth with err := true } }.setUDet 14 true)

end Sys2Proof.Machine
end

