-- ==== Sys2Proof/Machine/Scan.lean ====
section
/-! DEFINITION. What a transaction on a port carries: the bytes of its segments read as register words, window records and PEC
(R310 to R312, R318 to R323). -/

namespace Sys2Proof.Machine

/-! ### What a transaction asks for -/

/-- One item a transaction carries at an address offset: a register word, a whole window record, a record left incomplete,
and a step of OFFSET by a read of NVDATA (R364). -/
inductive TxOp where
  | word (r : BitVec 5) (w : Word)
  | record (space : BitVec 4) (index : BitVec 20) (ws : List Word)
  | incomplete
  | nvStep
  deriving DecidableEq, Repr

/-- Where a transaction stands in the records of one address: the present index, the next word of the record, whether it is
the first record, and the words written of it (R321, R367). -/
structure Cursor where
  space : BitVec 4 := 0
  index : BitVec 20 := 0
  auto  : Bool := false
  pos   : Nat := 0
  first : Bool := true
  acc   : List Word := []
  block : List Word := []
  deriving DecidableEq, Repr, Inhabited

/-- The reading of a transaction so far: `crc` runs over its bytes on the line, `rx` are the bytes the hub sent, `ops` what
was written, `seen` the records read in whole, `far` those read in whole at follower addresses; `sched` says that its first word written is SCHED, and `bad` the address and
register at which it is void. -/
structure Scan where
  pointer : BitVec 5
  cur     : Vector Cursor 8
  nv      : Nat
  crc     : Byte := 0
  rx      : List Byte := []
  ops     : List (Fin 8 × TxOp) := []
  seen    : List (BitVec 4 × BitVec 20) := []
  far     : List (BitVec 4 × BitVec 20) := []
  wrote   : Bool := false
  sched   : Bool := false
  bad     : Option (BitVec 7 × BitVec 5) := none
  deriving DecidableEq, Repr

/-- The cursor of a WSEL word. -/
def cursorOf (w : Word) : Cursor := { space := wselSpace w, index := wselIndex w, auto := wselAuto w }

/-- A transaction begins at what its START captured. -/
def Latch.scan (l : Latch) (nv : Nat) : Scan := { pointer := l.pointer, cur := l.wsel.map cursorOf, nv := nv }

/-- A byte passes on the line. -/
def Scan.byte (s : Scan) (b : Byte) : Scan := { s with crc := crcByte s.crc b }

/-- The pointer after a word: it stays at WDATA (R319). -/
def Scan.step (s : Scan) : Scan := if s.pointer = 0x0E then s else { s with pointer := s.pointer + 1 }

/-- The cursor after a word of a record: after the last word comes the next record, or the same one again (R321, R367). -/
def Cursor.step (c : Cursor) : Cursor :=
  if c.pos + 1 = recordLen c.space c.index then
    { c with pos := 0, acc := [], first := false, index := if c.auto then c.index + 1 else c.index }
  else { c with pos := c.pos + 1 }

/-! ### Writing -/

/-- A window word written: CFGDATA gathers one block; in the other spaces the last word of a record completes it (R300,
R321). -/
def Scan.windowWord (s : Scan) (off : Fin 8) (w : Word) : Scan :=
  let c := s.cur[off.val]
  if c.space = 10 then { s with cur := upd s.cur off fun c => { c with block := c.block ++ [w] } }
  else
    let acc := c.acc ++ [w]
    let n := recordLen c.space c.index
    let s := if c.pos + 1 = n then
        { s with ops := s.ops ++ [(off, if acc.length = n then .record c.space c.index acc else .incomplete)] }
      else s
    { s with cur := upd s.cur off fun c => Cursor.step { c with acc := acc } }

/-- A word written at an address offset. -/
def Scan.writeWord (s : Scan) (off : Fin 8) (w : Word) : Scan :=
  let r := s.pointer
  let s := { s with sched := if s.wrote then s.sched else r == 0x0C && off.val % 4 != 0, wrote := true }
  let s := if r = 0x0E ∧ off.val % 4 ≠ 0 then s.windowWord off w else { s with ops := s.ops ++ [(off, .word r w)] }
  let s := if r = 0x1B ∧ off.val < 4 then { s with nv := (s.nv + 4) % 32 } else s
  s.step

/-- The words of a write after its register byte; a partial word voids the transaction (R320, R323). -/
def Scan.writeData (s : Scan) (addr : BitVec 7) (off : Fin 8) (data : List Byte) : Scan :=
  let ws := wordsOf data
  let t := ws.1.foldl (fun (t : Scan) w => t.writeWord off w) s
  if ws.2.isEmpty then t else { t with bad := some (addr, t.pointer) }

/-- A write's bytes after the address byte, PEC taken off: a register address above 0x1F is not acknowledged (R319). -/
def Scan.writeBody (s : Scan) (addr : BitVec 7) (off : Fin 8) : List Byte → Scan
  | [] => s
  | r :: data =>
    if 0x1F < r.toNat then { s with bad := some (addr, BitVec.ofNat 5 r.toNat) }
    else { s with pointer := BitVec.ofNat 5 r.toNat }.writeData addr off data

/-- A write segment; the last byte before the STOP is the PEC where it is enabled, and a write without one is void (R320,
R322). -/
def Scan.writeSeg (s : Scan) (pec final : Bool) (addr : BitVec 7) (off : Fin 8) (bytes : List Byte) : Scan :=
  let s := s.byte (BitVec.ofNat 8 (addr.toNat * 2))
  if pec && final then
    let body := bytes.dropLast
    let s := body.foldl Scan.byte s
    if bytes.getLast? = some s.crc then s.writeBody addr off body else { s with bad := some (addr, s.pointer) }
  else (bytes.foldl Scan.byte s).writeBody addr off bytes

/-! ### Reading -/

/-- A register word at an address as the START captured it (R314, R318, R343, R350): window words apart. -/
def Latch.regWord (l : Latch) (off : Fin 8) (r : BitVec 5) : Word :=
  if 0x14 ≤ r.toNat then (if off.val < 4 then l.unit else l.unitF).toList.getD (r.toNat - 20) 0
  else if off.val % 4 = 0 then 0
  else
    let b := if off.val < 4 then l.banks.get (placeOf off) else l.mirror.get (placeOf off)
    match r.toNat with
    | 0x05 => b.views[(wselView l.wsel[off.val]).val]
    | 0x0C => 0
    | 0x0D => l.wsel[off.val]
    | 0x11 => l.attn[off.val]
    | 0x12 => l.acause[off.val]
    | n => b.regs.toList.getD n 0

/-- The unit registers of a follower show SNAP and AUTH only to a port with their rights (R276, R314). -/
def shownTo (g : PortDecl) (off : Fin 8) (r : BitVec 5) (w : Word) : Word :=
  if 4 ≤ off.val ∧ ((r = 0x17 ∧ g.counters = false) ∨ (r = 0x1E ∧ g.auth = false)) then 0 else w

/-- The port holds READ for some plane of the follower. -/
def Hub.readsFar (h : Hub) (q : PortId) : Bool := ([5, 6, 7] : List (Fin 8)).any fun o => h.rightAt q o != .none

/-- The port may read an item of the follower, as the leader's image declares (R276, R314, R367). -/
def Hub.mayReadFar (h : Hub) (q : PortId) (i : Item) : Bool :=
  match i with
  | .counter _ => (h.grants q).counters
  | .auth _ => (h.grants q).auth
  | .block _ => (h.grants q).image
  | i =>
    match i.plane with
    | some p => h.rightAt q (Fin.ofNat 8 ((offOf p).val + 4)) != .none
    | none => h.readsFar q

/-- A record of the follower as the tunnel brought it: the one fetched for this reading of it, 0 in every word beyond the space or
without the right (R277, R314, R367). DESIGN CHOICE (log entry 108): one that was not fetched reads 0. -/
def Hub.farRecord (h : Hub) (q : PortId) (s : Scan) (c : Cursor) : List Word :=
  let key := (c.space, c.index)
  let got := ((h.port q).fetch.filter fun e => e.1 == key).drop (s.far.filter (· == key)).length
  match itemOf c.space c.index with
  | none => []
  | some i => if h.mayReadFar q i then (got.head?.map (·.2)).getD [] else []

/-- The record the cursor of an address stands in: the first one as the START fetched it, or as the tunnel brought it, later
ones as they are fetched (R40, R277). -/
def Hub.cursorRecord (h : Hub) (q : PortId) (l : Latch) (off : Fin 8) (s : Scan) (c : Cursor) : List Word :=
  if 4 ≤ off.val then h.farRecord q s c
  else if c.first then l.recs[off.val]
  else h.readRecord q c.space c.index

/-- A word read at the pointer. -/
def Hub.readWord (h : Hub) (q : PortId) (l : Latch) (off : Fin 8) (s : Scan) : Word :=
  let r := s.pointer
  if r = 0x0E ∧ off.val % 4 ≠ 0 then let c := s.cur[off.val]; (h.cursorRecord q l off s c).getD c.pos 0
  else if r = 0x1B ∧ off.val < 4 then (h.port q).bufWord s.nv
  else shownTo (h.grants q) off r (l.regWord off r)

/-- The state of a reading after a word read: records count as read with their last word, and OFFSET advances at NVDATA. -/
def Scan.readStep (s : Scan) (off : Fin 8) : Scan :=
  let r := s.pointer
  let c := s.cur[off.val]
  let s :=
    if r = 0x0E ∧ off.val % 4 ≠ 0 then
      { s with
        cur := upd s.cur off Cursor.step
        far := if c.pos + 1 = recordLen c.space c.index ∧ 4 ≤ off.val then s.far ++ [(c.space, c.index)] else s.far
        seen := if c.pos + 1 = recordLen c.space c.index ∧ off.val < 4 then s.seen ++ [(c.space, c.index)] else s.seen
        ops := if c.pos + 1 = recordLen c.space c.index ∧ c.acc ≠ [] then s.ops ++ [(off, .incomplete)] else s.ops }
    else if r = 0x1B ∧ off.val < 4 then { s with nv := (s.nv + 4) % 32, ops := s.ops ++ [(off, .nvStep)] }
    else s
  s.step

/-- n words are read, each followed by its PEC where it is enabled, but for the last one where the read ends before it, `cut`
(R322). -/
def Hub.readWords (h : Hub) (q : PortId) (l : Latch) (pec cut : Bool) (off : Fin 8) : Nat → Scan → Scan
  | 0, s => s
  | n + 1, s =>
    let b := wordBytes (h.readWord q l off s)
    let t := b.foldl Scan.byte s
    let t := { t with rx := t.rx ++ b }
    let t := if pec && !(cut && n == 0) then { t.byte t.crc with rx := t.rx ++ [t.crc] } else t
    h.readWords q l pec cut off n (t.readStep off)

/-- A read segment of n bytes ends after a whole word, or its PEC (R323). -/
def Hub.readSeg (h : Hub) (q : PortId) (l : Latch) (pec : Bool) (addr : BitVec 7) (off : Fin 8) (n : Nat) (s : Scan) : Scan :=
  let s := s.byte (BitVec.ofNat 8 (addr.toNat * 2 + 1))
  let whole := if pec then n % 5 == 0 || n % 5 == 4 else n % 4 == 0
  let words := if pec then (n + 1) / 5 else n / 4
  let t := h.readWords q l pec (n % 5 == 4) off words s
  let u := if whole then t else h.readWords q l pec false off 1 t
  let sent := { t with rx := s.rx ++ (u.rx.drop s.rx.length).take n }
  if whole then sent else { sent with bad := some (addr, t.pointer) }

/-! ### The transaction -/

/-- The port acknowledges an address it answers (R312): its right is not NONE, no parameter-store write of its own is in
progress, and a CFGDATA block buffer is free. -/
def Hub.acks (h : Hub) (q : PortId) (off : Fin 8) : Bool :=
  let x := h.port q
  (off.val % 4 == 0 || h.rightAt q off != .none) &&
  !(match h.nv.op with
    | none => false
    | some o => o.port == some q) &&
  decide (x.blocks.length < 2)

/-- A byte on the line of a part addressed to another device, or to none, counts in the PEC (R322). -/
def Scan.pass (s : Scan) (bytes : List Byte) : Scan := bytes.foldl Scan.byte s

/-- One segment: an address the port does not answer passes by (R311), with SDA high where nothing answers a read; one it
leaves unacknowledged voids the transaction (R323). -/
def Hub.scanSeg (h : Hub) (q : PortId) (l : Latch) (final : Bool) (s : Scan) (seg : TxSeg) : Scan :=
  if s.bad.isSome then s
  else
    match seg with
    | .foreign bytes => s.pass bytes
    | .write addr bytes =>
      match h.offset q addr with
      | none => s.pass (BitVec.ofNat 8 (addr.toNat * 2) :: bytes)
      | some off =>
        if h.acks q off then s.writeSeg (h.port q).pec final addr off bytes else { s with bad := some (addr, s.pointer) }
    | .read addr n =>
      match h.offset q addr with
      | none => s.pass (BitVec.ofNat 8 (addr.toNat * 2 + 1) :: List.replicate n 0xFF)
      | some off =>
        if h.acks q off then h.readSeg q l (h.port q).pec addr off n s else { s with bad := some (addr, s.pointer) }

/-- The segments in order; the last one ends in the STOP. -/
def Hub.scanSegs (h : Hub) (q : PortId) (l : Latch) : List TxSeg → Scan → Scan
  | [], s => s
  | [seg], s => h.scanSeg q l true s seg
  | seg :: rest, s => h.scanSegs q l rest (h.scanSeg q l false s seg)

/-- What an address's cursor leaves at the end: a block of CFGDATA, or an incomplete record (R300, R321). -/
def Cursor.rest (c : Cursor) : List TxOp :=
  (if c.block.isEmpty then [] else [.record 10 c.index c.block]) ++ (if c.acc.isEmpty then [] else [.incomplete])

/-- All that a transaction wrote, in order. -/
def Scan.all (s : Scan) : List (Fin 8 × TxOp) :=
  s.ops ++ (List.finRange 8).flatMap fun o => s.cur[o.val].rest.map fun t => (o, t)

/-- The port is addressed by a segment. -/
def Hub.addressed (h : Hub) (q : PortId) (segs : List TxSeg) : Bool :=
  segs.any fun g => match g with
    | .foreign _ => false
    | .write a _ => (h.offset q a).isSome
    | .read a _ => (h.offset q a).isSome

end Sys2Proof.Machine
end

