-- ==== Sys2Proof/Machine/Transactions.lean ====
section
/-! DEFINITION. What becomes of a transaction's writes (R320 to R327): port-local fields at the STOP, plane words at the frame
boundary, unit words at the housekeeping tick, scheduled words at their tag, follower words in the tunnel. -/

namespace Sys2Proof.Machine

/-! ### Committing -/

/-- Judge under the declarations in force at a transaction's START (R305). -/
def Hub.under (h : Hub) (q : PortId) (cfg : PortDecl) (f : Hub → Hub) : Hub :=
  let own := (h.port q).cfg
  (f (h.modPort q fun x => { x with cfg := cfg })).modPort q fun x => { x with cfg := own }

/-- A held write commits; `before` is the hub as its housekeeping tick found it (R299, R324). -/
def Hub.commit (h before : Hub) (w : HeldWrite) : Hub :=
  match w.kind with
  | .reg r v =>
    if r.toNat < 0x14 then h.planeWord w.port (h.addrOf w.port w.off) w.plane r v
    else h.unitWord before w.port (h.addrOf w.port w.off) r v
  | .record space index ws => h.writeRecord w.port w.off space index ws
  | .standby b => if b then h.standbyWithUnit w.plane else h.leaveWithUnit w.plane
  | .force n b => h.takeForce w.plane n b

/-- A write waits for its commit, or commits at once for a command that is the commit itself. Its plane sees its STOP where the
transaction's end says; a unit's word waits for the second housekeeping tick after it. At a plane whose word clock stands, the
write commits at the housekeeping tick (R324, R327, R455). -/
def Hub.place (h : Hub) (now unit : Bool) (w : HeldWrite) : Hub :=
  if now then h.commit h w
  else if unit then { h with ucommits := insertWrite { w with seen := h.ticks + 1 } h.ucommits }
  else if !h.active w.plane then { h with ucommits := insertWrite { w with seen := h.ticks } h.ucommits }
  else h.modPlane w.plane fun x =>
    { x with commits := insertWrite { w with seen := (h.port w.port).stop.get w.plane } x.commits }

/-- A held write of a port at an address offset. -/
def heldWrite (q : PortId) (p : PlaneId) (off : Fin 8) (cfg : PortDecl) (k : WriteKind) : HeldWrite :=
  { port := q, plane := p, off := off, cfg := cfg, kind := k }

/-! ### Registers -/

/-- No write of the register has an effect (R314). -/
def regReadOnly (r : BitVec 5) : Bool :=
  ([0x00, 0x01, 0x05, 0x07, 0x09, 0x0A, 0x0B, 0x0F, 0x14, 0x15, 0x1C, 0x1F] : List (BitVec 5)).contains r

/-- WSEL, ATTN and ACAUSE are port-local at every plane address (R314). -/
def planeLocal (r : BitVec 5) : Bool := r == 0x0D || r == 0x11 || r == 0x12

/-- A plane's port-local word takes effect at the STOP (R324). -/
def Hub.localWord (h : Hub) (q : PortId) (off : Fin 8) (r : BitVec 5) (w : Word) : Hub :=
  let addr := h.addrOf q off
  if r = 0x0D then h.localWrite q addr r (wselRange w) fun o x => { x with wsel := upd x.wsel o fun _ => w }
  else if r = 0x11 then h.localWrite q addr r (attnRange w) fun o x => x.setAttn o w
  else h.localWrite q addr r (bits w 30 21 != 0) fun o x => x.clearCause o w

/-- PAGE, OFFSET and KSEL of an NVCTL word (R364). -/
def Port.setNvctl (x : Port) (w : Word) : Port :=
  { x with ksel := BitVec.ofNat 2 (bits w 28 27), page := BitVec.ofNat 7 (bits w 18 12), offset := BitVec.ofNat 5 (bits w 11 7) }

/-- A word of NVCTL: a reserved bit refuses it; PAGE, OFFSET and KSEL take effect at the STOP, CMD at the tick (R364). -/
def Hub.nvctlWord (h : Hub) (now : Bool) (hw : HeldWrite) (w : Word) : Hub :=
  if bits w 6 0 ≠ 0 then h.judged hw.port (h.addrOf hw.port hw.off) 0x19 .range id
  else
    let h := h.modPort hw.port fun x => x.setNvctl w
    if bits w 30 29 = 0 then h else h.place now true hw

/-- A word of a unit register of this unit: PORT, NVKEY and NVDATA are port-local (R324, R343). -/
def Hub.unitRegWord (h : Hub) (now : Bool) (hw : HeldWrite) (r : BitVec 5) (w : Word) : Hub :=
  let q := hw.port
  if r = 0x18 then h.judged q (h.addrOf q hw.off) r (firstReason false false (portRange w) false false)
      fun h => h.modPort q fun x => x.setPort w
  else if r = 0x19 then h.nvctlWord now hw w
  else if r = 0x1A then h.modPort q fun x => x.shiftKey w
  else if r = 0x1B then h.modPort q fun x => x.writeBuf w
  else h.place now true hw

/-- Why a word of SCHED out of its place is refused (R314, R325). -/
def Hub.strayReason (h : Hub) (q : PortId) (off : Fin 8) : Reason := if h.rightAt q off = .control then .sched else .right

/-- A register word at an address of this unit. -/
def Hub.ownWord (h : Hub) (now : Bool) (hw : HeldWrite) (r : BitVec 5) (w : Word) : Hub :=
  let q := hw.port
  let addr := h.addrOf q hw.off
  if regReadOnly r || (hw.off.val % 4 == 0 && decide (r.toNat < 0x14)) then h.judged q addr r .noEffect id
  else if 0x14 ≤ r.toNat then h.unitRegWord now hw r w
  else if planeLocal r then h.localWord q hw.off r w
  else if r = 0x0C then h.judged q addr r (h.strayReason q hw.off) id
  else h.place now false hw

/-! ### Records -/

/-- The index of an address advances after a CFGDATA block that was taken, with auto-increment on, unless the transaction has
written WSEL (R300). -/
def Port.nextBlock (x : Port) (off : Fin 8) (index : BitVec 20) : Port :=
  let w := x.wsel[off.val]
  if wselAuto w && wselSpace w == 10 && wselIndex w == index then { x with wsel := upd x.wsel off fun _ => wselWith w (wselIndex w + 1) } else x

/-- A whole record at an address of this unit: CFGDATA is judged at once (R300), an index beyond its space and a space with
no write likewise; plane items and unit items commit in their own domains (R367). -/
def Hub.ownRecord (h : Hub) (now : Bool) (hw : HeldWrite) (space : BitVec 4) (index : BitVec 20) (ws : List Word) : Hub :=
  let q := hw.port
  match itemOf space index with
  | none => h.judged q (h.addrOf q hw.off) 0x0E .range id
  | some i =>
    match i with
    | .block _ =>
      let ok := h.recordReason q space index ws == .none
      let h := h.writeRecord q hw.off space index ws
      if ok then h.modPort q fun x => x.nextBlock hw.off index else h
    | i =>
      if i.readOnly then h.judged q (h.addrOf q hw.off) 0x0E .noEffect id
      else
        match i.plane with
        | some p => h.place now false { hw with plane := p }
        | none => h.place now true hw

/-! ### Follower addresses -/

/-- A word of NVCTL lacks a right: programming needs NV-WRITE, and AUTH for pages 116 to 119 (R293, R314). -/
def nvctlLacks (g : PortDecl) (w : Word) : Bool :=
  let page := bits w 18 12
  (bits w 30 29 == 2 && (!g.nvWrite || (decide (116 ≤ page ∧ page < 120) && !g.auth))) ||
  (bits w 30 29 == 3 && decide (2 ≤ bits w 28 27) && !g.nvWrite)

/-- The right a word written at a follower address needs, as the leader's image declares it (R276, R314). RECOVER and port test
need CONTROL of any one plane, USTBY of all. -/
def Hub.followerLacks (h : Hub) (q : PortId) (off : Fin 8) (r : BitVec 5) (w : Word) : Bool :=
  let g := h.grants q
  let all := ([5, 6, 7] : List (Fin 8)).all fun o => h.rightAt q o == .control
  let any' := ([5, 6, 7] : List (Fin 8)).any fun o => h.rightAt q o == .control
  if r.toNat < 0x13 then h.rightAt q off != .control
  else if r = 0x13 then !all
  else if r = 0x16 then (if bits w 31 30 = 0 ∧ (bitAt w 29 || bitAt w 28) = true then !any' else !all)
  else if r = 0x17 then !g.counters
  else if r = 0x19 then nvctlLacks g w
  else if r = 0x1D then !g.image
  else if r = 0x1E then !g.auth
  else false

/-- The right a record at a follower address needs, in the follower's numbering (R276, R367). -/
def Hub.followerRecordLacks (h : Hub) (q : PortId) (space : BitVec 4) (index : BitVec 20) : Bool :=
  match itemOf space index with
  | none => false
  | some (.auth _) => !(h.grants q).auth
  | some (.block _) => !(h.grants q).image
  | some i =>
    match i.plane with
    | some p => h.rightAt q (Fin.ofNat 8 ((offOf p).val + 4)) != .control
    | none => !(([5, 6, 7] : List (Fin 8)).all fun o => h.rightAt q o == .control)

/-- A register word at a follower address: port-local words stay, the others enter the tunnel (R278). -/
def Hub.followerWord (h : Hub) (hw : HeldWrite) (r : BitVec 5) (w : Word) : Hub :=
  let q := hw.port
  let addr := h.addrOf q hw.off
  if regReadOnly r || (hw.off.val % 4 == 0 && decide (r.toNat < 0x14)) then h.judged q addr r .noEffect id
  else if planeLocal r then h.localWord q hw.off r w
  else if r = 0x0C then h.judged q addr r (h.strayReason q hw.off) id
  else
    h.judged q addr r (firstReason (h.followerLacks q hw.off r w) false false false false)
      fun h => h.enterTunnel q hw.off (.reg r w)

/-- A record at a follower address. -/
def Hub.followerRecord (h : Hub) (hw : HeldWrite) (space : BitVec 4) (index : BitVec 20) (ws : List Word) : Hub :=
  h.judged hw.port (h.addrOf hw.port hw.off) 0x0E
    (firstReason (h.followerRecordLacks hw.port space index) false (itemOf space index).isNone false false)
    fun h => h.enterTunnel hw.port hw.off (.record space index ws)

/-! ### One item of a transaction -/

/-- OFFSET after a word of NVDATA was read (R364). -/
def Port.nvRead (x : Port) : Port := { x with offset := x.offset + 4 }

/-- One item of a transaction at its STOP; with `now` its commit comes at once. -/
def Hub.applyOp (h : Hub) (now : Bool) (q : PortId) (cfg : PortDecl) (off : Fin 8) (op : TxOp) : Hub :=
  let hw := fun (k : WriteKind) => heldWrite q (placeOf off) off cfg k
  match op with
  | .word r w => if off.val < 4 then h.ownWord now (hw (.reg r w)) r w else h.followerWord (hw (.reg r w)) r w
  | .record space index ws =>
    if off.val < 4 then h.ownRecord now (hw (.record space index ws)) space index ws
    else h.followerRecord (hw (.record space index ws)) space index ws
  | .incomplete => h.judged q (h.addrOf q off) 0x0E .range id
  | .nvStep => h.modPort q Port.nvRead

/-! ### Scheduled transactions -/

/-- Frames of 256 s. -/
def schedSpan : Int := 3200000000

/-- Cycles from the instant `ahead` cycles after a plane's present one to the boundary a SCHED word names: more than 128 s back to
128 s ahead (R325). -/
def Time.tagFrom (t : Time) (ahead : Nat) (secLo : Byte) (frame : Nat) : Int :=
  let d : Int := ((secLo.toNat * 12500000 + frame : Nat) : Int) - (((t.sec.toNat % 256) * 12500000 + t.frame : Nat) : Int)
  let c := d % schedSpan * 40 - (t.cyc + ahead : Nat)
  if 64000000000 < c then c - schedSpan * 40 else c

/-- Cycles from a plane's present instant to the boundary a SCHED word names. -/
def Time.toTag (t : Time) (secLo : Byte) (frame : Nat) : Int := t.tagFrom 0 secLo frame

/-- An item of a scheduled transaction is unit-scoped (R326). -/
def TxOp.isUnit : TxOp → Bool
  | .word r _ => decide (0x14 ≤ r.toNat)
  | .record space index _ =>
    (match itemOf space index with
     | none => false
     | some i => !i.readOnly && i.plane.isNone)
  | .incomplete => false
  | .nvStep => false

/-- The item is one that is held to the tag: a word with write effect that is not port-local, or a plane's record. -/
def TxOp.held (off : Fin 8) : TxOp → Bool
  | .word r _ => off.val % 4 != 0 && !(regReadOnly r) && !(planeLocal r) && r != 0x0C
  | .record space index _ =>
    (match itemOf space index with
     | none => false
     | some i => i.plane.isSome)
  | .incomplete => false
  | .nvStep => false

/-- The held write of an item, which belongs to its plane, or to the plane of its item. -/
def TxOp.hold (q : PortId) (cfg : PortDecl) (off : Fin 8) : TxOp → Option HeldWrite
  | .word r w => some (heldWrite q (placeOf off) off cfg (.reg r w))
  | .record space index ws =>
    let p := ((itemOf space index).bind Item.plane).getD (placeOf off)
    some (heldWrite q p off cfg (.record space index ws))
  | .incomplete => none
  | .nvStep => none

/-- The writes of a list of items that are held to the tag. -/
def heldOps (q : PortId) (cfg : PortDecl) (ops : List (Fin 8 × TxOp)) : List HeldWrite :=
  (ops.filter fun e => e.2.held e.1).filterMap fun e => e.2.hold q cfg e.1

/-- Why a scheduled transaction is refused as a whole (R280, R314, R325 to R327, R353); `unit` says that it writes a unit-scoped
register, `follower` that it names a follower address, and `stopped` that it writes to a plane of this unit whose word clock stands.
The tag's distance is counted from the cycle in which the plane sees the STOP. -/
def Hub.schedReason (h : Hub) (q : PortId) (off : Fin 8) (w : Word) (unit follower stopped : Bool) : Reason :=
  let t := (h.plane (placeOf off)).time
  let far := t.tagFrom ((h.port q).stop.get (placeOf off) - t.clk) (BitVec.ofNat 8 (bits w 31 24)) (bits w 23 0)
  let least : Int := if follower then 640 else 80
  if h.rightAt q off ≠ .control then .right
  else if 12500000 ≤ bits w 23 0 then .range
  else if stopped = true ∨ off.val < 4 ∧ h.active (placeOf off) = false then .state
  else if unit || decide (far < least) || decide (Config.schedDepth ≤ (h.port q).scheds.length) then .sched
  else .none

/-- Every pending scheduled transaction of a port at an address is cancelled (R326). -/
def Hub.cancelScheds (h : Hub) (q : PortId) (off : Fin 8) : Hub :=
  h.modPort q fun x => { x with scheds := x.scheds.filter fun (s : Sched) => s.off != off }

/-- The cancel form, judged at an address (R314, R326). -/
def Hub.cancelWord (h : Hub) (q : PortId) (off : Fin 8) : Hub :=
  h.judged q (h.addrOf q off) 0x0C (firstReason (h.rightAt q off != .control) false false false false)
    fun h => h.cancelScheds q off

/-- A scheduled transaction is pending; one that holds nothing leaves nothing pending. -/
def Hub.addSched (h : Hub) (q : PortId) (off : Fin 8) (w : Word) (ws : List HeldWrite) : Hub :=
  if ws.isEmpty then h
  else h.modPort q fun x => { x with scheds := x.scheds ++
    [{ off := off, secLo := BitVec.ofNat 8 (bits w 31 24), frame := BitVec.ofNat 24 (bits w 23 0), writes := ws }] }

/-- A transaction whose first word is SCHED (R325, R326): its other items are held to the tag, but for port-local words and
what is refused at any instant. One that names the follower goes there over lane 3 (R279). -/
def Hub.schedule (h : Hub) (now : Bool) (q : PortId) (cfg : PortDecl) (off : Fin 8) (w : Word) (rest : List (Fin 8 × TxOp)) : Hub :=
  if w = 0xFFFFFFFF ∧ rest = [] then h.cancelWord q off
  else
    let follower := decide (4 ≤ off.val) || rest.any fun e => decide (4 ≤ e.1.val)
    let stopped := (heldOps q cfg rest).any fun e => decide (e.off.val < 4) && !h.active e.plane
    h.judged q (h.addrOf q off) 0x0C (h.schedReason q off w (rest.any fun e => e.2.isUnit) follower stopped) fun h =>
      let h := (rest.filter fun e => !(e.2.held e.1)).foldl (fun (g : Hub) e => g.applyOp now q cfg e.1 e.2) h
      let h := h.addSched q off w (heldOps q cfg rest)
      if follower && h.joined then h.laneAction 0 else h

/-- All the items of a complete transaction, in order (R320, R324); reads of NVDATA before the first word written step OFFSET and
leave that word the first (R325). -/
def Hub.applyAll (h : Hub) (q : PortId) (cfg : PortDecl) (sched : Bool) (ops : List (Fin 8 × TxOp)) : Hub :=
  let reads := ops.takeWhile fun e => e.2 == .nvStep
  let h := reads.foldl (fun (g : Hub) e => g.applyOp false q cfg e.1 e.2) h
  let ops := ops.drop reads.length
  match sched, ops with
  | true, (off, .word _ w) :: rest => h.schedule false q cfg off w rest
  | _, _ => ops.foldl (fun (g : Hub) e => g.applyOp false q cfg e.1 e.2) h

/-! ### The end of a transaction -/

/-- WSEL of every address after a transaction: its index is where the cursor stands (R321). -/
def Scan.wsel (s : Scan) (l : Latch) : Vector Word 8 :=
  Vector.ofFn fun o => if s.cur[o.val].index = wselIndex l.wsel[o.val] then l.wsel[o.val] else wselWith l.wsel[o.val] s.cur[o.val].index

/-- A complete transaction: pointer and indices stand, log entries count as read, and its writes go their ways (R320,
R323). -/
def Hub.completeTx (h : Hub) (q : PortId) (l : Latch) (s : Scan) : Hub :=
  let h := h.modPort q fun x => { x with pointer := s.pointer, wsel := s.wsel l, rx := s.rx }
  let h := s.seen.foldl (fun (g : Hub) e => g.noteRead q e.1 e.2) h
  (h.applyAll q l.cfg s.sched s.all).modPort q Port.endTransaction

/-- A transaction ends in a STOP (R318 to R323): a sleeping port leaves its address unacknowledged and wakes (R330). -/
def Hub.endTx (h : Hub) (q : PortId) (segs : List TxSeg) : Hub :=
  let h := if (h.port q).latch.isSome then h else h.start q
  match (h.port q).latch with
  | none => h
  | some l =>
    h.under q l.cfg fun h =>
      if !h.addressed q segs then h.modPort q Port.endTransaction
      else if (h.port q).asleep then h.modPort q fun x => x.wake.endTransaction
      else
        let s := h.scanSegs q l segs (l.scan (h.port q).offset.toNat)
        match s.bad with
        | some (addr, reg) => (h.modPort q fun x => { x with rx := s.rx }).voidTx q addr reg
        | none => h.completeTx q l s

/-! ### The tunnel, seen from the follower -/

/-- Run an operation for a word whose rights the leader has judged (R276). -/
def Hub.tunnelled (h : Hub) (q : PortId) (f : Hub → Hub) : Hub :=
  (f (h.modPort q fun x => { x with tunnel := true })).modPort q fun x => { x with tunnel := false }

/-- The offset an address of the follower has in its own unit. -/
def tunnelOff : TunnelWrite → Fin 8
  | .reg o _ _ => Fin.ofNat 8 o.val
  | .record o _ _ _ => Fin.ofNat 8 o.val

/-- The write a tunnel entry brings. -/
def tunnelKind : TunnelWrite → WriteKind
  | .reg _ r w => .reg r w
  | .record _ space index ws => .record space index ws

/-- The plane at whose boundary a tunnelled write is applied: the plane it concerns, and plane A for the unit's (R278;
DESIGN CHOICE, log entry 109). -/
def tunnelPlane (w : TunnelWrite) : PlaneId :=
  match w with
  | .reg o _ _ => if o = 0 then .a else placeOf (tunnelOff w)
  | .record _ space index _ => ((itemOf space index).bind Item.plane).getD .a

/-- A tunnelled write takes effect on the follower (R278). -/
def Hub.tunnelEffect (h : Hub) (q : PortId) (off : Fin 8) (k : WriteKind) : Hub :=
  h.tunnelled q fun h =>
    match k with
    | .reg r w => h.applyOp true q (h.port q).cfg off (.word r w)
    | .record space index ws => h.applyOp true q (h.port q).cfg off (.record space index ws)
    | .standby _ => h
    | .force _ _ => h

/-- A write that came over the tunnel is applied: its entry leaves the inbound queue, and the reply enters the outbound one (R278,
R279). -/
def Hub.commitTunnel (h : Hub) (w : HeldWrite) : Hub :=
  let i := Fin.ofNat 16 w.port.val
  let h := h.tunnelEffect w.port w.off w.kind
  (h.modChim fun c => { c with inq := upd c.inq i Queue.pop }).chimneyPush i { type := 0, payload := w.kind.reg5.zeroExtend 64 }

/-- Entry `num` of a port's tunnel arrives: the next one enters the inbound queue and waits for the first frame boundary at least 4
cycles later; one sent again is taken once only, and one that meets a full queue is discarded (R200, R278, R279). -/
def Hub.tunnelArrive (h : Hub) (q : PortId) (num : Nat) (w : TunnelWrite) : Hub :=
  if num ≠ h.chim.tdone[q.val] then h
  else
    let i := Fin.ofNat 16 q.val
    let full := h.chim.inq[i.val].isFull
    let h := h.modChim fun c => { c with inq := upd c.inq i (·.push { type := 1, payload := (tunnelKind w).reg5.zeroExtend 64 }) }
    if full then h.chimneyOverflow
    else
      let p := tunnelPlane w
      let h := h.modChim fun c => { c with tdone := upd c.tdone q (· + 1) }
      let hw := { heldWrite q p (tunnelOff w) (h.port q).cfg (tunnelKind w) with tunnel := true }
      if h.active p then
        h.modPlane p fun x => { x with commits := insertWrite { hw with seen := x.time.clk } x.commits }
      else { h with ucommits := insertWrite { hw with seen := h.ticks } h.ucommits }

/-- A held write commits as its transaction's START found the port, or as it came over the tunnel. -/
def Hub.commitHeld (before h : Hub) (w : HeldWrite) : Hub :=
  if w.tunnel then h.commitTunnel w else h.under w.port w.cfg fun h => h.commit before w

/-! ### Meanings -/

/-- The elapsed cycle in which each plane sees a STOP, from the cycle of the frame; one already past is the present one
(R41). -/
def Hub.stopAt (h : Hub) (seen : Tri (Fin 40)) : Tri Nat :=
  let at_ := fun (p : PlaneId) =>
    let t := (h.plane p).time
    t.clk + ((seen.get p).val - t.cyc)
  ⟨at_ .a, at_ .b, at_ .c⟩

/-- TRANSACTION_COMPLETE, with the cycle of its frame in which each plane sees the STOP (R41, R318 to R324). A START is implied
where none was sent before. -/
def execTransactionComplete (port : PortId) (tx : HostTx) (s : State) :
    Host.Outcome State Fault Refusal :=
  s.answer (if s.hub.powered && (s.hub.port port).answers then
      (s.hub.modPort port fun x => { x with stop := s.hub.stopAt tx.seen }).endTx port tx.segs
    else s.hub)

/-- One word, judged and committed at once (R342): a window word is a whole record only in a space of one-word records, or a
CFGDATA block of four bytes. -/
def Hub.writeNow (h : Hub) (q : PortId) (off : Fin 8) (r : BitVec 5) (w : Word) : Hub :=
  let cfg := (h.port q).cfg
  if r = 0x0E ∧ off.val % 4 ≠ 0 then
    let sel := (h.port q).wsel[off.val]
    let space := wselSpace sel
    let index := wselIndex sel
    if recordLen space index = 1 ∨ space = 10 then h.applyOp true q cfg off (.record space index [w])
    else h.applyOp true q cfg off .incomplete
  else if r = 0x0C ∧ off.val % 4 ≠ 0 then h.schedule true q cfg off w []
  else h.applyOp true q cfg off (.word r w)

/-- HOST_REGISTER_WRITE: a register word at an address the port answers, judged as a whole and committed (R342); an address the
port leaves unacknowledged voids the transaction (R312, R323), and one that finds it asleep wakes it (R330). -/
def execHostRegisterWrite (port : PortId) (addr : BitVec 7) (reg : BitVec 5) (word : Word) (s : State) :
    Host.Outcome State Fault Refusal :=
  s.answer (if s.hub.powered then
      match s.hub.offset port addr with
      | none => s.hub
      | some off =>
        if (s.hub.port port).asleep then s.hub.modPort port Port.wake
        else if s.hub.acks port off then s.hub.writeNow port off reg word else s.hub.refuse port addr reg .void
    else s.hub)

/-- The index of the lowest address that names the block advances after it, with auto-increment on (R300). -/
def Port.blockTaken (x : Port) (block : BitVec 20) : Port :=
  match ([1, 2, 3] : List (Fin 8)).find? fun o => wselSpace x.wsel[o.val] == 10 && wselIndex x.wsel[o.val] == block with
  | none => x
  | some o => x.nextBlock o block

/-- CFGDATA_BLOCK_WRITE: with both block buffers waiting the port acknowledges no address, and the transaction is void (R300, R312,
R323). -/
def execCfgdataBlockWrite (port : PortId) (block : Fin 32768) (data : List Byte) (s : State) :
    Host.Outcome State Fault Refusal :=
  s.answer (if (s.hub.port port).blocks.length < 2 then
      s.hub.judged port (s.hub.addrOf port 0) 0x0E (s.hub.blockReason port block.val data.length) fun h =>
        (h.bufferBlock port block.val data).modPort port fun x => x.blockTaken (BitVec.ofNat 20 block.val)
    else if s.hub.powered then s.hub.refuse port (s.hub.addrOf port 0) 0x0E .void
    else s.hub)

/-- SCHEDULED_TRANSACTION at a plane's address (R325, R326). -/
def execScheduledTransaction (port : PortId) (p : PlaneId) (sched : Word) (writes : List RegWrite) (s : State) :
    Host.Outcome State Fault Refusal :=
  s.answer (if s.hub.powered then
      s.hub.schedule false port (s.hub.port port).cfg (offOf p) sched
        (writes.map fun (w : RegWrite) => (offOf w.plane, TxOp.word w.reg w.word))
    else s.hub)

/-- The tag of a scheduled transaction has come in a plane, or has been skipped by a REALIGN (R109, R325). -/
def Hub.schedDue (h : Hub) (p : PlaneId) (s : Sched) : Bool :=
  h.active p && decide ((h.plane p).time.toTag s.secLo s.frame.toNat ≤ 0)

/-- A scheduled write of a follower address is judged by the leader for its right at the tag; the follower has had it over lane 3
(R276, R279, R325). -/
def Hub.judgeFar (h : Hub) (w : HeldWrite) : Hub :=
  let lacks := match w.kind with
    | .reg r v => h.followerLacks w.port w.off r v
    | .record space index _ => h.followerRecordLacks w.port space index
    | .standby _ => false
    | .force _ _ => false
  h.judged w.port (h.addrOf w.port w.off) w.kind.reg5 (firstReason lacks false false false false) id

/-- The words of plane p of one scheduled transaction are judged and applied at their tag, and cause 14 is set (R325, R357). -/
def Hub.applySched (h : Hub) (p : PlaneId) (q : PortId) (idx : Nat) : Hub :=
  match (h.port q).scheds[idx]? with
  | none => h
  | some s =>
    if s.names p && h.schedDue p s then
      let h := h.modPort q fun x => { x with scheds :=
        ((x.scheds.take idx) ++ ([s.without p].filter fun (t : Sched) => !t.writes.isEmpty) ++ x.scheds.drop (idx + 1)) }
      let mine := s.writes.filter fun w => w.atPlane p && decide (w.off.val < 4)
      let far := s.writes.filter fun w => w.atPlane p && decide (4 ≤ w.off.val)
      (far.foldl Hub.judgeFar (mine.foldl (fun (g : Hub) w => g.commit h w) h)).causeAt q s.off 14
    else h

/-- SCHED_APPLY (R325). -/
def execSchedApply (p : PlaneId) (port : PortId) (idx : Fin 4) (s : State) : Host.Outcome State Fault Refusal :=
  s.answer (if s.hub.powered then s.hub.applySched p port idx.val else s.hub)

/-- SCHED_CANCEL (R326). -/
def execSchedCancel (port : PortId) (p : PlaneId) (s : State) : Host.Outcome State Fault Refusal :=
  s.answer (s.hub.cancelWord port (offOf p))

/-- A write is due at the boundary that opened the plane's present frame: its STOP was seen at least 4 cycles before. Where the
word clock stands, every waiting write is (R41, R327). -/
def Hub.dueAt (h : Hub) (p : PlaneId) (w : HeldWrite) : Bool :=
  let t := (h.plane p).time
  !h.active p || decide (w.seen + 4 ≤ t.clk - t.cyc)

/-- Every write due at a plane's boundary commits, in the order of the STOPs; a later one waits on (R36, R41, R324). -/
def Hub.commitPlane (h : Hub) (p : PlaneId) : Hub :=
  let ws := (h.plane p).commits
  let g := h.modPlane p fun x => { x with commits := ws.filter fun w => !h.dueAt p w }
  (ws.filter (h.dueAt p)).foldl (fun (k : Hub) w => Hub.commitHeld g k w) g

/-- PLANE_WRITE_COMMIT (R41, R324). -/
def execPlaneWriteCommit (p : PlaneId) (s : State) : Host.Outcome State Fault Refusal :=
  s.answer (if s.hub.powered then s.hub.commitPlane p else s.hub)

/-- Every write due at the present housekeeping tick commits: in the order of the STOPs, and of the port numbers within one
period (R299, R324, R380); a write of the hub's own follows them (R434). -/
def Hub.commitUnit (h : Hub) : Hub :=
  let ws := h.ucommits
  let g := { h with ucommits := ws.filter fun w => decide (h.ticks ≤ w.seen) }
  ((ws.filter fun w => decide (w.seen < h.ticks)).foldl (fun (k : Hub) w => Hub.commitHeld g k w) g).startWaiting

/-- UNIT_WRITE_COMMIT (R324). -/
def execUnitWriteCommit (s : State) : Host.Outcome State Fault Refusal :=
  s.answer (if s.hub.powered then s.hub.commitUnit else s.hub)

/-- TUNNEL_WRITE_APPLY: an entry of the leader's port arrives at a joined follower (R278). -/
def execTunnelWriteApply (port : PortId) (entry : TunnelEntry) (s : State) : Host.Outcome State Fault Refusal :=
  s.answer (if s.hub.powered && s.hub.following then s.hub.tunnelArrive port entry.num entry.write else s.hub)

/-- What lane 3 carries takes effect: a movement of a grid announced, a REALIGN on the leader plane's SEC, the pair's snapshot in a
follower, a follower's request for one and what it captured in the leader, a pending leave, a scheduled write (R203, R275, R279,
R286, R414, R445). -/
def Hub.lane3 (h : Hub) (act : Lane3Act) : Hub :=
  match act with
  | .announce p n => h.ifActive p fun h => h.modPlane p fun x =>
      { x with grid := { x.grid with toMove := some ((x.time.now + n : Nat) : Int) } }
  | .realign p sec => h.ifActive p fun h => h.realignTo p sec
  | .snapshot ovfclr sec frame => if h.following then h.farSnapshot ovfclr sec frame.val else h
  | .ask ovfclr ago => if h.following then h else h.requestSince ovfclr ago
  | .captured pst => if h.following then h else { h with snap := { h.snap with far := some pst } }.finishSnapshot
  | .leave => if h.following then h.modChim fun c => { c with leavePend := true } else h
  | .write w q => h.tunnelEffect q (tunnelOff w) (tunnelKind w)

/-- LANE3_SCHEDULED_ACTION: one that comes late is counted (R289, R411). -/
def execLane3ScheduledAction (act : Lane3Act) (late : Bool) (s : State) : Host.Outcome State Fault Refusal :=
  s.answer (if s.hub.powered && s.hub.joined then (if late then s.hub.ucount 31 else s.hub).lane3 act else s.hub)

end Sys2Proof.Machine
end

