-- ==== Sys2Proof/Machine/Dispatch.lean ====
section
/-! DEFINITION. One arm per command: its meaning, or a refusal by name. -/

namespace Sys2Proof.Machine

def exec (i : Instr) (s : State) : Host.Outcome State Fault Refusal :=
  match i with
  | .kindling sdaLow selfTestOk => Sys2Proof.Machine.execKindling sdaLow selfTestOk s
  | .powerGoodLoss loss => Sys2Proof.Machine.execPowerGoodLoss loss s
  | .converterStart => Sys2Proof.Machine.execConverterStart s
  | .imageApply slots => Sys2Proof.Machine.execImageApply slots s
  | .ovenSettled p => Sys2Proof.Machine.execOvenSettled p s
  | .ovenGateTimeout p => Sys2Proof.Machine.execOvenGateTimeout p s
  | .frameBoundary p => Sys2Proof.Machine.execFrameBoundary p s
  | .pps p m => Sys2Proof.Machine.execPps p m s
  | .groupBoundary p mirror => Sys2Proof.Machine.execGroupBoundary p mirror s
  | .millisecondBoundary p m => Sys2Proof.Machine.execMillisecondBoundary p m s
  | .housekeepingTick => Sys2Proof.Machine.execHousekeepingTick s
  | .comparatorReading cmp diff => Sys2Proof.Machine.execComparatorReading cmp diff s
  | .planeWriteCommit p => Sys2Proof.Machine.execPlaneWriteCommit p s
  | .unitWriteCommit => Sys2Proof.Machine.execUnitWriteCommit s
  | .unitValueHandover p => Sys2Proof.Machine.execUnitValueHandover p s
  | .housekeepingRecordTake p => Sys2Proof.Machine.execHousekeepingRecordTake p s
  | .logEraseComplete => Sys2Proof.Machine.execLogEraseComplete s
  | .refLossDeclared p r => Sys2Proof.Machine.execRefLossDeclared p r s
  | .refActiveAgain p r => Sys2Proof.Machine.execRefActiveAgain p r s
  | .timecodeFrame p tc f => Sys2Proof.Machine.execTimecodeFrame p tc f s
  | .tcQualityEffect p tc => Sys2Proof.Machine.execTcQualityEffect p tc s
  | .timeMarkerCapture p src cyc before after => Sys2Proof.Machine.execTimeMarkerCapture p src cyc before after s
  | .esmcPduReceived p f => Sys2Proof.Machine.execEsmcPduReceived p f s
  | .esmcQualityEffect p => Sys2Proof.Machine.execEsmcQualityEffect p s
  | .esmcTimeout p => Sys2Proof.Machine.execEsmcTimeout p s
  | .freqOffsetMeasurement p r offset => Sys2Proof.Machine.execFreqOffsetMeasurement p r offset s
  | .phaseJumpMean p r mean => Sys2Proof.Machine.execPhaseJumpMean p r mean s
  | .waitToRestoreExpiry p r => Sys2Proof.Machine.execWaitToRestoreExpiry p r s
  | .selectionTick p => Sys2Proof.Machine.execSelectionTick p s
  | .switchCommit p step dfreq => Sys2Proof.Machine.execSwitchCommit p step dfreq s
  | .acquireTimeout p => Sys2Proof.Machine.execAcquireTimeout p s
  | .slewComplete p => Sys2Proof.Machine.execSlewComplete p s
  | .driftFitUpdate p => Sys2Proof.Machine.execDriftFitUpdate p s
  | .gridRegistration p => Sys2Proof.Machine.execGridRegistration p s
  | .realignExecute p => Sys2Proof.Machine.execRealignExecute p s
  | .vcobUnlock p unlocked => Sys2Proof.Machine.execVcobUnlock p unlocked s
  | .outputDrainComplete p ck => Sys2Proof.Machine.execOutputDrainComplete p ck s
  | .outputStart p ck => Sys2Proof.Machine.execOutputStart p ck s
  | .fineMoveComplete p ck => Sys2Proof.Machine.execFineMoveComplete p ck s
  | .puPulseStart p pu => Sys2Proof.Machine.execPuPulseStart p pu s
  | .puAssignmentEffect p pu low => Sys2Proof.Machine.execPuAssignmentEffect p pu low s
  | .toPulseStart p o => Sys2Proof.Machine.execToPulseStart p o s
  | .upstreamTimeSlot p l cyc rx => Sys2Proof.Machine.execUpstreamTimeSlot p l cyc rx s
  | .slotCheckFailure p l bad => Sys2Proof.Machine.execSlotCheckFailure p l bad s
  | .linkSignalLoss p l => Sys2Proof.Machine.execLinkSignalLoss p l s
  | .linkSignalPresent p l => Sys2Proof.Machine.execLinkSignalPresent p l s
  | .linkMonitorGraceExpiry p l => Sys2Proof.Machine.execLinkMonitorGraceExpiry p l s
  | .primitiveReceived p l cyc payload => Sys2Proof.Machine.execPrimitiveReceived p l cyc payload s
  | .upstreamVetoReceived p l cyc payload => Sys2Proof.Machine.execUpstreamVetoReceived p l cyc payload s
  | .statusReceived p l cyc payload => Sys2Proof.Machine.execStatusReceived p l cyc payload s
  | .cmdAckReceived p l cyc payload => Sys2Proof.Machine.execCmdAckReceived p l cyc payload s
  | .upstreamBulkReceived p l cyc payload => Sys2Proof.Machine.execUpstreamBulkReceived p l cyc payload s
  | .trainHoldCompleteReceived p l cyc payload => Sys2Proof.Machine.execTrainHoldCompleteReceived p l cyc payload s
  | .reservedMessageReceived p l cyc type payload => Sys2Proof.Machine.execReservedMessageReceived p l cyc type payload s
  | .damperTimeout p l => Sys2Proof.Machine.execDamperTimeout p l s
  | .trafficSlotStart p slot => Sys2Proof.Machine.execTrafficSlotStart p slot s
  | .tiRisingCrossing p ti cyc fine => Sys2Proof.Machine.execTiRisingCrossing p ti cyc fine s
  | .fabricEventRelease p => Sys2Proof.Machine.execFabricEventRelease p s
  | .windowOpen p u ref => Sys2Proof.Machine.execWindowOpen p u ref s
  | .windowEvaluation p u ref => Sys2Proof.Machine.execWindowEvaluation p u ref s
  | .coincidenceEvaluation p u ref ecc => Sys2Proof.Machine.execCoincidenceEvaluation p u ref ecc s
  | .lookupScrub p mem addr ecc => Sys2Proof.Machine.execLookupScrub p mem addr ecc s
  | .prescalerPulse p u ref => Sys2Proof.Machine.execPrescalerPulse p u ref s
  | .crossPlaneCapture src dst port ref => Sys2Proof.Machine.execCrossPlaneCapture src dst port ref s
  | .chimneyCrossingRelease p port ref tau rel => Sys2Proof.Machine.execChimneyCrossingRelease p port ref tau rel s
  | .generatorEvent p g cyc => Sys2Proof.Machine.execGeneratorEvent p g cyc s
  | .generatorEnqueue p g cyc => Sys2Proof.Machine.execGeneratorEnqueue p g cyc s
  | .readoutGapStart p => Sys2Proof.Machine.execReadoutGapStart p s
  | .holdLimitExpiry p g => Sys2Proof.Machine.execHoldLimitExpiry p g s
  | .deferredActionsResume p => Sys2Proof.Machine.execDeferredActionsResume p s
  | .joinCommand port ready => Sys2Proof.Machine.execJoinCommand port ready s
  | .joinAnnounce => Sys2Proof.Machine.execJoinAnnounce s
  | .joinComplete leaderSec => Sys2Proof.Machine.execJoinComplete leaderSec s
  | .joinAbandon => Sys2Proof.Machine.execJoinAbandon s
  | .leaveCommand port => Sys2Proof.Machine.execLeaveCommand port s
  | .leaveEffect => Sys2Proof.Machine.execLeaveEffect s
  | .chimneyPortState ch sight => Sys2Proof.Machine.execChimneyPortState ch sight s
  | .chimneySwitchOver inFlight => Sys2Proof.Machine.execChimneySwitchOver inFlight s
  | .chimneyLoss => Sys2Proof.Machine.execChimneyLoss s
  | .followerRecordFetch port rec => Sys2Proof.Machine.execFollowerRecordFetch port rec s
  | .tunnelWriteApply port entry => Sys2Proof.Machine.execTunnelWriteApply port entry s
  | .tunnelAck port => Sys2Proof.Machine.execTunnelAck port s
  | .lane3ScheduledAction act late => Sys2Proof.Machine.execLane3ScheduledAction act late s
  | .imageErase port slot => Sys2Proof.Machine.execImageErase port slot s
  | .eraseComplete => Sys2Proof.Machine.execEraseComplete s
  | .imageOpen port slot => Sys2Proof.Machine.execImageOpen port slot s
  | .cfgdataBlockWrite port block data => Sys2Proof.Machine.execCfgdataBlockWrite port block data s
  | .blockProgramComplete port => Sys2Proof.Machine.execBlockProgramComplete port s
  | .imageClose port => Sys2Proof.Machine.execImageClose port s
  | .verificationComplete read => Sys2Proof.Machine.execVerificationComplete read s
  | .imageBoot port slot => Sys2Proof.Machine.execImageBoot port slot s
  | .imageLoad port slot => Sys2Proof.Machine.execImageLoad port slot s
  | .imageReload port slot planes => Sys2Proof.Machine.execImageReload port slot planes s
  | .reloadF0 p => Sys2Proof.Machine.execReloadF0 p s
  | .reloadF1 p => Sys2Proof.Machine.execReloadF1 p s
  | .configCrcCheck p matching => Sys2Proof.Machine.execConfigCrcCheck p matching s
  | .transactionStart port => Sys2Proof.Machine.execTransactionStart port s
  | .transactionComplete port tx => Sys2Proof.Machine.execTransactionComplete port tx s
  | .transactionVoid port addr reg => Sys2Proof.Machine.execTransactionVoid port addr reg s
  | .hostRegisterWrite port addr reg word => Sys2Proof.Machine.execHostRegisterWrite port addr reg word s
  | .windowSelectWrite port addr word => Sys2Proof.Machine.execWindowSelectWrite port addr word s
  | .scheduledTransaction port p sched writes => Sys2Proof.Machine.execScheduledTransaction port p sched writes s
  | .schedApply p port idx => Sys2Proof.Machine.execSchedApply p port idx s
  | .schedCancel port p => Sys2Proof.Machine.execSchedCancel port p s
  | .portSleep port => Sys2Proof.Machine.execPortSleep port s
  | .portWake port addr => Sys2Proof.Machine.execPortWake port addr s
  | .refusalClear port => Sys2Proof.Machine.execRefusalClear port s
  | .pecEnableWrite port on => Sys2Proof.Machine.execPecEnableWrite port on s
  | .attentionConfigWrite port addr word => Sys2Proof.Machine.execAttentionConfigWrite port addr word s
  | .attentionCauseClear port addr clear => Sys2Proof.Machine.execAttentionCauseClear port addr clear s
  | .unitCauseClear port clear => Sys2Proof.Machine.execUnitCauseClear port clear s
  | .historyClear port p clear => Sys2Proof.Machine.execHistoryClear port p clear s
  | .attentionAttempt port out => Sys2Proof.Machine.execAttentionAttempt port out s
  | .attentionRetry port out => Sys2Proof.Machine.execAttentionRetry port out s
  | .attentionHoldTimeout port => Sys2Proof.Machine.execAttentionHoldTimeout port s
  | .lineStuckDetect port stuck => Sys2Proof.Machine.execLineStuckDetect port stuck s
  | .lineStuckClear port line => Sys2Proof.Machine.execLineStuckClear port line s
  | .busRecover port target lines => Sys2Proof.Machine.execBusRecover port target lines s
  | .portTest port target lines => Sys2Proof.Machine.execPortTest port target lines s
  | .ownershipClaim port p => Sys2Proof.Machine.execOwnershipClaim port p s
  | .ownershipRelease port p => Sys2Proof.Machine.execOwnershipRelease port p s
  | .ownershipTimeout p => Sys2Proof.Machine.execOwnershipTimeout p s
  | .loopModeWrite port p m => Sys2Proof.Machine.execLoopModeWrite port p m s
  | .forcedRefWrite port p r => Sys2Proof.Machine.execForcedRefWrite port p r s
  | .realignRequest port p => Sys2Proof.Machine.execRealignRequest port p s
  | .realignCancel port p => Sys2Proof.Machine.execRealignCancel port p s
  | .huskClear port p => Sys2Proof.Machine.execHuskClear port p s
  | .trainingHoldRequest port p g => Sys2Proof.Machine.execTrainingHoldRequest port p g s
  | .trainingHoldHostEnd port p g => Sys2Proof.Machine.execTrainingHoldHostEnd port p g s
  | .referencePriorityWrite port p revert prio => Sys2Proof.Machine.execReferencePriorityWrite port p revert prio s
  | .bandwidthCodeWrite port p code => Sys2Proof.Machine.execBandwidthCodeWrite port p code s
  | .freqWrite port p freq => Sys2Proof.Machine.execFreqWrite port p freq s
  | .gridOffsetWrite port p goff => Sys2Proof.Machine.execGridOffsetWrite port p goff s
  | .outputGateWrite port p o on => Sys2Proof.Machine.execOutputGateWrite port p o on s
  | .outputDelayWrite port p ck k f => Sys2Proof.Machine.execOutputDelayWrite port p ck k f s
  | .puSettingsWrite port p pu gen coarse fine width => Sys2Proof.Machine.execPuSettingsWrite port p pu gen coarse fine width s
  | .toFineDelayWrite port p o fine => Sys2Proof.Machine.execToFineDelayWrite port p o fine s
  | .enqueueCmd port p l payload => Sys2Proof.Machine.execEnqueueCmd port p l payload s
  | .enqueueBulk port p l payload => Sys2Proof.Machine.execEnqueueBulk port p l payload s
  | .popUqStat port p l => Sys2Proof.Machine.execPopUqStat port p l s
  | .popUqBulk port p l => Sys2Proof.Machine.execPopUqBulk port p l s
  | .injectTestAccept port p l payload => Sys2Proof.Machine.execInjectTestAccept port p l payload s
  | .linkDelayWrite port p l d turn => Sys2Proof.Machine.execLinkDelayWrite port p l d turn s
  | .hostDamperWrite port p l damper => Sys2Proof.Machine.execHostDamperWrite port p l damper s
  | .queueThresholdWrite port q n => Sys2Proof.Machine.execQueueThresholdWrite port q n s
  | .parameterCellWrite port p c v => Sys2Proof.Machine.execParameterCellWrite port p c v s
  | .generatorEnableWrite port p g on => Sys2Proof.Machine.execGeneratorEnableWrite port p g on s
  | .bintWrite port p second bint => Sys2Proof.Machine.execBintWrite port p second bint s
  | .userGeneratorWrite port p startSec startLow uper ufine => Sys2Proof.Machine.execUserGeneratorWrite port p startSec startLow uper ufine s
  | .epochPhaseDelayWrite port p l epd2 epd3 => Sys2Proof.Machine.execEpochPhaseDelayWrite port p l epd2 epd3 s
  | .faultReaction p => Sys2Proof.Machine.execFaultReaction p s
  | .pairBroken src => Sys2Proof.Machine.execPairBroken src s
  | .pairWhole src => Sys2Proof.Machine.execPairWhole src s
  | .collectorParityFault coll g => Sys2Proof.Machine.execCollectorParityFault coll g s
  | .stickyClear port src => Sys2Proof.Machine.execStickyClear port src s
  | .severityWrite port src sev => Sys2Proof.Machine.execSeverityWrite port src sev s
  | .faultInjectStart port p chk double tgt nchk => Sys2Proof.Machine.execFaultInjectStart port p chk double tgt nchk s
  | .faultInjectStop port p => Sys2Proof.Machine.execFaultInjectStop port p s
  | .ovenFault p present => Sys2Proof.Machine.execOvenFault p present s
  | .planeSupplyFault p => Sys2Proof.Machine.execPlaneSupplyFault p s
  | .snapshotRequest port ovfclr => Sys2Proof.Machine.execSnapshotRequest port ovfclr s
  | .snapshotCapture => Sys2Proof.Machine.execSnapshotCapture s
  | .nvRead port rd => Sys2Proof.Machine.execNvRead port rd s
  | .nvWrite port page => Sys2Proof.Machine.execNvWrite port page s
  | .nvProgramComplete ok1 ok2 => Sys2Proof.Machine.execNvProgramComplete ok1 ok2 s
  | .nvKey port write => Sys2Proof.Machine.execNvKey port write s
  | .nvPasswordChange port write => Sys2Proof.Machine.execNvPasswordChange port write s
  | .nvKeyShift port w => Sys2Proof.Machine.execNvKeyShift port w s
  | .nvDataWrite port w => Sys2Proof.Machine.execNvDataWrite port w s
  | .pageReload page => Sys2Proof.Machine.execPageReload page s
  | .hubPageWrite page inletMax inletMin intMax => Sys2Proof.Machine.execHubPageWrite page inletMax inletMin intMax s
  | .authNonceWrite port nonce => Sys2Proof.Machine.execAuthNonceWrite port nonce s
  | .authStart port selfTestOk => Sys2Proof.Machine.execAuthStart port selfTestOk s
  | .signingComplete => Sys2Proof.Machine.execSigningComplete s
  | .planeStandbyEnter port p => Sys2Proof.Machine.execPlaneStandbyEnter port p s
  | .standbyDrainComplete p => Sys2Proof.Machine.execStandbyDrainComplete p s
  | .planeStandbyLeave port p => Sys2Proof.Machine.execPlaneStandbyLeave port p s
  | .planeClockRestart p => Sys2Proof.Machine.execPlaneClockRestart p s
  | .unitStandbyEnter port => Sys2Proof.Machine.execUnitStandbyEnter port s
  | .unitStandbyLeave port => Sys2Proof.Machine.execUnitStandbyLeave port s
  | .feedJudgement feed mean => Sys2Proof.Machine.execFeedJudgement feed mean s
  | .feedOvervoltageDisconnect feed => Sys2Proof.Machine.execFeedOvervoltageDisconnect feed s
  | .feedReconnect feed => Sys2Proof.Machine.execFeedReconnect feed s
  | .fanSpeedCheck fan present percent => Sys2Proof.Machine.execFanSpeedCheck fan present percent s
  | .environmentSample m => Sys2Proof.Machine.execEnvironmentSample m s
  | .timecodeFrameMissing p tc => Sys2Proof.Machine.execTimecodeFrameMissing p tc s
  | .puPulseEnd p pulse => Sys2Proof.Machine.execPuPulseEnd p pulse s
  | .toPulseEnd p pulse => Sys2Proof.Machine.execToPulseEnd p pulse s
  | .planeSupplyRestored p => Sys2Proof.Machine.execPlaneSupplyRestored p s
  | .securityElementTimeout => Sys2Proof.Machine.execSecurityElementTimeout s
  | .followerAttentionReceived offset cause => Sys2Proof.Machine.execFollowerAttentionReceived offset cause s
  | .shortBrokenRun coll => Sys2Proof.Machine.execShortBrokenRun coll s

end Sys2Proof.Machine
end

