-- ==== Sys2Proof/Safety.lean ====
section
/-! DEFINITION. What counts as a safe run, and the terms in which claims are stated: a command that completes, a host that may
write, and hubs that differ in one plane only. -/

namespace Sys2Proof

/-- The state after n steps, when every one of them answers a next state. -/
def runsTo : Nat → Machine.State → Machine.State → Prop
  | 0, s, t => t = s
  | n + 1, s, t => ∃ m, Machine.step s = .next m ∧ runsTo n m t

/-- A run of n steps is safe when no step faults or is refused. -/
def Safe (n : Nat) (s : Machine.State) : Prop := ∃ t, runsTo n s t

/-- The command completes: exec answers a next state with the same queue, and its hub has the property P. -/
def Completes (c : Instr) (s : Machine.State) (P : Machine.Hub → Prop) : Prop :=
  ∃ h, Machine.exec c s = .next { s with hub := h } ∧ P h

/-- A host at port q may write plane p: the plane's word clock runs, the port holds CONTROL for the plane, and no other port
owns it (R314, R316, R327). -/
abbrev HostMay (h : Machine.Hub) (q : PortId) (p : PlaneId) : Prop :=
  h.active p = true ∧ h.controls q p = true ∧ h.foreign q p = false

/-- A host at port q may write what acts on every plane: CONTROL for all of them, and none owned by another port (R314,
R367). -/
abbrev HostMayAll (h : Machine.Hub) (q : PortId) : Prop :=
  h.powered = true ∧ h.controlsAll q = true ∧ PlaneId.all.any (h.foreign q) = false

/-- Hub g differs from h at most in plane p with what it shows to reads, and in the causes, messages and sequence numbers its causes
leave in the ports. -/
def OnlyPlane (p : PlaneId) (h g : Machine.Hub) : Prop :=
  g = { h with
    planes := h.planes.set p (g.plane p), shots := h.shots.set p (g.shots.get p), ports := g.ports, freeIdx := g.freeIdx } ∧
  ∀ q : PortId, g.port q =
    { h.port q with acause := (g.port q).acause, msgs := (g.port q).msgs, attnSeq := (g.port q).attnSeq }

/-- The buffers of a hub hold no more than their depth: the outgoing queue of a plane 16 records, every queue of a link, a group
and the Chimney 8 entries, the unit's log buffer 64 records, a port 4 scheduled transactions and 2 blocks of configuration data. -/
def BuffersFit (h : Machine.Hub) : Prop :=
  (∀ p, (h.plane p).outq.length ≤ 16) ∧
  (∀ p, ∀ l : Fin 32, (h.plane p).link[l.val].dqCmd.q.length ≤ 8 ∧ (h.plane p).link[l.val].dqBulk.q.length ≤ 8 ∧
    (h.plane p).link[l.val].uqStat.q.length ≤ 8 ∧ (h.plane p).link[l.val].uqBulk.q.length ≤ 8) ∧
  (∀ p, ∀ g : Fin 32, (h.plane p).gq[g.val].q.length ≤ 8) ∧
  (∀ i : Fin 16, (h.chim.out[i.val]).q.length ≤ 8 ∧ (h.chim.inq[i.val]).q.length ≤ 8) ∧
  h.log.waiting.length ≤ 64 ∧ ∀ q : PortId, (h.port q).scheds.length ≤ 4 ∧ (h.port q).blocks.length ≤ 2

/-- A plane in Husk, in mode HOLD, with Ember forced, in a reload, or with its word clock stopped has no switch pending (R68, R69, R86,
R303). -/
def SwitchFits (x : Machine.Plane) : Prop :=
  (x.loop.state = .husk ∨ x.sel.mode = .hold ∨ x.loop.forced = true ∨ x.reloading = true ∨ x.clocked = false) → x.sel.sw = none

/-- Hub g differs from h at most in port q. -/
def OnlyPort (q : PortId) (h g : Machine.Hub) : Prop :=
  g = { h with ports := g.ports } ∧ ∀ r : PortId, r ≠ q → g.port r = h.port r

end Sys2Proof
end

