-- ==== Sys2Proof/Certificates/Slice0/Obligations.lean ====
section
/-! DEFINITION. The statements for the provers: each is a property of the model, named for what it states. Throughout, that a command
whose event cannot occur changes nothing is the model's choice (log entry 4), and so is that a command of a timed row says that its
instant has come (log entry 1). -/

open Sys2Proof Sys2Proof.Machine

/-! ### The machine as a whole -/

/-- A step takes the command at the front of the queue and is that command's meaning on the queue's rest. An empty queue leaves
the block as it is; that is the model's choice (log entry 2). -/
def Obligations.StepRunsTheFrontCommand : Prop :=
  (∀ (c : Instr) (s : State), step { s with pending := c :: s.pending } = exec c s) ∧
  ∀ s : State, s.pending = [] → step s = .next s

/-- Every command answers a next state and leaves the rest of the queue to the steps that follow. That one refused is recorded and
stops nothing, and one whose event cannot occur changes nothing, is the model's choice (log entries 78 and 4). -/
def Obligations.EveryCommandAnswersAndKeepsTheQueue : Prop :=
  ∀ (c : Instr) (s : State), ∃ h, exec c s = .next { s with hub := h }

/-- Reset leaves a hub without power, with every plane off, no command waiting, no password failure counted and its memories in
canonical form; the values the spec does not give are the model's (log entry 10). Reset meets what every step keeps: the pages
in RAM and the two configuration slots in canonical form, the buffers within their depth, no loop with a reference in it, and no switch
pending where none may be. -/
def Obligations.ResetLeavesAnUnpoweredHub : Prop :=
  (State.reset.pending = [] ∧ State.reset.hub.powered = false ∧ State.reset.hub.upstate = .kindling ∧
   (∀ p, (State.reset.hub.plane p).power = .off ∧ (State.reset.hub.plane p).loop.state = .free ∧
     (State.reset.hub.plane p).grid.reg = false ∧ (State.reset.hub.plane p).owner = none) ∧
   State.reset.hub.chim.role = .solo ∧ State.reset.hub.nv.fails = 0 ∧ State.reset.hub.freeIdx = 0) ∧
  ((State.reset.hub.nv.ram.wf = true ∧ ∀ i : Fin 2, State.reset.hub.cfg.slot[i.val].mem.wf = true) ∧
   BuffersFit State.reset.hub ∧
   ∀ p, (State.reset.hub.plane p).loop.inLoop = (State.reset.hub.plane p).loop.state.inLoop ∧
     SwitchFits (State.reset.hub.plane p))

/-- A byte written reads back, and every other byte stays. Two memories in canonical form that read alike at every address are the
same data. -/
def Obligations.MemoryHoldsWhatWasWritten : Prop :=
  (∀ (m : Memory) (a : Nat) (b : Byte), m.wf = true →
     (m.write a b).read a = b ∧ ∀ c, c ≠ a → (m.write a b).read c = m.read c) ∧
  (∀ m n : Memory, m.wf = true → n.wf = true → (∀ a, m.read a = n.read a) → m = n)

/-- Every step keeps the memories in canonical form, so that equal contents are equal data. -/
def Obligations.EveryStepKeepsTheMemoriesCanonical : Prop :=
  ∀ s t : State, step s = .next t →
    (s.hub.nv.ram.wf = true ∧ ∀ i : Fin 2, s.hub.cfg.slot[i.val].mem.wf = true) →
    (t.hub.nv.ram.wf = true ∧ ∀ i : Fin 2, t.hub.cfg.slot[i.val].mem.wf = true)

/-- What was made into the unit at manufacture, its factory key and certificate among it, is the same after every step. -/
def Obligations.EveryStepKeepsTheIdentity : Prop :=
  ∀ s t : State, step s = .next t → t.hub.ident = s.hub.ident

/-- The buffers of a hub hold no more than their depth: the outgoing queue of a plane 16 records, every queue of a link, a group
and the Chimney 8 entries, the unit's log buffer 64 records, a port 4 scheduled transactions and 2 blocks of configuration data. -/
def Obligations.EveryStepKeepsTheBuffersBounded : Prop :=
  ∀ s t : State, step s = .next t → BuffersFit s.hub → BuffersFit t.hub

/-- In every plane the mark that a reference is in the loop agrees with the loop's state: ACQUIRE and LOCKED, and no other. And no
switch is pending in a plane in Husk, in mode HOLD, with Ember forced, in a reload or with its word clock stopped. -/
def Obligations.EveryStepKeepsTheLoopMarkRight : Prop :=
  (∀ s t : State, step s = .next t → (∀ p, (s.hub.plane p).loop.inLoop = (s.hub.plane p).loop.state.inLoop) →
    ∀ p, (t.hub.plane p).loop.inLoop = (t.hub.plane p).loop.state.inLoop) ∧
  ∀ s t : State, step s = .next t → (∀ p, SwitchFits (s.hub.plane p)) → ∀ p, SwitchFits (t.hub.plane p)

/-- A lockout of the parameter store lasts through every step but the Kindling of a hub without power. -/
def Obligations.OnlyKindlingEndsALockout : Prop :=
  ∀ s t : State, step s = .next t → s.hub.nv.lock = true →
    (∀ sda ok rest, s.pending = .kindling sda ok :: rest → s.hub.powered = true) → t.hub.nv.lock = true

/-- An event inside a plane changes that plane alone: no other plane, no memory, no unit register, no log and no queue of the unit, and of
a port only its causes and the messages they call for; what the plane shows to reads until its next boundary goes with it. A marker that a
joined leader announces to its partner goes beyond the plane. It is the model's choice that a timed command says its instant has come (log
entry 1). -/
def Obligations.PlaneEventsChangeTheirPlaneAlone : Prop :=
  ∀ (s : State) (p : PlaneId) (b : Bool) (g : Fin 8) (cyc : Fin 40) (l : Fin 32) (n : Fin 7) (rx : Slot0Rx) (w : BitVec 64)
    (ty : Byte) (i : Fin 16) (u : Fin 4) (co : Comma) (fine : BitVec 9) (src : MarkerSrc) (k m : Nat) (v : Int) (tc : Fin 2)
    (irig : IrigFrame) (pdu : EsmcFrame) (c : Instr),
    c ∈ [.ovenFault p b, .planeSupplyFault p, .planeSupplyRestored p, .configCrcCheck p b, .generatorEvent p g cyc,
      .generatorEnqueue p g cyc, .readoutGapStart p, .deferredActionsResume p, .linkSignalLoss p l, .linkSignalPresent p l,
      .linkMonitorGraceExpiry p l, .slotCheckFailure p l ⟨g, co⟩, .damperTimeout p l, .trafficSlotStart p n,
      .upstreamTimeSlot p l cyc rx, .primitiveReceived p l cyc w, .upstreamVetoReceived p l cyc w, .statusReceived p l cyc w,
      .cmdAckReceived p l cyc w, .upstreamBulkReceived p l cyc w, .trainHoldCompleteReceived p l cyc w,
      .reservedMessageReceived p l cyc ty w, .tiRisingCrossing p i cyc fine, .timeMarkerCapture p src cyc k m,
      .vcobUnlock p b, .outputDrainComplete p i, .outputStart p i, .fineMoveComplete p i, .puPulseStart p u, .puPulseEnd p ⟨u, cyc⟩,
      .puAssignmentEffect p u ⟨cyc, k⟩, .toPulseStart p i, .toPulseEnd p ⟨i, cyc⟩, .acquireTimeout p, .slewComplete p, .driftFitUpdate p,
      .holdLimitExpiry p l, .refLossDeclared p u, .refActiveAgain p u, .timecodeFrame p tc irig, .timecodeFrameMissing p tc,
      .tcQualityEffect p tc, .esmcPduReceived p pdu, .esmcQualityEffect p, .esmcTimeout p, .freqOffsetMeasurement p u v,
      .phaseJumpMean p u v, .waitToRestoreExpiry p u, .selectionTick p] →
    (s.hub.joined = false ∨ c ≠ .timeMarkerCapture p src cyc k m) →
    Completes c s (OnlyPlane p s.hub)

/-- A host's write of a plane changes that plane alone, where it is taken, and the writing port's refusal record alone, where it
is not. -/
def Obligations.HostWritesChangeTheirPlaneAlone : Prop :=
  ∀ (s : State) (q : PortId) (p : PlaneId) (b : Bool) (g : Fin 8) (y : Byte) (x1 x2 x3 : Word) (uf : BitVec 9) (l : Fin 32)
    (d : BitVec 16) (h : BitVec 12) (cell : Fin 128) (v : Int) (o : Fin 20) (i : Fin 16) (k : BitVec 17) (f : BitVec 10)
    (u : Fin 4) (width : BitVec 24) (m : LoopMode) (prio : Vector (BitVec 4) 4) (bw : BitVec 4) (w : BitVec 64) (c : Instr),
    c ∈ [.generatorEnableWrite q p g b, .bintWrite q p b y, .userGeneratorWrite q p x1 x2 x3 uf,
      .epochPhaseDelayWrite q p l x1 x2, .linkDelayWrite q p l x1 x2, .hostDamperWrite q p l d, .historyClear q p h,
      .parameterCellWrite q p cell x1, .realignRequest q p, .realignCancel q p, .gridOffsetWrite q p v,
      .outputGateWrite q p o b, .outputDelayWrite q p i k f, .puSettingsWrite q p u g d y width, .toFineDelayWrite q p i y,
      .loopModeWrite q p m, .forcedRefWrite q p u, .referencePriorityWrite q p b prio, .bandwidthCodeWrite q p bw,
      .freqWrite q p x1, .enqueueCmd q p l w, .enqueueBulk q p l w, .popUqStat q p l, .popUqBulk q p l,
      .injectTestAccept q p l w, .trainingHoldRequest q p l, .trainingHoldHostEnd q p l, .ownershipClaim q p] →
    Completes c s fun t =>
      OnlyPlane p s.hub t ∨ t = s.hub ∨ ∃ a r reason, t = s.hub.modPort q fun e => e.refuse a r reason

/-- A word refused is recorded in the writing port with the first reason that applies, in the order RIGHT, OWNER, RANGE, HUSK,
STATE, and counted once up to 255; the first refusal recorded stays, and nothing else changes. -/
def Obligations.RefusalKeepsTheFirstReason : Prop :=
  ∀ (s : State) (q : PortId) (p : PlaneId) (v : Int), s.hub.powered = true →
    (HostMay s.hub q p → v < -250000000 ∨ 249999999 < v ∨ (s.hub.plane p).inHusk = true →
      Completes (.gridOffsetWrite q p v) s fun h =>
        let old := (s.hub.port q).ref
        let new := (h.port q).ref
        let why := if v < -250000000 ∨ 249999999 < v then Reason.range else Reason.husk
        OnlyPort q s.hub h ∧ new.reason = (if old.count = 0 then why else old.reason) ∧
        new.treg = (if old.count = 0 then 0x0E else old.treg) ∧ new.count.toNat = min (old.count.toNat + 1) 255) ∧
    (s.hub.controls q p = false →
      Completes (.gridOffsetWrite q p v) s fun h =>
        let old := (s.hub.port q).ref
        let new := (h.port q).ref
        OnlyPort q s.hub h ∧ new.reason = (if old.count = 0 then Reason.right else old.reason) ∧
        new.count.toNat = min (old.count.toNat + 1) 255) ∧
    (s.hub.controls q p = true → s.hub.foreign q p = true →
      Completes (.gridOffsetWrite q p v) s fun h =>
        let old := (s.hub.port q).ref
        let new := (h.port q).ref
        OnlyPort q s.hub h ∧ new.reason = (if old.count = 0 then Reason.owner else old.reason) ∧
        new.count.toNat = min (old.count.toNat + 1) 255) ∧
    (s.hub.controls q p = true → s.hub.foreign q p = false → s.hub.active p = false → -250000000 ≤ v → v ≤ 249999999 →
      (s.hub.plane p).inHusk = false →
      Completes (.gridOffsetWrite q p v) s fun h =>
        let old := (s.hub.port q).ref
        let new := (h.port q).ref
        OnlyPort q s.hub h ∧ new.reason = (if old.count = 0 then Reason.state else old.reason) ∧
        new.count.toNat = min (old.count.toNat + 1) 255)

/-! ### Rules stated whole -/

/-- A page with no valid record in the sector in use reads 0xFF in each of its bytes once the hub is kindled, whatever its RAM
held before. -/
def Obligations.PagesNeverWrittenReadErased : Prop :=
  ∀ (s : State) (sda : Vector Bool 3) (ok : Bool) (n : Fin 128), s.hub.powered = false → s.hub.conv = true →
    s.hub.nv.newest (BitVec.ofNat 16 n.val) = none →
    Completes (.kindling sda ok) s fun h => ∀ i : Fin 32, h.nv.ram.read (32 * n.val + i.val) = 0xFF

/-- An upstream BULK whose SEQ equals that of the previous BULK of its stream on the link is discarded and counted, and stale
PRIMITIVE and VETO messages are discarded. -/
def Obligations.DuplicateAndStaleMessagesAreDiscarded : Prop :=
  ∀ (s : State) (p : PlaneId) (l : Fin 32) (c : Fin 40) (w : BitVec 64), s.hub.active p = true →
    (s.hub.plane p).time.cyc = c.val → (s.hub.plane p).delivers l = true → (s.hub.plane p).flt.inj.chk ≠ 2 →
    ((msgNum w, BitVec.ofNat 8 (bits w 55 48)) ∈ (s.hub.plane p).link[l.val].bulkSeq →
      Completes (.upstreamBulkReceived p l c w) s fun h =>
        (h.plane p).link = (s.hub.plane p).link ∧ (h.plane p).cnt[22].count = (s.hub.plane p).cnt[22].count + 1) ∧
    ∀ t : Nat, msgCycle (s.hub.plane p).time.now w = some t →
      t + (s.hub.plane p).sect.links[l.val].p.toNat < (s.hub.plane p).time.now →
      Completes (.primitiveReceived p l c w) s (fun h =>
        (h.plane p).fab = (s.hub.plane p).fab ∧ (h.plane p).cnt[24].count = (s.hub.plane p).cnt[24].count + 1) ∧
      Completes (.upstreamVetoReceived p l c w) s fun h => (h.plane p).fab = (s.hub.plane p).fab

/-- An opener whose τ lies inside a window its EVENT unit has already opened is ignored and counted: no window of the unit is
opened or extended. -/
def Obligations.OpenerInsideAWindowIsIgnored : Prop :=
  ∀ (s : State) (p : PlaneId) (u : Fin 64) (ref : Nat) (o : Sig) (gs : List Signal),
    s.hub.fabricRuns p = true → (s.hub.plane p).sect.fabric.wins[u.val].used = true →
    (s.hub.plane p).sect.fabric.wins[u.val].grid = false → (s.hub.plane p).sect.fabric.wins[u.val].opener = some o →
    (s.hub.plane p).pulses o ref = gs →
    (∀ g ∈ gs, ∃ w ∈ (s.hub.plane p).fab.wins[u.val], w.lo ≤ g.tau ∧ (g.tau : Int) < w.hi) →
    Completes (.windowOpen p u ref) s fun h =>
      (h.plane p).fab = { (s.hub.plane p).fab with pend := (h.plane p).fab.pend } ∧
      (h.plane p).cnt[25].count = (s.hub.plane p).cnt[25].count + BitVec.ofNat 48 gs.length

/-- A window is the half-open interval [τ_open, τ_close): an event at τ_open is a member, one at τ_close is not, and belongs to
the next window where the windows of a lattice follow one another. -/
def Obligations.WindowsAreHalfOpen : Prop :=
  ∀ (x : Plane) (d : WinDecl) (a b c : Int) (s : Signal), s ∈ x.fab.sigs → s.src ∈ d.members → a < b → b < c →
    (s ∈ x.membersIn d a b ↔ a ≤ (s.tau : Int) ∧ (s.tau : Int) < b) ∧
    ((s.tau : Int) = a → s ∈ x.membersIn d a b) ∧
    ((s.tau : Int) = b → s ∉ x.membersIn d a b ∧ s ∈ x.membersIn d b c)

/-- A plane's outgoing queue holds 16 records. At a full queue a new record is discarded and the lost-record counter of the plane
increments; the plane's history and fault bits, and all else of it, do not depend on the queue. -/
def Obligations.FullOutgoingQueueLosesTheRecord : Prop :=
  ∀ (x : Plane) (r : OutRec),
    (x.outq.length < 16 → x.send r = { x with outq := x.outq ++ [r] }) ∧
    (16 ≤ x.outq.length → ∃ c, x.send r = { x with cnt := c } ∧ (c)[20].count = x.cnt[20].count + 1 ∧
      ∀ i : Fin 32, i ≠ 20 → (c)[i.val] = x.cnt[i.val])

/-! ### Power, Kindling and the oven -/

/-- Kindling of a hub without power whose converter runs starts it, and power good does not come without the converter; loss of power good
stops the hub and its store, and the converter with it where that has stopped; the converter's start is noted. That the planes stand as
they were at the loss is the model's choice (log entry 76). At Kindling the boot slot's image, when it passes its check, comes into force:
its unit section, and each plane's section with the plane running. It is the model's choice that a command whose event cannot occur
changes nothing (log entry 4). -/
def Obligations.PowerAndKindlingComplete : Prop :=
  ((∀ (s : State) (sda : Vector Bool 3) (ok : Bool), s.hub.powered = false → s.hub.conv = false →
     Completes (.kindling sda ok) s fun h => h = s.hub) ∧
   (∀ (s : State) (sda : Vector Bool 3) (ok : Bool), s.hub.powered = false → s.hub.conv = true →
     Completes (.kindling sda ok) s fun h =>
       h.powered = true ∧ h.conv = true ∧ h.upstate = .kindling ∧ h.ident = s.hub.ident ∧
       (∀ p, (h.plane p).power = .off ∧ (h.plane p).loop.state = .free ∧ (h.plane p).owner = none) ∧
       ∀ q : PortId, (h.port q).answers = true ∧ (h.port q).rpwok = false ∧ (h.port q).wpwok = false) ∧
   (∀ (s : State) (loss : PowerLoss), s.hub.powered = true →
     Completes (.powerGoodLoss loss) s fun h =>
       h.powered = false ∧ h.conv = (s.hub.conv && !loss.converter) ∧ h.nv.op = none ∧ h.cfg = s.hub.cfg ∧ h.planes = s.hub.planes ∧ h.log = s.hub.log) ∧
   (∀ s : State, Completes .converterStart s fun h => h = { s.hub with conv := true })) ∧
  (∀ (s : State) (reads : Vector SlotRead 2) (f : ImageFile), s.hub.powered = true → s.hub.upstate = .kindling →
     s.hub.cfg.applied = false → reads[s.hub.cfg.boot.val] = .bytes f → s.hub.checkImage f = 0 →
     Completes (.imageApply reads) s fun h =>
       h.cfg.applied = true ∧ h.cfg.uslot = s.hub.cfg.boot ∧ h.udig = f.sdigU ∧
       ∀ p, (h.plane p).sect = f.planes.get p ∧ (h.plane p).sdig = f.sdig.get p ∧ (h.plane p).power = .run ∧
         (h.plane p).grid.reg = false ∧ (h.plane p).sel.mode = (f.planes.get p).mode ∧
         (h.plane p).sel.fref = (f.planes.get p).fref)

/-- An oven that settles opens its plane's gate and ends source 11; one that has not settled by the time limit has its gate opened with
source 11 live. The plane's physical conditions: an oven that fails after its gate has opened, its supply, and its configuration memory,
whose mismatch stands. It is the model's choice that a timed command says its instant has come (log entry 1). -/
def Obligations.PlaneConditionsRaiseTheirSources : Prop :=
  ((∀ (s : State) (p : PlaneId), s.hub.active p = true →
     Completes (.ovenSettled p) s fun h =>
       (h.plane p).oven.settled = true ∧ (h.plane p).oven.gate = true ∧ (h.plane p).flt.src[11].det = false) ∧
   (∀ (s : State) (p : PlaneId), s.hub.active p = true → (s.hub.plane p).oven.settled = false →
     Completes (.ovenGateTimeout p) s fun h =>
       (h.plane p).oven.settled = false ∧ (h.plane p).oven.gate = true ∧ (h.plane p).flt.src[11].live = true)) ∧
  (∀ (s : State) (p : PlaneId), s.hub.active p = true →
     ((s.hub.plane p).oven.gate = true →
       Completes (.ovenFault p true) s fun h => (h.plane p).flt.src[11].live = true ∧ (h.plane p).flt.src[11].cond = true) ∧
     Completes (.ovenFault p false) s (fun h => (h.plane p).flt.src[11].det = false ∧ (h.plane p).flt.src[11].cond = false) ∧
     Completes (.planeSupplyFault p) s (fun h => (h.plane p).flt.src[43].live = true ∧ (h.plane p).flt.src[43].cond = true) ∧
     Completes (.planeSupplyRestored p) s (fun h =>
       (h.plane p).flt.src[43].det = false ∧ (h.plane p).flt.src[43].sticky = (s.hub.plane p).flt.src[43].sticky) ∧
     Completes (.configCrcCheck p false) s (fun h =>
       (h.plane p).flt.src[47].live = true ∧ (h.plane p).flt.src[47].cond = true) ∧
     Completes (.configCrcCheck p true) s fun h => (h.plane p).flt = (s.hub.plane p).flt)

/-! ### The grid's instants and the housekeeping domain -/

/-- (The model's choices here: what a boundary and a PPS carry and when the bank is gathered, log entries 19 and 21, and the instants at
which ages count and the ESMC age stops, log entry 24.) A frame boundary counts one frame, and carries over into the second after frame 12,499,999. A plane that has left cycle 0
publishes the bank it gathered there. A PPS opens a second; a group boundary puts the announced delays of every link in force
and announces requested holds; a millisecond ages the ESMC quality and turns over the overflow marks. -/
def Obligations.GridInstantsCountTime : Prop :=
  (∀ (s : State) (p : PlaneId), s.hub.active p = true →
     Completes (.frameBoundary p) s fun h =>
       let x := s.hub.plane p
       let y := h.plane p
       y.time.cyc = 0 ∧ y.time.frames = x.time.frames + 1 ∧
       (x.time.frame + 1 < 12500000 → y.time.sec = x.time.sec ∧ y.time.frame = x.time.frame + 1) ∧
       (12500000 ≤ x.time.frame + 1 → y.time.sec = x.time.sec + 1 ∧ y.time.frame = 0) ∧
       (x.time.cyc ≠ 0 → y.bank = x.fill)) ∧
  ((∀ (s : State) (p : PlaneId) (m : PpsMeas), s.hub.active p = true →
     Completes (.pps p m) s fun h =>
       let x := s.hub.plane p
       let y := h.plane p
       y.time.sec = x.time.sec + 1 ∧ y.time.frame = 0 ∧ y.time.cyc = 0 ∧ y.vcobDif = (m.vcob : Int) - x.sect.fB) ∧
   (∀ (s : State) (p : PlaneId) (b : Option PartnerBank), s.hub.active p = true →
     Completes (.groupBoundary p b) s fun h =>
       let x := s.hub.plane p
       let y := h.plane p
       (∀ l : Fin 32, x.link[l.val].ann.isSome = true → x.link[l.val].ann = some (y.link[l.val].d, y.link[l.val].turn)) ∧
       ∀ g : Fin 32, x.hold[g.val].phase = .requested → y.hold[g.val].phase = .announced) ∧
   (∀ (s : State) (p : PlaneId) (m : MsMeas), s.hub.active p = true →
     Completes (.millisecondBoundary p m) s fun h =>
       let x := s.hub.plane p
       let y := h.plane p
       y.esmc.ms = min (x.esmc.ms + 1) 6300 ∧
       ∀ l : Fin 32, y.link[l.val].dqCmd.ovLast = x.link[l.val].dqCmd.ovNow ∧ y.link[l.val].dqCmd.ovNow = false))

/-- The housekeeping domain samples its immediate conditions and ages its event sources; it takes the oldest record of a plane, sending a
joined follower's cause on over lane 3, as the message that is the model's choice (log entry 74), and writing a log entry at its ring
position unless the ring waits; a plane sees what was handed over to it, in order; and the records that waited are written once an erase
is complete. A suspended comparison gives no reading, which is the model's choice of what it shows (log entry 37). A comparison in
progress keeps its reading: it is exceeded from the third consecutive reading on that is beyond the threshold, or whose time counters
differed, until the third consecutive one within it, and beyond 600 ps at once until the third consecutive one within them. It is the
model's choice that a command whose event cannot occur changes nothing (log entry 4) and that a timed command says its instant has come
(log entry 1). -/
def Obligations.HousekeepingCommandsComplete : Prop :=
  ((∀ s : State, s.hub.powered = true → Completes .housekeepingTick s fun h =>
     h.usrc[16].det = s.hub.nv.lock ∧
     h.usrc[17].det = s.hub.nv.erases.toList.any (fun n => decide (80000 ≤ n)) ∧
     (∀ q : PortId, h.usrc[24 + q.val].det = (s.hub.port q).acause.toList.any fun w => bitAt w 31) ∧
     h.usrc[27].det = s.hub.usrc[27].cond ∧ h.usrc[28].det = s.hub.usrc[28].cond ∧
     h.usrc[29].det = s.hub.usrc.toList.any (·.wire) ∧
     (∀ n : Fin 32, n.val ∈ [16, 17, 24, 25, 26, 27, 28, 29] →
       h.usrc[n.val].live = (h.usrc[n.val].det || h.usrc[n.val].wire)) ∧
     (∀ n : Fin 32, h.usrc[n.val].ev = s.hub.usrc[n.val].ev - 1) ∧
     (∀ n : Fin 32, n.val ∉ [16, 17, 24, 25, 26, 27, 28, 29] →
       h.usrc[n.val].det = (s.hub.usrc[n.val].det && s.hub.usrc[n.val].ev != 1)) ∧
     (∀ q : PortId, (h.port q).ufresh = 0) ∧
     (∀ i : Fin 16, s.hub.following = false ∨ i ≠ 3 →
       h.chim.out[i.val].occ = if s.hub.chim.out[i.val].nthr.toNat < s.hub.chim.out[i.val].q.length then
       s.hub.chim.out[i.val].occ.add 20 else s.hub.chim.out[i.val].occ) ∧
     (∀ i : Fin 16, h.chim.inq[i.val].occ = if s.hub.chim.inq[i.val].nthr.toNat < s.hub.chim.inq[i.val].q.length then
       s.hub.chim.inq[i.val].occ.add 20 else s.hub.chim.inq[i.val].occ) ∧
     (s.hub.following = false → h.planes = s.hub.planes) ∧ h.nv = s.hub.nv ∧ h.log = s.hub.log ∧ h.cfg = s.hub.cfg) ∧
   (∀ (s : State) (p : PlaneId) (b : Nat) (rest : List OutRec), s.hub.powered = true →
     (s.hub.plane p).outq = .cause b :: rest →
     (s.hub.following = false →
       Completes (.housekeepingRecordTake p) s fun h => h = s.hub.modPlane p fun x => { x with outq := rest }) ∧
     (s.hub.following = true → s.hub.chim.out[3].q.length < 8 → Completes (.housekeepingRecordTake p) s fun h =>
       h.planes = (s.hub.modPlane p fun x => { x with outq := rest }).planes ∧
       h.chim.out[3].q = s.hub.chim.out[3].q ++ [{ type := BitVec.ofNat 8 b, payload := BitVec.ofNat 64 (offOf p).val }])) ∧
   (∀ (s : State) (p : PlaneId) (e : LogRec) (rest : List OutRec), s.hub.powered = true →
     (s.hub.plane p).outq = .log e :: rest →
     (s.hub.log.blocked = false → Completes (.housekeepingRecordTake p) s fun h =>
       (h.plane p) = { s.hub.plane p with outq := rest } ∧ h.log.seq = s.hub.log.seq + 1 ∧
       (s.hub.log.pos, e.words s.hub.log.seq) ∈ h.log.ring ∧ h.log.waiting = s.hub.log.waiting ∧
       h.ucnt[5].count = s.hub.ucnt[5].count + 1) ∧
     (s.hub.log.blocked = true → Completes (.housekeepingRecordTake p) s fun h => h = s.hub)) ∧
   (∀ (s : State) (p : PlaneId), s.hub.active p = true →
     Completes (.unitValueHandover p) s fun h =>
       let x := s.hub.plane p
       h.hand = s.hub.hand.set p [] ∧
       (h.plane p).flt.fired = x.flt.fired ++ ((s.hub.hand.get p).filterMap fun v =>
         match v with
         | .fire n => some (n, x.time.clk)
         | .snapshot => none
         | .standby _ => none
         | .force _ _ => none) ∧
       (h.plane p).commits = ((s.hub.hand.get p).filterMap fun v =>
         match v with
         | .fire _ => none
         | .snapshot => none
         | .standby b => some (WriteKind.standby b)
         | .force n b => some (WriteKind.force n b)).foldl (fun l k => insertWrite
           { port := 0, plane := p, off := 0, cfg := {}, kind := k, seen := x.time.clk } l) x.commits ∧
       h.snap.seen.get p = (if Hand.snapshot ∈ s.hub.hand.get p then some x.time.clk else s.hub.snap.seen.get p) ∧
       h.usrc = s.hub.usrc ∧ h.ports = s.hub.ports ∧ ∀ r, r ≠ p → h.plane r = s.hub.plane r) ∧
   (∀ s : State, s.hub.powered = true → s.hub.log.waiting.length ≤ 64 →
     Completes .logEraseComplete s fun h =>
       let k := h.log.seq - s.hub.log.seq
       s.hub.log.seq ≤ h.log.seq ∧ k ≤ s.hub.log.waiting.length ∧ h.log.waiting = s.hub.log.waiting.drop k ∧
       (h.log.waiting = [] ∨ h.log.blocked = true) ∧
       (s.hub.log.waiting = [] → h.log = { s.hub.log with erasing := none }) ∧
       (∀ r ∈ s.hub.log.waiting.head?, (s.hub.log.pos, r.words s.hub.log.seq) ∈ h.log.ring) ∧
       h.planes = s.hub.planes)) ∧
  (∀ (s : State) (i : Fin 3) (d : Int), s.hub.powered = true →
     (s.hub.compares i = true → Completes (.comparatorReading i d) s fun h =>
       let c := s.hub.cmp[i.val]
       let e := h.cmp[i.val]
       let above := c.frameMis || decide (10 * s.hub.udecl.groupTolPs < d.natAbs)
       let far := c.frameMis || decide (6000 < d.natAbs)
       e.reading = d ∧ e.valid = true ∧ e.mism = c.frameMis ∧ e.frameMis = false ∧
       (above = true → e.exceed = (c.exceed || decide (2 ≤ c.overRun)) ∧ e.overRun = min (c.overRun + 1) 3 ∧ e.clearRun = 0) ∧
       (above = false → e.exceed = (c.exceed && decide (c.clearRun < 2)) ∧ e.clearRun = min (c.clearRun + 1) 3 ∧
         e.overRun = 0) ∧
       (far = true → e.beyond = true ∧ e.inRun = 0) ∧
       (far = false → e.beyond = (c.beyond && decide (c.inRun < 2)) ∧ e.inRun = min (c.inRun + 1) 3) ∧
       (∀ j : Fin 3, j ≠ i → h.cmp[j.val] = s.hub.cmp[j.val]) ∧
       (e.exceed ≠ c.exceed → ∀ q : PortId, bitAt (h.port q).acause[(offOf (cmpPlanes i).1).val] 19 = true ∧
         bitAt (h.port q).acause[(offOf (cmpPlanes i).2).val] 19 = true)) ∧
     (s.hub.compares i = false → Completes (.comparatorReading i d) s fun h =>
       h = { s.hub with cmp := upd s.hub.cmp i fun c => { c with valid := false, frameMis := false } }))

/-! ### References, quality and selection -/

/-- Activity: a reference declared lost fails activity and is LOST where it is enabled; one declared active again starts its tests anew
and waits to be restored, unless its quality fails it; a wait that expires qualifies it. Every other reference keeps its state. The
frequency test fails beyond FOFF, passes within 0.8 FOFF and keeps its result between; the phase test fails on a jump beyond PJMP and
passes after ten means in a row within it. A test of a reference that is not active has no measurement, and a reference that is not
enabled is not monitored. It is the model's choice that a timed command says its instant has come (log entry 1). -/
def Obligations.ReferenceActivityAndTestsComplete : Prop :=
  ((∀ (s : State) (p : PlaneId) (r : Fin 4), s.hub.active p = true →
     Completes (.refLossDeclared p r) s fun h =>
       let x := s.hub.plane p
       let y := h.plane p
       y.ref[r.val].act = false ∧ y.ref[r.val].foffFail = false ∧ y.ref[r.val].pjmpFail = false ∧
       y.ref[r.val].pjmpLast = none ∧
       y.ref[r.val].state = (if x.sect.refs[r.val].enabled then .lost else .off) ∧
       (x.sect.refs[r.val].enabled = true → x.ref[r.val].state ≠ .lost → y.flt.src[r.val].live = true) ∧
       ∀ i : Fin 4, i ≠ r → y.ref[i.val].state = x.ref[i.val].state) ∧
   (∀ (s : State) (p : PlaneId) (r : Fin 4), s.hub.active p = true →
     Completes (.refActiveAgain p r) s fun h =>
       let x := s.hub.plane p
       let y := h.plane p
       (x.sect.refs[r.val].enabled = false → y.ref = x.ref) ∧
       (x.sect.refs[r.val].enabled = true →
         y.ref[r.val].act = true ∧ y.ref[r.val].foffFail = false ∧ y.ref[r.val].pjmpFail = false ∧
         y.ref[r.val].pjmpLast = none ∧ y.ref[r.val].hql = x.sourceHql r ∧
         y.ref[r.val].state = if y.ref[r.val].hql = 0 then .failed
           else if x.ref[r.val].state = .qualified then .qualified else .wait) ∧
       (y.ref[r.val].state = .wait → x.ref[r.val].state ≠ .wait →
         y.ref[r.val].wtr = if x.ref[r.val].everQual then x.sect.refs[r.val].wtrSec else 10) ∧
       ∀ i : Fin 4, i ≠ r → y.ref[i.val].state = x.ref[i.val].state) ∧
   (∀ (s : State) (p : PlaneId) (r : Fin 4), s.hub.active p = true → (s.hub.plane p).ref[r.val].state = .wait →
     Completes (.waitToRestoreExpiry p r) s fun h =>
       let x := s.hub.plane p
       let y := h.plane p
       y.ref[r.val].state = .qualified ∧ y.ref[r.val].everQual = true ∧ y.ref[r.val].wtr = 0 ∧
       ∀ i : Fin 4, i ≠ r → y.ref[i.val].state = x.ref[i.val].state)) ∧
  ((∀ (s : State) (p : PlaneId) (r : Fin 4) (v : Int), s.hub.active p = true →
     Completes (.freqOffsetMeasurement p r v) s fun h =>
       let x := s.hub.plane p
       let foff := x.sect.refs[r.val].foffPpm * 1000000
       let old := x.ref[r.val].foffFail
       let new := (h.plane p).ref[r.val].foffFail
       ((x.ref[r.val].act = false ∨ x.sect.refs[r.val].enabled = false) → (h.plane p).ref = x.ref) ∧
       (x.ref[r.val].act = true → x.sect.refs[r.val].enabled = true →
         (foff < v.natAbs → new = true) ∧ (v.natAbs * 10 ≤ foff * 8 → new = false) ∧
         (v.natAbs ≤ foff → foff * 8 < v.natAbs * 10 → new = old) ∧
         (new = true → (h.plane p).ref[r.val].state = .failed))) ∧
   (∀ (s : State) (p : PlaneId) (r : Fin 4) (m : Int), s.hub.active p = true →
     Completes (.phaseJumpMean p r m) s fun h =>
       let x := s.hub.plane p
       let limit := x.sect.refs[r.val].pjmpNs * 1000
       let f := x.ref[r.val]
       let g := (h.plane p).ref[r.val]
       ((f.act = false ∨ x.sect.refs[r.val].enabled = false) → (h.plane p).ref = x.ref) ∧
       (f.act = true → x.sect.refs[r.val].enabled = true →
         g.pjmpLast = some m ∧ (f.pjmpLast = none → g.pjmpFail = f.pjmpFail ∧ g.pjmpGood = f.pjmpGood) ∧
         (∀ l ∈ f.pjmpLast,
           (limit < (m - l).natAbs → g.pjmpFail = true ∧ g.pjmpGood = 0) ∧
           ((m - l).natAbs ≤ limit → 9 ≤ f.pjmpGood → g.pjmpFail = false) ∧
           ((m - l).natAbs ≤ limit → f.pjmpGood < 9 → g.pjmpFail = f.pjmpFail)) ∧
         (g.pjmpFail = true → g.state = .failed))))

/-- Timecode: one valid frame makes the timecode valid, names its second and is compared with the grid's; an invalid or missing one
counts, the third in a row makes the timecode invalid and discards its quality; a quality code takes effect once three valid frames in a
row carried it. ESMC: a valid PDU waits with its SSM, an invalid slow-protocol one is only counted; the PDU takes effect as the HQL of its
code, and 5 s without one fail the quality. The reference's HQL follows. A message of a reference that is not enabled is not heard. The
model's choices: that a frame after a missing one is compared with none, and the digits a valid frame may have (log entry 96), the century
of a year (log entry 31), and that the timecode of the registration source is decoded although its reference is disabled (log entry 100).
It is the model's choice that a timed command says its instant has come (log entry 1). -/
def Obligations.QualityFollowsItsMessages : Prop :=
  ((∀ (s : State) (p : PlaneId) (tc : Fin 2) (f : IrigFrame), s.hub.active p = true →
     Completes (.timecodeFrame p tc f) s fun h =>
       let x := s.hub.plane p
       let t := x.tc[tc.val]
       let u := (h.plane p).tc[tc.val]
       (x.tcHeard tc = false → (h.plane p).tc = x.tc ∧ (h.plane p).ref = x.ref) ∧
       (x.tcHeard tc = true → (f.markersOk && f.digitsOk && t.follows f) = true →
         u.valid = true ∧ u.bad = 0 ∧ u.qLast = some f.q ∧ u.qEff = t.qEff ∧
         u.qRun = (if t.qLast = some f.q then t.qRun + 1 else 1) ∧ u.lastTod = some (f.tod (t.yearOf f)) ∧
         u.cand = BitVec.ofInt 32 ((f.tod (t.yearOf f) : Int) -
           ((s.hub.udecl.epochDay * 86400 + s.hub.udecl.epochSec : Nat) : Int)) ∧
         u.secOk = (u.cand == x.markedSec) ∧
         (h.plane p).cnt[18].count = x.cnt[18].count + (if u.secOk = false ∧ x.grid.reg = true then 1 else 0)) ∧
       (x.tcHeard tc = true → (f.markersOk && f.digitsOk && t.follows f) = false →
         u.bad = t.bad + 1 ∧ u.lastTod = none ∧ u.qRun = 0 ∧
         (2 ≤ t.bad → u.valid = false ∧ u.qEff = none) ∧ (t.bad < 2 → u.valid = t.valid ∧ u.qEff = t.qEff))) ∧
   (∀ (s : State) (p : PlaneId) (tc : Fin 2), s.hub.active p = true → (s.hub.plane p).tcHeard tc = true →
     Completes (.timecodeFrameMissing p tc) s fun h =>
       let t := (s.hub.plane p).tc[tc.val]
       let u := (h.plane p).tc[tc.val]
       u.bad = t.bad + 1 ∧ u.lastTod = none ∧ u.qRun = 0 ∧
       (2 ≤ t.bad → u.valid = false ∧ u.qEff = none) ∧ (t.bad < 2 → u.valid = t.valid ∧ u.qEff = t.qEff)) ∧
   (∀ (s : State) (p : PlaneId) (tc : Fin 2), s.hub.active p = true →
     Completes (.tcQualityEffect p tc) s fun h =>
       let x := s.hub.plane p
       let t := x.tc[tc.val]
       (t.valid = true → 3 ≤ t.qRun → (h.plane p).tc[tc.val] = { t with qEff := t.qLast } ∧
         (x.sect.refs[tc.val].enabled = true → x.sect.refs[tc.val].qsrc = .tc → ∀ q ∈ t.qLast,
           (h.plane p).ref[tc.val].hql = qHql x.sect.refs[tc.val].fixedHql q)) ∧
       ((t.valid = false ∨ t.qRun < 3) → (h.plane p).tc = x.tc ∧ (h.plane p).ref = x.ref))) ∧
  ((∀ (s : State) (p : PlaneId) (f : EsmcFrame), s.hub.active p = true →
     Completes (.esmcPduReceived p f) s fun h =>
       let x := s.hub.plane p
       let y := h.plane p
       (x.sect.refs[2].enabled = false → y.esmc = x.esmc ∧ y.cnt[19].count = x.cnt[19].count) ∧
       (x.sect.refs[2].enabled = true → f.valid = true → y.esmc = { x.esmc with pend := some f.ssm, ms := 0 } ∧
         y.cnt[19].count = x.cnt[19].count + (if ssmKnown f.ssm = true then 0 else 1)) ∧
       (x.sect.refs[2].enabled = true → f.valid = false → y.esmc = x.esmc ∧ y.cnt[19].count = x.cnt[19].count + if f.slow = true then 1 else 0)) ∧
   (∀ (s : State) (p : PlaneId) (c : BitVec 4), s.hub.active p = true → (s.hub.plane p).esmc.pend = some c →
     Completes (.esmcQualityEffect p) s fun h =>
       let x := s.hub.plane p
       (h.plane p).esmc = { x.esmc with hql := ssmHql c, pend := none } ∧
       (x.sect.refs[2].enabled = true → x.sect.refs[2].qsrc = .esmc → (h.plane p).ref[2].hql = ssmHql c)) ∧
   (∀ (s : State) (p : PlaneId), s.hub.active p = true →
     Completes (.esmcTimeout p) s fun h =>
       let x := s.hub.plane p
       (h.plane p).esmc = { x.esmc with hql := 0, pend := none } ∧
       (x.sect.refs[2].enabled = true → x.sect.refs[2].qsrc = .esmc → (h.plane p).ref[2].hql = 0)))

/-- The selection tick notes AUTO's choice and starts a switch, of 12,500 frames, where the mode, the loop and the oven gate let one
start: to AUTO's choice where there is no active reference, or a worse one that revertive operation leaves, and to the named reference in
FORCED. In the frame that ends its measurement a switch commits to its target when that is qualified and not held out: the target is
active, nothing is pending, the step is recorded, and the loop goes on as the step's frequency difference lets it; it is abandoned without
a step when its target is not. A hold defers the commit. The premise SwitchFits is the invariant of EveryStepKeepsTheLoopMarkRight: no
switch is pending in Husk, in mode HOLD or with Ember forced. It is the model's choice that a timed command says its instant has come (log
entry 1). -/
def Obligations.SwitchesStartAndCommit : Prop :=
  (∀ (s : State) (p : PlaneId), s.hub.active p = true →
     Completes (.selectionTick p) s fun h =>
       let x := s.hub.plane p
       let y := h.plane p
       let may := x.sel.sw.isNone && !x.inHusk && !x.loop.forced && x.oven.gate && !x.reloading
       y.sel.auto = x.best ∧ y.sel.active = x.sel.active ∧ y.loop = x.loop ∧
       (may = false → y.sel.sw = x.sel.sw) ∧
       (may = true → x.sel.mode = .hold → y.sel.sw = none) ∧
       (may = true → x.sel.mode = .forced → y.sel.sw =
         if x.ref[x.sel.fref.val].usable = true ∧ x.sel.active ≠ some x.sel.fref then
           some { target := x.sel.fref, left := 12500 } else none) ∧
       (may = true → (x.sel.mode = .auto ∨ x.sel.mode = .soft) →
         (x.best = none → y.sel.sw = none) ∧
         ∀ r ∈ x.best,
           (x.sel.active = none → x.barred r = false → y.sel.sw = some { target := r, left := 12500 }) ∧
           (x.barred r = true → y.sel.sw = none) ∧
           ∀ a ∈ x.sel.active, x.barred r = false → y.sel.sw =
             if (x.sel.revert = true ∧ r ≠ a) ∨ (x.sel.revert = false ∧
               (x.ref[a.val].candidate = false ∨ x.ref[r.val].hql < x.ref[a.val].hql)) then
               some { target := r, left := 12500 } else none)) ∧
  ((∀ (s : State) (p : PlaneId) (step dfreq : Int) (w : Switch), s.hub.active p = true → (s.hub.plane p).sel.sw = some w →
     w.left = 0 → SwitchFits (s.hub.plane p) → (s.hub.plane p).paused = false →
     (s.hub.plane p).ref[w.target.val].state = .qualified →
     (s.hub.plane p).ref[w.target.val].heldOut = false →
     Completes (.switchCommit p step dfreq) s fun h =>
       let x := s.hub.plane p
       let y := h.plane p
       let st := phaseOf (x.inputType w.target) step
       y.sel.active = some w.target ∧ y.sel.sw = none ∧ y.loop.step = some st ∧ bitAt y.phist 6 = true ∧
       y.cnt[14].count = x.cnt[14].count + 1 ∧
       (x.loop.state ≠ .soft → y.loop.resid = x.loop.resid + st) ∧
       (x.sect.stepTol < st.natAbs → y.flt.src[13].live = true) ∧
       x.loop.state ≠ .husk ∧ x.sel.mode ≠ .hold ∧ x.loop.forced = false ∧
       (x.loop.state = .free ∨ x.loop.state = .acquire → y.loop.state = .acquire) ∧
       (x.loop.state = .locked ∨ x.loop.state = .ember →
         y.loop.state = if dfreq.natAbs ≤ 10 then .locked else .acquire) ∧
       (x.loop.state = .soft → y.loop.state = .soft)) ∧
   (∀ (s : State) (p : PlaneId) (step dfreq : Int) (w : Switch), s.hub.active p = true → (s.hub.plane p).sel.sw = some w →
     w.left = 0 → SwitchFits (s.hub.plane p) → (s.hub.plane p).paused = false →
     ((s.hub.plane p).ref[w.target.val].state ≠ .qualified ∨ (s.hub.plane p).ref[w.target.val].heldOut = true) →
     Completes (.switchCommit p step dfreq) s fun h =>
       (h.plane p).sel.sw = none ∧ (h.plane p).loop = (s.hub.plane p).loop ∧
       (h.plane p).sel.active = (s.hub.plane p).sel.active ∧
       (h.plane p).cnt[15].count = (s.hub.plane p).cnt[15].count + 1) ∧
   (∀ (s : State) (p : PlaneId) (step dfreq : Int) (w : Switch), s.hub.active p = true → (s.hub.plane p).sel.sw = some w →
     w.left = 0 → SwitchFits (s.hub.plane p) → (s.hub.plane p).paused = true →
     Completes (.switchCommit p step dfreq) s fun h =>
       (h.plane p).sel.sw = some { w with deferred := true } ∧ (h.plane p).loop = (s.hub.plane p).loop ∧
       (h.plane p).sel.active = (s.hub.plane p).sel.active))

/-! ### The loop and the grid -/

/-- ACQUIRE too long makes source 9 live; the residual reaches 0 where no hold pauses the slew; a LOCKED minute is recorded. A host that
may write commits the loop's settings: mode, forced reference, priorities, bandwidth and FREQ, which steers in SOFT. Mode SOFT is entered
and left with the loop, and HOLD leaves no switch pending; that EMBER entered from SOFT leaves no reference active is the model's choice
(log entry 25). It is the model's choice that a timed command says its instant has come (log entry 1). -/
def Obligations.LoopCommandsComplete : Prop :=
  ((∀ (s : State) (p : PlaneId), s.hub.active p = true →
     Completes (.acquireTimeout p) s fun h =>
       let x := s.hub.plane p
       (x.loop.state = .acquire → (h.plane p).loop = { x.loop with acqLate := true } ∧ (h.plane p).flt.src[9].live = true) ∧
       (x.loop.state ≠ .acquire → (h.plane p).loop = x.loop)) ∧
   (∀ (s : State) (p : PlaneId), s.hub.active p = true →
     Completes (.slewComplete p) s fun h =>
       let x := s.hub.plane p
       (x.paused = false → (h.plane p).loop = { x.loop with resid := 0, slewAcc := 0 }) ∧
       (x.paused = true → (h.plane p).loop = x.loop)) ∧
   (∀ (s : State) (p : PlaneId), s.hub.active p = true →
     Completes (.driftFitUpdate p) s fun h =>
       let x := s.hub.plane p
       let y := h.plane p
       (x.loop.state = .locked →
         y.loop.mins.length = min (x.loop.mins.length + 1) 1440 ∧ y.loop.mins.drop 1 = x.loop.mins.take 1439 ∧
         y.loop.slope = Config.fitSlope y.loop.mins) ∧
       (x.loop.state ≠ .locked → y.loop = x.loop))) ∧
  (∀ (s : State) (q : PortId) (p : PlaneId), HostMay s.hub q p →
     (∀ m : LoopMode, (s.hub.plane p).reloading = false → s.hub.following = false →
       Completes (.loopModeWrite q p m) s fun h =>
         let x := s.hub.plane p
         let y := h.plane p
         y.sel.mode = m ∧ (m = x.sel.mode → y.loop = x.loop ∧ y.sel = x.sel) ∧
         (m ≠ x.sel.mode → m = .hold → y.sel.sw = none) ∧
         (m ≠ x.sel.mode → m = .soft → x.loop.state ≠ .soft → x.loop.forced = false → x.loop.state ≠ .husk →
           y.loop.state = .soft ∧ y.loop.freq = BitVec.ofInt 32 y.loop.steer) ∧
         (m ≠ x.sel.mode → x.loop.state = .soft →
           y.loop.state = .ember ∧ y.loop.hval = x.loop.freq.toInt ∧ y.sel.active = none)) ∧
     (∀ r : Fin 4, (s.hub.plane p).reloading = false → s.hub.following = false →
       Completes (.forcedRefWrite q p r) s fun h =>
         (h.plane p).sel.fref = r ∧ (h.plane p).sel.mode = (s.hub.plane p).sel.mode ∧
         (h.plane p).sel.active = (s.hub.plane p).sel.active ∧ (h.plane p).loop = (s.hub.plane p).loop) ∧
     (∀ (v : Bool) (prio : Vector (BitVec 4) 4), (s.hub.plane p).reloading = false →
       Completes (.referencePriorityWrite q p v prio) s fun h =>
         (h.plane p).sel.revert = v ∧ (h.plane p).sel.prio = prio ∧
         (h.plane p).sel.active = (s.hub.plane p).sel.active ∧ (h.plane p).loop = (s.hub.plane p).loop) ∧
     (∀ c : BitVec 4, (s.hub.plane p).reloading = false →
       Completes (.bandwidthCodeWrite q p c) s fun h =>
         let x := s.hub.plane p
         (h.plane p).loop.bw = c ∧ (h.plane p).loop.state = x.loop.state ∧
         ∀ a ∈ x.sel.active, x.loop.state = .locked → (h.plane p).loop.effbw = lockedCode (x.inputType a) c) ∧
     ∀ w : Word, Completes (.freqWrite q p w) s fun h =>
       (h.plane p).loop = { (s.hub.plane p).loop with
         freq := w
         steer := if (s.hub.plane p).loop.state = .soft then w.toInt else (s.hub.plane p).loop.steer })

/-- In Husk no event of the references, their timecode and ESMC quality, their selection and switch, the seconds and milliseconds, or the
loop changes the loop's state; the premise that no reference is in the loop is the invariant of EveryStepKeepsTheLoopMarkRight. It is the
model's choice that a timed command says its instant has come (log entry 1). -/
def Obligations.HuskIgnoresLoopEvents : Prop :=
  ∀ (s : State) (p : PlaneId) (c : Instr), (s.hub.plane p).loop.state = .husk → (s.hub.plane p).loop.inLoop = false →
    ((∃ r, c = .refLossDeclared p r) ∨ (∃ r, c = .refActiveAgain p r) ∨ (∃ r, c = .waitToRestoreExpiry p r) ∨
      c = .selectionTick p ∨ (∃ m, c = .pps p m) ∨ (∃ m, c = .millisecondBoundary p m) ∨ c = .frameBoundary p ∨
      c = .acquireTimeout p ∨ c = .slewComplete p ∨ c = .driftFitUpdate p ∨ (∃ step dfreq, c = .switchCommit p step dfreq) ∨
      (∃ r v, c = .freqOffsetMeasurement p r v) ∨ (∃ r m, c = .phaseJumpMean p r m) ∨ (∃ tc, c = .tcQualityEffect p tc) ∨
      c = .esmcQualityEffect p ∨ c = .esmcTimeout p ∨ (∃ tc f, c = .timecodeFrame p tc f) ∨
      (∃ tc, c = .timecodeFrameMissing p tc) ∨ ∃ f, c = .esmcPduReceived p f) →
    ∀ t, exec c s = .next t → (t.hub.plane p).loop.state = .husk

/-- A valid marker of the registration source is taken: on a registered grid it renews D, on one that waits it gives the lattice.
Registration then sets the count. A pending REALIGN that may execute, whose place no registration takes and which has its marker
executes: none is pending any more, and the grid is registered, at FRAME 0 of a second. A host that may write requests and cancels a
REALIGN, and sets the grid offset within the second, which enters D at once. The model's choices: the SEC a registration on REF3 takes
(log entry 102), what is nearest at half a second (log entry 103), and that a REALIGN keeps the lattice it has taken (log entry 104). -/
def Obligations.GridIsRegisteredAndRealigned : Prop :=
  ((∀ (s : State) (p : PlaneId) (src : MarkerSrc) (cyc : Fin 40) (before after : Nat), s.hub.active p = true →
     (s.hub.plane p).markerCounts src = true → (s.hub.plane p).markerValid src = true →
     Completes (.timeMarkerCapture p src cyc before after) s fun h =>
       let x := s.hub.plane p
       let y := h.plane p
       (x.grid.reg = true → y.grid.dValid = true ∧ y.grid.dAge = 0 ∧
         (x.time.cyc = cyc.val → y.grid.d = wrapSecond (x.captured src before after + x.grid.goff))) ∧
       (x.mayRegister = true → y.grid.cap.isSome = true ∧
         (x.time.cyc = cyc.val → x.grid.cap = none → y.grid.cap = some (latticeOf (x.captured src before after)
           x.grid.goff x.time.now (x.markedSecond src (s.hub.ref3Sec p)))))) ∧
   (∀ (s : State) (p : PlaneId) (sec : Word), s.hub.active p = true → (s.hub.plane p).mayRegister = true →
     (s.hub.plane p).firstSec = some sec →
     Completes (.gridRegistration p) s fun h =>
       let y := h.plane p
       y.grid.reg = true ∧ y.time.sec = sec ∧ y.time.frame = 0 ∧ y.time.cyc = 0 ∧ y.grid.cap = none ∧ y.grid.rlgnPend = false ∧
       bitAt y.phist 9 = true)) ∧
  (∀ (s : State) (p : PlaneId), s.hub.active p = true → (s.hub.plane p).ownsRealign = true →
     (s.hub.plane p).grid.cap.isSome = true →
     Completes (.realignExecute p) s fun h =>
       let x := s.hub.plane p
       let y := h.plane p
       y.grid.reg = true ∧ y.grid.rlgnPend = false ∧ y.grid.cap = none ∧ bitAt y.phist 10 = true ∧
       (x.grid.reg = true → x.time.frame < 12500000 → x.time.cyc < 40 →
         y.time.sec = x.time.nearestSec ∧ y.time.frame = 0 ∧ y.time.cyc = 0) ∧
       (x.grid.reg = false → ∀ sec ∈ x.firstSec, y.time.sec = sec ∧ y.time.frame = 0 ∧ y.time.cyc = 0)) ∧
  (∀ (s : State) (q : PortId) (p : PlaneId), HostMay s.hub q p → (s.hub.plane p).inHusk = false →
     ((s.hub.plane p).sect.regSrc ≠ .none → s.hub.following = false →
       Completes (.realignRequest q p) s fun h =>
         let g := (s.hub.plane p).grid
         let k := (h.plane p).grid
         k = { g with rlgnPend := true, rlgnFirst := k.rlgnFirst } ∧ (g.reg = true ∨ g.seenLock = true → k.rlgnFirst = g.rlgnFirst)) ∧
     (s.hub.following = false →
       Completes (.realignCancel q p) s fun h =>
         (h.plane p).grid = (if (s.hub.plane p).grid.rlgnPend then
           { (s.hub.plane p).grid with
             rlgnPend := false, rlgnFirst := false, cap := if (s.hub.plane p).mayRegister then (s.hub.plane p).grid.cap else none }
           else (s.hub.plane p).grid) ∧
         ((s.hub.plane p).grid.rlgnPend = true → bitAt (h.plane p).phist 11 = true)) ∧
     ∀ v : Int, -250000000 ≤ v → v ≤ 249999999 →
       Completes (.gridOffsetWrite q p v) s fun h =>
         let g := (s.hub.plane p).grid
         (h.plane p).grid = { g with goff := v, d := if g.dValid then wrapSecond (g.d + v - g.goff) else g.d } ∧
         (h.plane p).time = (s.hub.plane p).time)

/-! ### Outputs -/

/-- VCO-B's lock detector; a drain that ends; a stopped output that starts on its grid; a fine move that reaches its end. Every other
output stays as it is. It is the model's choice that a timed command says its instant has come (log entry 1). -/
def Obligations.ClockOutputEventsComplete : Prop :=
  (∀ (s : State) (p : PlaneId) (u : Bool), s.hub.active p = true →
    Completes (.vcobUnlock p u) s fun h =>
      (h.plane p).vcobOut = u ∧ (h.plane p).vcobLock = !u ∧ (h.plane p).flt.src[10].det = (u || (s.hub.plane p).vcobBad) ∧
      (u = true → (h.plane p).flt.src[10].live = true)) ∧
  (∀ (s : State) (p : PlaneId) (o : Fin 16), s.hub.active p = true → (s.hub.plane p).ck[o.val].run = .draining →
    Completes (.outputDrainComplete p o) s fun h =>
      (h.plane p).ck[o.val] = { (s.hub.plane p).ck[o.val] with run := .stopped } ∧
      ∀ i : Fin 16, i ≠ o → (h.plane p).ck[i.val] = (s.hub.plane p).ck[i.val]) ∧
  (∀ (s : State) (p : PlaneId) (o : Fin 16), s.hub.active p = true → (s.hub.plane p).sect.ck[o.val].enabled = true →
    (s.hub.plane p).ck[o.val].run = .stopped → (s.hub.plane p).ck[o.val].gate = true →
    (s.hub.plane p).ck[o.val].released = true →
    Completes (.outputStart p o) s fun h =>
      (h.plane p).ck[o.val] =
        { (s.hub.plane p).ck[o.val] with run := .running, fnow := (s.hub.plane p).ck[o.val].f, moving := false } ∧
      ∀ i : Fin 16, i ≠ o → (h.plane p).ck[i.val] = (s.hub.plane p).ck[i.val]) ∧
  (∀ (s : State) (p : PlaneId) (o : Fin 16), s.hub.active p = true → (s.hub.plane p).paused = false →
    (s.hub.plane p).ck[o.val].moving = true →
    Completes (.fineMoveComplete p o) s fun h =>
      (h.plane p).ck[o.val] =
        { (s.hub.plane p).ck[o.val] with fnow := (s.hub.plane p).ck[o.val].f, moving := false } ∧
      ∀ i : Fin 16, i ≠ o → (h.plane p).ck[i.val] = (s.hub.plane p).ck[i.val])

/-- Pulses: one that is due starts on an output whose gate is on, or extends its high state, and is not emitted with the gate off; the
high state ends in the cycle it was to end in; a new assignment takes a low output only, and counts the pulses it omits; a trigger pulse
takes the fine delay it entered with. A pulse output's instants are in FINE bins, 512 of them a cycle. That the oldest pulse of the
generator in force is the one that starts, and that an assignment keeps those that have still to start, is the model's choice (log entry
83). It is the model's choice that a timed command says its instant has come (log entry 1). -/
def Obligations.PulseEventsComplete : Prop :=
  (∀ (s : State) (p : PlaneId) (u : Fin 4) (at_ : Nat) (rest : List (Fin 8 × Nat)), s.hub.active p = true →
    takeDue (s.hub.plane p).pu[u.val].set.gen (s.hub.plane p).pu[u.val].due = some (at_, rest) →
    Completes (.puPulseStart p u) s fun h =>
      let v := (s.hub.plane p).pu[u.val]
      let w := 512 * v.set.width.toNat
      (h.plane p).pu[u.val] =
        (if v.gate = true ∧ (s.hub.plane p).sect.pu[u.val].enabled = true then
          { v with due := rest, high := true, endAt := if v.high then max v.endAt (at_ + w) else at_ + w }
        else { v with due := rest }) ∧
      ∀ i : Fin 4, i ≠ u → (h.plane p).pu[i.val] = (s.hub.plane p).pu[i.val]) ∧
  (∀ (s : State) (p : PlaneId) (u : Fin 4) (c : Fin 40), s.hub.active p = true →
    Completes (.puPulseEnd p ⟨u, c⟩) s fun h =>
      let v := (s.hub.plane p).pu[u.val]
      let now := (s.hub.plane p).time.clk + (c.val - (s.hub.plane p).time.cyc)
      (h.plane p).pu[u.val] = { v with high := v.high && decide (now < v.endAt / 512) }) ∧
  (∀ (s : State) (p : PlaneId) (u : Fin 4) (c : Fin 40) (n : Nat), s.hub.active p = true →
    Completes (.puAssignmentEffect p u ⟨c, n⟩) s fun h =>
      let v := (s.hub.plane p).pu[u.val]
      let now := (s.hub.plane p).time.clk + (c.val - (s.hub.plane p).time.cyc)
      (∀ g ∈ v.newGen, v.high = false → (h.plane p).pu[u.val] = { v with
        set := { v.set with gen := g }, newGen := none
        due := v.due.filter fun e => e.1 == g && decide (512 * now ≤ e.2)
        omitted := BitVec.ofNat 16 (min (v.omitted.toNat + n) 65535) }) ∧
      (v.newGen = none ∨ v.high = true → (h.plane p).pu[u.val] = v)) ∧
  (∀ (s : State) (p : PlaneId) (o : Fin 16) (at_ : Nat) (f : Byte) (rest : List (Nat × Byte)), s.hub.active p = true →
    (s.hub.plane p).trigOut[o.val].due = (at_, f) :: rest →
    Completes (.toPulseStart p o) s fun h =>
      let t := (s.hub.plane p).trigOut[o.val]
      let w := (s.hub.plane p).sect.trigOut[o.val].width.toNat
      (h.plane p).trigOut[o.val] = if t.halted then { t with due := rest } else
        { t with high := true, edge := f, due := rest, endAt := if t.high then max t.endAt (at_ + w) else at_ + w }) ∧
  (∀ (s : State) (p : PlaneId) (o : Fin 16) (c : Fin 40), s.hub.active p = true →
    Completes (.toPulseEnd p ⟨o, c⟩) s fun h =>
      let t := (s.hub.plane p).trigOut[o.val]
      let now := (s.hub.plane p).time.clk + (c.val - (s.hub.plane p).time.cyc)
      (h.plane p).trigOut[o.val] = { t with high := t.high && decide (now < t.endAt) })

/-- Output writes that no hold defers: a gate; a delay, which moves a running output's fine part and drains one whose coarse part
changes; a pulse output's settings and a trigger output's delay. A training hold defers a delay write, a pulse write and a
trigger write until it ends: the output keeps its settings. The model's choices: that a draining output takes both steps at once (log
entry 97), and that a write waits behind one of the same item that waits (log entry 49). -/
def Obligations.OutputWritesCommitOrWait : Prop :=
  (∀ (s : State) (q : PortId) (p : PlaneId), HostMay s.hub q p →
     (∀ (o : Fin 16) (on : Bool), Completes (.outputGateWrite q p ⟨o.val, by omega⟩ on) s fun h =>
       let c := (s.hub.plane p).ck[o.val]
       (h.plane p).ck[o.val] = { c with
         hgate := on, run := if c.run = .running ∧ c.gate = true ∧ on = false then .draining else c.run } ∧
       ∀ i : Fin 16, i ≠ o → (h.plane p).ck[i.val] = (s.hub.plane p).ck[i.val]) ∧
     (∀ (u : Fin 4) (on : Bool), Completes (.outputGateWrite q p ⟨u.val + 16, by omega⟩ on) s fun h =>
       (h.plane p).pu[u.val] = { (s.hub.plane p).pu[u.val] with hgate := on } ∧ (h.plane p).ck = (s.hub.plane p).ck) ∧
     ((s.hub.plane p).inHusk = false → (s.hub.plane p).covered = false →
       (∀ (o : Fin 16) (k : BitVec 17) (f : BitVec 10), f.toNat ≤ 799 → (s.hub.plane p).ck[o.val].wait = [] →
         (s.hub.plane p).ck[o.val].held = false →
         Completes (.outputDelayWrite q p o k f) s fun h =>
           let c := (s.hub.plane p).ck[o.val]
           let d := (h.plane p).ck[o.val]
           d.k = k ∧ d.f = f ∧ d.wait = [] ∧ (c.run ≠ .running → d.fnow = f ∧ d.run = c.run) ∧
           (c.run = .running → c.k = k → d.run = .running ∧ d.fnow = c.fnow ∧ d.moving = (c.fnow != f)) ∧
           (c.run = .running → c.k ≠ k → d.run = .draining ∧ d.fnow = f)) ∧
       (∀ (u : Fin 4) (g : Fin 8) (coarse : BitVec 16) (fine : Byte) (width : BitVec 24), width ≠ 0 →
         (s.hub.plane p).pu[u.val].wait = none →
         Completes (.puSettingsWrite q p u g coarse fine width) s fun h =>
           let v := (s.hub.plane p).pu[u.val]
           (h.plane p).pu[u.val] = { v with
             set := ⟨v.set.gen, coarse, fine, width⟩, newGen := if g = v.set.gen then none else some g }) ∧
       ∀ (o : Fin 16) (f : Byte), (s.hub.plane p).trigOut[o.val].wait = none →
         Completes (.toFineDelayWrite q p o f) s fun h =>
           (h.plane p).trigOut[o.val] = { (s.hub.plane p).trigOut[o.val] with fine := f })) ∧
  (∀ (s : State) (q : PortId) (p : PlaneId), HostMay s.hub q p → (s.hub.plane p).inHusk = false →
     (s.hub.plane p).covered = true →
     (∀ (o : Fin 16) (k : BitVec 17) (f : BitVec 10), f.toNat ≤ 799 →
       Completes (.outputDelayWrite q p o k f) s fun h =>
         (h.plane p).ck[o.val] =
           { (s.hub.plane p).ck[o.val] with wait := (s.hub.plane p).ck[o.val].wait ++ [(k, f)], held := true }) ∧
     (∀ (u : Fin 4) (v : PuSet), v.width ≠ 0 →
       Completes (.puSettingsWrite q p u v.gen v.coarse v.fine v.width) s fun h =>
         (h.plane p).pu[u.val] = { (s.hub.plane p).pu[u.val] with wait := some v }) ∧
     ∀ (o : Fin 16) (f : Byte), Completes (.toFineDelayWrite q p o f) s fun h =>
       (h.plane p).trigOut[o.val] = { (s.hub.plane p).trigOut[o.val] with wait := some f })

/-! ### Queues, holds and links -/

/-- The host's queue operations: an entry goes to the tail of a queue with room, and at a full one it is lost and counted; a pop
takes the head, and of an empty queue nothing; a test ACCEPT whose tag names an instant waits with its TEST bit set. The
threshold of each queue of a link, of a group queue and of a Chimney queue changes and its counter goes on. -/
def Obligations.QueueWritesCommit : Prop :=
  (∀ (s : State) (q : PortId) (p : PlaneId) (l : Fin 32), HostMay s.hub q p →
     (∀ w : BitVec 64, Completes (.enqueueCmd q p l w) s fun h =>
       let k := (s.hub.plane p).link[l.val]
       (h.plane p).link[l.val] = { k with dqCmd := k.dqCmd.push ⟨0x20, w⟩ } ∧
       (k.dqCmd.q.length < 8 → (h.plane p).link[l.val].dqCmd.q = k.dqCmd.q ++ [⟨0x20, w⟩] ∧ (h.plane p).cnt = (s.hub.plane p).cnt) ∧
       (8 ≤ k.dqCmd.q.length → (h.plane p).link[l.val].dqCmd.q = k.dqCmd.q ∧ (h.plane p).link[l.val].dqCmd.ovNow = true ∧
         (h.plane p).cnt[29].count = (s.hub.plane p).cnt[29].count + 1)) ∧
     (∀ w : BitVec 64, Completes (.enqueueBulk q p l w) s fun h =>
       let k := (s.hub.plane p).link[l.val]
       (h.plane p).link[l.val] = { k with dqBulk := k.dqBulk.push ⟨0x41, w⟩ } ∧
       (k.dqBulk.q.length < 8 →
         (h.plane p).link[l.val].dqBulk.q = k.dqBulk.q ++ [⟨0x41, w⟩] ∧ (h.plane p).cnt = (s.hub.plane p).cnt) ∧
       (8 ≤ k.dqBulk.q.length → (h.plane p).link[l.val].dqBulk.q = k.dqBulk.q ∧ (h.plane p).link[l.val].dqBulk.ovNow = true ∧
         (h.plane p).cnt[29].count = (s.hub.plane p).cnt[29].count + 1)) ∧
     Completes (.popUqStat q p l) s (fun h =>
       (h.plane p).link[l.val].uqStat.q = (s.hub.plane p).link[l.val].uqStat.q.drop 1 ∧
       (h.plane p).link[l.val].uqBulk = (s.hub.plane p).link[l.val].uqBulk ∧
       ∀ m : Fin 32, m ≠ l → (h.plane p).link[m.val] = (s.hub.plane p).link[m.val]) ∧
     Completes (.popUqBulk q p l) s (fun h =>
       (h.plane p).link[l.val].uqBulk.q = (s.hub.plane p).link[l.val].uqBulk.q.drop 1 ∧
       (h.plane p).link[l.val].uqStat = (s.hub.plane p).link[l.val].uqStat ∧
       ∀ m : Fin 32, m ≠ l → (h.plane p).link[m.val] = (s.hub.plane p).link[m.val]) ∧
     ∀ w : BitVec 64, (msgCycle 0 w).isSome = true → Completes (.injectTestAccept q p l w) s fun h =>
       (h.plane p).link[l.val] = { (s.hub.plane p).link[l.val] with
         tests := (s.hub.plane p).link[l.val].tests ++ [w ||| (1#64 <<< 13)] }) ∧
  ((∀ (s : State) (q : PortId) (p : PlaneId) (l : Fin 32) (c : Fin 4) (n : BitVec 3), HostMay s.hub q p →
     Completes (.queueThresholdWrite q ⟨128 * p.num + 4 * l.val + c.val, by cases p <;> simp [PlaneId.num] <;> omega⟩ n) s
       fun h =>
         let k := (s.hub.plane p).link[l.val]
         let j := (h.plane p).link[l.val]
         j = { k with
           dqCmd := { k.dqCmd with nthr := if c = 0 then n else k.dqCmd.nthr }
           dqBulk := { k.dqBulk with nthr := if c = 1 then n else k.dqBulk.nthr }
           uqStat := { k.uqStat with nthr := if c = 2 then n else k.uqStat.nthr }
           uqBulk := { k.uqBulk with nthr := if c = 3 then n else k.uqBulk.nthr } }) ∧
   (∀ (s : State) (q : PortId) (p : PlaneId) (g : Fin 32) (n : BitVec 3), HostMay s.hub q p →
     Completes (.queueThresholdWrite q ⟨384 + 32 * p.num + g.val, by cases p <;> simp [PlaneId.num] <;> omega⟩ n) s fun h =>
       (h.plane p).gq[g.val] = { (s.hub.plane p).gq[g.val] with nthr := n }) ∧
   (∀ (s : State) (q : PortId) (i : Fin 16) (n : BitVec 3), HostMayAll s.hub q →
     Completes (.queueThresholdWrite q ⟨480 + i.val, by omega⟩ n) s (fun h =>
       h.chim.out[i.val] = { s.hub.chim.out[i.val] with nthr := n } ∧ h.chim.inq = s.hub.chim.inq) ∧
     Completes (.queueThresholdWrite q ⟨496 + i.val, by omega⟩ n) s fun h =>
       h.chim.inq[i.val] = { s.hub.chim.inq[i.val] with nthr := n } ∧ h.chim.out = s.hub.chim.out))

/-- A hold of a declared group is requested in RUN, announced by the group that opens with the request, and merges with one pending or in
force; the host ends it. One whose limit decides its end expires, once, with source 48. What it deferred takes place, each part of it,
from the first boundary after the last hold's end on, and nothing before. It is the model's choice that a timed command says its instant
has come (log entry 1). -/
def Obligations.TrainingHoldCommandsComplete : Prop :=
  (∀ (s : State) (q : PortId) (p : PlaneId) (g : Fin 32), HostMay s.hub q p →
    (s.hub.plane p).sect.groups[g.val].declared = true → (s.hub.plane p).power = .run →
    Completes (.trainingHoldRequest q p g) s fun h =>
      let x := s.hub.plane p
      (h.plane p).hold[g.val] = (if x.hold[g.val].phase = .idle then
        { phase := if x.time.cyc = 0 ∧ x.time.frame % 16 = 0 ∧ x.grpAt = x.time.frames then .announced else .requested
          left := x.sect.groups[g.val].limitMs * 12500 } else x.hold[g.val]) ∧
      ∀ i : Fin 32, i ≠ g → (h.plane p).hold[i.val] = x.hold[i.val]) ∧
  (∀ (s : State) (q : PortId) (p : PlaneId) (g : Fin 32), HostMay s.hub q p →
    (s.hub.plane p).sect.groups[g.val].declared = true →
    Completes (.trainingHoldHostEnd q p g) s fun h =>
      (h.plane p).hold[g.val] = (if (s.hub.plane p).hold[g.val].phase = .idle then (s.hub.plane p).hold[g.val]
        else { (s.hub.plane p).hold[g.val] with hostEnd := true }) ∧
      ∀ i : Fin 32, i ≠ g → (h.plane p).hold[i.val] = (s.hub.plane p).hold[i.val]) ∧
  (∀ (s : State) (p : PlaneId) (g : Fin 32), s.hub.active p = true →
    Completes (.holdLimitExpiry p g) s fun h =>
      let x := s.hub.plane p
      (x.limitRuns g = true → x.hold[g.val].expired = false →
        (h.plane p).hold[g.val] = { x.hold[g.val] with phase := .ending 3, expired := true } ∧
        (h.plane p).flt.src[48].live = true ∧ (h.plane p).cnt[13].count = x.cnt[13].count + 1) ∧
      (x.limitRuns g = false ∨ x.hold[g.val].expired = true → (h.plane p).hold = x.hold ∧ (h.plane p).cnt = x.cnt)) ∧
  (∀ (s : State) (p : PlaneId), s.hub.active p = true →
    Completes (.deferredActionsResume p) s fun h =>
      let x := s.hub.plane p
      let y := h.plane p
      (x.paused = true → y.ck = x.ck ∧ y.pu = x.pu ∧ y.trigOut = x.trigOut ∧ y.link = x.link ∧ y.gen = x.gen ∧ y.sel = x.sel) ∧
      (x.paused = false →
        (∀ i : Fin 16, y.ck[i.val].wait = [] ∧ (y.ck[i.val].k, y.ck[i.val].f) = x.ck[i.val].committed) ∧
        (∀ u : Fin 4, y.pu[u.val].wait = none ∧
          (x.pu[u.val].wait = none → y.pu[u.val] = x.pu[u.val]) ∧
          ∀ v ∈ x.pu[u.val].wait, y.pu[u.val].shown = v ∧ y.pu[u.val].set.gen = x.pu[u.val].set.gen) ∧
        (∀ i : Fin 16, y.trigOut[i.val] = { x.trigOut[i.val] with wait := none, fine := x.trigOut[i.val].committed }) ∧
        (∀ l : Fin 32, y.link[l.val] = { x.link[l.val] with
          waitHeld := false, epdWait := none, epd2 := x.link[l.val].committedEpd.1, epd3 := x.link[l.val].committedEpd.2 }) ∧
        (∀ g : Fin 8, y.gen[g.val].wait = none ∧ y.gen[g.val].set = x.gen[g.val].committed) ∧
        y.sel = { x.sel with sw := x.sel.sw.map fun (w : Switch) => { w with deferred := false } }))

/-- Link events: signal loss takes any lit link DOWN, signal presence takes DOWN to SEEK, and the grace of source 40 ends. Every other
link keeps its state. A slot that fails its check on a link that receives slots is counted and, as slot 0, closes the Damper while its
comma serves alignment, and so does the absence of a checked slot 0 for 50 cycles close it. An upstream slot 0 in SEEK counts toward
alignment when it passes its check, and starts the count anew when it does not; its payload's Damper reaches a link that is aligned, and
one that fails closes it. It is the model's choice that a timed command says its instant has come (log entry 1). -/
def Obligations.LinkEventsComplete : Prop :=
  ((∀ (s : State) (p : PlaneId) (l : Fin 32), s.hub.active p = true →
     Completes (.linkSignalLoss p l) s fun h =>
       (h.plane p).link[l.val].state = (if (s.hub.plane p).link[l.val].state = .off then .off else .down) ∧
       ∀ m : Fin 32, m ≠ l → (h.plane p).link[m.val] = (s.hub.plane p).link[m.val]) ∧
   (∀ (s : State) (p : PlaneId) (l : Fin 32), s.hub.active p = true →
     Completes (.linkSignalPresent p l) s fun h =>
       (h.plane p).link[l.val].state = (if (s.hub.plane p).link[l.val].state = .down then .seek
         else (s.hub.plane p).link[l.val].state) ∧
       ∀ m : Fin 32, m ≠ l → (h.plane p).link[m.val] = (s.hub.plane p).link[m.val]) ∧
   (∀ (s : State) (p : PlaneId) (l : Fin 32), s.hub.active p = true →
     Completes (.linkMonitorGraceExpiry p l) s fun h =>
       (h.plane p).link[l.val] = { (s.hub.plane p).link[l.val] with grace := false } ∧
       ∀ m : Fin 32, m ≠ l → (h.plane p).link[m.val] = (s.hub.plane p).link[m.val])) ∧
  ((∀ (s : State) (p : PlaneId) (l : Fin 32) (n : Fin 8) (c : Comma), s.hub.active p = true →
     Completes (.slotCheckFailure p l ⟨n, c⟩) s fun h =>
       let x := s.hub.plane p
       let k := x.link[l.val]
       let j := (h.plane p).link[l.val]
       (x.noSlots l = true → j = k) ∧
       (x.noSlots l = false → j.msErr = k.msErr + 1 ∧ j.err8 = k.err8 + 1 ∧ j.state = k.state ∧
         (n = 0 → j.rxD = 0xFFFF ∧ j.rxPend = none ∧ (k.state = .seek → j.al.commas = 0) ∧
           (k.state ≠ .seek → c = .expected → j.al.absent = 0 ∧ j.pendSt = k.pendSt) ∧
           (k.state ≠ .seek → c = .absent → j.al.absent = k.al.absent + 1 ∧ (3 ≤ k.al.absent → j.pendSt = some .seek))) ∧
         (n ≠ 0 → j.rxD = k.rxD ∧ j.rxPend = k.rxPend ∧ j.al = k.al))) ∧
   (∀ (s : State) (p : PlaneId) (l : Fin 32), s.hub.active p = true →
     Completes (.damperTimeout p l) s fun h =>
       (h.plane p).link[l.val] = { (s.hub.plane p).link[l.val] with rxD := 0xFFFF, rxPend := none })) ∧
  (∀ (s : State) (p : PlaneId) (l : Fin 32) (c : Fin 40) (rx : Slot0Rx), s.hub.active p = true →
     Completes (.upstreamTimeSlot p l c rx) s fun h =>
       let x := (s.hub.toCycle p c).plane p
       let k := x.link[l.val]
       let j := (h.plane p).link[l.val]
       let ok := rx.passes && !(x.injectSlot l).2
       (x.noSlots l = true → j = k) ∧
       (k.state = .seek → j.al.commas = (if ok then k.al.commas + 1 else 0) ∧ (ok = true → 3 ≤ k.al.commas → j.pendSt = some .aligned)) ∧
       (x.noSlots l = false → k.state ≠ .seek → ok = true →
         j.rxPend = some (BitVec.ofNat 16 (bits rx.payload 63 48), x.time.clk + 10) ∧ j.msErr = k.msErr) ∧
       (x.noSlots l = false → ok = false → j.rxD = 0xFFFF ∧ j.rxPend = none ∧ j.msErr = k.msErr + 1))

/-- A host that may write sets a link's delays, which wait for a group boundary, the host bits of its Damper, which leave in the
slot 0 of a frame that opens, and its epoch phase delays, which a hold defers. -/
def Obligations.LinkWritesCommit : Prop :=
  ∀ (s : State) (q : PortId) (p : PlaneId) (l : Fin 32), HostMay s.hub q p →
    (∀ d t : Word, (s.hub.plane p).inHusk = false → d.toNat ≤ (s.hub.plane p).sect.links[l.val].dmax.toNat →
      t.toNat ≤ 1000000 →
      Completes (.linkDelayWrite q p l d t) s fun h =>
        let k := (s.hub.plane p).link[l.val]
        (h.plane p).link[l.val] = { k with
          wait := some (d, t), waitHeld := (s.hub.plane p).covered || (k.waitHeld && k.wait.isSome) }) ∧
    (∀ w : BitVec 16, w &&& 0x7C00 = 0 →
      Completes (.hostDamperWrite q p l w) s fun h =>
        let k := (s.hub.plane p).link[l.val]
        (h.plane p).link[l.val].damph = w ∧
        ((s.hub.plane p).time.cyc = 0 → (h.plane p).link[l.val].sentD = k.autoD ||| w) ∧
        ((s.hub.plane p).time.cyc ≠ 0 → (h.plane p).link[l.val] = { k with damph := w })) ∧
    ∀ a b : Word, (s.hub.plane p).inHusk = false → bits a 10 0 = 0 → bits b 10 0 = 0 →
      Completes (.epochPhaseDelayWrite q p l a b) s fun h =>
        let k := (s.hub.plane p).link[l.val]
        (h.plane p).link[l.val] = if (s.hub.plane p).covered = true ∨ k.epdWait.isSome = true then { k with epdWait := some (a, b) }
          else { k with epd2 := a, epd3 := b }

/-- Messages for the host enter UQ-STAT or UQ-BULK of a link that delivers, at the cycle of their slot's end: a STATUS, a CMD-ACK,
a BULK whose SEQ is new in its stream, and a TRAIN-HOLD that names a declared group of the link, which reports to a hold in
force; at a full queue they are lost and counted. A traffic slot of any kind is no check on a link that receives no slots, fails
its check where one is injected, and is discarded and counted on a link that does not deliver. -/
def Obligations.HostMessagesEnterTheirQueue : Prop :=
  ∀ (s : State) (p : PlaneId) (l : Fin 32) (c : Fin 40) (w : BitVec 64), s.hub.active p = true →
    let x := (s.hub.toCycle p c).plane p
    let k := x.link[l.val]
    (∀ cmd : Instr, cmd ∈ [.statusReceived p l c w, .cmdAckReceived p l c w, .upstreamBulkReceived p l c w,
        .trainHoldCompleteReceived p l c w, .primitiveReceived p l c w, .upstreamVetoReceived p l c w] →
      Completes cmd s fun h =>
        let y := h.plane p
        (x.noSlots l = true → y.link = x.link ∧ y.fab = x.fab ∧ y.cnt = x.cnt) ∧
        (x.noSlots l = false → (x.injectSlot l).2 = true →
          y.link[l.val].msErr = k.msErr + 1 ∧ y.link[l.val].uqStat = k.uqStat ∧ y.link[l.val].uqBulk = k.uqBulk ∧ y.fab = x.fab) ∧
        (x.noSlots l = false → (x.injectSlot l).2 = false → x.delivers l = false →
          y.link = x.link ∧ y.fab = x.fab ∧ y.cnt[22].count = x.cnt[22].count + 1)) ∧
    (x.delivers l = true → (x.injectSlot l).2 = false →
      (∀ e : Byte × Instr, e ∈ [((0x40 : Byte), .statusReceived p l c w), (0x21, .cmdAckReceived p l c w)] →
        Completes e.2 s fun h =>
          let y := h.plane p
          (k.uqStat.q.length < 8 → y.link[l.val] = { k with uqStat := { k.uqStat with q := k.uqStat.q ++ [⟨e.1, w⟩] } }) ∧
          (8 ≤ k.uqStat.q.length → y.link[l.val] = { k with uqStat := { k.uqStat with ovNow := true } } ∧
            y.cnt[29].count = x.cnt[29].count + 1)) ∧
      Completes (.upstreamBulkReceived p l c w) s (fun h =>
        let y := h.plane p
        let again := k.bulkSeq.any fun e => e.1 == msgNum w && e.2 == BitVec.ofNat 8 (bits w 55 48)
        (again = true → y.link = x.link ∧ y.cnt[22].count = x.cnt[22].count + 1) ∧
        (again = false → k.uqBulk.q.length < 8 →
          y.link[l.val].uqBulk = { k.uqBulk with q := k.uqBulk.q ++ [⟨0x41, w⟩] } ∧
          (msgNum w, BitVec.ofNat 8 (bits w 55 48)) ∈ y.link[l.val].bulkSeq) ∧
        (again = false → 8 ≤ k.uqBulk.q.length → y.link[l.val] = { k with uqBulk := { k.uqBulk with ovNow := true } } ∧
          y.cnt[29].count = x.cnt[29].count + 1)) ∧
      ∀ g : Fin 32, bits w 23 16 = g.val →
        Completes (.trainHoldCompleteReceived p l c w) s fun h =>
          let y := h.plane p
          let good := bits w 63 62 == 2 && (msgCycle x.time.now w).isSome && x.sect.groups[g.val].declared &&
            bitAt x.sect.groups[g.val].links l.val
          (good = true →
            y.link[l.val] = { k with uqStat := k.uqStat.push ⟨0x33, w⟩ } ∧
            y.hold[g.val] = if x.hold[g.val].inForce then
              { x.hold[g.val] with complete := x.hold[g.val].complete ||| (1#32 <<< l.val) } else x.hold[g.val]) ∧
          (good = false → y.link = x.link ∧ y.hold = x.hold ∧ y.cnt[21].count = x.cnt[21].count + 1))

/-- A PRIMITIVE and an upstream VETO that a link delivers, mapped and in time, are held for the release P + 2 cycles after their
reference cycle; a number the image does not map is discarded and counted, and so is, as an anomaly, a VETO of no length or a
tag that names no instant. A message that may not travel upstream is a protocol error and only counted. -/
def Obligations.TimedMessagesAreHeldForRelease : Prop :=
  ∀ (s : State) (p : PlaneId) (l : Fin 32) (c : Fin 40) (w : BitVec 64), s.hub.active p = true →
    let x := (s.hub.toCycle p c).plane p
    let d := x.sect.links[l.val]
    x.delivers l = true → (x.injectSlot l).2 = false →
    (∀ t : Nat, msgCycle x.time.now w = some t → x.time.now ≤ t + d.p.toNat →
      Completes (.primitiveReceived p l c w) s (fun h =>
        (d.prims.contains (msgNum w) = true →
          (h.plane p).fab.held = x.fab.held ++ [⟨.prim l (msgNum w), t, 512 * t + msgFine w, t + d.p.toNat + 2, 0⟩]) ∧
        (d.prims.contains (msgNum w) = false →
          (h.plane p).fab = x.fab ∧ (h.plane p).cnt[22].count = x.cnt[22].count + 1)) ∧
      Completes (.upstreamVetoReceived p l c w) s fun h =>
        (vetoLen w ≠ 0 → d.vids.contains (msgNum w) = true →
          (h.plane p).fab.held = x.fab.held ++ [⟨.veto l (msgNum w), t, 512 * t, t + d.p.toNat + 2, vetoLen w⟩]) ∧
        (vetoLen w ≠ 0 → d.vids.contains (msgNum w) = false →
          (h.plane p).fab = x.fab ∧ (h.plane p).cnt[22].count = x.cnt[22].count + 1) ∧
        (vetoLen w = 0 → (h.plane p).fab = x.fab ∧ (h.plane p).cnt[21].count = x.cnt[21].count + 1)) ∧
    (msgCycle x.time.now w = none →
      Completes (.primitiveReceived p l c w) s (fun h =>
        (h.plane p).fab = x.fab ∧ (h.plane p).cnt[21].count = x.cnt[21].count + 1) ∧
      Completes (.upstreamVetoReceived p l c w) s fun h =>
        (h.plane p).fab = x.fab ∧ (h.plane p).cnt[21].count = x.cnt[21].count + 1) ∧
    ∀ ty : Byte, Completes (.reservedMessageReceived p l c ty w) s fun h =>
      (h.plane p).link = x.link ∧ (h.plane p).fab = x.fab ∧
      (protocolError x.time.now ty w = true → (h.plane p).cnt[21].count = x.cnt[21].count + 1) ∧
      (protocolError x.time.now ty w = false → (h.plane p).cnt = x.cnt)

/-- A traffic slot of a link that sends carries the message of the first issuer that is ready for the slot and targets the link, which
then is the issuer's no more; without one, a waiting test ACCEPT, with its tag corrected as an ACCEPT's is (the model's choice, log entry
46); with no test, the head of the group queues for the link, which the link has then passed; with no group entry, the head of DQ-CMD,
then that of DQ-BULK, unless the Damper holds it, and else IDLE. A slot that a grid movement cuts, one of an offline fabric and one of a
link that does not send are IDLE, and its command and bulk queues wait. -/
def Obligations.TrafficSlotCarriesTheCommandQueue : Prop :=
  ∀ (s : State) (p : PlaneId) (n : Fin 7) (l : Fin 32), s.hub.active p = true →
    let x := (s.hub.toCycle p (Fin.ofNat 40 (5 * (n.val + 1)))).plane p
    let k := x.link[l.val]
    let d := x.damper l
    ((k.sends = false ∨ x.slotCut = true ∨ x.fab.online = false) →
      Completes (.trafficSlotStart p n) s fun h =>
        let j := (h.plane p).link[l.val]
        j.tx = mkSlot 0x00 0 ∧ j.dqCmd.q = k.dqCmd.q ∧ j.dqBulk.q = k.dqBulk.q) ∧
    (k.sends = true → x.slotCut = false → x.fab.online = true → ∀ (i : Fin 32) (m : IssMsg),
      ((List.finRange 32).filter (x.issuerReady (n.val + 1))).find? (fun i => x.issuerTargets i l) = some i →
      x.fab.issuers[i.val] = some m →
      Completes (.trafficSlotStart p n) s fun h =>
        let j := (h.plane p).link[l.val]
        j.tx = mkSlot (if x.sect.fabric.issuers[i.val].veto then codeVeto else codeAccept) (x.issuerPayload l i m k.seq) ∧
        j.seq = k.seq + 1 ∧ j.tests = k.tests ∧ j.dqCmd.q = k.dqCmd.q ∧ j.dqBulk.q = k.dqBulk.q ∧
        (h.plane p).fab.issuers[i.val] = none) ∧
    (k.sends = true → x.slotCut = false → x.fab.online = true →
      (∀ i : Fin 32, x.issuerReady (n.val + 1) i = true → x.issuerTargets i l = false) →
      (∀ w rest, k.tests = w :: rest → (msgCycle x.time.now w).isSome = true →
        Completes (.trafficSlotStart p n) s fun h =>
          let j := (h.plane p).link[l.val]
          j.tests = rest ∧ j.tx = mkSlot codeAccept (x.testPayload l w k.seq) ∧ j.seq = k.seq + 1 ∧ j.dqCmd.q = k.dqCmd.q) ∧
      (k.tests = [] → ∀ (g : Fin 32) (e : GEntry), x.groupHead l = some (g, e) →
        Completes (.trafficSlotStart p n) s fun h =>
          let j := (h.plane p).link[l.val]
          let plain := fun (e : GEntry) => { e with passed := 0 }
          j.tx = mkSlot e.type (x.groupPayload l e).1 ∧ j.dqCmd.q = k.dqCmd.q ∧ j.dqBulk.q = k.dqBulk.q ∧
          ((h.plane p).gq[g.val].headFor l).map plain =
            ((x.gq[g.val].q.filter fun e => !(bitAt e.passed l.val)).drop 1).head?.map plain) ∧
      (k.tests = [] → x.groupHead l = none →
        (∀ e rest, k.dqCmd.q = e :: rest → heldCmd d = false →
          Completes (.trafficSlotStart p n) s fun h =>
            let j := (h.plane p).link[l.val]
            j.dqCmd.q = rest ∧ j.tx = mkSlot 0x20 e.payload ∧ j.dqBulk.q = k.dqBulk.q) ∧
        (k.dqCmd.q = [] ∨ heldCmd d = true →
          (∀ e rest, k.dqBulk.q = e :: rest → heldBulk d e.payload = false →
            Completes (.trafficSlotStart p n) s fun h =>
              let j := (h.plane p).link[l.val]
              j.dqBulk.q = rest ∧ j.tx = mkSlot 0x41 e.payload ∧ j.dqCmd.q = k.dqCmd.q) ∧
          ((∀ e ∈ k.dqBulk.q.head?, heldBulk d e.payload = true) →
            Completes (.trafficSlotStart p n) s fun h =>
              let j := (h.plane p).link[l.val]
              j.tx = mkSlot 0x00 0 ∧ j.dqCmd.q = k.dqCmd.q ∧ j.dqBulk.q = k.dqBulk.q))))

/-- Each downstream traffic slot of every link, whatever the link's state, is counted in exactly one of the four categories:
retired, wasted, starved-front and starved-back. -/
def Obligations.EverySlotIsCountedOnce : Prop :=
  ∀ (s : State) (p : PlaneId) (n : Fin 7), s.hub.active p = true →
    Completes (.trafficSlotStart p n) s fun h => ∀ l : Fin 32, ∃ c : Fin 4, ∀ d : Fin 4,
      ((h.plane p).link[l.val].cnt[d.val]).count =
        ((s.hub.plane p).link[l.val].cnt[d.val]).count + if d = c then 1 else 0

/-! ### The fabric and the generators -/

/-- A rising crossing of an enabled input is held with its tag and FINE for release 2 cycles later, unless it falls in the input's dead
time or the fabric is offline, and then it is counted; released, it becomes a signal of the fabric, and a veto makes its input active. A
cross-plane port carries every signal 2 cycles older, with its reference cycle and τ. A Chimney crossing of the port's own plane pair is
released in the cycle its fixed age names, with the reference cycle and τ the partner gave it, while the crossings are open; that its age
and its SUSPECT mark come with the command is the model's choice (log entry 42). It is the model's choice that a command whose event
cannot occur changes nothing (log entry 4). -/
def Obligations.CrossingsBecomeSignals : Prop :=
  ((∀ (s : State) (p : PlaneId) (i : Fin 16) (c : Fin 40) (fine : BitVec 9), s.hub.active p = true →
     Completes (.tiRisingCrossing p i c fine) s fun h =>
       let x := (s.hub.toCycle p c).plane p
       let y := h.plane p
       let n := x.time.now
       let on := x.sect.ti[i.val].enabled && !x.ti[i.val].dis
       let dead := x.ti[i.val].last.any fun k => decide (x.time.clk < k + 4)
       (on = false → y.ti = x.ti ∧ y.fab = x.fab ∧ y.cnt = x.cnt) ∧
       (on = true → dead = true → y.ti = x.ti ∧ y.fab = x.fab ∧ y.cnt[25].count = x.cnt[25].count + 1) ∧
       (on = true → dead = false → y.ti[i.val] = { x.ti[i.val] with last := some x.time.clk } ∧
         (x.fab.online = true → y.fab.held = x.fab.held ++ [⟨.ti i, n, 512 * n + fine.toNat, n + 2, 0⟩]) ∧
         (x.fab.online = false → y.fab = x.fab ∧ y.cnt[28].count = x.cnt[28].count + 1))) ∧
   (∀ (s : State) (p : PlaneId) (e : HeldEvent), s.hub.fabricRuns p = true → earliest (s.hub.plane p).fab.held = some e →
     Completes (.fabricEventRelease p) s fun h =>
       let x := s.hub.plane p
       (h.plane p).fab.held = x.fab.held.erase e ∧
       (e.len = 0 → (⟨e.src, e.ref, e.tau, e.rel - e.ref, x.suspectAt e.src⟩ : Signal) ∈ (h.plane p).fab.sigs) ∧
       (e.len ≠ 0 → (⟨e.src, e.ref, e.len, x.suspectAt e.src⟩ : VetoIn) ∈ (h.plane p).fab.vetoes))) ∧
  ((∀ (s : State) (src dst : PlaneId) (port : Fin 64) (ref : Nat) (c : PlaneId × Fin 64 × Sig), src ≠ dst →
     s.hub.fabricRuns src = true → s.hub.fabricRuns dst = true →
     (s.hub.plane src).sect.fabric.cross.find? (fun c => c.1 == dst && c.2.1 == port) = some c →
     Completes (.crossPlaneCapture src dst port ref) s fun h =>
       ∀ g ∈ (s.hub.plane src).pulses c.2.2 ref,
         (⟨.xin src port, ref, g.tau, g.age + 2, g.suspect || s.hub.cmp[(comparatorOf src dst).val].beyond⟩ : Signal)
           ∈ (h.plane dst).fab.sigs) ∧
   (∀ (s : State) (p : PlaneId) (port : Fin 8) (ref tau age : Nat) (b : Bool), s.hub.fabricRuns p = true →
     s.hub.chim.opened = true → s.hub.udecl.chPair[port.val] = p →
     Completes (.chimneyCrossingRelease p port ref tau ⟨age, b⟩) s fun h =>
       let t := (s.hub.plane p).time
       let a := age + 14 + chimneyK s.hub.udecl
       (t.now ≤ ref + a → ref + a < t.boundary + 40 →
         (⟨.chin port, ref, tau, a, b || s.hub.chimneySuspect p⟩ : Signal) ∈ (h.plane p).fab.sigs) ∧
       (ref + a < t.now ∨ t.boundary + 40 ≤ ref + a → h = s.hub)))

/-- Windows: every opener outside an open window opens one of an EVENT unit, and its evaluation takes the window away and fires
when its condition holds; a GRID unit's window is evaluated at its last cycle. A coincidence unit fires when at least K of its
inputs are active, and with K = 0 never, or when the bit of its lookup memory that they address, read without an error it cannot
correct, is 1; what the address bit of an input is, inverted and disabled ones among them, is the model's choice (log entry 45). A
prescaler fires on its R-th pulse and starts again. -/
def Obligations.FabricUnitsFire : Prop :=
  ((∀ (s : State) (p : PlaneId) (u : Fin 64) (ref : Nat) (o : Sig) (g : Signal) (gs : List Signal),
     s.hub.fabricRuns p = true → (s.hub.plane p).sect.fabric.wins[u.val].opener = some o → (s.hub.plane p).sect.fabric.wins[u.val].used = true →
     (s.hub.plane p).sect.fabric.wins[u.val].grid = false → (s.hub.plane p).pulses o ref = g :: gs →
     Completes (.windowOpen p u ref) s fun h =>
       let x := s.hub.plane p
       let d := x.sect.fabric.wins[u.val]
       let inside := x.fab.wins[u.val].any fun w => decide (w.lo ≤ g.tau ∧ (g.tau : Int) < w.hi)
       (inside = false →
         (h.plane p).fab.wins[u.val].take (x.fab.wins[u.val].length + 1) = x.fab.wins[u.val] ++
           [⟨g.ref, g.tau, g.tau + x.constOf d.openB, g.tau + x.constOf d.closeB, g.suspect⟩] ∧
         (gs = [] → (h.plane p).fab.wins[u.val].length = x.fab.wins[u.val].length + 1)) ∧
       (inside = true → gs = [] → (h.plane p).fab = { x.fab with pend := (h.plane p).fab.pend } ∧ (h.plane p).cnt[25].count = x.cnt[25].count + 1)) ∧
   (∀ (s : State) (p : PlaneId) (u : Fin 64) (ref : Nat) (w : WinOpen), s.hub.fabricRuns p = true →
     (s.hub.plane p).sect.fabric.wins[u.val].used = true → (s.hub.plane p).sect.fabric.wins[u.val].grid = false →
     (s.hub.plane p).fab.wins[u.val].find? (fun w => w.c0 == ref) = some w →
     Completes (.windowEvaluation p u ref) s fun h =>
       let x := s.hub.plane p
       let d := x.sect.fabric.wins[u.val]
       let fires := winResult d u ref (d.cMax + d.h + 1) w.tau0 w.hi (x.membersIn d w.lo w.hi) w.suspect
       (h.plane p).fab.wins[u.val] = x.fab.wins[u.val].erase w ∧
       (∀ g ∈ fires, g ∈ (h.plane p).fab.sigs ∧ g.src = .win u ∧ g.ref = ref) ∧
       (fires = none → (h.plane p).fab.sigs = x.fab.sigs) ∧
       (fires.isSome = true ↔ if d.condGe then d.m ≤ min (x.membersIn d w.lo w.hi).length 15
         else min (x.membersIn d w.lo w.hi).length 15 < d.m)) ∧
   (∀ (s : State) (p : PlaneId) (u : Fin 64) (ref c : Nat), s.hub.fabricRuns p = true →
     (s.hub.plane p).sect.fabric.wins[u.val].used = true → (s.hub.plane p).sect.fabric.wins[u.val].grid = true →
     gridClose (s.hub.plane p).sect.fabric.wins[u.val] ref = some c →
     Completes (.windowEvaluation p u ref) s fun h =>
       let x := s.hub.plane p
       let d := x.sect.fabric.wins[u.val]
       let members := x.membersIn d ((c : Int) - d.w) c
       let fires := winResult d u ref (d.h + 1) 0 c members false
       (∀ g ∈ fires, g ∈ (h.plane p).fab.sigs ∧ g.src = .win u ∧ g.ref = ref) ∧
       (fires = none → (h.plane p).fab.sigs = x.fab.sigs) ∧
       (fires.isSome = true ↔ if d.condGe then d.m ≤ min members.length 15 else min members.length 15 < d.m)) ∧
   (∀ (s : State) (p : PlaneId) (u : Fin 64) (ref : Nat), s.hub.fabricRuns p = true →
     let x := s.hub.plane p
     let d := x.sect.fabric.wins[u.val]
     (d.used = false ∨ d.grid = true ∨ d.opener = none →
       Completes (.windowOpen p u ref) s fun h => (h.plane p).fab = x.fab ∧ (h.plane p).cnt = x.cnt) ∧
     (d.used = false ∨ (d.grid = true ∧ gridClose d ref = none) ∨
         (d.grid = false ∧ x.fab.wins[u.val].any (fun w => w.c0 == ref) = false) →
       Completes (.windowEvaluation p u ref) s fun h => (h.plane p).fab.wins = x.fab.wins ∧ (h.plane p).fab.sigs = x.fab.sigs))) ∧
  ((∀ (s : State) (p : PlaneId) (u : Fin 256) (ref : Nat) (ecc : EccRead), s.hub.fabricRuns p = true →
     Completes (.coincidenceEvaluation p u ref ecc) s fun h =>
       let x := s.hub.plane p
       let y := h.plane p
       let d := x.sect.fabric.coincs[u.val]
       let act := d.inputs.map (x.inputActive ref)
       let n := (act.count true : Int)
       (d.used = false → y.fab.sigs = x.fab.sigs) ∧
       (d.used = true → d.lookup = none → 1 ≤ x.constOf d.k → x.constOf d.k ≤ n →
         ∃ g ∈ y.fab.sigs, g.src = .coinc u ∧ g.ref = ref ∧ g.tau = x.coincTau d ref ∧ g.age = d.inAge + 1) ∧
       (d.lookup = none → n < x.constOf d.k ∨ x.constOf d.k < 1 → y.fab.sigs = x.fab.sigs) ∧
       (∀ m ∈ d.lookup, d.used = true →
         let addr := act.foldr (fun b n => 2 * n + b2n b) 0
         let bit := (x.eccRead m (addr / 64) ecc).2 && lookupBit x.sect.fabric.lookups[m.val] addr
         (bit = true → ∃ g ∈ y.fab.sigs, g.src = .coinc u ∧ g.ref = ref ∧ g.tau = x.coincTau d ref ∧ g.age = d.inAge + 2) ∧
         (bit = false → y.fab.sigs = x.fab.sigs))) ∧
   (∀ (s : State) (p : PlaneId) (u : Fin 32) (ref : Nat), s.hub.fabricRuns p = true →
     (∀ o ∈ (s.hub.plane p).sect.fabric.prescs[u.val].input, (s.hub.plane p).pulses o ref = []) →
     Completes (.prescalerPulse p u ref) s fun h =>
       (h.plane p).fab.prescs = (s.hub.plane p).fab.prescs ∧ (h.plane p).fab.sigs = (s.hub.plane p).fab.sigs) ∧
   (∀ (s : State) (p : PlaneId) (u : Fin 32) (ref : Nat) (o : Sig) (g : Signal) (gs : List Signal),
     s.hub.fabricRuns p = true → (s.hub.plane p).sect.fabric.prescs[u.val].input = some o →
     (s.hub.plane p).pulses o ref = g :: gs →
     Completes (.prescalerPulse p u ref) s fun h =>
       let x := s.hub.plane p
       let d := x.sect.fabric.prescs[u.val]
       let r := (x.constOf d.r).toNat
       let n := x.fab.prescs[u.val] + 1
       (r ≠ 0 → r ≤ n → (gs = [] → (h.plane p).fab.prescs[u.val] = 0) ∧
         (⟨.presc u, g.ref, g.tau, g.age + d.align + 1, g.suspect⟩ : Signal) ∈ (h.plane p).fab.sigs) ∧
       (n + gs.length < r ∨ r = 0 → (h.plane p).fab.prescs[u.val] = n + gs.length ∧ (h.plane p).fab.sigs = x.fab.sigs)))

/-- A parameter cell takes a value of its declared range from a host that may write, at once and in a hold too. A read of a lookup
memory's word by a scrub: a single-bit error is counted and raises source 37; a double-bit error is counted and raises source
38, and the word counts as bad from then on, at every read. -/
def Obligations.FabricMemoriesAreWrittenAndScrubbed : Prop :=
  (∀ (s : State) (q : PortId) (p : PlaneId) (c : Fin 128) (v : Word), HostMay s.hub q p →
     (s.hub.plane p).fab.online = true → cellAccepts (s.hub.plane p).sect.fabric.cells[c.val] v = true →
     Completes (.parameterCellWrite q p c v) s fun h =>
       (h.plane p).fab.cells[c.val] = v ∧
       ∀ d : Fin 128, d ≠ c → (h.plane p).fab.cells[d.val] = (s.hub.plane p).fab.cells[d.val]) ∧
  (∀ (s : State) (p : PlaneId) (m : Fin 4) (a : Fin 1024), s.hub.fabricRuns p = true → (s.hub.plane p).flt.inj.chk ≠ 3 →
     let x := s.hub.plane p
     let bad := x.fab.bad.contains (m.val, a.val)
     Completes (.lookupScrub p m a .single) s (fun h =>
       (h.plane p).flt.src[37].live = true ∧ (h.plane p).cnt[26].count = x.cnt[26].count + 1 ∧
       (h.plane p).cnt[27].count = x.cnt[27].count + (if bad then 1 else 0) ∧ (h.plane p).fab = x.fab) ∧
     Completes (.lookupScrub p m a .double) s (fun h =>
       (h.plane p).flt.src[38].live = true ∧ (h.plane p).cnt[27].count = x.cnt[27].count + 1 ∧
       (h.plane p).fab.bad = (if bad then x.fab.bad else x.fab.bad ++ [(m.val, a.val)])) ∧
     Completes (.lookupScrub p m a .clean) s fun h =>
       (h.plane p).cnt[27].count = x.cnt[27].count + (if bad then 1 else 0) ∧ (h.plane p).fab = x.fab)

/-- A generator's event comes into being LEAD ahead, once, at an instant of its lattice, and its instant drives the pulse outputs;
a cycle off the lattice is neither. A readout gap ends the deferral of its beacons. A host that may write sets a generator's
enable, beacon interval and user lattice, at once, and a hold defers each. That a beacon is decided LEAD ahead, on the readout state of
its instant, and what a new interval keeps of the old lattice, is the model's choice (log entries 35 and 107). -/
def Obligations.GeneratorCommandsComplete : Prop :=
  ((∀ (s : State) (p : PlaneId) (g : Fin 8) (c : Fin 40), s.hub.active p = true →
     Completes (.generatorEnqueue p g c) s fun h =>
       let x := (s.hub.toCycle p c).plane p
       let e := x.time.now + x.sect.gens[g.val].lead
       let due := x.genRuns g && genSends x.sect.gens[g.val] && x.fab.online && x.isInstant g e && !(x.gen[g.val].enq.contains e)
       let entry := if isBeacon g then x.beaconEntry g e false 0 else x.genEntry g e (x.genCount g e)
       (due = true → (h.plane p).gen[g.val].enq = x.gen[g.val].enq ++ [e] ∧
         (isBeacon g = false ∨ (x.gapAt e = none ∧ x.meets g e = none) →
           ∀ i : Fin 32, bitAt x.sect.gens[g.val].groups i.val = true → x.gq[i.val].q.length < 8 →
             (h.plane p).gq[i.val].q = (x.gq[i.val].q ++ [entry]).filter
               (fun t => t.passed &&& x.sect.groups[i.val].links != x.sect.groups[i.val].links))) ∧
       (due = false → isBeacon g = false ∨ x.gapAt e = none → (h.plane p).gen = x.gen ∧ (h.plane p).gq = x.gq)) ∧
   (∀ (s : State) (p : PlaneId) (g : Fin 8) (c : Fin 40), s.hub.active p = true →
     Completes (.generatorEvent p g c) s fun h =>
       let x := (s.hub.toCycle p c).plane p
       let y := h.plane p
       let now := x.time.now
       let at_ := x.genRuns g && x.isInstant g now
       (at_ = true → isBeacon g = false ∨ x.meets g now = none →
         (∀ u : Fin 4, y.pu[u.val] = x.pu[u.val].event g x.time.clk (x.eventFine g)) ∧
         y.gen[g.val].enq = x.gen[g.val].enq.filter (fun e => decide (now < e)) ∧
         (isBeacon g = false → y.gen[g.val].count = x.genCount g now)) ∧
       (at_ = true → isBeacon g = true → ∀ k ∈ x.meets g now, k < x.sect.gens[g.val].lim →
         y.pu = x.pu ∧ y.gen[g.val].p = BitVec.ofNat 3 (k + 1)) ∧
       (at_ = true → isBeacon g = true → ∀ k ∈ x.meets g now, x.sect.gens[g.val].lim ≤ k →
         (∀ u : Fin 4, y.pu[u.val] = x.pu[u.val].event g x.time.clk (x.eventFine g)) ∧ y.cnt[11].count = x.cnt[11].count + 1) ∧
       (at_ = false → y.pu = x.pu ∧ y.gen = x.gen)) ∧
   (∀ (s : State) (p : PlaneId) (g : Fin 8), s.hub.active p = true → isBeacon g = true →
     Completes (.readoutGapStart p) s fun h =>
       let x := s.hub.plane p
       (x.genRuns g = true → x.sect.gens[g.val].defers = true → (x.gapAt x.time.now).isSome = true →
         (h.plane p).gen[g.val].p = 0 ∧ ∀ a ∈ (h.plane p).gen[g.val].flushed, x.time.now < a.1) ∧
       (x.genRuns g = false ∨ x.sect.gens[g.val].defers = false ∨ x.gapAt x.time.now = none →
         (h.plane p).gen[g.val] = x.gen[g.val]))) ∧
  (∀ (s : State) (q : PortId) (p : PlaneId), HostMay s.hub q p → (s.hub.plane p).inHusk = false →
     (∀ (g : Fin 8) (on : Bool), Completes (.generatorEnableWrite q p g on) s fun h =>
       (h.plane p).gen[g.val].committed = { (s.hub.plane p).gen[g.val].committed with en := on } ∧
       ((s.hub.plane p).covered = true → (h.plane p).gen[g.val].set = (s.hub.plane p).gen[g.val].set) ∧
       ((s.hub.plane p).covered = false → (s.hub.plane p).gen[g.val].wait = none → (h.plane p).gen[g.val].set.en = on)) ∧
     (∀ (second : Bool) (b : Byte), 8 ≤ b.toNat → Completes (.bintWrite q p second b) s fun h =>
       let g : Fin 8 := if second then 5 else 4
       (h.plane p).gen[g.val].committed = { (s.hub.plane p).gen[g.val].committed with bint := b } ∧
       ((s.hub.plane p).covered = true → (h.plane p).gen[g.val].set = (s.hub.plane p).gen[g.val].set) ∧
       ((s.hub.plane p).covered = false → (s.hub.plane p).gen[g.val].wait = none → (h.plane p).gen[g.val].set.bint = b)) ∧
     ∀ (sec low uper : Word) (uf : BitVec 9), uperMin (s.hub.plane p).sect.gens[7] ≤ uper.toNat →
       (tagCycle sec low).isSome = true →
       Completes (.userGeneratorWrite q p sec low uper uf) s fun h =>
         (h.plane p).gen[7].committed =
           { (s.hub.plane p).gen[7].committed with startSec := sec, startLow := low, uper := uper, ufine := uf } ∧
         ((s.hub.plane p).covered = true → (h.plane p).gen[7].set = (s.hub.plane p).gen[7].set) ∧
         ((s.hub.plane p).covered = false → (s.hub.plane p).gen[7].wait = none → (h.plane p).gen[7].set =
           { (s.hub.plane p).gen[7].set with startSec := sec, startLow := low, uper := uper, ufine := uf }))

/-! ### Faults -/

/-- At a boundary at least 4 cycles after the sample, the reaction of a SAFE source of the plane, or of the unit, puts the plane
into Husk; HUSKCLR leaves it, into EMBER with a valid holdover value and into FREE without one, once no SAFE source and not source 46
is sticky. A parity fault of a plane collector's group sets its sources' sticky bits and puts the plane into Husk; that the command
does so at once is the model's choice (log entry 39). One of the unit's collector sets the sticky bits of its group and source 222,
whose firing is handed to every plane whose clock runs. A group that the unit's collector does not have changes nothing (log entry
4). -/
def Obligations.HuskIsEnteredAndLeft : Prop :=
  ((∀ (s : State) (p : PlaneId) (n : Fin 64) (c : Nat), s.hub.active p = true → (s.hub.plane p).flt.parity = [] →
     (n.val, c) ∈ (s.hub.plane p).flt.fired → (s.hub.plane p).dueSince c = true →
     (s.hub.plane p).flt.src[n.val].sticky = true → (s.hub.plane p).flt.src[n.val].sev = .safe →
     Completes (.faultReaction p) s fun h => (h.plane p).loop.state = .husk ∧ (h.plane p).flt.src[n.val].husk = true) ∧
   (∀ (s : State) (p : PlaneId) (u : Fin 32) (c : Nat), s.hub.active p = true →
     (192 + u.val, c) ∈ (s.hub.plane p).flt.fired → (s.hub.plane p).dueSince c = true →
     s.hub.usrc[u.val].sticky = true → s.hub.usrc[u.val].sev = .safe →
     Completes (.faultReaction p) s fun h => (h.plane p).loop.state = .husk ∧ h.usrc[u.val].husk = true) ∧
   (∀ (s : State) (q : PortId) (p : PlaneId), HostMay s.hub q p → (s.hub.plane p).loop.state = .husk →
     s.hub.huskMayClear p = true →
     Completes (.huskClear q p) s fun h =>
       (h.plane p).loop.state = (if (s.hub.plane p).loop.hvalid then .ember else .free) ∧
       ∀ n : Fin 64, (h.plane p).flt.src[n.val].husk = false)) ∧
  ((∀ (s : State) (p : PlaneId) (g : Fin 8), s.hub.active p = true →
     Completes (.collectorParityFault (some p) g) s fun h =>
       (h.plane p).loop.state = .husk ∧ (h.plane p).flt.src[46].live = true ∧
       ∀ n : Fin 64, n.val / 8 = g.val → (h.plane p).flt.src[n.val].sticky = true) ∧
   (∀ (s : State) (g : Fin 8), s.hub.powered = true →
     (g.val < 4 → Completes (.collectorParityFault none g) s fun h =>
       (s.hub.usrc[30].live = false → ∀ p, s.hub.active p = true → Hand.fire 222 ∈ h.hand.get p) ∧ h.usrc[30].live = true ∧
       (∀ p, (h.plane p).loop = (s.hub.plane p).loop) ∧ ∀ n : Fin 32, n.val / 8 = g.val → h.usrc[n.val].sticky = true) ∧
     (4 ≤ g.val → Completes (.collectorParityFault none g) s fun h => h = s.hub)))

/-- A broken pair makes its source live whatever its detector says; a whole one leaves it to the detector, unless an injection holds
the pair broken; a short run of broken samples is only counted. -/
def Obligations.PairEventsComplete : Prop :=
  (∀ (s : State) (p : PlaneId) (n : Fin 64), s.hub.active p = true →
    hasPair ⟨64 * p.num + n.val, by cases p <;> simp [PlaneId.num] <;> omega⟩ = true →
    Completes (.pairBroken ⟨64 * p.num + n.val, by cases p <;> simp [PlaneId.num] <;> omega⟩) s (fun h =>
      (h.plane p).flt.src[n.val].wire = true ∧ (h.plane p).flt.src[n.val].live = true ∧
      (h.plane p).flt.src[n.val].det = (s.hub.plane p).flt.src[n.val].det ∧ (h.plane p).flt.src[45].live = true) ∧
    Completes (.pairWhole ⟨64 * p.num + n.val, by cases p <;> simp [PlaneId.num] <;> omega⟩) s fun h =>
      let held := ((s.hub.plane p).flt.pairRun n).any (·.run == 3)
      (h.plane p).flt.src[n.val].wire = held ∧
      (h.plane p).flt.src[n.val].live = ((s.hub.plane p).flt.src[n.val].det || held)) ∧
  (∀ (s : State) (n : Fin 32), s.hub.powered = true → hasPair ⟨192 + n.val, by omega⟩ = true →
    Completes (.pairBroken ⟨192 + n.val, by omega⟩) s (fun h =>
      h.usrc[n.val].wire = true ∧ h.usrc[n.val].live = true) ∧
    Completes (.pairWhole ⟨192 + n.val, by omega⟩) s fun h => h.usrc[n.val].wire = false) ∧
  (∀ (s : State) (p : PlaneId), s.hub.active p = true →
    Completes (.shortBrokenRun (some p)) s fun h =>
      (h.plane p).cnt[31].count = (s.hub.plane p).cnt[31].count + 1 ∧ (h.plane p).flt = (s.hub.plane p).flt) ∧
  (∀ s : State, s.hub.powered = true →
    Completes (.shortBrokenRun none) s fun h => h = { s.hub with ushort := s.hub.ushort.add 1 })

/-- A host clears the sticky bit of a plane source, its reaction with it, and of a unit source, and sets a severity the source may
have; a plane source that fires at the same boundary keeps its bit. The plane forces no Ember, whose end could make sources 9, 12 and
15 fire again. Where the cleared source is the last one that forces Ember, the forced Ember ends, and in mode SOFT the loop enters
SOFT. An injection of an allowed check starts in RUN with its count, CHK 4 for a host that controls every plane while no other plane
runs one, and a stop leaves none to make. -/
def Obligations.FaultWritesCommit : Prop :=
  ((∀ (s : State) (q : PortId) (p : PlaneId) (n : Fin 64), HostMay s.hub q p → (s.hub.plane p).loop.forced = false →
     Completes (.stickyClear q ⟨64 * p.num + n.val, by cases p <;> simp [PlaneId.num] <;> omega⟩) s fun h =>
       (h.plane p).flt.src[n.val].react = false ∧
       ((s.hub.plane p).firedHere n = false →
         (h.plane p).flt.src[n.val].sticky = false ∧ (h.plane p).flt.src[n.val].live = false) ∧
       ((s.hub.plane p).firedHere n = true →
         (h.plane p).flt.src[n.val].sticky = (s.hub.plane p).flt.src[n.val].sticky)) ∧
   (∀ (s : State) (q : PortId) (p : PlaneId) (n : Fin 64), HostMay s.hub q p → (s.hub.plane p).loop.forced = true →
     planeWide n.val = true → (s.hub.plane p).firedHere n = false → (s.hub.plane p).flt.uforce = 0 →
     (∀ m : Fin 64, m ≠ n → planeWide m.val = true → (s.hub.plane p).flt.src[m.val].sev = .isolate →
       (s.hub.plane p).flt.src[m.val].sticky = false) →
     Completes (.stickyClear q ⟨64 * p.num + n.val, by cases p <;> simp [PlaneId.num] <;> omega⟩) s fun h =>
       let x := s.hub.plane p
       (h.plane p).loop.forced = false ∧
       (h.plane p).loop.state =
         if x.sel.mode = .soft ∧ (x.loop.state = .ember ∨ x.loop.state = .free) ∧ x.reloading = false then .soft else x.loop.state) ∧
   (∀ (s : State) (q : PortId) (n : Fin 32), HostMayAll s.hub q →
     Completes (.stickyClear q ⟨192 + n.val, by omega⟩) s fun h =>
       h.usrc[n.val].sticky = false ∧ h.usrc[n.val].live = false ∧ h.usrc[n.val].react = false) ∧
   (∀ (s : State) (q : PortId) (p : PlaneId) (n : Fin 64) (v : Severity), HostMay s.hub q p → n ≠ 46 → n.val < 52 →
     Completes (.severityWrite q ⟨64 * p.num + n.val, by cases p <;> simp [PlaneId.num] <;> omega⟩ v) s fun h =>
       (h.plane p).flt.src[n.val].sev = v) ∧
   (∀ (s : State) (q : PortId) (n : Fin 32) (v : Severity), HostMayAll s.hub q → n ≠ 30 →
     Completes (.severityWrite q ⟨192 + n.val, by omega⟩ v) s fun h => h.usrc[n.val].sev = v)) ∧
  (∀ (s : State) (q : PortId) (p : PlaneId), HostMay s.hub q p → (s.hub.plane p).power = .run →
     (∀ (k : BitVec 3) (dbl : Bool) (tgt : BitVec 6) (n : BitVec 11),
       k ≠ 4 ∨ (s.hub.controlsAll q = true ∧ s.hub.storeInjected p = false) → injectRange k dbl tgt = false →
       Completes (.faultInjectStart q p k dbl tgt n) s fun h =>
         (h.plane p).flt.inj = { chk := k, dbl := dbl, tgt := tgt, left := n }) ∧
     Completes (.faultInjectStop q p) s fun h => (h.plane p).flt.inj = {})

/-! ### Tandem operation -/

/-- The leader's join: the command when every check passes, which judges the Chimney's ports anew, the announcement, and the joined role
at PPS J; the follower takes FORCED on REF3 at the announcement and the leader's seconds at PPS J. A join that is pending can be
abandoned: a follower then returns to the modes it kept, and what queue 483 holds of the join goes. A command whose checks fail is refused
and leaves the Chimney as it is. The model's choices: that FREF is kept and given back with the mode (log entry 73), and the entry of the
announcement in queue 483 (log entry 74). It is the model's choice that a command whose event cannot occur changes nothing (log entry 4)
and that a timed command says its instant has come (log entry 1). -/
def Obligations.JoinCommandsComplete : Prop :=
  (∀ (s : State) (q : PortId) (r : PartnerReady), HostMayAll s.hub q →
    (s.hub.anyHusk = false → s.hub.joinFails r = false →
      Completes (.joinCommand q r) s fun h =>
        h.chim = { s.hub.chim with
          active := if s.hub.chim.isUp 0 then 0 else 1, joinPend := true, announced := false
          joinSec := (s.hub.plane .a).time.sec
          st := h.chim.st, ex := h.chim.ex, exBad := h.chim.exBad, exGood := h.chim.exGood } ∧ h.planes = s.hub.planes) ∧
    (s.hub.anyHusk = true ∨ s.hub.joinFails r = true →
      Completes (.joinCommand q r) s fun h =>
        h.chim = s.hub.chim ∧
        (h.port q).ref.reason = (if (s.hub.port q).ref.count ≠ 0 then (s.hub.port q).ref.reason
          else if s.hub.anyHusk then .husk else .state))) ∧
  (∀ s : State, s.hub.powered = true →
    (s.hub.udecl.role = .leader → s.hub.chim.joinPend = true →
      Completes .joinAnnounce s fun h =>
        h.chim.announced = true ∧ h.chim.joinPend = true ∧
        (s.hub.chim.out[3].q.length < 8 → h.chim.out[3].q = s.hub.chim.out[3].q ++ [⟨3, 0⟩] ∧ h.planes = s.hub.planes)) ∧
    (s.hub.udecl.role = .follower → s.hub.chim.role = .solo → s.hub.chim.announced = false →
      Completes .joinAnnounce s fun h =>
        h.chim.announced = true ∧ h.chim.joinPend = true ∧
        ∀ p, h.chim.kept.get p = (s.hub.plane p).sel.mode ∧ h.chim.keptRef.get p = (s.hub.plane p).sel.fref ∧
          (h.plane p).sel.mode = .forced ∧ (h.plane p).sel.fref = 3)) ∧
  (∀ (s : State) (secs : Tri Word), s.hub.powered = true →
    (s.hub.joinDue = true → Completes (.joinComplete secs) s fun h =>
      h.chim.role = (if s.hub.udecl.role = .leader then .leader else .follower) ∧ h.chim.joinPend = false ∧
      h.chim.opened = true ∧ h.chim.loss = false ∧ h.chim.mate = s.hub.chim.partnerOn s.hub.chim.active ∧
      (s.hub.udecl.role ≠ .leader → ∀ p, (h.plane p).grid.reg = true ∧ (h.plane p).time.sec = secs.get p)) ∧
    (s.hub.joinDue = false → Completes (.joinComplete secs) s fun h => h = s.hub)) ∧
  (∀ s : State, s.hub.powered = true →
    (s.hub.chim.joinPend = true → Completes .joinAbandon s fun h =>
      h.chim.joinPend = false ∧ h.chim.announced = false ∧ h.chim.role = s.hub.chim.role ∧ h.chim.out[3].q = [] ∧
      (s.hub.udecl.role = .follower → s.hub.chim.announced = true → ∀ p,
        (h.plane p).sel.mode = s.hub.chim.kept.get p ∧ (h.plane p).sel.fref = s.hub.chim.keptRef.get p)) ∧
    (s.hub.chim.joinPend = false → Completes .joinAbandon s fun h => h = s.hub))

/-- A leave is ordered in a joined leader and takes effect, as a loss where no port is UP any more; with both Chimney ports gone the units
are separated as a loss. Either way the unit is SOLO and its crossings are closed. When a Chimney port sees something else, both take the
state that their lanes, judged with D_CH and TURN_CH, and the partner on them give, and are DOWN in a unit whose image declares no role; a
lost active port hands over to the other one that is UP. The model's choices: a port whose lanes are not all UP with a matched partner is
SEEK, and the order of the cases (log entry 110), and the entry of the leave in queue 483 (log entry 74). It is the model's choice that a
command whose event cannot occur changes nothing (log entry 4) and that a timed command says its instant has come (log entry 1). -/
def Obligations.ChimneySeparatesAndSwitchesOver : Prop :=
  ((∀ (s : State) (q : PortId), HostMayAll s.hub q → s.hub.chim.role = .leader → s.hub.chim.joinPend = false →
     Completes (.leaveCommand q) s fun h =>
       h.chim.leavePend = true ∧ h.chim.role = .leader ∧ h.chim.opened = s.hub.chim.opened ∧
       (s.hub.udecl.role = .leader → s.hub.chim.out[3].q.length < 8 → h.chim.out[3].q = s.hub.chim.out[3].q ++ [⟨4, 0⟩])) ∧
   (∀ s : State, s.hub.powered = true →
     (s.hub.chim.leavePend = true ∨ s.hub.following = true →
       Completes .leaveEffect s fun h =>
         h.chim.role = .solo ∧ h.chim.leavePend = false ∧ h.chim.opened = false ∧ (∀ q : PortId, (h.port q).sent = []) ∧
         h.chim.loss = (s.hub.joined && !s.hub.chim.isUp 0 && !s.hub.chim.isUp 1)) ∧
     (s.hub.chim.leavePend = false → s.hub.following = false → Completes .leaveEffect s fun h => h = s.hub)) ∧
   (∀ s : State, s.hub.powered = true →
     (s.hub.joined = true → s.hub.chim.isUp 0 = false → s.hub.chim.isUp 1 = false →
       Completes .chimneyLoss s fun h =>
         h.chim.role = .solo ∧ h.chim.opened = false ∧ h.chim.loss = true ∧
         ∀ p, s.hub.active p = true → (h.plane p).flt.src[51].live = true) ∧
     (s.hub.joined = false ∨ s.hub.chim.isUp 0 = true ∨ s.hub.chim.isUp 1 = true →
       Completes .chimneyLoss s fun h => h = s.hub))) ∧
  ((∀ (s : State) (ch : Fin 2) (sight : PortSight), s.hub.powered = true →
     Completes (.chimneyPortState ch sight) s fun h =>
       h.chim.sights[ch.val] = sight ∧ h.chim.active = s.hub.chim.active ∧
       (∀ o : Fin 2, o ≠ ch → h.chim.sights[o.val] = s.hub.chim.sights[o.val]) ∧
       ∀ o : Fin 2,
         let see := h.chim.sights[o.val]
         let good := see.partner.any fun i => s.hub.matched i && !h.otherPartner o i
         h.chim.st[o.val] = (if s.hub.udecl.role = .none ∨ s.hub.ustby = true ∨ LaneState.dark ∈ see.lanes.toList then .down
           else if LaneState.light ∈ see.lanes.toList then .seek
           else if good = false then .mismatch
           else if ∀ k ∈ see.lanes.toList, laneUp s.hub.udecl.dch[o.val] k = true then .up else .seek)) ∧
   (∀ (s : State) (n : Nat), s.hub.powered = true →
     (s.hub.joined = true → s.hub.chim.isUp s.hub.chim.active = false → s.hub.chim.isUp (1 - s.hub.chim.active) = true →
       Completes (.chimneySwitchOver n) s fun h =>
         h.chim.active = 1 - s.hub.chim.active ∧ h.chim.role = s.hub.chim.role ∧ h.chim.opened = s.hub.chim.opened ∧
         h.chim.outSent = Vector.replicate 3 0 ∧ h.ucnt[18].count = s.hub.ucnt[18].count + 1) ∧
     (s.hub.joined = false ∨ s.hub.chim.isUp s.hub.chim.active = true ∨ s.hub.chim.isUp (1 - s.hub.chim.active) = false →
       Completes (.chimneySwitchOver n) s fun h => h = s.hub)))

/-- The tunnel: a fetched record joins those at the leader's port, an acknowledge releases the oldest entry, attention of the follower
adds its causes at every port; the next entry to arrive at a follower is taken once and waits for its plane's boundary, and one taken
before changes nothing. Lane 3 announces a movement of a grid, moves it, writes a register word, brings a follower the snapshot of the
pair, whose planes are captured at the boundary with the leader's tag, and the notice of a leave, and brings a leader its follower's
request for a snapshot and what that captured; what comes late is counted in unit counter 31. The model's choices: the entries themselves
(log entry 74), and the plane at whose boundary a write of the unit address waits (log entry 109). It is the model's choice that a command
whose event cannot occur changes nothing (log entry 4). -/
def Obligations.TunnelAndLaneThreeComplete : Prop :=
  ((∀ (s : State) (q : PortId) (space : BitVec 4) (index : BitVec 20) (ws : List Word),
     (s.hub.chim.role = .leader → Completes (.followerRecordFetch q ⟨space, index, ws⟩) s fun h =>
       (h.port q).fetch = (s.hub.port q).fetch ++ [((space, index), ws.take 64)] ∧
       ∀ r : PortId, r ≠ q → h.port r = s.hub.port r) ∧
     (s.hub.chim.role ≠ .leader → Completes (.followerRecordFetch q ⟨space, index, ws⟩) s fun h => h = s.hub)) ∧
   (∀ (s : State) (q : PortId),
     Completes (.tunnelAck q) s fun h =>
       h.chim.out[q.val].q = s.hub.chim.out[q.val].q.drop 1 ∧ (h.port q).sent = (s.hub.port q).sent.drop 1 ∧
       h.chim.outSent[q.val] = s.hub.chim.outSent[q.val] - 1) ∧
   (∀ (s : State) (o : Fin 8) (w : Word),
     (s.hub.chim.role = .leader → 4 ≤ o.val → Completes (.followerAttentionReceived o w) s fun h =>
       ∀ q : PortId, (h.port q).acause[o.val] = (s.hub.port q).acause[o.val] ||| w) ∧
     (s.hub.chim.role ≠ .leader ∨ o.val < 4 → Completes (.followerAttentionReceived o w) s fun h => h = s.hub)) ∧
   (∀ (s : State) (q : PortId) (n : Nat) (w : TunnelWrite), s.hub.powered = true → s.hub.following = true →
     (n = s.hub.chim.tdone[q.val] → s.hub.chim.inq[q.val].q.length < 8 →
       Completes (.tunnelWriteApply q ⟨n, w⟩) s fun h =>
         let p := tunnelPlane w
         let x := s.hub.plane p
         let hw := { heldWrite q p (tunnelOff w) (s.hub.port q).cfg (tunnelKind w) with tunnel := true }
         h.chim.tdone[q.val] = n + 1 ∧
         h.chim.inq[q.val].q = s.hub.chim.inq[q.val].q ++ [⟨1, (tunnelKind w).reg5.zeroExtend 64⟩] ∧
         (s.hub.active p = true → (h.plane p).commits = insertWrite { hw with seen := x.time.clk } x.commits) ∧
         (s.hub.active p = false → h.ucommits = insertWrite { hw with seen := s.hub.ticks } s.hub.ucommits)) ∧
     (n = s.hub.chim.tdone[q.val] → 8 ≤ s.hub.chim.inq[q.val].q.length →
       Completes (.tunnelWriteApply q ⟨n, w⟩) s fun h =>
         h.chim.tdone = s.hub.chim.tdone ∧ h.chim.inq[q.val].q = s.hub.chim.inq[q.val].q ∧
         h.ucnt[30].count = s.hub.ucnt[30].count + 1) ∧
     (n ≠ s.hub.chim.tdone[q.val] → Completes (.tunnelWriteApply q ⟨n, w⟩) s fun h => h = s.hub))) ∧
  ((∀ (s : State) (late ovf : Bool) (sec : Word) (frame : Fin 12500000), s.hub.powered = true → s.hub.following = true →
     Completes (.lane3ScheduledAction (.snapshot ovf sec frame) late) s (fun h =>
       let apart := PlaneId.all.any fun q => s.hub.active q &&
         !((s.hub.plane q).time.sec == sec && (s.hub.plane q).time.frame == frame.val)
       (late = true → h.ucnt[31].count = s.hub.ucnt[31].count + 1) ∧
       (apart = false → h.snap.valid = true ∧ h.snap.pending = false ∧ h.snap.sec = sec ∧ h.snap.low = tagLow frame.val 0) ∧
       (apart = true → h.snap.pending = true ∧ h.snap.tag = some (sec, tagLow frame.val 0))) ∧
     Completes (.lane3ScheduledAction .leave late) s fun h => h.chim.leavePend = true ∧ h.chim.role = .follower) ∧
   (∀ (s : State) (late ovf : Bool) (ago : Nat) (pst : Tri Word), s.hub.powered = true → s.hub.chim.role = .leader →
     Completes (.lane3ScheduledAction (.ask ovf ago) late) s (fun h =>
       h.snap.pending = true ∧
       (s.hub.snap.pending = true → h.snap = { s.hub.snap with ovfclr := s.hub.snap.ovfclr || ovf }) ∧
       (s.hub.snap.pending = false → h.snap.ovfclr = ovf ∧ h.snap.tag = none ∧
         ∀ p, h.snap.seen.get p = some ((s.hub.plane p).time.clk - ago))) ∧
     Completes (.lane3ScheduledAction (.captured pst) late) s fun h =>
       (s.hub.snap.tag = none → h.snap = { s.hub.snap with far := some pst }) ∧
       ∀ sec low, s.hub.snap.tag = some (sec, low) → (∀ p, s.hub.active p = true → s.hub.snap.waits.get p = false) →
         h.snap.valid = true ∧ h.snap.pending = false ∧ h.snap.sec = sec ∧ h.snap.low = low ∧
         h.snap.pstate[3] = pst.a ∧ h.snap.pstate[4] = pst.b ∧ h.snap.pstate[5] = pst.c) ∧
   (∀ (s : State) (late : Bool), s.hub.powered = true → s.hub.joined = true →
     (∀ act : Lane3Act, (s.hub.chim.role = .leader ∧ (act = .leave ∨ ∃ ovf sec frame, act = .snapshot ovf sec frame)) ∨
         (s.hub.following = true ∧ ((∃ ovf ago, act = .ask ovf ago) ∨ ∃ pst, act = .captured pst)) →
       Completes (.lane3ScheduledAction act late) s fun h => h = { s.hub with ucnt := h.ucnt })) ∧
   (∀ (s : State) (late : Bool) (p : PlaneId) (n : Nat) (sec : Word), s.hub.powered = true → s.hub.joined = true →
     s.hub.active p = true →
     Completes (.lane3ScheduledAction (.announce p n) late) s (fun h =>
       (h.plane p).grid = { (s.hub.plane p).grid with toMove := some (((s.hub.plane p).time.now + n : Nat) : Int) } ∧
       h.ucnt[31].count = s.hub.ucnt[31].count + (if late then 1 else 0)) ∧
     Completes (.lane3ScheduledAction (.realign p sec) late) s fun h =>
       (h.plane p).grid.reg = true ∧ (h.plane p).grid.rlgnPend = false ∧ (h.plane p).grid.toMove = none ∧
       (h.plane p).time.sec = sec ∧ ((s.hub.plane p).grid.reg = false → (h.plane p).time.frame = 0 ∧ (h.plane p).time.cyc = 0)) ∧
   (∀ (s : State) (late : Bool) (q : PortId) (p : PlaneId) (w : Word), s.hub.powered = true → s.hub.joined = true →
     s.hub.active p = true → s.hub.foreign q p = false →
     Completes (.lane3ScheduledAction (.write (.reg ⟨p.num + 1, by cases p <;> simp [PlaneId.num]⟩ 0x08 w) q) late) s fun h =>
       (h.plane p).loop.freq = w))

/-! ### Images -/

/-- ERASE of a slot that nothing uses begins at once and its end leaves the slot erased, every byte 0xFF; OPEN gives an erased slot to the
port. A block of at most 256 bytes waits in one of its port's two buffers, and the window index that names it advances; with both buffers
waiting the port acknowledges nothing. Each is programmed at its place; CLOSE starts the verification, which a slot passes or fails with
its code, by its own bytes and the declarations that the command carries; BOOT names a verified slot. The model's choices: that the
declarations of the four sections are the command's (log entry 9), what an address that is not acknowledged records (log entry 54), and
that BOOT writes page 120 by an operation of the hub's own (log entry 68). It is the model's choice that a command whose event cannot
occur changes nothing (log entry 4) and that a timed command says its instant has come (log entry 1). -/
def Obligations.SlotCommandsComplete : Prop :=
  ((∀ (s : State) (q : PortId) (i : Fin 2), s.hub.powered = true → (s.hub.grants q).image = true → s.hub.eraseBarred i = false →
     Completes (.imageErase q i) s fun h =>
       h.cfg.slot[i.val].erased = false ∧ h.cfg.slot[i.val].verified = false ∧ i ∈ h.cfg.erasing ∧ h.cfg.result = 1) ∧
   (∀ s : State, s.hub.powered = true →
     (∀ (i : Fin 2) (rest : List (Fin 2)), s.hub.cfg.erasing = i :: rest →
       Completes .eraseComplete s fun h =>
         h.cfg.slot[i.val].erased = true ∧ (∀ a : Fin 8388608, h.cfg.slot[i.val].mem.read a.val = 0xFF) ∧ h.cfg.erasing = rest ∧
         h.cfg.result = 2 ∧ ∀ q : PortId, bitAt (h.port q).ucause 2 = true) ∧
     (s.hub.cfg.erasing = [] → Completes .eraseComplete s fun h => h = s.hub)) ∧
   (∀ (s : State) (q : PortId) (i : Fin 2), s.hub.powered = true → (s.hub.grants q).image = true → s.hub.openBarred q i = false →
     Completes (.imageOpen q i) s fun h => h.cfg.openBy = some (q, i) ∧ h.cfg.result = 2)) ∧
  ((∀ (s : State) (q : PortId) (i : Fin 2) (b : Fin 32768) (data : List Byte), s.hub.powered = true →
     ((s.hub.grants q).image = true → s.hub.holdsOpen q = some i → s.hub.blockUsed i b.val = false →
       0 < data.length → data.length ≤ 256 → data.length % 4 = 0 → (s.hub.port q).blocks.length < 2 →
       Completes (.cfgdataBlockWrite q b data) s fun h =>
         (h.port q).blocks = (s.hub.port q).blocks ++ [(i, b.val, data)] ∧
         (h.port q).wsel = ((s.hub.port q).blockTaken (BitVec.ofNat 20 b.val)).wsel ∧ (h.port q).ref = (s.hub.port q).ref) ∧
     (2 ≤ (s.hub.port q).blocks.length →
       Completes (.cfgdataBlockWrite q b data) s fun h =>
         (h.port q).blocks = (s.hub.port q).blocks ∧ (h.port q).wsel = (s.hub.port q).wsel ∧
         (h.port q).ref.reason = (if (s.hub.port q).ref.count = 0 then .void else (s.hub.port q).ref.reason))) ∧
   (∀ (s : State) (q : PortId) (i : Fin 2) (b : Nat) (data : List Byte) (rest : List (Fin 2 × Nat × List Byte)),
     s.hub.powered = true → (s.hub.port q).blocks = (i, b, data) :: rest →
     Completes (.blockProgramComplete q) s fun h =>
       (h.port q).blocks = rest ∧ h.cfg.slot[i.val].mem = s.hub.cfg.slot[i.val].mem.writeBytes (256 * b) data ∧
       b ∈ h.cfg.slot[i.val].blocks) ∧
   (∀ (s : State) (q : PortId) (i : Fin 2), s.hub.powered = true → (s.hub.grants q).image = true → s.hub.holdsOpen q = some i →
     Completes (.imageClose q) s fun h => h.cfg.openBy = none ∧ h.cfg.verifying = s.hub.cfg.verifying ++ [i]) ∧
   (∀ (s : State) (i : Fin 2) (rest : List (Fin 2)), s.hub.powered = true → s.hub.cfg.verifying = i :: rest →
     (∀ f : ImageFile, Completes (.verificationComplete (.bytes f)) s fun h =>
       let g := s.hub.cfg.slot[i.val].parse f
       h.cfg.verifying = rest ∧
       (s.hub.checkImage g = 0 → h.cfg.slot[i.val].verified = true ∧ h.cfg.slot[i.val].file = some g ∧ h.cfg.result = 2) ∧
       (s.hub.checkImage g ≠ 0 → h.cfg.slot[i.val].verified = s.hub.cfg.slot[i.val].verified ∧
         h.cfg.result = BitVec.ofNat 4 (s.hub.checkImage g))) ∧
     Completes (.verificationComplete .readError) s fun h =>
       h.cfg.verifying = rest ∧ h.cfg.slot = s.hub.cfg.slot ∧ h.cfg.result = 7) ∧
   (∀ (s : State) (q : PortId) (i : Fin 2), s.hub.powered = true → (s.hub.grants q).image = true →
     s.hub.cfg.slot[i.val].verified = true →
     Completes (.imageBoot q i) s fun h => h.cfg.boot = i ∧ h.cfg.result = 2 ∧ h.cfg.boots = s.hub.cfg.boots + 1))

/-- LOAD and RELOAD that nothing refuses name the planes that take the slot's section. At F₀ a running plane that a reload names
enters the reload, keeping its clocks where the clock plan stays; at F₁ its section and digests are those of the slot and it
runs. -/
def Obligations.LoadsReachTheirPlanes : Prop :=
  ((∀ (s : State) (q : PortId) (i : Fin 2), s.hub.powered = true → s.hub.loadReason q i = .none →
     Completes (.imageLoad q i) s fun h =>
       h.cfg.load = some i ∧ (∀ p, (h.plane p).next = some (i, q)) ∧ ∀ p, (h.plane p).sect = (s.hub.plane p).sect) ∧
   (∀ (s : State) (q : PortId) (i : Fin 2) (w : BitVec 3), s.hub.powered = true → s.hub.reloadReason q i w = .none →
     Completes (.imageReload q i w) s fun h =>
       h.cfg.load = s.hub.cfg.load ∧
       ∀ p, (h.plane p).next = if bitAt w (2 - p.num) then some (i, q) else (s.hub.plane p).next)) ∧
  ((∀ (s : State) (p : PlaneId) (i : Fin 2) (q : PortId), s.hub.powered = true → (s.hub.plane p).next = some (i, q) →
     (s.hub.plane p).power = .run → (s.hub.plane p).inHusk = false →
     Completes (.reloadF0 p) s fun h =>
       (h.plane p).power = (if s.hub.keepsPlan p i then .reloadKeep else .reloadChange) ∧
       (h.plane p).fab.online = false ∧ (h.plane p).sel.sw = none) ∧
   (∀ (s : State) (p : PlaneId) (i : Fin 2) (q : PortId) (f : ImageFile), s.hub.powered = true →
     (s.hub.plane p).next = some (i, q) → (s.hub.plane p).reloading = true → s.hub.cfg.slot[i.val].file = some f →
     Completes (.reloadF1 p) s fun h =>
       (h.plane p).power = .run ∧ (h.plane p).next = none ∧ (h.plane p).sdig = f.sdig.get p ∧
       (h.plane p).idig = f.idig.get p ∧ h.cfg.pslot.get p = i ∧
       ((s.hub.plane p).sdig ≠ f.sdig.get p → (h.plane p).sect = f.planes.get p)))

/-! ### Ports -/

/-- A held FREQ word commits at its plane's frame boundary once its STOP has been seen 4 cycles before, one that came over the tunnel with
its reply, and a held snapshot request at the second housekeeping tick; what is not due waits on. A FREQ word written by name is judged
and committed at once, and one that finds its port asleep wakes it; one that waits for its tag is kept, applied at the tag or cancelled.
The model's choices: when a STOP is seen, and that a write by name is its own commit (log entry 22), and the reply's entry (log entry 74).
It is the model's choice that a command whose event cannot occur changes nothing (log entry 4). -/
def Obligations.HeldAndScheduledWritesCommit : Prop :=
  ((∀ (s : State) (q : PortId) (p : PlaneId) (w : Word) (seen : Nat), HostMay s.hub q p →
     let t := (s.hub.plane p).time
     let hw := { heldWrite q p (offOf p) (s.hub.port q).cfg (.reg 0x08 w) with seen := seen }
     (s.hub.plane p).commits = [hw] →
     (seen + 4 ≤ t.clk - t.cyc →
       Completes (.planeWriteCommit p) s fun h => (h.plane p).loop.freq = w ∧ (h.plane p).commits = []) ∧
     (t.clk - t.cyc < seen + 4 → Completes (.planeWriteCommit p) s fun h => (h.plane p) = s.hub.plane p)) ∧
   (∀ (s : State) (q : PortId) (p : PlaneId) (w : Word) (seen : Nat), s.hub.active p = true → s.hub.foreign q p = false →
     let t := (s.hub.plane p).time
     (s.hub.plane p).commits = [{ heldWrite q p (offOf p) (s.hub.port q).cfg (.reg 0x08 w) with seen := seen, tunnel := true }] →
     seen + 4 ≤ t.clk - t.cyc →
     Completes (.planeWriteCommit p) s fun h =>
       (h.plane p).loop.freq = w ∧ (h.plane p).commits = [] ∧ h.chim.inq[q.val].q = s.hub.chim.inq[q.val].q.drop 1 ∧
       (s.hub.chim.out[q.val].q.length < 8 → h.chim.out[q.val].q = s.hub.chim.out[q.val].q ++ [⟨0, 8⟩])) ∧
   (∀ (s : State) (q : PortId) (seen : Nat), s.hub.powered = true → (s.hub.grants q).counters = true →
     s.hub.ucommits = [{ heldWrite q .a 0 (s.hub.port q).cfg (.reg 0x17 0x8) with seen := seen }] →
     (seen < s.hub.ticks → Completes .unitWriteCommit s fun h => h.snap.pending = true ∧ h.ucommits = []) ∧
     (s.hub.ticks ≤ seen → Completes .unitWriteCommit s fun h => h.ucommits = s.hub.ucommits ∧ h.snap = s.hub.snap))) ∧
  ((∀ (s : State) (q : PortId) (p : PlaneId) (addr : BitVec 7) (w : Word), HostMay s.hub q p →
     s.hub.offset q addr = some (offOf p) → s.hub.acks q (offOf p) = true → (s.hub.port q).asleep = false →
     Completes (.hostRegisterWrite q addr 0x08 w) s fun h =>
       (h.plane p).loop.freq = w ∧ (h.port q).ref = (s.hub.port q).ref) ∧
   (∀ (s : State) (q : PortId) (addr : BitVec 7) (r : BitVec 5) (w : Word), s.hub.powered = true →
     (s.hub.offset q addr = none → Completes (.hostRegisterWrite q addr r w) s fun h => h = s.hub) ∧
     ∀ o : Fin 8, s.hub.offset q addr = some o →
       ((s.hub.port q).asleep = true → Completes (.hostRegisterWrite q addr r w) s fun h =>
         (h.port q).asleep = false ∧ (h.port q).ref = (s.hub.port q).ref ∧ OnlyPort q s.hub h) ∧
       ((s.hub.port q).asleep = false → s.hub.acks q o = false → Completes (.hostRegisterWrite q addr r w) s fun h =>
         h.planes = s.hub.planes ∧
         (h.port q).ref.reason = (if (s.hub.port q).ref.count = 0 then .void else (s.hub.port q).ref.reason))) ∧
   (∀ (s : State) (q : PortId) (p : PlaneId) (tag w : Word), s.hub.powered = true → tag ≠ 0xFFFFFFFF →
     s.hub.schedReason q (offOf p) tag false false false = .none →
     Completes (.scheduledTransaction q p tag [⟨p, 0x08, w⟩]) s fun h =>
       (h.port q).scheds = (s.hub.port q).scheds ++
         [⟨offOf p, BitVec.ofNat 8 (bits tag 31 24), BitVec.ofNat 24 (bits tag 23 0),
           [heldWrite q p (offOf p) (s.hub.port q).cfg (.reg 0x08 w)]⟩] ∧
       (h.plane p).loop.freq = (s.hub.plane p).loop.freq) ∧
   (∀ (s : State) (q : PortId) (p : PlaneId) (t : Sched) (w : Word), HostMay s.hub q p → (s.hub.port q).scheds = [t] →
     t.writes = [heldWrite q p (offOf p) (s.hub.port q).cfg (.reg 0x08 w)] →
     (s.hub.schedDue p t = true →
       Completes (.schedApply p q 0) s fun h => (h.plane p).loop.freq = w ∧ (h.port q).scheds = []) ∧
     (s.hub.schedDue p t = false → Completes (.schedApply p q 0) s fun h => h = s.hub)) ∧
   (∀ (s : State) (q : PortId) (p : PlaneId), s.hub.powered = true → s.hub.controls q p = true →
     Completes (.schedCancel q p) s fun h =>
       (h.port q).scheds = (s.hub.port q).scheds.filter fun t => t.off != offOf p))

/-- A START captures; a complete transaction that sets the pointer leaves it set and ends; a port that is asleep leaves its address
unacknowledged and wakes; a void one is recorded and ends. A transaction that writes one FREQ word leaves the word waiting for its plane's
boundary, from the cycle in which the plane sees the STOP, and advances the pointer; with PEC enabled it does so where the last byte is
the CRC of the others, and is void elsewhere. A read sends the register word the START captured, with its PEC where that is enabled, and a
read of a whole window record sends its words and advances the index where auto-increment is on. It is the model's choice that a command
whose event cannot occur changes nothing (log entry 4). -/
def Obligations.TransactionsStartAndEnd : Prop :=
  (∀ (s : State) (q : PortId), s.hub.powered = true →
    ((s.hub.port q).answers = true → Completes (.transactionStart q) s fun h =>
      (h.port q).latch = some (s.hub.capture q) ∧ (h.port q).pec = (s.hub.port q).pecNext ∧
      ∀ r : PortId, r ≠ q → h.port r = s.hub.port r) ∧
    ((s.hub.port q).answers = false → Completes (.transactionStart q) s fun h => h = s.hub)) ∧
  (∀ (s : State) (q : PortId) (p : PlaneId) (addr : BitVec 7) (l : Latch) (b : Byte) (seen : Tri (Fin 40)),
    s.hub.powered = true → (s.hub.port q).answers = true → (s.hub.port q).latch = some l → l.cfg = (s.hub.port q).cfg →
    (s.hub.port q).sleepDue = false → s.hub.offset q addr = some (offOf p) →
    ((s.hub.port q).asleep = false → (s.hub.port q).pec = false → b.toNat < 0x20 →
      Completes (.transactionComplete q ⟨[.write addr [b]], seen⟩) s fun h =>
        (h.port q).pointer = BitVec.ofNat 5 b.toNat ∧ (h.port q).latch = none ∧ (h.port q).ref = (s.hub.port q).ref) ∧
    ((s.hub.port q).asleep = true →
      Completes (.transactionComplete q ⟨[.write addr [b]], seen⟩) s fun h =>
        (h.port q).pointer = (s.hub.port q).pointer ∧ (h.port q).latch = none ∧ (h.port q).asleep = false)) ∧
  (∀ (s : State) (q : PortId) (p : PlaneId) (addr : BitVec 7) (l : Latch) (seen : Tri (Fin 40)),
    s.hub.active p = true → (s.hub.port q).answers = true → (s.hub.port q).latch = some l → l.cfg = (s.hub.port q).cfg →
    (s.hub.port q).sleepDue = false → s.hub.offset q addr = some (offOf p) → s.hub.acks q (offOf p) = true →
    (s.hub.port q).asleep = false →
    (∀ w : Word,
      let at_ := BitVec.ofNat 8 (addr.toNat * 2)
      let body : List Byte := 0x08 :: wordBytes w
      let held := insertWrite { heldWrite q p (offOf p) l.cfg (.reg 0x08 w) with seen := (s.hub.stopAt seen).get p }
        (s.hub.plane p).commits
      ((s.hub.port q).pec = false → Completes (.transactionComplete q ⟨[.write addr body], seen⟩) s fun h =>
        (h.plane p).commits = held ∧ (h.plane p).loop = (s.hub.plane p).loop ∧ (h.port q).pointer = 0x09 ∧
        (h.port q).latch = none ∧ (h.port q).ref = (s.hub.port q).ref) ∧
      ((s.hub.port q).pec = true → Completes (.transactionComplete q ⟨[.write addr (body ++ [crc8 (at_ :: body)])], seen⟩) s fun h =>
        (h.plane p).commits = held ∧ (h.port q).pointer = 0x09 ∧ (h.port q).ref = (s.hub.port q).ref) ∧
      ∀ b : Byte, (s.hub.port q).pec = true → b ≠ crc8 (at_ :: body) →
        Completes (.transactionComplete q ⟨[.write addr (body ++ [b])], seen⟩) s fun h =>
          (h.plane p).commits = (s.hub.plane p).commits ∧ (h.port q).pointer = (s.hub.port q).pointer ∧ (h.port q).latch = none ∧
          (h.port q).ref.reason = (if (s.hub.port q).ref.count = 0 then .void else (s.hub.port q).ref.reason)) ∧
    (l.pointer ≠ 0x0E → l.pointer ≠ 0x1B →
      let b := wordBytes (l.regWord (offOf p) l.pointer)
      ((s.hub.port q).pec = false → Completes (.transactionComplete q ⟨[.read addr 4], seen⟩) s fun h =>
        (h.port q).rx = b ∧ (h.port q).pointer = l.pointer + 1 ∧ (h.plane p) = s.hub.plane p) ∧
      ((s.hub.port q).pec = true → Completes (.transactionComplete q ⟨[.read addr 5], seen⟩) s fun h =>
        (h.port q).rx = b ++ [crc8 (BitVec.ofNat 8 (addr.toNat * 2 + 1) :: b)] ∧ (h.port q).pointer = l.pointer + 1)) ∧
    (l.pointer = 0x0E → (s.hub.port q).pec = false →
      let w := l.wsel[(offOf p).val]
      let n := recordLen (wselSpace w) (wselIndex w)
      Completes (.transactionComplete q ⟨[.read addr (4 * n)], seen⟩) s fun h =>
        (h.port q).rx = ((List.range n).flatMap fun i => wordBytes ((l.recs[(offOf p).val]).getD i 0)) ∧
        (h.port q).pointer = 0x0E ∧
        (h.port q).wsel[(offOf p).val] = if wselAuto w then wselWith w (wselIndex w + 1) else w)) ∧
  (∀ (s : State) (q : PortId) (addr : BitVec 7) (reg : BitVec 5), s.hub.powered = true →
    Completes (.transactionVoid q addr reg) s fun h =>
      (h.port q).latch = none ∧
      ((s.hub.port q).ref.count = 0 →
        (h.port q).ref = { reason := .void, taddr := addr, treg := reg, count := 1 }) ∧
      ((s.hub.port q).ref.count ≠ 0 → (h.port q).ref.reason = (s.hub.port q).ref.reason))

/-- A port's own fields: window select, attention settings, causes, refusal record, PEC and sleep. A write of PORT names the view that
later reads return. Nothing outside the port changes. It is the model's choice that a command whose event cannot occur changes nothing
(log entry 4). -/
def Obligations.PortFieldWritesCommit : Prop :=
  ∀ (s : State) (q : PortId), s.hub.powered = true →
    (∀ (addr : BitVec 7) (o : Fin 8) (w : Word), s.hub.offset q addr = some o → o.val % 4 ≠ 0 → s.hub.rightAt q o ≠ .none →
      (wselRange w = false → Completes (.windowSelectWrite q addr w) s fun h =>
        (h.port q).wsel[o.val] = w ∧ OnlyPort q s.hub h) ∧
      (attnRange w = false → Completes (.attentionConfigWrite q addr w) s fun h =>
        (h.port q).haddr.toNat = bits w 31 25 ∧ (h.port q).en[o.val].toNat = bits w 20 0 ∧ (h.port q).speed.toNat = bits w 24 23 ∧
        OnlyPort q s.hub h) ∧
      (bits w 30 21 = 0 → Completes (.attentionCauseClear q addr w) s fun h =>
        (h.port q).acause[o.val] = (s.hub.port q).acause[o.val] &&& ~~~w ∧
        (bitAt w 31 = true → ∀ r : Fin 8, bitAt (h.port q).acause[r.val] 31 = false) ∧ OnlyPort q s.hub h)) ∧
    Completes (.refusalClear q) s (fun h => (h.port q).ref = {} ∧ (h.port q).pview = 0 ∧ OnlyPort q s.hub h) ∧
    (∀ on : Bool, Completes (.pecEnableWrite q on) s fun h =>
      (h.port q).pecNext = on ∧ (h.port q).pec = (s.hub.port q).pec ∧ (h.port q).pview = 0 ∧ OnlyPort q s.hub h) ∧
    (∀ w : Byte, Completes (.unitCauseClear q w) s fun h =>
      (h.port q).ucause = (s.hub.port q).ucause &&& ~~~w ∧ (h.port q).pview = 1 ∧ OnlyPort q s.hub h) ∧
    Completes (.portSleep q) s (fun h => (h.port q).asleep = true ∧ (h.port q).pview = 0 ∧ OnlyPort q s.hub h) ∧
    ∀ addr : BitVec 7,
      ((s.hub.offset q addr).isSome = true → Completes (.portWake q addr) s fun h =>
        (h.port q).asleep = false ∧ OnlyPort q s.hub h) ∧
      (s.hub.offset q addr = none → Completes (.portWake q addr) s fun h => h = s.hub)

/-- An attention attempt of the oldest message: acknowledged, it is gone and counted; not acknowledged or held too long, it waits with one
more retry, and after the eighth retry it is lost; lost to another controller it waits as it was. A line found stuck raises its source,
and where the hub drives it voids the transaction it serves or fails the attempt; a line that is free again lets it go. A recovery of
another port is counted with its port, and a port test makes the message of origin 0x00 pending. The model's choices: that a recovery
which finds both lines high counts (log entry 17), that the ninth failure loses a message (log entry 63), and what a line that the hub
drives ends (log entry 64). It is the model's choice that a command whose event cannot occur changes nothing (log entry 4) and that a
timed command says its instant has come (log entry 1). -/
def Obligations.AttentionAndBusRecoveryComplete : Prop :=
  (∀ (s : State) (q : PortId) (m : AttnMsg) (rest : List AttnMsg), s.hub.mayAttempt q = true →
     (s.hub.port q).msgs = m :: rest →
     (∀ c : Instr, c ∈ [.attentionAttempt q .acked, .attentionRetry q .acked] →
       (c = .attentionRetry q .acked → m.retries ≠ 0) →
       Completes c s fun h =>
         (h.port q).msgs = rest ∧ h.ucnt[9 + q.val].count = s.hub.ucnt[9 + q.val].count + 1) ∧
     (∀ c : Instr, c ∈ [.attentionAttempt q .lostArb, .attentionRetry q .lostArb] →
       Completes c s fun h => (h.port q).msgs = m :: rest) ∧
     (∀ c : Instr, c ∈ [.attentionAttempt q .nacked, .attentionRetry q .nacked, .attentionHoldTimeout q] →
       (c = .attentionRetry q .nacked → m.retries ≠ 0) →
       (m.retries < 8 → Completes c s fun h => (h.port q).msgs = { m with retries := m.retries + 1 } :: rest) ∧
       (8 ≤ m.retries → Completes c s fun h =>
         (h.port q).msgs = rest ∧ bitAt (h.port q).acause[1] 31 = true ∧
         h.ucnt[12 + q.val].count = s.hub.ucnt[12 + q.val].count + 1)) ∧
     (m.retries = 0 → ∀ e : AttnEnd, Completes (.attentionRetry q e) s fun h => h = s.hub)) ∧
  ((∀ (s : State) (q : PortId) (b : Bool), s.hub.powered = true →
     Completes (.lineStuckDetect q ⟨.scl, b⟩) s (fun h =>
       (h.port q).sclStuck = true ∧ h.usrc[18 + q.val].live = true ∧
       (b = true → (s.hub.port q).latch.isSome = true → (h.port q).latch = none)) ∧
     Completes (.lineStuckDetect q ⟨.sda, b⟩) s (fun h =>
       (h.port q).sdaStuck = true ∧ h.usrc[21 + q.val].live = true ∧
       (b = true → (s.hub.port q).latch.isSome = true → (h.port q).latch = none) ∧
       (b = false → (h.port q).latch = (s.hub.port q).latch ∧ (h.port q).msgs = (s.hub.port q).msgs)) ∧
     Completes (.lineStuckClear q .scl) s (fun h => (h.port q).sclStuck = false ∧ h.usrc[18 + q.val].det = false) ∧
     Completes (.lineStuckClear q .sda) s fun h => (h.port q).sdaStuck = false ∧ h.usrc[21 + q.val].det = false) ∧
   (∀ (s : State) (q t : PortId) (p : PlaneId) (b : BusLines), s.hub.powered = true → s.hub.controls q p = true → q ≠ t →
     Completes (.busRecover q t b) s fun h =>
       h.ucnt[15 + t.val].count = s.hub.ucnt[15 + t.val].count + 1 ∧ (h.port q).ref = (s.hub.port q).ref ∧
       (b ≠ .bothHigh → (h.port t).latch = none)) ∧
   (∀ (s : State) (q t : PortId) (p : PlaneId) (b : BusLines), s.hub.powered = true → s.hub.controls q p = true →
     (s.hub.port t).haddr ≠ 0 →
     Completes (.portTest q t b) s fun h => ∃ m ∈ (h.port t).msgs, m.origin = 8))

/-- Ownership: a port that controls a plane no other port owns claims it, a release and the owner's timeout end it, and history bits clear
as written, but for those set at the same boundary. A release by another port than the owner, and a timeout of 0, end nothing. It is the
model's choice that a command whose event cannot occur changes nothing (log entry 4) and that a timed command says its instant has come
(log entry 1). -/
def Obligations.OwnershipCommandsComplete : Prop :=
  (∀ (s : State) (q : PortId) (p : PlaneId), HostMay s.hub q p →
    Completes (.ownershipClaim q p) s (fun h => (h.plane p).owner = some q) ∧
    Completes (.ownershipRelease q p) s (fun h => (h.plane p).owner = none) ∧
    ∀ w : BitVec 12, Completes (.historyClear q p w) s fun h =>
      let x := s.hub.plane p
      (h.plane p).phist = x.phist &&& ~~~w ||| (if x.time.cyc = 0 then x.phist &&& x.phistNow else 0)) ∧
  (∀ (s : State) (q o : PortId) (p : PlaneId), s.hub.active p = true → s.hub.controls q p = true →
    (s.hub.plane p).owner = some o → o ≠ q →
    Completes (.ownershipRelease q p) s fun h =>
      (h.plane p).owner = some o ∧
      (h.port q).ref.reason = (if (s.hub.port q).ref.count = 0 then .owner else (s.hub.port q).ref.reason)) ∧
  (∀ (s : State) (p : PlaneId), s.hub.powered = true →
    ((s.hub.plane p).sect.ownto ≠ 0 → Completes (.ownershipTimeout p) s fun h => (h.plane p).owner = none) ∧
    ((s.hub.plane p).sect.ownto = 0 → Completes (.ownershipTimeout p) s fun h => h = s.hub))

/-! ### The parameter store, snapshots, attestation, standby and environment -/

/-- The store's accesses: a page read comes from RAM where its copy passes its CRC, and else is counted and calls for a reload; a write
starts an operation, its end puts the page into RAM and starts the oldest write of the hub's own that waits; words shift into the key
register and the page buffer. The hub's own pages: a page whose copy failed is loaded again from its newest record, and a page the hub
maintains is written by an operation of its own, which follows the one in progress; pages 123 and 124 are written only where their content
has changed. The model's choices: what an operation of the hub's own is (log entry 69), and that a read by name says whether an upset has
hit the copy (log entry 99). It is the model's choice that a command whose event cannot occur changes nothing (log entry 4) and that a
timed command says its instant has come (log entry 1). -/
def Obligations.StoreAccessesComplete : Prop :=
  ((∀ (s : State) (q : PortId) (n : Fin 128), s.hub.powered = true → (s.hub.port q).readLacks n = false →
     (s.hub.storeInjector = none → s.hub.nv.copyOk n = true → Completes (.nvRead q ⟨n, true⟩) s fun h =>
       (h.port q).buf = s.hub.nv.ram.readBytes (32 * n.val) 32 ∧ (h.port q).nverr = false ∧ h.nv = s.hub.nv) ∧
     (∀ b : Bool, s.hub.storeInjector.isSome = true ∨ b = false ∨ s.hub.nv.copyOk n = false → Completes (.nvRead q ⟨n, b⟩) s fun h =>
       (h.port q).buf = (s.hub.port q).buf ∧ (h.port q).nverr = true ∧ n ∈ h.nv.stale ∧ h.nv.ram = s.hub.nv.ram ∧
       h.ucnt[4].count = s.hub.ucnt[4].count + 1)) ∧
   (∀ (s : State) (q : PortId) (n : Fin 128), s.hub.powered = true → s.hub.writeLacks q n = false → n.val < 120 →
     s.hub.nv.lock = false → s.hub.nv.op = none →
     Completes (.nvWrite q n) s fun h =>
       h.nv.op = some { port := some q, page := BitVec.ofNat 16 n.val, data := (s.hub.port q).buf } ∧
       h.nv.ram = s.hub.nv.ram) ∧
   (∀ (s : State) (op : NvOp) (a b : Bool), s.hub.powered = true → s.hub.nv.op = some op → op.page.toNat < 128 →
     Completes (.nvProgramComplete a b) s fun h =>
       h.nv.op = s.hub.nv.waiting.head? ∧ h.nv.waiting = s.hub.nv.waiting.drop 1 ∧
       h.nv.ram = (if a || b then s.hub.nv.ram.writeBytes (32 * op.page.toNat) op.data else s.hub.nv.ram) ∧
       ∀ q, op.port = some q → (h.port q).nverr = !(a || b)) ∧
   (∀ (s : State) (q : PortId) (w : Word), Completes (.nvKeyShift q w) s fun h =>
     (h.port q).key = ((s.hub.port q).key <<< 32) ||| w.zeroExtend 64) ∧
   (∀ (s : State) (q : PortId) (w : Word), Completes (.nvDataWrite q w) s fun h =>
     (h.port q).offset = (s.hub.port q).offset + 4 ∧
     (h.port q).buf = putBytes (s.hub.port q).buf (s.hub.port q).offset.toNat (wordBytes w))) ∧
  ((∀ (s : State) (n : Fin 128),
     (s.hub.nv.stale.contains n = true → Completes (.pageReload n) s fun h =>
       h.nv.ram = s.hub.nv.ram.writeBytes (32 * n.val)
         (((s.hub.nv.newest (BitVec.ofNat 16 n.val)).map NvRec.data).getD (List.replicate 32 0xFF)) ∧
       h.nv.stale.contains n = false) ∧
     (s.hub.nv.stale.contains n = false → Completes (.pageReload n) s fun h => h = s.hub)) ∧
   (∀ (s : State) (n : Fin 128) (a b c : Int), s.hub.powered = true →
     (∀ data, s.hub.pageContent n a b c = some data → s.hub.nv.unchanged n data = false →
       let op : NvOp := { port := none, page := BitVec.ofNat 16 n.val, data := data }
       (s.hub.nv.op = none → s.hub.nv.waiting = [] → (∀ w ∈ s.hub.ucommits, s.hub.ticks ≤ w.seen) →
         Completes (.hubPageWrite n a b c) s fun h => h.nv.op = some op ∧ h.nv.waiting = []) ∧
       (s.hub.nv.op.isSome = true ∨ (∃ w ∈ s.hub.ucommits, w.seen < s.hub.ticks) →
         Completes (.hubPageWrite n a b c) s fun h => h.nv.op = s.hub.nv.op ∧ h.nv.waiting = s.hub.nv.waiting ++ [op])) ∧
     ((∀ data, s.hub.pageContent n a b c = some data → s.hub.nv.unchanged n data = true) →
       Completes (.hubPageWrite n a b c) s fun h => h = s.hub)))

/-- Passwords: a matching key is accepted and the key register cleared, a wrong one is counted and locks out at the eighth
failure, and in a lockout a key is refused and counted, a password change likewise, and a write is refused with STATE whatever its
rights; a password change starts an operation that holds the digest of the key. -/
def Obligations.PasswordCommandsComplete : Prop :=
  (∀ (s : State) (q : PortId) (w : Bool), s.hub.powered = true →
    (s.hub.nv.lock = false → Completes (.nvKey q w) s fun h =>
      let good := keyMatches (if w then s.hub.nv.wpw else s.hub.nv.rpw) (s.hub.port q).key
      (h.port q).key = 0 ∧
      (good = true → (if w then (h.port q).wpwok else (h.port q).rpwok) = true ∧ h.nv.fails = s.hub.nv.fails) ∧
      (good = false → (if w then (h.port q).wpwok else (h.port q).rpwok) = false ∧ h.nv.fails = s.hub.nv.fails + 1 ∧
        h.nv.lock = decide (7 ≤ s.hub.nv.fails))) ∧
    (s.hub.nv.lock = true → Completes (.nvKey q w) s fun h =>
      (h.port q).key = (s.hub.port q).key ∧ h.nv = s.hub.nv ∧ h.ucnt[0].count = s.hub.ucnt[0].count + 1) ∧
    (s.hub.nv.lock = true →
      let why := if (s.hub.port q).ref.count = 0 then Reason.state else (s.hub.port q).ref.reason
      Completes (.nvPasswordChange q w) s (fun h =>
        (h.port q).key = (s.hub.port q).key ∧ h.nv = s.hub.nv ∧ h.ucnt[0].count = s.hub.ucnt[0].count + 1 ∧
        (h.port q).ref.reason = why) ∧
      ∀ n : Fin 128, Completes (.nvWrite q n) s fun h => h.nv = s.hub.nv ∧ (h.port q).ref.reason = why)) ∧
  (∀ (s : State) (q : PortId) (w : Bool), s.hub.powered = true → s.hub.nv.lock = false → s.hub.nv.op = none →
    (s.hub.port q).wpwok = true → (s.hub.grants q).nvWrite = true →
    Completes (.nvPasswordChange q w) s fun h =>
      h.nv.op = some { port := some q, page := if w then 0xFF01 else 0xFF00
                       data := digestBytes (sha256 (payloadBytes (s.hub.port q).key)) } ∧
      (h.port q).key = 0)

/-- A snapshot is requested by a port with COUNTERS, a pending one taking the request in, handed to the planes that run, and captured at
the boundary of the reference plane where it is due, with the planes as their last frames ended; a plane that does not stand at that
boundary captures at its own, and a joined leader waits for what its follower captures. Attestation: a nonce is taken, START makes the
element busy and requests a snapshot, and after the capture the signing ends with a signature of the message's digest by the unit's
attestation key; an element that fails its self-test, or that source 206 says is failed, or that does not answer, ends it with an error.
The model's choices: where the outcome of the self-test comes from (log entry 18), and the number k of each signature, which is free (log
entry 14). It is the model's choice that a command whose event cannot occur changes nothing (log entry 4) and that a timed command says
its instant has come (log entry 1). -/
def Obligations.SnapshotsAndAttestationComplete : Prop :=
  ((∀ (s : State) (q : PortId) (c : Bool), s.hub.powered = true → (s.hub.grants q).counters = true →
     Completes (.snapshotRequest q c) s fun h =>
       h.snap.pending = true ∧ h.snap.ovfclr = (c || (s.hub.snap.pending && s.hub.snap.ovfclr)) ∧ h.snap.counts = s.hub.snap.counts ∧
       (s.hub.snap.pending = false → s.hub.joined = false → ∀ p,
         h.hand.get p = if s.hub.active p then s.hub.hand.get p ++ [.snapshot] else s.hub.hand.get p)) ∧
   (∀ (s : State) (p : PlaneId), s.hub.powered = true → s.hub.snapPlane = some p →
     (s.hub.snap.pending = true → s.hub.snap.tag = none → s.hub.snapDue p = true → Completes .snapshotCapture s fun h =>
       let t := (s.hub.plane p).time
       let apart := PlaneId.all.any fun q => q != p && s.hub.active q &&
         !((s.hub.plane q).time.sec == t.sec && (s.hub.plane q).time.frame == t.frame && (s.hub.plane q).time.cyc == t.cyc &&
           s.hub.inGroup p && s.hub.inGroup q)
       let lacks := s.hub.chim.role = .leader ∧ s.hub.snap.far = none
       (apart = false → ¬lacks →
         h.snap.valid = true ∧ h.snap.pending = false ∧ h.snap.sec = t.sec ∧ h.snap.low = tagLow t.frame 0 ∧
         h.snap.counts = counterList ⟨s.hub.frozen .a, s.hub.frozen .b, s.hub.frozen .c⟩ s.hub.chim.occOut s.hub.chim.occIn
           s.hub.ucnt ∧
         ∀ q : PortId, bitAt (h.port q).ucause 4 = true) ∧
       (apart = true ∨ lacks → h.snap.pending = true ∧ h.snap.tag = some (t.sec, tagLow t.frame 0) ∧ h.snap.counts = s.hub.snap.counts)) ∧
     (s.hub.snap.pending = false ∨ s.hub.snapDue p = false → Completes .snapshotCapture s fun h => h = s.hub))) ∧
  ((∀ (s : State) (q : PortId) (n : Vector Word 8), s.hub.powered = true → (s.hub.grants q).auth = true →
     s.hub.auth.busy = false →
     Completes (.authNonceWrite q n) s fun h => h.auth.nonce = n ∧ h.auth.done = false ∧ h.auth.sig = s.hub.auth.sig) ∧
   (∀ (s : State) (q : PortId) (ok : Bool), s.hub.powered = true → s.hub.signReason q = .none →
     Completes (.authStart q ok) s fun h =>
       h.auth.busy = true ∧ h.auth.waiting = true ∧ h.auth.selfOk = ok ∧ h.auth.err = false ∧ h.auth.done = false ∧
       h.auth.latched = s.hub.auth.nonce ∧ h.snap.pending = true) ∧
   (∀ s : State, s.hub.powered = true →
     (s.hub.auth.busy = true → s.hub.auth.waiting = false →
       (s.hub.auth.selfOk = true → s.hub.usrc[14].live = false → Completes .signingComplete s fun h =>
         h.auth.busy = false ∧ h.auth.done = true ∧ h.auth.err = false ∧
         h.auth.sig = s.hub.ident.sign (Config.signNonce s.hub.freeIdx) (sha256 s.hub.attestMessage) ∧
         h.auth.rdig = s.hub.auth.capDig) ∧
       (s.hub.auth.selfOk = false ∨ s.hub.usrc[14].live = true → Completes .signingComplete s fun h =>
         h.auth.busy = false ∧ h.auth.done = false ∧ h.auth.err = true ∧ h.auth.sig = s.hub.auth.sig ∧
         (s.hub.auth.selfOk = false → h.usrc[14].live = true))) ∧
     (s.hub.auth.busy = false ∨ s.hub.auth.waiting = true → Completes .signingComplete s fun h => h = s.hub)) ∧
   (∀ s : State, s.hub.powered = true →
     Completes .securityElementTimeout s fun h =>
       h.auth.err = true ∧ (s.hub.auth.busy = true → h.auth.busy = false ∧ h.auth.done = false) ∧ h.usrc[14].live = true))

/-- A plane's standby: entered from RUN, reached once it has drained, left at once before that and by a restart after it. The unit's
standby is handed over to every plane whose word clock runs, and so is its end; both act at once on a plane whose word clock stands. That
a plane whose exit has committed and whose clocks have not restarted stops with the unit, and leaves with it, is the model's choice (log
entry 66). It is the model's choice that a command whose event cannot occur changes nothing (log entry 4) and that a timed command says
its instant has come (log entry 1). -/
def Obligations.StandbyCommandsComplete : Prop :=
  ((∀ (s : State) (q : PortId) (p : PlaneId), HostMay s.hub q p → (s.hub.plane p).inHusk = false →
     s.hub.standbyBarred p = false →
     Completes (.planeStandbyEnter q p) s fun h =>
       (h.plane p).power = .entering ∧ (∀ i : Fin 16, (h.plane p).ck[i.val].halted = true) ∧
       (h.plane p).sel.sw = none ∧ (h.plane p).covered = false) ∧
   (∀ (s : State) (p : PlaneId), s.hub.active p = true →
     ((s.hub.plane p).power = .entering → (s.hub.plane p).drained = true → Completes (.standbyDrainComplete p) s fun h =>
       (h.plane p).power = .stopped ∧ (h.plane p).fab.online = false ∧
       ∀ l : Fin 32, (h.plane p).link[l.val].state = .off ∧ (h.plane p).link[l.val].dqCmd.q = []) ∧
     ((s.hub.plane p).power ≠ .entering ∨ (s.hub.plane p).drained = false →
       Completes (.standbyDrainComplete p) s fun h => h = s.hub)) ∧
   (∀ (s : State) (q : PortId) (p : PlaneId), s.hub.powered = true → s.hub.controls q p = true →
     s.hub.foreign q p = false →
     ((s.hub.plane p).power = .entering → Completes (.planeStandbyLeave q p) s fun h =>
       (h.plane p).power = .run ∧ ∀ i : Fin 16, (h.plane p).ck[i.val].halted = false) ∧
     ((s.hub.plane p).power = .stopped → Completes (.planeStandbyLeave q p) s fun h => (h.plane p).power = .leaving) ∧
     ((s.hub.plane p).power = .run → Completes (.planeStandbyLeave q p) s fun h => (h.plane p) = s.hub.plane p)) ∧
   (∀ (s : State) (p : PlaneId), s.hub.powered = true →
     ((s.hub.plane p).power = .leaving → Completes (.planeClockRestart p) s fun h =>
       (h.plane p).power = .run ∧ (h.plane p).time.sec = 0 ∧ (h.plane p).time.frame = 0 ∧ (h.plane p).grid.reg = false ∧
       (h.plane p).loop.state = (if (s.hub.plane p).loop.state = .husk then .husk else .free) ∧
       (h.plane p).sect = (s.hub.plane p).sect) ∧
     ((s.hub.plane p).power ≠ .leaving → Completes (.planeClockRestart p) s fun h => h = s.hub))) ∧
  ((∀ (s : State) (q : PortId), s.hub.powered = true → s.hub.ustbyReason q = .none →
     Completes (.unitStandbyEnter q) s fun h =>
       h.ustby = true ∧ h.chim.st[0] = .down ∧ h.chim.st[1] = .down ∧ h.chim.role = .solo ∧
       (∀ p, (s.hub.active p = true → h.hand.get p = s.hub.hand.get p ++ [.standby true]) ∧
         ((s.hub.plane p).power = .leaving → (h.plane p).power = .stopped ∧ (h.plane p).withUnit = true) ∧
         ((s.hub.plane p).power = .stopped → (h.plane p).power = .stopped)) ∧
       ∀ r : PortId, (h.port r).wpwok = false ∧ (h.port r).rpwok = false) ∧
   (∀ (s : State) (q : PortId), HostMayAll s.hub q →
     (s.hub.ustby = true → Completes (.unitStandbyLeave q) s fun h =>
       h.ustby = false ∧ h.upstate = .run ∧
       ∀ p, (s.hub.active p = true → h.hand.get p = s.hub.hand.get p ++ [.standby false]) ∧
         ((s.hub.plane p).withUnit = true → (s.hub.plane p).power = .stopped → (h.plane p).power = .leaving)) ∧
     (s.hub.ustby = false → Completes (.unitStandbyLeave q) s fun h => h = s.hub)))

/-- A feed is judged absent, reversed, in under-voltage and in over-voltage on the second consecutive mean that says so, and no longer
on the second that says otherwise; its input protection opens and closes. A fan that is absent or below 70 percent is not well and every
fan goes to full speed, before the 30 percent of standby, which is the model's choice (log entry 13); the samples of the environment
judge the limits of the inlet and its rate of change, the internal and plane temperatures, humidity and pressure with their
hysteresis. -/
def Obligations.FeedsFansAndEnvironmentAreJudged : Prop :=
  ((∀ (s : State) (n : Fin 2) (m : Int), s.hub.powered = true →
     Completes (.feedJudgement n m) s fun h =>
       let f := s.hub.env.feed[n.val]
       let g := h.env.feed[n.val]
       g.mean = m ∧ g.cut = f.cut ∧
       (-18000 < m → m < 18000 → f.absent = false → 1 ≤ f.aRun → g.absent = true ∧ h.usrc[n.val].live = true) ∧
       (-18000 < m → m < 18000 → f.absent = false → f.aRun = 0 → g.absent = false ∧ g.aRun = 1) ∧
       (19000 ≤ m ∨ m ≤ -19000 → f.absent = true → 1 ≤ f.aRun → g.absent = false) ∧
       (m ≤ -18000 → f.reversed = false → 1 ≤ f.rRun → g.reversed = true ∧ h.usrc[2 + n.val].live = true) ∧
       (-17000 < m → f.reversed = true → 1 ≤ f.rRun → g.reversed = false) ∧
       (18000 ≤ m → m < 36000 → f.underV = false → 1 ≤ f.uRun → g.underV = true ∧ h.usrc[4 + n.val].live = true) ∧
       (36500 ≤ m ∨ m < 18000 → f.underV = true → 1 ≤ f.uRun → g.underV = false) ∧
       (75000 < m → f.overV = false → 1 ≤ f.oRun → g.overV = true ∧ h.usrc[6 + n.val].live = true) ∧
       (m ≤ 74500 → f.overV = true → 1 ≤ f.oRun → g.overV = false)) ∧
   (∀ (s : State) (n : Fin 2),
     Completes (.feedOvervoltageDisconnect n) s (fun h =>
       h.env.feed[n.val] = { s.hub.env.feed[n.val] with cut := true } ∧ h.planes = s.hub.planes) ∧
     Completes (.feedReconnect n) s fun h =>
       h.env.feed[n.val] = { s.hub.env.feed[n.val] with cut := false } ∧ h.planes = s.hub.planes)) ∧
  ((∀ (s : State) (n : Fin 4) (b : Bool) (v : Nat), s.hub.powered = true →
     Completes (.fanSpeedCheck n b v) s fun h =>
       ((b = false ∨ v < 70) → h.env.fanOk[n.val] = false ∧ h.usrc[8 + n.val].live = true ∧ h.env.fanPct = 100) ∧
       (b = true → 80 ≤ v → h.env.fanOk[n.val] = true ∧ h.usrc[8 + n.val].det = false) ∧
       (b = true → 70 ≤ v → v < 80 → h.env.fanOk[n.val] = s.hub.env.fanOk[n.val])) ∧
   (∀ (s : State) (m : EnvMeas), s.hub.powered = true →
     Completes (.environmentSample m) s fun h =>
       h.env.tinlet = m.inlet ∧ h.env.tint = m.internal ∧
       (700 < m.internal → h.env.intBad = true ∧ h.usrc[13].live = true) ∧
       (m.internal < 650 → h.env.intBad = false) ∧
       (650 ≤ m.internal → m.internal ≤ 700 → h.env.intBad = s.hub.env.intBad) ∧
       (m.inlet < 150 ∨ 350 < m.inlet → h.env.inletBad = true ∧ h.usrc[12].live = true) ∧
       (155 ≤ m.inlet → m.inlet ≤ 345 → h.env.inletBad = false) ∧
       h.env.inlets = (s.hub.env.inlets.filter fun a => decide (s.hub.ticks ≤ a.1 + hourTicks)) ++ [(s.hub.ticks, m.inlet)] ∧
       (50 < spread (h.env.inlets.map (·.2)) → h.env.rateBad = true ∧ h.usrc[12].live = true) ∧
       (spread (h.env.inlets.map (·.2)) ≤ 40 → h.env.rateBad = false) ∧
       (∀ p, s.hub.active p = true →
         (900 < m.plane.get p → (h.plane p).flt.src[44].cond = true ∧ (h.plane p).flt.src[44].live = true) ∧
         (m.plane.get p < 850 → (h.plane p).flt.src[44].cond = false ∧ (h.plane p).flt.src[44].det = false)) ∧
       (m.humidity < 100 ∨ 800 < m.humidity → h.env.humBad = true ∧ h.usrc[31].live = true) ∧
       (120 ≤ m.humidity → m.humidity ≤ 780 → h.env.humBad = false) ∧
       (m.pressure < 701 → h.env.presBad = true ∧ h.usrc[31].live = true) ∧
       (711 ≤ m.pressure → h.env.presBad = false)))
end

