-- ==== Sys2Proof/Laws/State.lean ====
section
/-! SUPPORT. What each update of the state leaves in each field: one lemma per field per update, for simp. -/

namespace Sys2Proof

@[simp] theorem Tri.get_set_same {α : Type} (t : Tri α) (p : PlaneId) (x : α) : (t.set p x).get p = x := by
  cases p <;> rfl

theorem Tri.get_set {α : Type} (t : Tri α) (p q : PlaneId) (x : α) :
    (t.set p x).get q = if q = p then x else t.get q := by
  cases p <;> cases q <;> rfl

theorem Tri.get_set_ne {α : Type} (t : Tri α) {p q : PlaneId} (x : α) (h : q ≠ p) : (t.set p x).get q = t.get q := by
  rw [Tri.get_set, if_neg h]

@[simp] theorem Tri.get_map {α β : Type} (f : α → β) (t : Tri α) (p : PlaneId) : (t.map f).get p = f (t.get p) := by
  cases p <;> rfl

@[simp] theorem upd_get_same {α : Type} {n : Nat} (v : Vector α n) (i : Fin n) (f : α → α) :
    (upd v i f)[i.val] = f v[i.val] := by
  simp [upd]

theorem upd_get_ne {α : Type} {n : Nat} (v : Vector α n) (i j : Fin n) (f : α → α) (h : i ≠ j) :
    (upd v i f)[j.val] = v[j.val] := by
  have : i.val ≠ j.val := fun e => h (Fin.ext e)
  simp [upd, this]

end Sys2Proof

namespace Sys2Proof.Machine

@[simp] theorem State.answer_eq (s : State) (h : Hub) : s.answer h = .next { s with hub := h } := rfl

/-! ### Planes and ports of a hub -/

@[simp] theorem Hub.setPlane_plane (h : Hub) (p : PlaneId) (x : Plane) : (h.setPlane p x).plane p = x := by
  simp [Hub.setPlane, Hub.plane]

theorem Hub.setPlane_plane_ne (h : Hub) {p q : PlaneId} (x : Plane) (e : q ≠ p) : (h.setPlane p x).plane q = h.plane q := by
  simp [Hub.setPlane, Hub.plane, Tri.get_set_ne, e]

@[simp] theorem Hub.modPlane_plane (h : Hub) (p : PlaneId) (f : Plane → Plane) :
    (h.modPlane p f).plane p = f (h.plane p) := by
  simp [Hub.modPlane]

theorem Hub.modPlane_plane_ne (h : Hub) {p q : PlaneId} (f : Plane → Plane) (e : q ≠ p) :
    (h.modPlane p f).plane q = h.plane q := by
  simp [Hub.modPlane, Hub.setPlane_plane_ne, e]

@[simp] theorem Hub.modPort_port (h : Hub) (q : PortId) (f : Port → Port) : (h.modPort q f).port q = f (h.port q) := by
  simp [Hub.modPort, Hub.port]

theorem Hub.modPort_port_ne (h : Hub) {q r : PortId} (f : Port → Port) (e : q ≠ r) :
    (h.modPort q f).port r = h.port r := by
  simp [Hub.modPort, Hub.port, upd_get_ne, e]

@[simp] theorem Hub.allPorts_port (h : Hub) (q : PortId) (f : Port → Port) : (h.allPorts f).port q = f (h.port q) := by
  simp [Hub.allPorts, Hub.port]

@[simp] theorem Hub.modPort_plane (h : Hub) (q : PortId) (f : Port → Port) (p : PlaneId) :
    (h.modPort q f).plane p = h.plane p := rfl

@[simp] theorem Hub.allPorts_plane (h : Hub) (f : Port → Port) (p : PlaneId) : (h.allPorts f).plane p = h.plane p := rfl

@[simp] theorem Hub.modPlane_port (h : Hub) (p : PlaneId) (f : Plane → Plane) (q : PortId) :
    (h.modPlane p f).port q = h.port q := rfl

@[simp] theorem Hub.setPlane_ident (h : Hub) (p : PlaneId) (x : Plane) : (h.setPlane p x).ident = h.ident := rfl
@[simp] theorem Hub.setPlane_powered (h : Hub) (p : PlaneId) (x : Plane) : (h.setPlane p x).powered = h.powered := rfl
@[simp] theorem Hub.setPlane_conv (h : Hub) (p : PlaneId) (x : Plane) : (h.setPlane p x).conv = h.conv := rfl
@[simp] theorem Hub.setPlane_upstate (h : Hub) (p : PlaneId) (x : Plane) : (h.setPlane p x).upstate = h.upstate := rfl
@[simp] theorem Hub.setPlane_ustby (h : Hub) (p : PlaneId) (x : Plane) : (h.setPlane p x).ustby = h.ustby := rfl
@[simp] theorem Hub.setPlane_udecl (h : Hub) (p : PlaneId) (x : Plane) : (h.setPlane p x).udecl = h.udecl := rfl
@[simp] theorem Hub.setPlane_udig (h : Hub) (p : PlaneId) (x : Plane) : (h.setPlane p x).udig = h.udig := rfl
@[simp] theorem Hub.setPlane_partner (h : Hub) (p : PlaneId) (x : Plane) : (h.setPlane p x).partner = h.partner := rfl
@[simp] theorem Hub.setPlane_shots (h : Hub) (p : PlaneId) (x : Plane) : (h.setPlane p x).shots = h.shots := rfl
@[simp] theorem Hub.setPlane_last (h : Hub) (p : PlaneId) (x : Plane) : (h.setPlane p x).last = h.last := rfl
@[simp] theorem Hub.setPlane_ticks (h : Hub) (p : PlaneId) (x : Plane) : (h.setPlane p x).ticks = h.ticks := rfl
@[simp] theorem Hub.setPlane_cmp (h : Hub) (p : PlaneId) (x : Plane) : (h.setPlane p x).cmp = h.cmp := rfl
@[simp] theorem Hub.setPlane_marginal (h : Hub) (p : PlaneId) (x : Plane) : (h.setPlane p x).marginal = h.marginal := rfl
@[simp] theorem Hub.setPlane_ports (h : Hub) (p : PlaneId) (x : Plane) : (h.setPlane p x).ports = h.ports := rfl
@[simp] theorem Hub.setPlane_usrc (h : Hub) (p : PlaneId) (x : Plane) : (h.setPlane p x).usrc = h.usrc := rfl
@[simp] theorem Hub.setPlane_hand (h : Hub) (p : PlaneId) (x : Plane) : (h.setPlane p x).hand = h.hand := rfl
@[simp] theorem Hub.setPlane_ucommits (h : Hub) (p : PlaneId) (x : Plane) : (h.setPlane p x).ucommits = h.ucommits := rfl
@[simp] theorem Hub.setPlane_ucnt (h : Hub) (p : PlaneId) (x : Plane) : (h.setPlane p x).ucnt = h.ucnt := rfl
@[simp] theorem Hub.setPlane_ushort (h : Hub) (p : PlaneId) (x : Plane) : (h.setPlane p x).ushort = h.ushort := rfl
@[simp] theorem Hub.setPlane_chim (h : Hub) (p : PlaneId) (x : Plane) : (h.setPlane p x).chim = h.chim := rfl
@[simp] theorem Hub.setPlane_snap (h : Hub) (p : PlaneId) (x : Plane) : (h.setPlane p x).snap = h.snap := rfl
@[simp] theorem Hub.setPlane_nv (h : Hub) (p : PlaneId) (x : Plane) : (h.setPlane p x).nv = h.nv := rfl
@[simp] theorem Hub.setPlane_log (h : Hub) (p : PlaneId) (x : Plane) : (h.setPlane p x).log = h.log := rfl
@[simp] theorem Hub.setPlane_cfg (h : Hub) (p : PlaneId) (x : Plane) : (h.setPlane p x).cfg = h.cfg := rfl
@[simp] theorem Hub.setPlane_auth (h : Hub) (p : PlaneId) (x : Plane) : (h.setPlane p x).auth = h.auth := rfl
@[simp] theorem Hub.setPlane_env (h : Hub) (p : PlaneId) (x : Plane) : (h.setPlane p x).env = h.env := rfl
@[simp] theorem Hub.setPlane_freeIdx (h : Hub) (p : PlaneId) (x : Plane) : (h.setPlane p x).freeIdx = h.freeIdx := rfl

@[simp] theorem Hub.modPlane_ident (h : Hub) (p : PlaneId) (f : Plane → Plane) : (h.modPlane p f).ident = h.ident := rfl
@[simp] theorem Hub.modPlane_powered (h : Hub) (p : PlaneId) (f : Plane → Plane) : (h.modPlane p f).powered = h.powered := rfl
@[simp] theorem Hub.modPlane_conv (h : Hub) (p : PlaneId) (f : Plane → Plane) : (h.modPlane p f).conv = h.conv := rfl
@[simp] theorem Hub.modPlane_upstate (h : Hub) (p : PlaneId) (f : Plane → Plane) : (h.modPlane p f).upstate = h.upstate := rfl
@[simp] theorem Hub.modPlane_ustby (h : Hub) (p : PlaneId) (f : Plane → Plane) : (h.modPlane p f).ustby = h.ustby := rfl
@[simp] theorem Hub.modPlane_udecl (h : Hub) (p : PlaneId) (f : Plane → Plane) : (h.modPlane p f).udecl = h.udecl := rfl
@[simp] theorem Hub.modPlane_udig (h : Hub) (p : PlaneId) (f : Plane → Plane) : (h.modPlane p f).udig = h.udig := rfl
@[simp] theorem Hub.modPlane_partner (h : Hub) (p : PlaneId) (f : Plane → Plane) : (h.modPlane p f).partner = h.partner := rfl
@[simp] theorem Hub.modPlane_shots (h : Hub) (p : PlaneId) (f : Plane → Plane) : (h.modPlane p f).shots = h.shots := rfl
@[simp] theorem Hub.modPlane_last (h : Hub) (p : PlaneId) (f : Plane → Plane) : (h.modPlane p f).last = h.last := rfl
@[simp] theorem Hub.modPlane_ticks (h : Hub) (p : PlaneId) (f : Plane → Plane) : (h.modPlane p f).ticks = h.ticks := rfl
@[simp] theorem Hub.modPlane_cmp (h : Hub) (p : PlaneId) (f : Plane → Plane) : (h.modPlane p f).cmp = h.cmp := rfl
@[simp] theorem Hub.modPlane_marginal (h : Hub) (p : PlaneId) (f : Plane → Plane) : (h.modPlane p f).marginal = h.marginal := rfl
@[simp] theorem Hub.modPlane_ports (h : Hub) (p : PlaneId) (f : Plane → Plane) : (h.modPlane p f).ports = h.ports := rfl
@[simp] theorem Hub.modPlane_usrc (h : Hub) (p : PlaneId) (f : Plane → Plane) : (h.modPlane p f).usrc = h.usrc := rfl
@[simp] theorem Hub.modPlane_hand (h : Hub) (p : PlaneId) (f : Plane → Plane) : (h.modPlane p f).hand = h.hand := rfl
@[simp] theorem Hub.modPlane_ucommits (h : Hub) (p : PlaneId) (f : Plane → Plane) : (h.modPlane p f).ucommits = h.ucommits := rfl
@[simp] theorem Hub.modPlane_ucnt (h : Hub) (p : PlaneId) (f : Plane → Plane) : (h.modPlane p f).ucnt = h.ucnt := rfl
@[simp] theorem Hub.modPlane_ushort (h : Hub) (p : PlaneId) (f : Plane → Plane) : (h.modPlane p f).ushort = h.ushort := rfl
@[simp] theorem Hub.modPlane_chim (h : Hub) (p : PlaneId) (f : Plane → Plane) : (h.modPlane p f).chim = h.chim := rfl
@[simp] theorem Hub.modPlane_snap (h : Hub) (p : PlaneId) (f : Plane → Plane) : (h.modPlane p f).snap = h.snap := rfl
@[simp] theorem Hub.modPlane_nv (h : Hub) (p : PlaneId) (f : Plane → Plane) : (h.modPlane p f).nv = h.nv := rfl
@[simp] theorem Hub.modPlane_log (h : Hub) (p : PlaneId) (f : Plane → Plane) : (h.modPlane p f).log = h.log := rfl
@[simp] theorem Hub.modPlane_cfg (h : Hub) (p : PlaneId) (f : Plane → Plane) : (h.modPlane p f).cfg = h.cfg := rfl
@[simp] theorem Hub.modPlane_auth (h : Hub) (p : PlaneId) (f : Plane → Plane) : (h.modPlane p f).auth = h.auth := rfl
@[simp] theorem Hub.modPlane_env (h : Hub) (p : PlaneId) (f : Plane → Plane) : (h.modPlane p f).env = h.env := rfl
@[simp] theorem Hub.modPlane_freeIdx (h : Hub) (p : PlaneId) (f : Plane → Plane) : (h.modPlane p f).freeIdx = h.freeIdx := rfl

@[simp] theorem Hub.modPort_ident (h : Hub) (q : PortId) (f : Port → Port) : (h.modPort q f).ident = h.ident := rfl
@[simp] theorem Hub.modPort_powered (h : Hub) (q : PortId) (f : Port → Port) : (h.modPort q f).powered = h.powered := rfl
@[simp] theorem Hub.modPort_conv (h : Hub) (q : PortId) (f : Port → Port) : (h.modPort q f).conv = h.conv := rfl
@[simp] theorem Hub.modPort_upstate (h : Hub) (q : PortId) (f : Port → Port) : (h.modPort q f).upstate = h.upstate := rfl
@[simp] theorem Hub.modPort_ustby (h : Hub) (q : PortId) (f : Port → Port) : (h.modPort q f).ustby = h.ustby := rfl
@[simp] theorem Hub.modPort_udecl (h : Hub) (q : PortId) (f : Port → Port) : (h.modPort q f).udecl = h.udecl := rfl
@[simp] theorem Hub.modPort_udig (h : Hub) (q : PortId) (f : Port → Port) : (h.modPort q f).udig = h.udig := rfl
@[simp] theorem Hub.modPort_partner (h : Hub) (q : PortId) (f : Port → Port) : (h.modPort q f).partner = h.partner := rfl
@[simp] theorem Hub.modPort_shots (h : Hub) (q : PortId) (f : Port → Port) : (h.modPort q f).shots = h.shots := rfl
@[simp] theorem Hub.modPort_last (h : Hub) (q : PortId) (f : Port → Port) : (h.modPort q f).last = h.last := rfl
@[simp] theorem Hub.modPort_ticks (h : Hub) (q : PortId) (f : Port → Port) : (h.modPort q f).ticks = h.ticks := rfl
@[simp] theorem Hub.modPort_planes (h : Hub) (q : PortId) (f : Port → Port) : (h.modPort q f).planes = h.planes := rfl
@[simp] theorem Hub.modPort_cmp (h : Hub) (q : PortId) (f : Port → Port) : (h.modPort q f).cmp = h.cmp := rfl
@[simp] theorem Hub.modPort_marginal (h : Hub) (q : PortId) (f : Port → Port) : (h.modPort q f).marginal = h.marginal := rfl
@[simp] theorem Hub.modPort_usrc (h : Hub) (q : PortId) (f : Port → Port) : (h.modPort q f).usrc = h.usrc := rfl
@[simp] theorem Hub.modPort_hand (h : Hub) (q : PortId) (f : Port → Port) : (h.modPort q f).hand = h.hand := rfl
@[simp] theorem Hub.modPort_ucommits (h : Hub) (q : PortId) (f : Port → Port) : (h.modPort q f).ucommits = h.ucommits := rfl
@[simp] theorem Hub.modPort_ucnt (h : Hub) (q : PortId) (f : Port → Port) : (h.modPort q f).ucnt = h.ucnt := rfl
@[simp] theorem Hub.modPort_ushort (h : Hub) (q : PortId) (f : Port → Port) : (h.modPort q f).ushort = h.ushort := rfl
@[simp] theorem Hub.modPort_chim (h : Hub) (q : PortId) (f : Port → Port) : (h.modPort q f).chim = h.chim := rfl
@[simp] theorem Hub.modPort_snap (h : Hub) (q : PortId) (f : Port → Port) : (h.modPort q f).snap = h.snap := rfl
@[simp] theorem Hub.modPort_nv (h : Hub) (q : PortId) (f : Port → Port) : (h.modPort q f).nv = h.nv := rfl
@[simp] theorem Hub.modPort_log (h : Hub) (q : PortId) (f : Port → Port) : (h.modPort q f).log = h.log := rfl
@[simp] theorem Hub.modPort_cfg (h : Hub) (q : PortId) (f : Port → Port) : (h.modPort q f).cfg = h.cfg := rfl
@[simp] theorem Hub.modPort_auth (h : Hub) (q : PortId) (f : Port → Port) : (h.modPort q f).auth = h.auth := rfl
@[simp] theorem Hub.modPort_env (h : Hub) (q : PortId) (f : Port → Port) : (h.modPort q f).env = h.env := rfl
@[simp] theorem Hub.modPort_freeIdx (h : Hub) (q : PortId) (f : Port → Port) : (h.modPort q f).freeIdx = h.freeIdx := rfl

@[simp] theorem Hub.allPorts_ident (h : Hub) (f : Port → Port) : (h.allPorts f).ident = h.ident := rfl
@[simp] theorem Hub.allPorts_powered (h : Hub) (f : Port → Port) : (h.allPorts f).powered = h.powered := rfl
@[simp] theorem Hub.allPorts_conv (h : Hub) (f : Port → Port) : (h.allPorts f).conv = h.conv := rfl
@[simp] theorem Hub.allPorts_upstate (h : Hub) (f : Port → Port) : (h.allPorts f).upstate = h.upstate := rfl
@[simp] theorem Hub.allPorts_ustby (h : Hub) (f : Port → Port) : (h.allPorts f).ustby = h.ustby := rfl
@[simp] theorem Hub.allPorts_udecl (h : Hub) (f : Port → Port) : (h.allPorts f).udecl = h.udecl := rfl
@[simp] theorem Hub.allPorts_udig (h : Hub) (f : Port → Port) : (h.allPorts f).udig = h.udig := rfl
@[simp] theorem Hub.allPorts_partner (h : Hub) (f : Port → Port) : (h.allPorts f).partner = h.partner := rfl
@[simp] theorem Hub.allPorts_shots (h : Hub) (f : Port → Port) : (h.allPorts f).shots = h.shots := rfl
@[simp] theorem Hub.allPorts_last (h : Hub) (f : Port → Port) : (h.allPorts f).last = h.last := rfl
@[simp] theorem Hub.allPorts_ticks (h : Hub) (f : Port → Port) : (h.allPorts f).ticks = h.ticks := rfl
@[simp] theorem Hub.allPorts_planes (h : Hub) (f : Port → Port) : (h.allPorts f).planes = h.planes := rfl
@[simp] theorem Hub.allPorts_cmp (h : Hub) (f : Port → Port) : (h.allPorts f).cmp = h.cmp := rfl
@[simp] theorem Hub.allPorts_marginal (h : Hub) (f : Port → Port) : (h.allPorts f).marginal = h.marginal := rfl
@[simp] theorem Hub.allPorts_usrc (h : Hub) (f : Port → Port) : (h.allPorts f).usrc = h.usrc := rfl
@[simp] theorem Hub.allPorts_hand (h : Hub) (f : Port → Port) : (h.allPorts f).hand = h.hand := rfl
@[simp] theorem Hub.allPorts_ucommits (h : Hub) (f : Port → Port) : (h.allPorts f).ucommits = h.ucommits := rfl
@[simp] theorem Hub.allPorts_ucnt (h : Hub) (f : Port → Port) : (h.allPorts f).ucnt = h.ucnt := rfl
@[simp] theorem Hub.allPorts_ushort (h : Hub) (f : Port → Port) : (h.allPorts f).ushort = h.ushort := rfl
@[simp] theorem Hub.allPorts_chim (h : Hub) (f : Port → Port) : (h.allPorts f).chim = h.chim := rfl
@[simp] theorem Hub.allPorts_snap (h : Hub) (f : Port → Port) : (h.allPorts f).snap = h.snap := rfl
@[simp] theorem Hub.allPorts_nv (h : Hub) (f : Port → Port) : (h.allPorts f).nv = h.nv := rfl
@[simp] theorem Hub.allPorts_log (h : Hub) (f : Port → Port) : (h.allPorts f).log = h.log := rfl
@[simp] theorem Hub.allPorts_cfg (h : Hub) (f : Port → Port) : (h.allPorts f).cfg = h.cfg := rfl
@[simp] theorem Hub.allPorts_auth (h : Hub) (f : Port → Port) : (h.allPorts f).auth = h.auth := rfl
@[simp] theorem Hub.allPorts_env (h : Hub) (f : Port → Port) : (h.allPorts f).env = h.env := rfl
@[simp] theorem Hub.allPorts_freeIdx (h : Hub) (f : Port → Port) : (h.allPorts f).freeIdx = h.freeIdx := rfl

@[simp] theorem Port.refuse_cfg (x : Port) (a : BitVec 7) (g : BitVec 5) (r : Reason) : (x.refuse a g r).cfg = x.cfg := rfl
@[simp] theorem Port.refuse_answers (x : Port) (a : BitVec 7) (g : BitVec 5) (r : Reason) : (x.refuse a g r).answers = x.answers := rfl
@[simp] theorem Port.refuse_asleep (x : Port) (a : BitVec 7) (g : BitVec 5) (r : Reason) : (x.refuse a g r).asleep = x.asleep := rfl
@[simp] theorem Port.refuse_unitSlept (x : Port) (a : BitVec 7) (g : BitVec 5) (r : Reason) : (x.refuse a g r).unitSlept = x.unitSlept := rfl
@[simp] theorem Port.refuse_sleepDue (x : Port) (a : BitVec 7) (g : BitVec 5) (r : Reason) : (x.refuse a g r).sleepDue = x.sleepDue := rfl
@[simp] theorem Port.refuse_latch (x : Port) (a : BitVec 7) (g : BitVec 5) (r : Reason) : (x.refuse a g r).latch = x.latch := rfl
@[simp] theorem Port.refuse_pointer (x : Port) (a : BitVec 7) (g : BitVec 5) (r : Reason) : (x.refuse a g r).pointer = x.pointer := rfl
@[simp] theorem Port.refuse_wsel (x : Port) (a : BitVec 7) (g : BitVec 5) (r : Reason) : (x.refuse a g r).wsel = x.wsel := rfl
@[simp] theorem Port.refuse_pec (x : Port) (a : BitVec 7) (g : BitVec 5) (r : Reason) : (x.refuse a g r).pec = x.pec := rfl
@[simp] theorem Port.refuse_pecNext (x : Port) (a : BitVec 7) (g : BitVec 5) (r : Reason) : (x.refuse a g r).pecNext = x.pecNext := rfl
@[simp] theorem Port.refuse_pview (x : Port) (a : BitVec 7) (g : BitVec 5) (r : Reason) : (x.refuse a g r).pview = x.pview := rfl
@[simp] theorem Port.refuse_ucause (x : Port) (a : BitVec 7) (g : BitVec 5) (r : Reason) : (x.refuse a g r).ucause = x.ucause := rfl
@[simp] theorem Port.refuse_ufresh (x : Port) (a : BitVec 7) (g : BitVec 5) (r : Reason) : (x.refuse a g r).ufresh = x.ufresh := rfl
@[simp] theorem Port.refuse_uen (x : Port) (a : BitVec 7) (g : BitVec 5) (r : Reason) : (x.refuse a g r).uen = x.uen := rfl
@[simp] theorem Port.refuse_acause (x : Port) (a : BitVec 7) (g : BitVec 5) (r : Reason) : (x.refuse a g r).acause = x.acause := rfl
@[simp] theorem Port.refuse_en (x : Port) (a : BitVec 7) (g : BitVec 5) (r : Reason) : (x.refuse a g r).en = x.en := rfl
@[simp] theorem Port.refuse_haddr (x : Port) (a : BitVec 7) (g : BitVec 5) (r : Reason) : (x.refuse a g r).haddr = x.haddr := rfl
@[simp] theorem Port.refuse_speed (x : Port) (a : BitVec 7) (g : BitVec 5) (r : Reason) : (x.refuse a g r).speed = x.speed := rfl
@[simp] theorem Port.refuse_msgs (x : Port) (a : BitVec 7) (g : BitVec 5) (r : Reason) : (x.refuse a g r).msgs = x.msgs := rfl
@[simp] theorem Port.refuse_attnSeq (x : Port) (a : BitVec 7) (g : BitVec 5) (r : Reason) : (x.refuse a g r).attnSeq = x.attnSeq := rfl
@[simp] theorem Port.refuse_attn (x : Port) (a : BitVec 7) (g : BitVec 5) (r : Reason) : (x.refuse a g r).attn = x.attn := rfl
@[simp] theorem Port.refuse_scheds (x : Port) (a : BitVec 7) (g : BitVec 5) (r : Reason) : (x.refuse a g r).scheds = x.scheds := rfl
@[simp] theorem Port.refuse_sclStuck (x : Port) (a : BitVec 7) (g : BitVec 5) (r : Reason) : (x.refuse a g r).sclStuck = x.sclStuck := rfl
@[simp] theorem Port.refuse_sdaStuck (x : Port) (a : BitVec 7) (g : BitVec 5) (r : Reason) : (x.refuse a g r).sdaStuck = x.sdaStuck := rfl
@[simp] theorem Port.refuse_buf (x : Port) (a : BitVec 7) (g : BitVec 5) (r : Reason) : (x.refuse a g r).buf = x.buf := rfl
@[simp] theorem Port.refuse_key (x : Port) (a : BitVec 7) (g : BitVec 5) (r : Reason) : (x.refuse a g r).key = x.key := rfl
@[simp] theorem Port.refuse_page (x : Port) (a : BitVec 7) (g : BitVec 5) (r : Reason) : (x.refuse a g r).page = x.page := rfl
@[simp] theorem Port.refuse_offset (x : Port) (a : BitVec 7) (g : BitVec 5) (r : Reason) : (x.refuse a g r).offset = x.offset := rfl
@[simp] theorem Port.refuse_ksel (x : Port) (a : BitVec 7) (g : BitVec 5) (r : Reason) : (x.refuse a g r).ksel = x.ksel := rfl
@[simp] theorem Port.refuse_rpwok (x : Port) (a : BitVec 7) (g : BitVec 5) (r : Reason) : (x.refuse a g r).rpwok = x.rpwok := rfl
@[simp] theorem Port.refuse_wpwok (x : Port) (a : BitVec 7) (g : BitVec 5) (r : Reason) : (x.refuse a g r).wpwok = x.wpwok := rfl
@[simp] theorem Port.refuse_nverr (x : Port) (a : BitVec 7) (g : BitVec 5) (r : Reason) : (x.refuse a g r).nverr = x.nverr := rfl
@[simp] theorem Port.refuse_blocks (x : Port) (a : BitVec 7) (g : BitVec 5) (r : Reason) : (x.refuse a g r).blocks = x.blocks := rfl
@[simp] theorem Port.refuse_rx (x : Port) (a : BitVec 7) (g : BitVec 5) (r : Reason) : (x.refuse a g r).rx = x.rx := rfl
@[simp] theorem Port.refuse_fetch (x : Port) (a : BitVec 7) (g : BitVec 5) (r : Reason) : (x.refuse a g r).fetch = x.fetch := rfl
@[simp] theorem Port.refuse_stop (x : Port) (a : BitVec 7) (g : BitVec 5) (r : Reason) : (x.refuse a g r).stop = x.stop := rfl
@[simp] theorem Port.refuse_tick (x : Port) (a : BitVec 7) (g : BitVec 5) (r : Reason) : (x.refuse a g r).tick = x.tick := rfl
@[simp] theorem Port.refuse_sent (x : Port) (a : BitVec 7) (g : BitVec 5) (r : Reason) : (x.refuse a g r).sent = x.sent := rfl
@[simp] theorem Port.refuse_tunnel (x : Port) (a : BitVec 7) (g : BitVec 5) (r : Reason) : (x.refuse a g r).tunnel = x.tunnel := rfl

@[simp] theorem Plane.modLink_sect (x : Plane) (l : Fin 32) (f : Link → Link) : (x.modLink l f).sect = x.sect := rfl
@[simp] theorem Plane.modLink_grpAt (x : Plane) (l : Fin 32) (f : Link → Link) : (x.modLink l f).grpAt = x.grpAt := rfl
@[simp] theorem Plane.modLink_vcobAcc (x : Plane) (l : Fin 32) (f : Link → Link) : (x.modLink l f).vcobAcc = x.vcobAcc := rfl
@[simp] theorem Plane.modLink_vcobOdd (x : Plane) (l : Fin 32) (f : Link → Link) : (x.modLink l f).vcobOdd = x.vcobOdd := rfl
@[simp] theorem Plane.modLink_sdig (x : Plane) (l : Fin 32) (f : Link → Link) : (x.modLink l f).sdig = x.sdig := rfl
@[simp] theorem Plane.modLink_idig (x : Plane) (l : Fin 32) (f : Link → Link) : (x.modLink l f).idig = x.idig := rfl
@[simp] theorem Plane.modLink_next (x : Plane) (l : Fin 32) (f : Link → Link) : (x.modLink l f).next = x.next := rfl
@[simp] theorem Plane.modLink_power (x : Plane) (l : Fin 32) (f : Link → Link) : (x.modLink l f).power = x.power := rfl
@[simp] theorem Plane.modLink_withUnit (x : Plane) (l : Fin 32) (f : Link → Link) : (x.modLink l f).withUnit = x.withUnit := rfl
@[simp] theorem Plane.modLink_oven (x : Plane) (l : Fin 32) (f : Link → Link) : (x.modLink l f).oven = x.oven := rfl
@[simp] theorem Plane.modLink_time (x : Plane) (l : Fin 32) (f : Link → Link) : (x.modLink l f).time = x.time := rfl
@[simp] theorem Plane.modLink_ref (x : Plane) (l : Fin 32) (f : Link → Link) : (x.modLink l f).ref = x.ref := rfl
@[simp] theorem Plane.modLink_tc (x : Plane) (l : Fin 32) (f : Link → Link) : (x.modLink l f).tc = x.tc := rfl
@[simp] theorem Plane.modLink_esmc (x : Plane) (l : Fin 32) (f : Link → Link) : (x.modLink l f).esmc = x.esmc := rfl
@[simp] theorem Plane.modLink_sel (x : Plane) (l : Fin 32) (f : Link → Link) : (x.modLink l f).sel = x.sel := rfl
@[simp] theorem Plane.modLink_loop (x : Plane) (l : Fin 32) (f : Link → Link) : (x.modLink l f).loop = x.loop := rfl
@[simp] theorem Plane.modLink_grid (x : Plane) (l : Fin 32) (f : Link → Link) : (x.modLink l f).grid = x.grid := rfl
@[simp] theorem Plane.modLink_vcobLock (x : Plane) (l : Fin 32) (f : Link → Link) : (x.modLink l f).vcobLock = x.vcobLock := rfl
@[simp] theorem Plane.modLink_vcobOut (x : Plane) (l : Fin 32) (f : Link → Link) : (x.modLink l f).vcobOut = x.vcobOut := rfl
@[simp] theorem Plane.modLink_vcobBad (x : Plane) (l : Fin 32) (f : Link → Link) : (x.modLink l f).vcobBad = x.vcobBad := rfl
@[simp] theorem Plane.modLink_vcobDif (x : Plane) (l : Fin 32) (f : Link → Link) : (x.modLink l f).vcobDif = x.vcobDif := rfl
@[simp] theorem Plane.modLink_phist (x : Plane) (l : Fin 32) (f : Link → Link) : (x.modLink l f).phist = x.phist := rfl
@[simp] theorem Plane.modLink_ck (x : Plane) (l : Fin 32) (f : Link → Link) : (x.modLink l f).ck = x.ck := rfl
@[simp] theorem Plane.modLink_pu (x : Plane) (l : Fin 32) (f : Link → Link) : (x.modLink l f).pu = x.pu := rfl
@[simp] theorem Plane.modLink_trigOut (x : Plane) (l : Fin 32) (f : Link → Link) : (x.modLink l f).trigOut = x.trigOut := rfl
@[simp] theorem Plane.modLink_ti (x : Plane) (l : Fin 32) (f : Link → Link) : (x.modLink l f).ti = x.ti := rfl
@[simp] theorem Plane.modLink_gq (x : Plane) (l : Fin 32) (f : Link → Link) : (x.modLink l f).gq = x.gq := rfl
@[simp] theorem Plane.modLink_hold (x : Plane) (l : Fin 32) (f : Link → Link) : (x.modLink l f).hold = x.hold := rfl
@[simp] theorem Plane.modLink_grpT (x : Plane) (l : Fin 32) (f : Link → Link) : (x.modLink l f).grpT = x.grpT := rfl
@[simp] theorem Plane.modLink_phistNow (x : Plane) (l : Fin 32) (f : Link → Link) : (x.modLink l f).phistNow = x.phistNow := rfl
@[simp] theorem Plane.modLink_heldTo (x : Plane) (l : Fin 32) (f : Link → Link) : (x.modLink l f).heldTo = x.heldTo := rfl
@[simp] theorem Plane.modLink_fab (x : Plane) (l : Fin 32) (f : Link → Link) : (x.modLink l f).fab = x.fab := rfl
@[simp] theorem Plane.modLink_gen (x : Plane) (l : Fin 32) (f : Link → Link) : (x.modLink l f).gen = x.gen := rfl
@[simp] theorem Plane.modLink_flt (x : Plane) (l : Fin 32) (f : Link → Link) : (x.modLink l f).flt = x.flt := rfl
@[simp] theorem Plane.modLink_cnt (x : Plane) (l : Fin 32) (f : Link → Link) : (x.modLink l f).cnt = x.cnt := rfl
@[simp] theorem Plane.modLink_outq (x : Plane) (l : Fin 32) (f : Link → Link) : (x.modLink l f).outq = x.outq := rfl
@[simp] theorem Plane.modLink_raised (x : Plane) (l : Fin 32) (f : Link → Link) : (x.modLink l f).raised = x.raised := rfl
@[simp] theorem Plane.modLink_owner (x : Plane) (l : Fin 32) (f : Link → Link) : (x.modLink l f).owner = x.owner := rfl
@[simp] theorem Plane.modLink_commits (x : Plane) (l : Fin 32) (f : Link → Link) : (x.modLink l f).commits = x.commits := rfl
@[simp] theorem Plane.modLink_bank (x : Plane) (l : Fin 32) (f : Link → Link) : (x.modLink l f).bank = x.bank := rfl
@[simp] theorem Plane.modLink_fill (x : Plane) (l : Fin 32) (f : Link → Link) : (x.modLink l f).fill = x.fill := rfl

@[simp] theorem Plane.countN_sect (x : Plane) (n : Fin 32) (k : Nat) : (x.countN n k).sect = x.sect := rfl
@[simp] theorem Plane.countN_grpAt (x : Plane) (n : Fin 32) (k : Nat) : (x.countN n k).grpAt = x.grpAt := rfl
@[simp] theorem Plane.countN_vcobAcc (x : Plane) (n : Fin 32) (k : Nat) : (x.countN n k).vcobAcc = x.vcobAcc := rfl
@[simp] theorem Plane.countN_vcobOdd (x : Plane) (n : Fin 32) (k : Nat) : (x.countN n k).vcobOdd = x.vcobOdd := rfl
@[simp] theorem Plane.count_sect (x : Plane) (n : Fin 32) : (x.count n).sect = x.sect := rfl
@[simp] theorem Plane.count_grpAt (x : Plane) (n : Fin 32) : (x.count n).grpAt = x.grpAt := rfl
@[simp] theorem Plane.count_vcobAcc (x : Plane) (n : Fin 32) : (x.count n).vcobAcc = x.vcobAcc := rfl
@[simp] theorem Plane.count_vcobOdd (x : Plane) (n : Fin 32) : (x.count n).vcobOdd = x.vcobOdd := rfl
@[simp] theorem Plane.countN_sdig (x : Plane) (n : Fin 32) (k : Nat) : (x.countN n k).sdig = x.sdig := rfl
@[simp] theorem Plane.count_sdig (x : Plane) (n : Fin 32) : (x.count n).sdig = x.sdig := rfl
@[simp] theorem Plane.countN_idig (x : Plane) (n : Fin 32) (k : Nat) : (x.countN n k).idig = x.idig := rfl
@[simp] theorem Plane.count_idig (x : Plane) (n : Fin 32) : (x.count n).idig = x.idig := rfl
@[simp] theorem Plane.countN_next (x : Plane) (n : Fin 32) (k : Nat) : (x.countN n k).next = x.next := rfl
@[simp] theorem Plane.count_next (x : Plane) (n : Fin 32) : (x.count n).next = x.next := rfl
@[simp] theorem Plane.countN_power (x : Plane) (n : Fin 32) (k : Nat) : (x.countN n k).power = x.power := rfl
@[simp] theorem Plane.count_power (x : Plane) (n : Fin 32) : (x.count n).power = x.power := rfl
@[simp] theorem Plane.countN_withUnit (x : Plane) (n : Fin 32) (k : Nat) : (x.countN n k).withUnit = x.withUnit := rfl
@[simp] theorem Plane.count_withUnit (x : Plane) (n : Fin 32) : (x.count n).withUnit = x.withUnit := rfl
@[simp] theorem Plane.countN_oven (x : Plane) (n : Fin 32) (k : Nat) : (x.countN n k).oven = x.oven := rfl
@[simp] theorem Plane.count_oven (x : Plane) (n : Fin 32) : (x.count n).oven = x.oven := rfl
@[simp] theorem Plane.countN_time (x : Plane) (n : Fin 32) (k : Nat) : (x.countN n k).time = x.time := rfl
@[simp] theorem Plane.count_time (x : Plane) (n : Fin 32) : (x.count n).time = x.time := rfl
@[simp] theorem Plane.countN_ref (x : Plane) (n : Fin 32) (k : Nat) : (x.countN n k).ref = x.ref := rfl
@[simp] theorem Plane.count_ref (x : Plane) (n : Fin 32) : (x.count n).ref = x.ref := rfl
@[simp] theorem Plane.countN_tc (x : Plane) (n : Fin 32) (k : Nat) : (x.countN n k).tc = x.tc := rfl
@[simp] theorem Plane.count_tc (x : Plane) (n : Fin 32) : (x.count n).tc = x.tc := rfl
@[simp] theorem Plane.countN_esmc (x : Plane) (n : Fin 32) (k : Nat) : (x.countN n k).esmc = x.esmc := rfl
@[simp] theorem Plane.count_esmc (x : Plane) (n : Fin 32) : (x.count n).esmc = x.esmc := rfl
@[simp] theorem Plane.countN_sel (x : Plane) (n : Fin 32) (k : Nat) : (x.countN n k).sel = x.sel := rfl
@[simp] theorem Plane.count_sel (x : Plane) (n : Fin 32) : (x.count n).sel = x.sel := rfl
@[simp] theorem Plane.countN_loop (x : Plane) (n : Fin 32) (k : Nat) : (x.countN n k).loop = x.loop := rfl
@[simp] theorem Plane.count_loop (x : Plane) (n : Fin 32) : (x.count n).loop = x.loop := rfl
@[simp] theorem Plane.countN_grid (x : Plane) (n : Fin 32) (k : Nat) : (x.countN n k).grid = x.grid := rfl
@[simp] theorem Plane.count_grid (x : Plane) (n : Fin 32) : (x.count n).grid = x.grid := rfl
@[simp] theorem Plane.countN_vcobLock (x : Plane) (n : Fin 32) (k : Nat) : (x.countN n k).vcobLock = x.vcobLock := rfl
@[simp] theorem Plane.count_vcobLock (x : Plane) (n : Fin 32) : (x.count n).vcobLock = x.vcobLock := rfl
@[simp] theorem Plane.countN_vcobOut (x : Plane) (n : Fin 32) (k : Nat) : (x.countN n k).vcobOut = x.vcobOut := rfl
@[simp] theorem Plane.count_vcobOut (x : Plane) (n : Fin 32) : (x.count n).vcobOut = x.vcobOut := rfl
@[simp] theorem Plane.countN_vcobBad (x : Plane) (n : Fin 32) (k : Nat) : (x.countN n k).vcobBad = x.vcobBad := rfl
@[simp] theorem Plane.count_vcobBad (x : Plane) (n : Fin 32) : (x.count n).vcobBad = x.vcobBad := rfl
@[simp] theorem Plane.countN_vcobDif (x : Plane) (n : Fin 32) (k : Nat) : (x.countN n k).vcobDif = x.vcobDif := rfl
@[simp] theorem Plane.count_vcobDif (x : Plane) (n : Fin 32) : (x.count n).vcobDif = x.vcobDif := rfl
@[simp] theorem Plane.countN_phist (x : Plane) (n : Fin 32) (k : Nat) : (x.countN n k).phist = x.phist := rfl
@[simp] theorem Plane.count_phist (x : Plane) (n : Fin 32) : (x.count n).phist = x.phist := rfl
@[simp] theorem Plane.countN_ck (x : Plane) (n : Fin 32) (k : Nat) : (x.countN n k).ck = x.ck := rfl
@[simp] theorem Plane.count_ck (x : Plane) (n : Fin 32) : (x.count n).ck = x.ck := rfl
@[simp] theorem Plane.countN_pu (x : Plane) (n : Fin 32) (k : Nat) : (x.countN n k).pu = x.pu := rfl
@[simp] theorem Plane.count_pu (x : Plane) (n : Fin 32) : (x.count n).pu = x.pu := rfl
@[simp] theorem Plane.countN_trigOut (x : Plane) (n : Fin 32) (k : Nat) : (x.countN n k).trigOut = x.trigOut := rfl
@[simp] theorem Plane.count_trigOut (x : Plane) (n : Fin 32) : (x.count n).trigOut = x.trigOut := rfl
@[simp] theorem Plane.countN_ti (x : Plane) (n : Fin 32) (k : Nat) : (x.countN n k).ti = x.ti := rfl
@[simp] theorem Plane.count_ti (x : Plane) (n : Fin 32) : (x.count n).ti = x.ti := rfl
@[simp] theorem Plane.countN_link (x : Plane) (n : Fin 32) (k : Nat) : (x.countN n k).link = x.link := rfl
@[simp] theorem Plane.count_link (x : Plane) (n : Fin 32) : (x.count n).link = x.link := rfl
@[simp] theorem Plane.countN_gq (x : Plane) (n : Fin 32) (k : Nat) : (x.countN n k).gq = x.gq := rfl
@[simp] theorem Plane.count_gq (x : Plane) (n : Fin 32) : (x.count n).gq = x.gq := rfl
@[simp] theorem Plane.countN_hold (x : Plane) (n : Fin 32) (k : Nat) : (x.countN n k).hold = x.hold := rfl
@[simp] theorem Plane.count_hold (x : Plane) (n : Fin 32) : (x.count n).hold = x.hold := rfl
@[simp] theorem Plane.countN_grpT (x : Plane) (n : Fin 32) (k : Nat) : (x.countN n k).grpT = x.grpT := rfl
@[simp] theorem Plane.countN_phistNow (x : Plane) (n : Fin 32) (k : Nat) : (x.countN n k).phistNow = x.phistNow := rfl
@[simp] theorem Plane.countN_heldTo (x : Plane) (n : Fin 32) (k : Nat) : (x.countN n k).heldTo = x.heldTo := rfl
@[simp] theorem Plane.count_grpT (x : Plane) (n : Fin 32) : (x.count n).grpT = x.grpT := rfl
@[simp] theorem Plane.count_phistNow (x : Plane) (n : Fin 32) : (x.count n).phistNow = x.phistNow := rfl
@[simp] theorem Plane.count_heldTo (x : Plane) (n : Fin 32) : (x.count n).heldTo = x.heldTo := rfl
@[simp] theorem Plane.countN_fab (x : Plane) (n : Fin 32) (k : Nat) : (x.countN n k).fab = x.fab := rfl
@[simp] theorem Plane.count_fab (x : Plane) (n : Fin 32) : (x.count n).fab = x.fab := rfl
@[simp] theorem Plane.countN_gen (x : Plane) (n : Fin 32) (k : Nat) : (x.countN n k).gen = x.gen := rfl
@[simp] theorem Plane.count_gen (x : Plane) (n : Fin 32) : (x.count n).gen = x.gen := rfl
@[simp] theorem Plane.countN_flt (x : Plane) (n : Fin 32) (k : Nat) : (x.countN n k).flt = x.flt := rfl
@[simp] theorem Plane.count_flt (x : Plane) (n : Fin 32) : (x.count n).flt = x.flt := rfl
@[simp] theorem Plane.countN_outq (x : Plane) (n : Fin 32) (k : Nat) : (x.countN n k).outq = x.outq := rfl
@[simp] theorem Plane.count_outq (x : Plane) (n : Fin 32) : (x.count n).outq = x.outq := rfl
@[simp] theorem Plane.countN_raised (x : Plane) (n : Fin 32) (k : Nat) : (x.countN n k).raised = x.raised := rfl
@[simp] theorem Plane.count_raised (x : Plane) (n : Fin 32) : (x.count n).raised = x.raised := rfl
@[simp] theorem Plane.countN_owner (x : Plane) (n : Fin 32) (k : Nat) : (x.countN n k).owner = x.owner := rfl
@[simp] theorem Plane.count_owner (x : Plane) (n : Fin 32) : (x.count n).owner = x.owner := rfl
@[simp] theorem Plane.countN_commits (x : Plane) (n : Fin 32) (k : Nat) : (x.countN n k).commits = x.commits := rfl
@[simp] theorem Plane.count_commits (x : Plane) (n : Fin 32) : (x.count n).commits = x.commits := rfl
@[simp] theorem Plane.countN_bank (x : Plane) (n : Fin 32) (k : Nat) : (x.countN n k).bank = x.bank := rfl
@[simp] theorem Plane.count_bank (x : Plane) (n : Fin 32) : (x.count n).bank = x.bank := rfl
@[simp] theorem Plane.countN_fill (x : Plane) (n : Fin 32) (k : Nat) : (x.countN n k).fill = x.fill := rfl
@[simp] theorem Plane.count_fill (x : Plane) (n : Fin 32) : (x.count n).fill = x.fill := rfl

@[simp] theorem Plane.raise_sect (x : Plane) (n : Nat) : (x.raise n).sect = x.sect := rfl
@[simp] theorem Plane.raise_grpAt (x : Plane) (n : Nat) : (x.raise n).grpAt = x.grpAt := rfl
@[simp] theorem Plane.raise_vcobAcc (x : Plane) (n : Nat) : (x.raise n).vcobAcc = x.vcobAcc := rfl
@[simp] theorem Plane.raise_vcobOdd (x : Plane) (n : Nat) : (x.raise n).vcobOdd = x.vcobOdd := rfl
@[simp] theorem Plane.raise_sdig (x : Plane) (n : Nat) : (x.raise n).sdig = x.sdig := rfl
@[simp] theorem Plane.raise_idig (x : Plane) (n : Nat) : (x.raise n).idig = x.idig := rfl
@[simp] theorem Plane.raise_next (x : Plane) (n : Nat) : (x.raise n).next = x.next := rfl
@[simp] theorem Plane.raise_power (x : Plane) (n : Nat) : (x.raise n).power = x.power := rfl
@[simp] theorem Plane.raise_withUnit (x : Plane) (n : Nat) : (x.raise n).withUnit = x.withUnit := rfl
@[simp] theorem Plane.raise_oven (x : Plane) (n : Nat) : (x.raise n).oven = x.oven := rfl
@[simp] theorem Plane.raise_time (x : Plane) (n : Nat) : (x.raise n).time = x.time := rfl
@[simp] theorem Plane.raise_ref (x : Plane) (n : Nat) : (x.raise n).ref = x.ref := rfl
@[simp] theorem Plane.raise_tc (x : Plane) (n : Nat) : (x.raise n).tc = x.tc := rfl
@[simp] theorem Plane.raise_esmc (x : Plane) (n : Nat) : (x.raise n).esmc = x.esmc := rfl
@[simp] theorem Plane.raise_sel (x : Plane) (n : Nat) : (x.raise n).sel = x.sel := rfl
@[simp] theorem Plane.raise_loop (x : Plane) (n : Nat) : (x.raise n).loop = x.loop := rfl
@[simp] theorem Plane.raise_grid (x : Plane) (n : Nat) : (x.raise n).grid = x.grid := rfl
@[simp] theorem Plane.raise_vcobLock (x : Plane) (n : Nat) : (x.raise n).vcobLock = x.vcobLock := rfl
@[simp] theorem Plane.raise_vcobOut (x : Plane) (n : Nat) : (x.raise n).vcobOut = x.vcobOut := rfl
@[simp] theorem Plane.raise_vcobBad (x : Plane) (n : Nat) : (x.raise n).vcobBad = x.vcobBad := rfl
@[simp] theorem Plane.raise_vcobDif (x : Plane) (n : Nat) : (x.raise n).vcobDif = x.vcobDif := rfl
@[simp] theorem Plane.raise_phist (x : Plane) (n : Nat) : (x.raise n).phist = x.phist := rfl
@[simp] theorem Plane.raise_ck (x : Plane) (n : Nat) : (x.raise n).ck = x.ck := rfl
@[simp] theorem Plane.raise_pu (x : Plane) (n : Nat) : (x.raise n).pu = x.pu := rfl
@[simp] theorem Plane.raise_trigOut (x : Plane) (n : Nat) : (x.raise n).trigOut = x.trigOut := rfl
@[simp] theorem Plane.raise_ti (x : Plane) (n : Nat) : (x.raise n).ti = x.ti := rfl
@[simp] theorem Plane.raise_link (x : Plane) (n : Nat) : (x.raise n).link = x.link := rfl
@[simp] theorem Plane.raise_gq (x : Plane) (n : Nat) : (x.raise n).gq = x.gq := rfl
@[simp] theorem Plane.raise_hold (x : Plane) (n : Nat) : (x.raise n).hold = x.hold := rfl
@[simp] theorem Plane.raise_grpT (x : Plane) (n : Nat) : (x.raise n).grpT = x.grpT := rfl
@[simp] theorem Plane.raise_phistNow (x : Plane) (n : Nat) : (x.raise n).phistNow = x.phistNow := rfl
@[simp] theorem Plane.raise_heldTo (x : Plane) (n : Nat) : (x.raise n).heldTo = x.heldTo := rfl
@[simp] theorem Plane.raise_fab (x : Plane) (n : Nat) : (x.raise n).fab = x.fab := rfl
@[simp] theorem Plane.raise_gen (x : Plane) (n : Nat) : (x.raise n).gen = x.gen := rfl
@[simp] theorem Plane.raise_flt (x : Plane) (n : Nat) : (x.raise n).flt = x.flt := rfl
@[simp] theorem Plane.raise_cnt (x : Plane) (n : Nat) : (x.raise n).cnt = x.cnt := rfl
@[simp] theorem Plane.raise_outq (x : Plane) (n : Nat) : (x.raise n).outq = x.outq := rfl
@[simp] theorem Plane.raise_owner (x : Plane) (n : Nat) : (x.raise n).owner = x.owner := rfl
@[simp] theorem Plane.raise_commits (x : Plane) (n : Nat) : (x.raise n).commits = x.commits := rfl
@[simp] theorem Plane.raise_bank (x : Plane) (n : Nat) : (x.raise n).bank = x.bank := rfl
@[simp] theorem Plane.raise_fill (x : Plane) (n : Nat) : (x.raise n).fill = x.fill := rfl
@[simp] theorem Plane.setDet_sect (x : Plane) (n : Fin 64) (b : Bool) : (x.setDet n b).sect = x.sect := rfl
@[simp] theorem Plane.setDet_grpAt (x : Plane) (n : Fin 64) (b : Bool) : (x.setDet n b).grpAt = x.grpAt := rfl
@[simp] theorem Plane.setDet_vcobAcc (x : Plane) (n : Fin 64) (b : Bool) : (x.setDet n b).vcobAcc = x.vcobAcc := rfl
@[simp] theorem Plane.setDet_vcobOdd (x : Plane) (n : Fin 64) (b : Bool) : (x.setDet n b).vcobOdd = x.vcobOdd := rfl
@[simp] theorem Plane.setDet_sdig (x : Plane) (n : Fin 64) (b : Bool) : (x.setDet n b).sdig = x.sdig := rfl
@[simp] theorem Plane.setDet_idig (x : Plane) (n : Fin 64) (b : Bool) : (x.setDet n b).idig = x.idig := rfl
@[simp] theorem Plane.setDet_next (x : Plane) (n : Fin 64) (b : Bool) : (x.setDet n b).next = x.next := rfl
@[simp] theorem Plane.setDet_power (x : Plane) (n : Fin 64) (b : Bool) : (x.setDet n b).power = x.power := rfl
@[simp] theorem Plane.setDet_withUnit (x : Plane) (n : Fin 64) (b : Bool) : (x.setDet n b).withUnit = x.withUnit := rfl
@[simp] theorem Plane.setDet_oven (x : Plane) (n : Fin 64) (b : Bool) : (x.setDet n b).oven = x.oven := rfl
@[simp] theorem Plane.setDet_time (x : Plane) (n : Fin 64) (b : Bool) : (x.setDet n b).time = x.time := rfl
@[simp] theorem Plane.setDet_ref (x : Plane) (n : Fin 64) (b : Bool) : (x.setDet n b).ref = x.ref := rfl
@[simp] theorem Plane.setDet_tc (x : Plane) (n : Fin 64) (b : Bool) : (x.setDet n b).tc = x.tc := rfl
@[simp] theorem Plane.setDet_esmc (x : Plane) (n : Fin 64) (b : Bool) : (x.setDet n b).esmc = x.esmc := rfl
@[simp] theorem Plane.setDet_sel (x : Plane) (n : Fin 64) (b : Bool) : (x.setDet n b).sel = x.sel := rfl
@[simp] theorem Plane.setDet_loop (x : Plane) (n : Fin 64) (b : Bool) : (x.setDet n b).loop = x.loop := rfl
@[simp] theorem Plane.setDet_grid (x : Plane) (n : Fin 64) (b : Bool) : (x.setDet n b).grid = x.grid := rfl
@[simp] theorem Plane.setDet_vcobLock (x : Plane) (n : Fin 64) (b : Bool) : (x.setDet n b).vcobLock = x.vcobLock := rfl
@[simp] theorem Plane.setDet_vcobOut (x : Plane) (n : Fin 64) (b : Bool) : (x.setDet n b).vcobOut = x.vcobOut := rfl
@[simp] theorem Plane.setDet_vcobBad (x : Plane) (n : Fin 64) (b : Bool) : (x.setDet n b).vcobBad = x.vcobBad := rfl
@[simp] theorem Plane.setDet_vcobDif (x : Plane) (n : Fin 64) (b : Bool) : (x.setDet n b).vcobDif = x.vcobDif := rfl
@[simp] theorem Plane.setDet_phist (x : Plane) (n : Fin 64) (b : Bool) : (x.setDet n b).phist = x.phist := rfl
@[simp] theorem Plane.setDet_ck (x : Plane) (n : Fin 64) (b : Bool) : (x.setDet n b).ck = x.ck := rfl
@[simp] theorem Plane.setDet_pu (x : Plane) (n : Fin 64) (b : Bool) : (x.setDet n b).pu = x.pu := rfl
@[simp] theorem Plane.setDet_trigOut (x : Plane) (n : Fin 64) (b : Bool) : (x.setDet n b).trigOut = x.trigOut := rfl
@[simp] theorem Plane.setDet_ti (x : Plane) (n : Fin 64) (b : Bool) : (x.setDet n b).ti = x.ti := rfl
@[simp] theorem Plane.setDet_link (x : Plane) (n : Fin 64) (b : Bool) : (x.setDet n b).link = x.link := rfl
@[simp] theorem Plane.setDet_gq (x : Plane) (n : Fin 64) (b : Bool) : (x.setDet n b).gq = x.gq := rfl
@[simp] theorem Plane.setDet_hold (x : Plane) (n : Fin 64) (b : Bool) : (x.setDet n b).hold = x.hold := rfl
@[simp] theorem Plane.setDet_grpT (x : Plane) (n : Fin 64) (b : Bool) : (x.setDet n b).grpT = x.grpT := rfl
@[simp] theorem Plane.setDet_phistNow (x : Plane) (n : Fin 64) (b : Bool) : (x.setDet n b).phistNow = x.phistNow := rfl
@[simp] theorem Plane.setDet_heldTo (x : Plane) (n : Fin 64) (b : Bool) : (x.setDet n b).heldTo = x.heldTo := rfl
@[simp] theorem Plane.setDet_fab (x : Plane) (n : Fin 64) (b : Bool) : (x.setDet n b).fab = x.fab := rfl
@[simp] theorem Plane.setDet_gen (x : Plane) (n : Fin 64) (b : Bool) : (x.setDet n b).gen = x.gen := rfl
@[simp] theorem Plane.setDet_cnt (x : Plane) (n : Fin 64) (b : Bool) : (x.setDet n b).cnt = x.cnt := rfl
@[simp] theorem Plane.setDet_outq (x : Plane) (n : Fin 64) (b : Bool) : (x.setDet n b).outq = x.outq := rfl
@[simp] theorem Plane.setDet_raised (x : Plane) (n : Fin 64) (b : Bool) : (x.setDet n b).raised = x.raised := rfl
@[simp] theorem Plane.setDet_owner (x : Plane) (n : Fin 64) (b : Bool) : (x.setDet n b).owner = x.owner := rfl
@[simp] theorem Plane.setDet_commits (x : Plane) (n : Fin 64) (b : Bool) : (x.setDet n b).commits = x.commits := rfl
@[simp] theorem Plane.setDet_bank (x : Plane) (n : Fin 64) (b : Bool) : (x.setDet n b).bank = x.bank := rfl
@[simp] theorem Plane.setDet_fill (x : Plane) (n : Fin 64) (b : Bool) : (x.setDet n b).fill = x.fill := rfl

@[simp] theorem Plane.modLink_same (x : Plane) (l : Fin 32) (f : Link → Link) :
    (x.modLink l f).link[l.val] = f x.link[l.val] := by
  simp [Plane.modLink]

theorem Plane.modLink_ne (x : Plane) {l m : Fin 32} (f : Link → Link) (e : l ≠ m) :
    (x.modLink l f).link[m.val] = x.link[m.val] := by
  simp [Plane.modLink, upd_get_ne, e]

@[simp] theorem Plane.send_sect (x : Plane) (r : OutRec) : (x.send r).sect = x.sect := by unfold Plane.send; (repeat' split) <;> rfl
@[simp] theorem Plane.send_grpAt (x : Plane) (r : OutRec) : (x.send r).grpAt = x.grpAt := by unfold Plane.send; (repeat' split) <;> rfl
@[simp] theorem Plane.send_vcobAcc (x : Plane) (r : OutRec) : (x.send r).vcobAcc = x.vcobAcc := by unfold Plane.send; (repeat' split) <;> rfl
@[simp] theorem Plane.send_vcobOdd (x : Plane) (r : OutRec) : (x.send r).vcobOdd = x.vcobOdd := by unfold Plane.send; (repeat' split) <;> rfl
@[simp] theorem Plane.log_sect (x : Plane) (p : PlaneId) (t : Byte) (d : Vector Word 4) : (x.log p t d).sect = x.sect := by simp [Plane.log]
@[simp] theorem Plane.log_grpAt (x : Plane) (p : PlaneId) (t : Byte) (d : Vector Word 4) : (x.log p t d).grpAt = x.grpAt := by simp [Plane.log]
@[simp] theorem Plane.log_vcobAcc (x : Plane) (p : PlaneId) (t : Byte) (d : Vector Word 4) : (x.log p t d).vcobAcc = x.vcobAcc := by simp [Plane.log]
@[simp] theorem Plane.log_vcobOdd (x : Plane) (p : PlaneId) (t : Byte) (d : Vector Word 4) : (x.log p t d).vcobOdd = x.vcobOdd := by simp [Plane.log]
@[simp] theorem Plane.send_sdig (x : Plane) (r : OutRec) : (x.send r).sdig = x.sdig := by unfold Plane.send; (repeat' split) <;> rfl
@[simp] theorem Plane.log_sdig (x : Plane) (p : PlaneId) (t : Byte) (d : Vector Word 4) : (x.log p t d).sdig = x.sdig := by simp [Plane.log]
@[simp] theorem Plane.send_idig (x : Plane) (r : OutRec) : (x.send r).idig = x.idig := by unfold Plane.send; (repeat' split) <;> rfl
@[simp] theorem Plane.log_idig (x : Plane) (p : PlaneId) (t : Byte) (d : Vector Word 4) : (x.log p t d).idig = x.idig := by simp [Plane.log]
@[simp] theorem Plane.send_next (x : Plane) (r : OutRec) : (x.send r).next = x.next := by unfold Plane.send; (repeat' split) <;> rfl
@[simp] theorem Plane.log_next (x : Plane) (p : PlaneId) (t : Byte) (d : Vector Word 4) : (x.log p t d).next = x.next := by simp [Plane.log]
@[simp] theorem Plane.send_power (x : Plane) (r : OutRec) : (x.send r).power = x.power := by unfold Plane.send; (repeat' split) <;> rfl
@[simp] theorem Plane.log_power (x : Plane) (p : PlaneId) (t : Byte) (d : Vector Word 4) : (x.log p t d).power = x.power := by simp [Plane.log]
@[simp] theorem Plane.send_withUnit (x : Plane) (r : OutRec) : (x.send r).withUnit = x.withUnit := by unfold Plane.send; (repeat' split) <;> rfl
@[simp] theorem Plane.log_withUnit (x : Plane) (p : PlaneId) (t : Byte) (d : Vector Word 4) : (x.log p t d).withUnit = x.withUnit := by simp [Plane.log]
@[simp] theorem Plane.send_oven (x : Plane) (r : OutRec) : (x.send r).oven = x.oven := by unfold Plane.send; (repeat' split) <;> rfl
@[simp] theorem Plane.log_oven (x : Plane) (p : PlaneId) (t : Byte) (d : Vector Word 4) : (x.log p t d).oven = x.oven := by simp [Plane.log]
@[simp] theorem Plane.send_time (x : Plane) (r : OutRec) : (x.send r).time = x.time := by unfold Plane.send; (repeat' split) <;> rfl
@[simp] theorem Plane.log_time (x : Plane) (p : PlaneId) (t : Byte) (d : Vector Word 4) : (x.log p t d).time = x.time := by simp [Plane.log]
@[simp] theorem Plane.send_ref (x : Plane) (r : OutRec) : (x.send r).ref = x.ref := by unfold Plane.send; (repeat' split) <;> rfl
@[simp] theorem Plane.log_ref (x : Plane) (p : PlaneId) (t : Byte) (d : Vector Word 4) : (x.log p t d).ref = x.ref := by simp [Plane.log]
@[simp] theorem Plane.send_tc (x : Plane) (r : OutRec) : (x.send r).tc = x.tc := by unfold Plane.send; (repeat' split) <;> rfl
@[simp] theorem Plane.log_tc (x : Plane) (p : PlaneId) (t : Byte) (d : Vector Word 4) : (x.log p t d).tc = x.tc := by simp [Plane.log]
@[simp] theorem Plane.send_esmc (x : Plane) (r : OutRec) : (x.send r).esmc = x.esmc := by unfold Plane.send; (repeat' split) <;> rfl
@[simp] theorem Plane.log_esmc (x : Plane) (p : PlaneId) (t : Byte) (d : Vector Word 4) : (x.log p t d).esmc = x.esmc := by simp [Plane.log]
@[simp] theorem Plane.send_sel (x : Plane) (r : OutRec) : (x.send r).sel = x.sel := by unfold Plane.send; (repeat' split) <;> rfl
@[simp] theorem Plane.log_sel (x : Plane) (p : PlaneId) (t : Byte) (d : Vector Word 4) : (x.log p t d).sel = x.sel := by simp [Plane.log]
@[simp] theorem Plane.send_loop (x : Plane) (r : OutRec) : (x.send r).loop = x.loop := by unfold Plane.send; (repeat' split) <;> rfl
@[simp] theorem Plane.log_loop (x : Plane) (p : PlaneId) (t : Byte) (d : Vector Word 4) : (x.log p t d).loop = x.loop := by simp [Plane.log]
@[simp] theorem Plane.send_grid (x : Plane) (r : OutRec) : (x.send r).grid = x.grid := by unfold Plane.send; (repeat' split) <;> rfl
@[simp] theorem Plane.log_grid (x : Plane) (p : PlaneId) (t : Byte) (d : Vector Word 4) : (x.log p t d).grid = x.grid := by simp [Plane.log]
@[simp] theorem Plane.send_vcobLock (x : Plane) (r : OutRec) : (x.send r).vcobLock = x.vcobLock := by unfold Plane.send; (repeat' split) <;> rfl
@[simp] theorem Plane.log_vcobLock (x : Plane) (p : PlaneId) (t : Byte) (d : Vector Word 4) : (x.log p t d).vcobLock = x.vcobLock := by simp [Plane.log]
@[simp] theorem Plane.send_vcobOut (x : Plane) (r : OutRec) : (x.send r).vcobOut = x.vcobOut := by unfold Plane.send; (repeat' split) <;> rfl
@[simp] theorem Plane.log_vcobOut (x : Plane) (p : PlaneId) (t : Byte) (d : Vector Word 4) : (x.log p t d).vcobOut = x.vcobOut := by simp [Plane.log]
@[simp] theorem Plane.send_vcobBad (x : Plane) (r : OutRec) : (x.send r).vcobBad = x.vcobBad := by unfold Plane.send; (repeat' split) <;> rfl
@[simp] theorem Plane.log_vcobBad (x : Plane) (p : PlaneId) (t : Byte) (d : Vector Word 4) : (x.log p t d).vcobBad = x.vcobBad := by simp [Plane.log]
@[simp] theorem Plane.send_vcobDif (x : Plane) (r : OutRec) : (x.send r).vcobDif = x.vcobDif := by unfold Plane.send; (repeat' split) <;> rfl
@[simp] theorem Plane.log_vcobDif (x : Plane) (p : PlaneId) (t : Byte) (d : Vector Word 4) : (x.log p t d).vcobDif = x.vcobDif := by simp [Plane.log]
@[simp] theorem Plane.send_phist (x : Plane) (r : OutRec) : (x.send r).phist = x.phist := by unfold Plane.send; (repeat' split) <;> rfl
@[simp] theorem Plane.log_phist (x : Plane) (p : PlaneId) (t : Byte) (d : Vector Word 4) : (x.log p t d).phist = x.phist := by simp [Plane.log]
@[simp] theorem Plane.send_ck (x : Plane) (r : OutRec) : (x.send r).ck = x.ck := by unfold Plane.send; (repeat' split) <;> rfl
@[simp] theorem Plane.log_ck (x : Plane) (p : PlaneId) (t : Byte) (d : Vector Word 4) : (x.log p t d).ck = x.ck := by simp [Plane.log]
@[simp] theorem Plane.send_pu (x : Plane) (r : OutRec) : (x.send r).pu = x.pu := by unfold Plane.send; (repeat' split) <;> rfl
@[simp] theorem Plane.log_pu (x : Plane) (p : PlaneId) (t : Byte) (d : Vector Word 4) : (x.log p t d).pu = x.pu := by simp [Plane.log]
@[simp] theorem Plane.send_trigOut (x : Plane) (r : OutRec) : (x.send r).trigOut = x.trigOut := by unfold Plane.send; (repeat' split) <;> rfl
@[simp] theorem Plane.log_trigOut (x : Plane) (p : PlaneId) (t : Byte) (d : Vector Word 4) : (x.log p t d).trigOut = x.trigOut := by simp [Plane.log]
@[simp] theorem Plane.send_ti (x : Plane) (r : OutRec) : (x.send r).ti = x.ti := by unfold Plane.send; (repeat' split) <;> rfl
@[simp] theorem Plane.log_ti (x : Plane) (p : PlaneId) (t : Byte) (d : Vector Word 4) : (x.log p t d).ti = x.ti := by simp [Plane.log]
@[simp] theorem Plane.send_link (x : Plane) (r : OutRec) : (x.send r).link = x.link := by unfold Plane.send; (repeat' split) <;> rfl
@[simp] theorem Plane.log_link (x : Plane) (p : PlaneId) (t : Byte) (d : Vector Word 4) : (x.log p t d).link = x.link := by simp [Plane.log]
@[simp] theorem Plane.send_gq (x : Plane) (r : OutRec) : (x.send r).gq = x.gq := by unfold Plane.send; (repeat' split) <;> rfl
@[simp] theorem Plane.log_gq (x : Plane) (p : PlaneId) (t : Byte) (d : Vector Word 4) : (x.log p t d).gq = x.gq := by simp [Plane.log]
@[simp] theorem Plane.send_hold (x : Plane) (r : OutRec) : (x.send r).hold = x.hold := by unfold Plane.send; (repeat' split) <;> rfl
@[simp] theorem Plane.log_hold (x : Plane) (p : PlaneId) (t : Byte) (d : Vector Word 4) : (x.log p t d).hold = x.hold := by simp [Plane.log]
@[simp] theorem Plane.send_grpT (x : Plane) (r : OutRec) : (x.send r).grpT = x.grpT := by unfold Plane.send; (repeat' split) <;> rfl
@[simp] theorem Plane.send_phistNow (x : Plane) (r : OutRec) : (x.send r).phistNow = x.phistNow := by unfold Plane.send; (repeat' split) <;> rfl
@[simp] theorem Plane.send_heldTo (x : Plane) (r : OutRec) : (x.send r).heldTo = x.heldTo := by unfold Plane.send; (repeat' split) <;> rfl
@[simp] theorem Plane.log_grpT (x : Plane) (p : PlaneId) (t : Byte) (d : Vector Word 4) : (x.log p t d).grpT = x.grpT := by simp [Plane.log]
@[simp] theorem Plane.log_phistNow (x : Plane) (p : PlaneId) (t : Byte) (d : Vector Word 4) : (x.log p t d).phistNow = x.phistNow := by simp [Plane.log]
@[simp] theorem Plane.log_heldTo (x : Plane) (p : PlaneId) (t : Byte) (d : Vector Word 4) : (x.log p t d).heldTo = x.heldTo := by simp [Plane.log]
@[simp] theorem Plane.send_fab (x : Plane) (r : OutRec) : (x.send r).fab = x.fab := by unfold Plane.send; (repeat' split) <;> rfl
@[simp] theorem Plane.log_fab (x : Plane) (p : PlaneId) (t : Byte) (d : Vector Word 4) : (x.log p t d).fab = x.fab := by simp [Plane.log]
@[simp] theorem Plane.send_gen (x : Plane) (r : OutRec) : (x.send r).gen = x.gen := by unfold Plane.send; (repeat' split) <;> rfl
@[simp] theorem Plane.log_gen (x : Plane) (p : PlaneId) (t : Byte) (d : Vector Word 4) : (x.log p t d).gen = x.gen := by simp [Plane.log]
@[simp] theorem Plane.send_flt (x : Plane) (r : OutRec) : (x.send r).flt = x.flt := by unfold Plane.send; (repeat' split) <;> rfl
@[simp] theorem Plane.log_flt (x : Plane) (p : PlaneId) (t : Byte) (d : Vector Word 4) : (x.log p t d).flt = x.flt := by simp [Plane.log]
@[simp] theorem Plane.send_raised (x : Plane) (r : OutRec) : (x.send r).raised = x.raised := by unfold Plane.send; (repeat' split) <;> rfl
@[simp] theorem Plane.log_raised (x : Plane) (p : PlaneId) (t : Byte) (d : Vector Word 4) : (x.log p t d).raised = x.raised := by simp [Plane.log]
@[simp] theorem Plane.send_owner (x : Plane) (r : OutRec) : (x.send r).owner = x.owner := by unfold Plane.send; (repeat' split) <;> rfl
@[simp] theorem Plane.log_owner (x : Plane) (p : PlaneId) (t : Byte) (d : Vector Word 4) : (x.log p t d).owner = x.owner := by simp [Plane.log]
@[simp] theorem Plane.send_commits (x : Plane) (r : OutRec) : (x.send r).commits = x.commits := by unfold Plane.send; (repeat' split) <;> rfl
@[simp] theorem Plane.log_commits (x : Plane) (p : PlaneId) (t : Byte) (d : Vector Word 4) : (x.log p t d).commits = x.commits := by simp [Plane.log]
@[simp] theorem Plane.send_bank (x : Plane) (r : OutRec) : (x.send r).bank = x.bank := by unfold Plane.send; (repeat' split) <;> rfl
@[simp] theorem Plane.log_bank (x : Plane) (p : PlaneId) (t : Byte) (d : Vector Word 4) : (x.log p t d).bank = x.bank := by simp [Plane.log]
@[simp] theorem Plane.send_fill (x : Plane) (r : OutRec) : (x.send r).fill = x.fill := by unfold Plane.send; (repeat' split) <;> rfl
@[simp] theorem Plane.log_fill (x : Plane) (p : PlaneId) (t : Byte) (d : Vector Word 4) : (x.log p t d).fill = x.fill := by simp [Plane.log]
@[simp] theorem Plane.history_sect (x : Plane) (b : Nat) : (x.history b).sect = x.sect := by unfold Plane.history; dsimp only; split <;> rfl
@[simp] theorem Plane.history_grpAt (x : Plane) (b : Nat) : (x.history b).grpAt = x.grpAt := by unfold Plane.history; dsimp only; split <;> rfl
@[simp] theorem Plane.history_vcobAcc (x : Plane) (b : Nat) : (x.history b).vcobAcc = x.vcobAcc := by unfold Plane.history; dsimp only; split <;> rfl
@[simp] theorem Plane.history_vcobOdd (x : Plane) (b : Nat) : (x.history b).vcobOdd = x.vcobOdd := by unfold Plane.history; dsimp only; split <;> rfl
@[simp] theorem Plane.history_sdig (x : Plane) (b : Nat) : (x.history b).sdig = x.sdig := by unfold Plane.history; dsimp only; split <;> rfl
@[simp] theorem Plane.history_idig (x : Plane) (b : Nat) : (x.history b).idig = x.idig := by unfold Plane.history; dsimp only; split <;> rfl
@[simp] theorem Plane.history_next (x : Plane) (b : Nat) : (x.history b).next = x.next := by unfold Plane.history; dsimp only; split <;> rfl
@[simp] theorem Plane.history_power (x : Plane) (b : Nat) : (x.history b).power = x.power := by unfold Plane.history; dsimp only; split <;> rfl
@[simp] theorem Plane.history_withUnit (x : Plane) (b : Nat) : (x.history b).withUnit = x.withUnit := by unfold Plane.history; dsimp only; split <;> rfl
@[simp] theorem Plane.history_oven (x : Plane) (b : Nat) : (x.history b).oven = x.oven := by unfold Plane.history; dsimp only; split <;> rfl
@[simp] theorem Plane.history_time (x : Plane) (b : Nat) : (x.history b).time = x.time := by unfold Plane.history; dsimp only; split <;> rfl
@[simp] theorem Plane.history_ref (x : Plane) (b : Nat) : (x.history b).ref = x.ref := by unfold Plane.history; dsimp only; split <;> rfl
@[simp] theorem Plane.history_tc (x : Plane) (b : Nat) : (x.history b).tc = x.tc := by unfold Plane.history; dsimp only; split <;> rfl
@[simp] theorem Plane.history_esmc (x : Plane) (b : Nat) : (x.history b).esmc = x.esmc := by unfold Plane.history; dsimp only; split <;> rfl
@[simp] theorem Plane.history_sel (x : Plane) (b : Nat) : (x.history b).sel = x.sel := by unfold Plane.history; dsimp only; split <;> rfl
@[simp] theorem Plane.history_loop (x : Plane) (b : Nat) : (x.history b).loop = x.loop := by unfold Plane.history; dsimp only; split <;> rfl
@[simp] theorem Plane.history_grid (x : Plane) (b : Nat) : (x.history b).grid = x.grid := by unfold Plane.history; dsimp only; split <;> rfl
@[simp] theorem Plane.history_vcobLock (x : Plane) (b : Nat) : (x.history b).vcobLock = x.vcobLock := by unfold Plane.history; dsimp only; split <;> rfl
@[simp] theorem Plane.history_vcobOut (x : Plane) (b : Nat) : (x.history b).vcobOut = x.vcobOut := by unfold Plane.history; dsimp only; split <;> rfl
@[simp] theorem Plane.history_vcobBad (x : Plane) (b : Nat) : (x.history b).vcobBad = x.vcobBad := by unfold Plane.history; dsimp only; split <;> rfl
@[simp] theorem Plane.history_vcobDif (x : Plane) (b : Nat) : (x.history b).vcobDif = x.vcobDif := by unfold Plane.history; dsimp only; split <;> rfl
@[simp] theorem Plane.history_ck (x : Plane) (b : Nat) : (x.history b).ck = x.ck := by unfold Plane.history; dsimp only; split <;> rfl
@[simp] theorem Plane.history_pu (x : Plane) (b : Nat) : (x.history b).pu = x.pu := by unfold Plane.history; dsimp only; split <;> rfl
@[simp] theorem Plane.history_trigOut (x : Plane) (b : Nat) : (x.history b).trigOut = x.trigOut := by unfold Plane.history; dsimp only; split <;> rfl
@[simp] theorem Plane.history_ti (x : Plane) (b : Nat) : (x.history b).ti = x.ti := by unfold Plane.history; dsimp only; split <;> rfl
@[simp] theorem Plane.history_link (x : Plane) (b : Nat) : (x.history b).link = x.link := by unfold Plane.history; dsimp only; split <;> rfl
@[simp] theorem Plane.history_gq (x : Plane) (b : Nat) : (x.history b).gq = x.gq := by unfold Plane.history; dsimp only; split <;> rfl
@[simp] theorem Plane.history_hold (x : Plane) (b : Nat) : (x.history b).hold = x.hold := by unfold Plane.history; dsimp only; split <;> rfl
@[simp] theorem Plane.history_grpT (x : Plane) (b : Nat) : (x.history b).grpT = x.grpT := by unfold Plane.history; dsimp only; split <;> rfl
@[simp] theorem Plane.history_heldTo (x : Plane) (b : Nat) : (x.history b).heldTo = x.heldTo := by unfold Plane.history; dsimp only; split <;> rfl
@[simp] theorem Plane.history_fab (x : Plane) (b : Nat) : (x.history b).fab = x.fab := by unfold Plane.history; dsimp only; split <;> rfl
@[simp] theorem Plane.history_gen (x : Plane) (b : Nat) : (x.history b).gen = x.gen := by unfold Plane.history; dsimp only; split <;> rfl
@[simp] theorem Plane.history_flt (x : Plane) (b : Nat) : (x.history b).flt = x.flt := by unfold Plane.history; dsimp only; split <;> rfl
@[simp] theorem Plane.history_cnt (x : Plane) (b : Nat) : (x.history b).cnt = x.cnt := by unfold Plane.history; dsimp only; split <;> rfl
@[simp] theorem Plane.history_outq (x : Plane) (b : Nat) : (x.history b).outq = x.outq := by unfold Plane.history; dsimp only; split <;> rfl
@[simp] theorem Plane.history_owner (x : Plane) (b : Nat) : (x.history b).owner = x.owner := by unfold Plane.history; dsimp only; split <;> rfl
@[simp] theorem Plane.history_commits (x : Plane) (b : Nat) : (x.history b).commits = x.commits := by unfold Plane.history; dsimp only; split <;> rfl
@[simp] theorem Plane.history_bank (x : Plane) (b : Nat) : (x.history b).bank = x.bank := by unfold Plane.history; dsimp only; split <;> rfl
@[simp] theorem Plane.history_fill (x : Plane) (b : Nat) : (x.history b).fill = x.fill := by unfold Plane.history; dsimp only; split <;> rfl

end Sys2Proof.Machine
end

