-- ==== Sys2Proof/Laws/Deliver.lean ====
section
/-! SUPPORT. What delivering a plane operation's causes can do: it touches that plane's outgoing queue, its counters and the
causes and messages of the ports, and nothing else. -/

namespace Sys2Proof.Machine

/-- One hub differs from another at most in a plane's outgoing queue and counters and in the causes, messages and sequence
numbers of its ports. -/
structure CauseOnly (p : PlaneId) (h g : Hub) : Prop where
  hub : g = { h with planes := g.planes, ports := g.ports }
  plane : ∃ o c, g.planes = h.planes.set p { h.plane p with outq := o, cnt := c } ∧
    ∀ i : Fin 32, i ≠ 20 → (c)[i.val] = (h.plane p).cnt[i.val]
  port : ∀ q : PortId, ∃ a m n, g.port q = { h.port q with acause := a, msgs := m, attnSeq := n }

theorem CauseOnly.rfl_ (p : PlaneId) (h : Hub) : CauseOnly p h h := by
  refine ⟨rfl, ⟨(h.plane p).outq, (h.plane p).cnt, ?_, fun _ _ => rfl⟩, fun q => ⟨_, _, _, rfl⟩⟩
  cases p <;> rfl

theorem CauseOnly.trans {p : PlaneId} {h g k : Hub} (a : CauseOnly p h g) (b : CauseOnly p g k) : CauseOnly p h k := by
  obtain ⟨ah, ⟨o, c, ap, ac⟩, aq⟩ := a
  obtain ⟨bh, ⟨o', c', bp, bc⟩, bq⟩ := b
  have e : (g.plane p).cnt = c := by rw [Hub.plane, ap]; simp
  refine ⟨?_, ⟨o', c', ?_, fun i hi => ?_⟩, fun q => ?_⟩
  · rw [bh, ah]
  · rw [bp, Hub.plane, ap]; cases p <;> rfl
  · rw [bc i hi, e, ac i hi]
  · obtain ⟨a, m, n, e⟩ := aq q
    obtain ⟨a', m', n', e'⟩ := bq q
    exact ⟨a', m', n', by rw [e', e]⟩

theorem Port.pendMsg_only (x : Port) (o : Fin 9) : ∃ m n, x.pendMsg o = { x with msgs := m, attnSeq := n } := by
  unfold Port.pendMsg; split
  · exact ⟨_, _, rfl⟩
  · exact ⟨_, _, rfl⟩

theorem Port.cause_only (x : Port) (off : Fin 8) (bit : Nat) :
    ∃ a m n, x.cause off bit = { x with acause := a, msgs := m, attnSeq := n } := by
  unfold Port.cause; dsimp only; split
  · obtain ⟨m, n, e⟩ := Port.pendMsg_only { x with acause := upd x.acause off (· ||| (1#32 <<< bit)) } off.castSucc
    exact ⟨_, m, n, by rw [e]⟩
  · exact ⟨_, _, _, rfl⟩

/-- Sending a record appends it to the outgoing queue, or counts its loss in plane counter 20 (R42). -/
theorem Plane.send_only (x : Plane) (r : OutRec) : ∃ o c, x.send r = { x with outq := o, cnt := c } ∧
    ∀ i : Fin 32, i ≠ 20 → (c)[i.val] = x.cnt[i.val] := by
  unfold Plane.send; split
  · exact ⟨_, _, rfl, fun _ _ => rfl⟩
  · split
    · exact ⟨_, _, rfl, fun i hi => upd_get_ne _ _ _ _ (Ne.symm hi)⟩
    · exact ⟨_, _, rfl, fun _ _ => rfl⟩

theorem CauseOnly.allPorts {p : PlaneId} (h : Hub) (f : Port → Port)
    (e : ∀ x, ∃ a m n, f x = { x with acause := a, msgs := m, attnSeq := n }) : CauseOnly p h (h.allPorts f) := by
  refine ⟨rfl, ⟨(h.plane p).outq, (h.plane p).cnt, ?_, fun _ _ => rfl⟩, fun q => ?_⟩
  · cases p <;> rfl
  · rw [Hub.allPorts_port]; exact e _

theorem Hub.cause_only (h : Hub) (p : PlaneId) (bit : Nat) : CauseOnly p h (h.cause p bit) := by
  have hs : CauseOnly p h (h.modPlane p (·.send (.cause bit))) := by
    obtain ⟨o, c, e, ec⟩ := Plane.send_only (h.plane p) (.cause bit)
    refine ⟨rfl, ⟨o, c, ?_, ec⟩, fun q => ⟨_, _, _, rfl⟩⟩
    simp [Hub.modPlane, Hub.setPlane, e]
  have hc : ∀ x : Port, ∃ a m n, x.cause (offOf p) bit = { x with acause := a, msgs := m, attnSeq := n } :=
    fun x => Port.cause_only x _ _
  unfold Hub.cause
  split
  · dsimp only; split
    · exact hs.trans (CauseOnly.allPorts _ _ fun x => ⟨_, _, _, rfl⟩)
    · exact hs.trans (CauseOnly.allPorts _ _ hc)
  · exact CauseOnly.allPorts _ _ hc

theorem Hub.causes_only (p : PlaneId) (bits : List Nat) (h : Hub) :
    CauseOnly p h (bits.foldl (fun h b => h.cause p b) h) := by
  induction bits generalizing h with
  | nil => exact CauseOnly.rfl_ p h
  | cons b rest ih => exact (Hub.cause_only h p b).trans (ih _)

/-- All that delivery can do: the causes a plane operation raised leave its list empty. -/
theorem Hub.deliver_only (h : Hub) (p : PlaneId) :
    CauseOnly p (h.modPlane p fun x => { x with raised := [] }) (h.deliver p) :=
  Hub.causes_only p _ _

/-- All that an operation inside a plane can do to the hub. -/
theorem Hub.onPlane_only (h : Hub) (p : PlaneId) (f : Plane → Plane) :
    CauseOnly p (h.modPlane p fun x => { f x with raised := [] }) (h.onPlane p f) := by
  have e := Hub.deliver_only (h.modPlane p f) p
  have : (h.modPlane p f).modPlane p (fun x => { x with raised := [] }) = h.modPlane p fun x => { f x with raised := [] } := by
    cases p <;> rfl
  rw [this] at e
  exact e

theorem Hub.onPlane_plane (h : Hub) (p : PlaneId) (f : Plane → Plane) :
    ∃ o c, (h.onPlane p f).plane p = { f (h.plane p) with raised := [], outq := o, cnt := c } ∧
      ∀ i : Fin 32, i ≠ 20 → (c)[i.val] = (f (h.plane p)).cnt[i.val] := by
  obtain ⟨-, ⟨o, c, e, ec⟩, -⟩ := Hub.onPlane_only h p f
  rw [Hub.modPlane_plane] at ec
  refine ⟨o, c, ?_, ec⟩
  show (h.onPlane p f).planes.get p = _
  rw [e]; simp

/-- Of the counters, delivery can count only in plane counter 20 (R42). -/
theorem Hub.onPlane_cnt (h : Hub) (p : PlaneId) (f : Plane → Plane) (i : Fin 32) (hi : i ≠ 20) :
    ((h.onPlane p f).plane p).cnt[i.val] = (f (h.plane p)).cnt[i.val] := by
  obtain ⟨o, c, e, ec⟩ := Hub.onPlane_plane h p f
  rw [e]; exact ec i hi

theorem Hub.onPlane_plane_ne (h : Hub) {p q : PlaneId} (f : Plane → Plane) (e : q ≠ p) :
    (h.onPlane p f).plane q = h.plane q := by
  obtain ⟨-, ⟨o, c, k, -⟩, -⟩ := Hub.onPlane_only h p f
  show (h.onPlane p f).planes.get q = _
  rw [k, Tri.get_set_ne _ _ e]
  exact Hub.modPlane_plane_ne _ _ e

theorem Hub.onPlane_port (h : Hub) (p : PlaneId) (f : Plane → Plane) (q : PortId) :
    ∃ a m n, (h.onPlane p f).port q = { h.port q with acause := a, msgs := m, attnSeq := n } := by
  obtain ⟨-, -, k⟩ := Hub.onPlane_only h p f
  exact k q

@[simp] theorem Hub.onPlane_ident (h : Hub) (p : PlaneId) (f : Plane → Plane) : (h.onPlane p f).ident = h.ident := by rw [(Hub.onPlane_only h p f).hub]; rfl
@[simp] theorem Hub.onPlane_powered (h : Hub) (p : PlaneId) (f : Plane → Plane) : (h.onPlane p f).powered = h.powered := by rw [(Hub.onPlane_only h p f).hub]; rfl
@[simp] theorem Hub.onPlane_conv (h : Hub) (p : PlaneId) (f : Plane → Plane) : (h.onPlane p f).conv = h.conv := by rw [(Hub.onPlane_only h p f).hub]; rfl
@[simp] theorem Hub.onPlane_upstate (h : Hub) (p : PlaneId) (f : Plane → Plane) : (h.onPlane p f).upstate = h.upstate := by rw [(Hub.onPlane_only h p f).hub]; rfl
@[simp] theorem Hub.onPlane_ustby (h : Hub) (p : PlaneId) (f : Plane → Plane) : (h.onPlane p f).ustby = h.ustby := by rw [(Hub.onPlane_only h p f).hub]; rfl
@[simp] theorem Hub.onPlane_udecl (h : Hub) (p : PlaneId) (f : Plane → Plane) : (h.onPlane p f).udecl = h.udecl := by rw [(Hub.onPlane_only h p f).hub]; rfl
@[simp] theorem Hub.onPlane_udig (h : Hub) (p : PlaneId) (f : Plane → Plane) : (h.onPlane p f).udig = h.udig := by rw [(Hub.onPlane_only h p f).hub]; rfl
@[simp] theorem Hub.onPlane_partner (h : Hub) (p : PlaneId) (f : Plane → Plane) : (h.onPlane p f).partner = h.partner := by rw [(Hub.onPlane_only h p f).hub]; rfl
@[simp] theorem Hub.onPlane_shots (h : Hub) (p : PlaneId) (f : Plane → Plane) : (h.onPlane p f).shots = h.shots := by rw [(Hub.onPlane_only h p f).hub]; rfl
@[simp] theorem Hub.onPlane_last (h : Hub) (p : PlaneId) (f : Plane → Plane) : (h.onPlane p f).last = h.last := by rw [(Hub.onPlane_only h p f).hub]; rfl
@[simp] theorem Hub.onPlane_ticks (h : Hub) (p : PlaneId) (f : Plane → Plane) : (h.onPlane p f).ticks = h.ticks := by rw [(Hub.onPlane_only h p f).hub]; rfl
@[simp] theorem Hub.onPlane_cmp (h : Hub) (p : PlaneId) (f : Plane → Plane) : (h.onPlane p f).cmp = h.cmp := by rw [(Hub.onPlane_only h p f).hub]; rfl
@[simp] theorem Hub.onPlane_marginal (h : Hub) (p : PlaneId) (f : Plane → Plane) : (h.onPlane p f).marginal = h.marginal := by rw [(Hub.onPlane_only h p f).hub]; rfl
@[simp] theorem Hub.onPlane_usrc (h : Hub) (p : PlaneId) (f : Plane → Plane) : (h.onPlane p f).usrc = h.usrc := by rw [(Hub.onPlane_only h p f).hub]; rfl
@[simp] theorem Hub.onPlane_hand (h : Hub) (p : PlaneId) (f : Plane → Plane) : (h.onPlane p f).hand = h.hand := by rw [(Hub.onPlane_only h p f).hub]; rfl
@[simp] theorem Hub.onPlane_ucommits (h : Hub) (p : PlaneId) (f : Plane → Plane) : (h.onPlane p f).ucommits = h.ucommits := by rw [(Hub.onPlane_only h p f).hub]; rfl
@[simp] theorem Hub.onPlane_ucnt (h : Hub) (p : PlaneId) (f : Plane → Plane) : (h.onPlane p f).ucnt = h.ucnt := by rw [(Hub.onPlane_only h p f).hub]; rfl
@[simp] theorem Hub.onPlane_ushort (h : Hub) (p : PlaneId) (f : Plane → Plane) : (h.onPlane p f).ushort = h.ushort := by rw [(Hub.onPlane_only h p f).hub]; rfl
@[simp] theorem Hub.onPlane_chim (h : Hub) (p : PlaneId) (f : Plane → Plane) : (h.onPlane p f).chim = h.chim := by rw [(Hub.onPlane_only h p f).hub]; rfl
@[simp] theorem Hub.onPlane_snap (h : Hub) (p : PlaneId) (f : Plane → Plane) : (h.onPlane p f).snap = h.snap := by rw [(Hub.onPlane_only h p f).hub]; rfl
@[simp] theorem Hub.onPlane_nv (h : Hub) (p : PlaneId) (f : Plane → Plane) : (h.onPlane p f).nv = h.nv := by rw [(Hub.onPlane_only h p f).hub]; rfl
@[simp] theorem Hub.onPlane_log (h : Hub) (p : PlaneId) (f : Plane → Plane) : (h.onPlane p f).log = h.log := by rw [(Hub.onPlane_only h p f).hub]; rfl
@[simp] theorem Hub.onPlane_cfg (h : Hub) (p : PlaneId) (f : Plane → Plane) : (h.onPlane p f).cfg = h.cfg := by rw [(Hub.onPlane_only h p f).hub]; rfl
@[simp] theorem Hub.onPlane_auth (h : Hub) (p : PlaneId) (f : Plane → Plane) : (h.onPlane p f).auth = h.auth := by rw [(Hub.onPlane_only h p f).hub]; rfl
@[simp] theorem Hub.onPlane_env (h : Hub) (p : PlaneId) (f : Plane → Plane) : (h.onPlane p f).env = h.env := by rw [(Hub.onPlane_only h p f).hub]; rfl
@[simp] theorem Hub.onPlane_freeIdx (h : Hub) (p : PlaneId) (f : Plane → Plane) : (h.onPlane p f).freeIdx = h.freeIdx := by rw [(Hub.onPlane_only h p f).hub]; rfl

@[simp] theorem Hub.onPlane_plane_sect (h : Hub) (p : PlaneId) (f : Plane → Plane) : ((h.onPlane p f).plane p).sect = (f (h.plane p)).sect := by obtain ⟨o, c, e, -⟩ := Hub.onPlane_plane h p f; rw [e]
@[simp] theorem Hub.onPlane_plane_sdig (h : Hub) (p : PlaneId) (f : Plane → Plane) : ((h.onPlane p f).plane p).sdig = (f (h.plane p)).sdig := by obtain ⟨o, c, e, -⟩ := Hub.onPlane_plane h p f; rw [e]
@[simp] theorem Hub.onPlane_plane_idig (h : Hub) (p : PlaneId) (f : Plane → Plane) : ((h.onPlane p f).plane p).idig = (f (h.plane p)).idig := by obtain ⟨o, c, e, -⟩ := Hub.onPlane_plane h p f; rw [e]
@[simp] theorem Hub.onPlane_plane_next (h : Hub) (p : PlaneId) (f : Plane → Plane) : ((h.onPlane p f).plane p).next = (f (h.plane p)).next := by obtain ⟨o, c, e, -⟩ := Hub.onPlane_plane h p f; rw [e]
@[simp] theorem Hub.onPlane_plane_power (h : Hub) (p : PlaneId) (f : Plane → Plane) : ((h.onPlane p f).plane p).power = (f (h.plane p)).power := by obtain ⟨o, c, e, -⟩ := Hub.onPlane_plane h p f; rw [e]
@[simp] theorem Hub.onPlane_plane_withUnit (h : Hub) (p : PlaneId) (f : Plane → Plane) : ((h.onPlane p f).plane p).withUnit = (f (h.plane p)).withUnit := by obtain ⟨o, c, e, -⟩ := Hub.onPlane_plane h p f; rw [e]
@[simp] theorem Hub.onPlane_plane_oven (h : Hub) (p : PlaneId) (f : Plane → Plane) : ((h.onPlane p f).plane p).oven = (f (h.plane p)).oven := by obtain ⟨o, c, e, -⟩ := Hub.onPlane_plane h p f; rw [e]
@[simp] theorem Hub.onPlane_plane_time (h : Hub) (p : PlaneId) (f : Plane → Plane) : ((h.onPlane p f).plane p).time = (f (h.plane p)).time := by obtain ⟨o, c, e, -⟩ := Hub.onPlane_plane h p f; rw [e]
@[simp] theorem Hub.onPlane_plane_ref (h : Hub) (p : PlaneId) (f : Plane → Plane) : ((h.onPlane p f).plane p).ref = (f (h.plane p)).ref := by obtain ⟨o, c, e, -⟩ := Hub.onPlane_plane h p f; rw [e]
@[simp] theorem Hub.onPlane_plane_tc (h : Hub) (p : PlaneId) (f : Plane → Plane) : ((h.onPlane p f).plane p).tc = (f (h.plane p)).tc := by obtain ⟨o, c, e, -⟩ := Hub.onPlane_plane h p f; rw [e]
@[simp] theorem Hub.onPlane_plane_esmc (h : Hub) (p : PlaneId) (f : Plane → Plane) : ((h.onPlane p f).plane p).esmc = (f (h.plane p)).esmc := by obtain ⟨o, c, e, -⟩ := Hub.onPlane_plane h p f; rw [e]
@[simp] theorem Hub.onPlane_plane_sel (h : Hub) (p : PlaneId) (f : Plane → Plane) : ((h.onPlane p f).plane p).sel = (f (h.plane p)).sel := by obtain ⟨o, c, e, -⟩ := Hub.onPlane_plane h p f; rw [e]
@[simp] theorem Hub.onPlane_plane_loop (h : Hub) (p : PlaneId) (f : Plane → Plane) : ((h.onPlane p f).plane p).loop = (f (h.plane p)).loop := by obtain ⟨o, c, e, -⟩ := Hub.onPlane_plane h p f; rw [e]
@[simp] theorem Hub.onPlane_plane_grid (h : Hub) (p : PlaneId) (f : Plane → Plane) : ((h.onPlane p f).plane p).grid = (f (h.plane p)).grid := by obtain ⟨o, c, e, -⟩ := Hub.onPlane_plane h p f; rw [e]
@[simp] theorem Hub.onPlane_plane_vcobLock (h : Hub) (p : PlaneId) (f : Plane → Plane) : ((h.onPlane p f).plane p).vcobLock = (f (h.plane p)).vcobLock := by obtain ⟨o, c, e, -⟩ := Hub.onPlane_plane h p f; rw [e]
@[simp] theorem Hub.onPlane_plane_vcobOut (h : Hub) (p : PlaneId) (f : Plane → Plane) : ((h.onPlane p f).plane p).vcobOut = (f (h.plane p)).vcobOut := by obtain ⟨o, c, e, -⟩ := Hub.onPlane_plane h p f; rw [e]
@[simp] theorem Hub.onPlane_plane_vcobBad (h : Hub) (p : PlaneId) (f : Plane → Plane) : ((h.onPlane p f).plane p).vcobBad = (f (h.plane p)).vcobBad := by obtain ⟨o, c, e, -⟩ := Hub.onPlane_plane h p f; rw [e]
@[simp] theorem Hub.onPlane_plane_vcobDif (h : Hub) (p : PlaneId) (f : Plane → Plane) : ((h.onPlane p f).plane p).vcobDif = (f (h.plane p)).vcobDif := by obtain ⟨o, c, e, -⟩ := Hub.onPlane_plane h p f; rw [e]
@[simp] theorem Hub.onPlane_plane_phist (h : Hub) (p : PlaneId) (f : Plane → Plane) : ((h.onPlane p f).plane p).phist = (f (h.plane p)).phist := by obtain ⟨o, c, e, -⟩ := Hub.onPlane_plane h p f; rw [e]
@[simp] theorem Hub.onPlane_plane_ck (h : Hub) (p : PlaneId) (f : Plane → Plane) : ((h.onPlane p f).plane p).ck = (f (h.plane p)).ck := by obtain ⟨o, c, e, -⟩ := Hub.onPlane_plane h p f; rw [e]
@[simp] theorem Hub.onPlane_plane_pu (h : Hub) (p : PlaneId) (f : Plane → Plane) : ((h.onPlane p f).plane p).pu = (f (h.plane p)).pu := by obtain ⟨o, c, e, -⟩ := Hub.onPlane_plane h p f; rw [e]
@[simp] theorem Hub.onPlane_plane_trigOut (h : Hub) (p : PlaneId) (f : Plane → Plane) : ((h.onPlane p f).plane p).trigOut = (f (h.plane p)).trigOut := by obtain ⟨o, c, e, -⟩ := Hub.onPlane_plane h p f; rw [e]
@[simp] theorem Hub.onPlane_plane_ti (h : Hub) (p : PlaneId) (f : Plane → Plane) : ((h.onPlane p f).plane p).ti = (f (h.plane p)).ti := by obtain ⟨o, c, e, -⟩ := Hub.onPlane_plane h p f; rw [e]
@[simp] theorem Hub.onPlane_plane_link (h : Hub) (p : PlaneId) (f : Plane → Plane) : ((h.onPlane p f).plane p).link = (f (h.plane p)).link := by obtain ⟨o, c, e, -⟩ := Hub.onPlane_plane h p f; rw [e]
@[simp] theorem Hub.onPlane_plane_gq (h : Hub) (p : PlaneId) (f : Plane → Plane) : ((h.onPlane p f).plane p).gq = (f (h.plane p)).gq := by obtain ⟨o, c, e, -⟩ := Hub.onPlane_plane h p f; rw [e]
@[simp] theorem Hub.onPlane_plane_hold (h : Hub) (p : PlaneId) (f : Plane → Plane) : ((h.onPlane p f).plane p).hold = (f (h.plane p)).hold := by obtain ⟨o, c, e, -⟩ := Hub.onPlane_plane h p f; rw [e]
@[simp] theorem Hub.onPlane_plane_grpT (h : Hub) (p : PlaneId) (f : Plane → Plane) : ((h.onPlane p f).plane p).grpT = (f (h.plane p)).grpT := by obtain ⟨o, c, e, -⟩ := Hub.onPlane_plane h p f; rw [e]
@[simp] theorem Hub.onPlane_plane_phistNow (h : Hub) (p : PlaneId) (f : Plane → Plane) : ((h.onPlane p f).plane p).phistNow = (f (h.plane p)).phistNow := by obtain ⟨o, c, e, -⟩ := Hub.onPlane_plane h p f; rw [e]
@[simp] theorem Hub.onPlane_plane_heldTo (h : Hub) (p : PlaneId) (f : Plane → Plane) : ((h.onPlane p f).plane p).heldTo = (f (h.plane p)).heldTo := by obtain ⟨o, c, e, -⟩ := Hub.onPlane_plane h p f; rw [e]
@[simp] theorem Hub.onPlane_plane_grpAt (h : Hub) (p : PlaneId) (f : Plane → Plane) : ((h.onPlane p f).plane p).grpAt = (f (h.plane p)).grpAt := by obtain ⟨o, c, e, -⟩ := Hub.onPlane_plane h p f; rw [e]
@[simp] theorem Hub.onPlane_plane_vcobAcc (h : Hub) (p : PlaneId) (f : Plane → Plane) : ((h.onPlane p f).plane p).vcobAcc = (f (h.plane p)).vcobAcc := by obtain ⟨o, c, e, -⟩ := Hub.onPlane_plane h p f; rw [e]
@[simp] theorem Hub.onPlane_plane_vcobOdd (h : Hub) (p : PlaneId) (f : Plane → Plane) : ((h.onPlane p f).plane p).vcobOdd = (f (h.plane p)).vcobOdd := by obtain ⟨o, c, e, -⟩ := Hub.onPlane_plane h p f; rw [e]
@[simp] theorem Hub.onPlane_plane_fab (h : Hub) (p : PlaneId) (f : Plane → Plane) : ((h.onPlane p f).plane p).fab = (f (h.plane p)).fab := by obtain ⟨o, c, e, -⟩ := Hub.onPlane_plane h p f; rw [e]
@[simp] theorem Hub.onPlane_plane_gen (h : Hub) (p : PlaneId) (f : Plane → Plane) : ((h.onPlane p f).plane p).gen = (f (h.plane p)).gen := by obtain ⟨o, c, e, -⟩ := Hub.onPlane_plane h p f; rw [e]
@[simp] theorem Hub.onPlane_plane_flt (h : Hub) (p : PlaneId) (f : Plane → Plane) : ((h.onPlane p f).plane p).flt = (f (h.plane p)).flt := by obtain ⟨o, c, e, -⟩ := Hub.onPlane_plane h p f; rw [e]
@[simp] theorem Hub.onPlane_plane_owner (h : Hub) (p : PlaneId) (f : Plane → Plane) : ((h.onPlane p f).plane p).owner = (f (h.plane p)).owner := by obtain ⟨o, c, e, -⟩ := Hub.onPlane_plane h p f; rw [e]
@[simp] theorem Hub.onPlane_plane_commits (h : Hub) (p : PlaneId) (f : Plane → Plane) : ((h.onPlane p f).plane p).commits = (f (h.plane p)).commits := by obtain ⟨o, c, e, -⟩ := Hub.onPlane_plane h p f; rw [e]
@[simp] theorem Hub.onPlane_plane_bank (h : Hub) (p : PlaneId) (f : Plane → Plane) : ((h.onPlane p f).plane p).bank = (f (h.plane p)).bank := by obtain ⟨o, c, e, -⟩ := Hub.onPlane_plane h p f; rw [e]
@[simp] theorem Hub.onPlane_plane_fill (h : Hub) (p : PlaneId) (f : Plane → Plane) : ((h.onPlane p f).plane p).fill = (f (h.plane p)).fill := by obtain ⟨o, c, e, -⟩ := Hub.onPlane_plane h p f; rw [e]
@[simp] theorem Hub.onPlane_plane_raised (h : Hub) (p : PlaneId) (f : Plane → Plane) : ((h.onPlane p f).plane p).raised = [] := by obtain ⟨o, c, e, -⟩ := Hub.onPlane_plane h p f; rw [e]

@[simp] theorem Hub.onPlane_port_cfg (h : Hub) (p : PlaneId) (f : Plane → Plane) (q : PortId) : ((h.onPlane p f).port q).cfg = (h.port q).cfg := by obtain ⟨a, m, n, e⟩ := Hub.onPlane_port h p f q; rw [e]
@[simp] theorem Hub.onPlane_port_answers (h : Hub) (p : PlaneId) (f : Plane → Plane) (q : PortId) : ((h.onPlane p f).port q).answers = (h.port q).answers := by obtain ⟨a, m, n, e⟩ := Hub.onPlane_port h p f q; rw [e]
@[simp] theorem Hub.onPlane_port_asleep (h : Hub) (p : PlaneId) (f : Plane → Plane) (q : PortId) : ((h.onPlane p f).port q).asleep = (h.port q).asleep := by obtain ⟨a, m, n, e⟩ := Hub.onPlane_port h p f q; rw [e]
@[simp] theorem Hub.onPlane_port_unitSlept (h : Hub) (p : PlaneId) (f : Plane → Plane) (q : PortId) : ((h.onPlane p f).port q).unitSlept = (h.port q).unitSlept := by obtain ⟨a, m, n, e⟩ := Hub.onPlane_port h p f q; rw [e]
@[simp] theorem Hub.onPlane_port_sleepDue (h : Hub) (p : PlaneId) (f : Plane → Plane) (q : PortId) : ((h.onPlane p f).port q).sleepDue = (h.port q).sleepDue := by obtain ⟨a, m, n, e⟩ := Hub.onPlane_port h p f q; rw [e]
@[simp] theorem Hub.onPlane_port_latch (h : Hub) (p : PlaneId) (f : Plane → Plane) (q : PortId) : ((h.onPlane p f).port q).latch = (h.port q).latch := by obtain ⟨a, m, n, e⟩ := Hub.onPlane_port h p f q; rw [e]
@[simp] theorem Hub.onPlane_port_pointer (h : Hub) (p : PlaneId) (f : Plane → Plane) (q : PortId) : ((h.onPlane p f).port q).pointer = (h.port q).pointer := by obtain ⟨a, m, n, e⟩ := Hub.onPlane_port h p f q; rw [e]
@[simp] theorem Hub.onPlane_port_wsel (h : Hub) (p : PlaneId) (f : Plane → Plane) (q : PortId) : ((h.onPlane p f).port q).wsel = (h.port q).wsel := by obtain ⟨a, m, n, e⟩ := Hub.onPlane_port h p f q; rw [e]
@[simp] theorem Hub.onPlane_port_pec (h : Hub) (p : PlaneId) (f : Plane → Plane) (q : PortId) : ((h.onPlane p f).port q).pec = (h.port q).pec := by obtain ⟨a, m, n, e⟩ := Hub.onPlane_port h p f q; rw [e]
@[simp] theorem Hub.onPlane_port_pecNext (h : Hub) (p : PlaneId) (f : Plane → Plane) (q : PortId) : ((h.onPlane p f).port q).pecNext = (h.port q).pecNext := by obtain ⟨a, m, n, e⟩ := Hub.onPlane_port h p f q; rw [e]
@[simp] theorem Hub.onPlane_port_pview (h : Hub) (p : PlaneId) (f : Plane → Plane) (q : PortId) : ((h.onPlane p f).port q).pview = (h.port q).pview := by obtain ⟨a, m, n, e⟩ := Hub.onPlane_port h p f q; rw [e]
@[simp] theorem Hub.onPlane_port_ref (h : Hub) (p : PlaneId) (f : Plane → Plane) (q : PortId) : ((h.onPlane p f).port q).ref = (h.port q).ref := by obtain ⟨a, m, n, e⟩ := Hub.onPlane_port h p f q; rw [e]
@[simp] theorem Hub.onPlane_port_ucause (h : Hub) (p : PlaneId) (f : Plane → Plane) (q : PortId) : ((h.onPlane p f).port q).ucause = (h.port q).ucause := by obtain ⟨a, m, n, e⟩ := Hub.onPlane_port h p f q; rw [e]
@[simp] theorem Hub.onPlane_port_uen (h : Hub) (p : PlaneId) (f : Plane → Plane) (q : PortId) : ((h.onPlane p f).port q).uen = (h.port q).uen := by obtain ⟨a, m, n, e⟩ := Hub.onPlane_port h p f q; rw [e]
@[simp] theorem Hub.onPlane_port_en (h : Hub) (p : PlaneId) (f : Plane → Plane) (q : PortId) : ((h.onPlane p f).port q).en = (h.port q).en := by obtain ⟨a, m, n, e⟩ := Hub.onPlane_port h p f q; rw [e]
@[simp] theorem Hub.onPlane_port_haddr (h : Hub) (p : PlaneId) (f : Plane → Plane) (q : PortId) : ((h.onPlane p f).port q).haddr = (h.port q).haddr := by obtain ⟨a, m, n, e⟩ := Hub.onPlane_port h p f q; rw [e]
@[simp] theorem Hub.onPlane_port_speed (h : Hub) (p : PlaneId) (f : Plane → Plane) (q : PortId) : ((h.onPlane p f).port q).speed = (h.port q).speed := by obtain ⟨a, m, n, e⟩ := Hub.onPlane_port h p f q; rw [e]
@[simp] theorem Hub.onPlane_port_attn (h : Hub) (p : PlaneId) (f : Plane → Plane) (q : PortId) : ((h.onPlane p f).port q).attn = (h.port q).attn := by obtain ⟨a, m, n, e⟩ := Hub.onPlane_port h p f q; rw [e]
@[simp] theorem Hub.onPlane_port_scheds (h : Hub) (p : PlaneId) (f : Plane → Plane) (q : PortId) : ((h.onPlane p f).port q).scheds = (h.port q).scheds := by obtain ⟨a, m, n, e⟩ := Hub.onPlane_port h p f q; rw [e]
@[simp] theorem Hub.onPlane_port_sclStuck (h : Hub) (p : PlaneId) (f : Plane → Plane) (q : PortId) : ((h.onPlane p f).port q).sclStuck = (h.port q).sclStuck := by obtain ⟨a, m, n, e⟩ := Hub.onPlane_port h p f q; rw [e]
@[simp] theorem Hub.onPlane_port_sdaStuck (h : Hub) (p : PlaneId) (f : Plane → Plane) (q : PortId) : ((h.onPlane p f).port q).sdaStuck = (h.port q).sdaStuck := by obtain ⟨a, m, n, e⟩ := Hub.onPlane_port h p f q; rw [e]
@[simp] theorem Hub.onPlane_port_buf (h : Hub) (p : PlaneId) (f : Plane → Plane) (q : PortId) : ((h.onPlane p f).port q).buf = (h.port q).buf := by obtain ⟨a, m, n, e⟩ := Hub.onPlane_port h p f q; rw [e]
@[simp] theorem Hub.onPlane_port_key (h : Hub) (p : PlaneId) (f : Plane → Plane) (q : PortId) : ((h.onPlane p f).port q).key = (h.port q).key := by obtain ⟨a, m, n, e⟩ := Hub.onPlane_port h p f q; rw [e]
@[simp] theorem Hub.onPlane_port_page (h : Hub) (p : PlaneId) (f : Plane → Plane) (q : PortId) : ((h.onPlane p f).port q).page = (h.port q).page := by obtain ⟨a, m, n, e⟩ := Hub.onPlane_port h p f q; rw [e]
@[simp] theorem Hub.onPlane_port_offset (h : Hub) (p : PlaneId) (f : Plane → Plane) (q : PortId) : ((h.onPlane p f).port q).offset = (h.port q).offset := by obtain ⟨a, m, n, e⟩ := Hub.onPlane_port h p f q; rw [e]
@[simp] theorem Hub.onPlane_port_ksel (h : Hub) (p : PlaneId) (f : Plane → Plane) (q : PortId) : ((h.onPlane p f).port q).ksel = (h.port q).ksel := by obtain ⟨a, m, n, e⟩ := Hub.onPlane_port h p f q; rw [e]
@[simp] theorem Hub.onPlane_port_rpwok (h : Hub) (p : PlaneId) (f : Plane → Plane) (q : PortId) : ((h.onPlane p f).port q).rpwok = (h.port q).rpwok := by obtain ⟨a, m, n, e⟩ := Hub.onPlane_port h p f q; rw [e]
@[simp] theorem Hub.onPlane_port_wpwok (h : Hub) (p : PlaneId) (f : Plane → Plane) (q : PortId) : ((h.onPlane p f).port q).wpwok = (h.port q).wpwok := by obtain ⟨a, m, n, e⟩ := Hub.onPlane_port h p f q; rw [e]
@[simp] theorem Hub.onPlane_port_nverr (h : Hub) (p : PlaneId) (f : Plane → Plane) (q : PortId) : ((h.onPlane p f).port q).nverr = (h.port q).nverr := by obtain ⟨a, m, n, e⟩ := Hub.onPlane_port h p f q; rw [e]
@[simp] theorem Hub.onPlane_port_blocks (h : Hub) (p : PlaneId) (f : Plane → Plane) (q : PortId) : ((h.onPlane p f).port q).blocks = (h.port q).blocks := by obtain ⟨a, m, n, e⟩ := Hub.onPlane_port h p f q; rw [e]
@[simp] theorem Hub.onPlane_port_rx (h : Hub) (p : PlaneId) (f : Plane → Plane) (q : PortId) : ((h.onPlane p f).port q).rx = (h.port q).rx := by obtain ⟨a, m, n, e⟩ := Hub.onPlane_port h p f q; rw [e]
@[simp] theorem Hub.onPlane_port_fetch (h : Hub) (p : PlaneId) (f : Plane → Plane) (q : PortId) : ((h.onPlane p f).port q).fetch = (h.port q).fetch := by obtain ⟨a, m, n, e⟩ := Hub.onPlane_port h p f q; rw [e]
@[simp] theorem Hub.onPlane_port_stop (h : Hub) (p : PlaneId) (f : Plane → Plane) (q : PortId) : ((h.onPlane p f).port q).stop = (h.port q).stop := by obtain ⟨a, m, n, e⟩ := Hub.onPlane_port h p f q; rw [e]
@[simp] theorem Hub.onPlane_port_tick (h : Hub) (p : PlaneId) (f : Plane → Plane) (q : PortId) : ((h.onPlane p f).port q).tick = (h.port q).tick := by obtain ⟨a, m, n, e⟩ := Hub.onPlane_port h p f q; rw [e]
@[simp] theorem Hub.onPlane_port_sent (h : Hub) (p : PlaneId) (f : Plane → Plane) (q : PortId) : ((h.onPlane p f).port q).sent = (h.port q).sent := by obtain ⟨a, m, n, e⟩ := Hub.onPlane_port h p f q; rw [e]
@[simp] theorem Hub.onPlane_port_tunnel (h : Hub) (p : PlaneId) (f : Plane → Plane) (q : PortId) : ((h.onPlane p f).port q).tunnel = (h.port q).tunnel := by obtain ⟨a, m, n, e⟩ := Hub.onPlane_port h p f q; rw [e]

end Sys2Proof.Machine
end

