-- ==== Sys2Proof/Laws/Memory.lean ====
section
/-! SUPPORT. Every memory operation keeps the canonical form: addresses strictly rise and no entry holds the erased value. -/

namespace Sys2Proof.Machine

/-- The canonical form, said of the list of cells. -/
theorem Memory.wf_iff (m : Memory) :
    m.wf = true ↔ m.cells.Pairwise (fun x y => x.1 < y.1) ∧ ∀ c ∈ m.cells, c.2 ≠ Memory.erased := by
  simp [Memory.wf]

/-- An empty memory is in canonical form. -/
theorem Memory.empty_wf : ({} : Memory).wf = true := by decide

/-- The addresses of a list after a cell is put into it are the old ones and the cell's. -/
theorem putCell_addr {a : Nat} {b : Byte} {l : List Host.Cell} {c : Host.Cell} (h : c ∈ putCell a b l) :
    c.1 = a ∨ c ∈ l := by
  induction l with
  | nil => unfold putCell at h; split at h <;> simp_all
  | cons d rest ih =>
    obtain ⟨x, v⟩ := d
    unfold putCell at h
    split at h
    · rcases List.mem_cons.1 h with rfl | h
      · simp
      · rcases ih h with e | e <;> simp [e]
    · split at h
      · split at h
        · simp [h]
        · rcases List.mem_cons.1 h with rfl | h <;> simp_all
      · split at h
        · exact Or.inr h
        · rcases List.mem_cons.1 h with rfl | h <;> simp_all

/-- No cell a list holds after a cell is put into it holds the erased value. -/
theorem putCell_kept {a : Nat} {b : Byte} {l : List Host.Cell} (k : ∀ c ∈ l, c.2 ≠ Memory.erased) :
    ∀ c ∈ putCell a b l, c.2 ≠ Memory.erased := by
  induction l with
  | nil => unfold putCell; split <;> simp_all
  | cons d rest ih =>
    obtain ⟨x, v⟩ := d
    have ih' := ih fun c hc => k c (List.mem_cons_of_mem _ hc)
    have k0 : v ≠ Memory.erased := k _ (List.mem_cons_self ..)
    have kr : ∀ c ∈ rest, c.2 ≠ Memory.erased := fun c hc => k c (List.mem_cons_of_mem _ hc)
    unfold putCell
    split
    · intro c hc; rcases List.mem_cons.1 hc with rfl | hc
      · exact k0
      · exact ih' c hc
    · split
      · split
        · exact kr
        · rename_i hb; intro c hc; rcases List.mem_cons.1 hc with rfl | hc
          · exact hb
          · exact kr c hc
      · split
        · exact k
        · rename_i hb; intro c hc; rcases List.mem_cons.1 hc with rfl | hc
          · exact hb
          · exact k c hc

/-- Putting a cell into a rising list keeps it rising. -/
theorem putCell_sorted {a : Nat} {b : Byte} {l : List Host.Cell} (s : l.Pairwise fun x y => x.1 < y.1) :
    (putCell a b l).Pairwise fun x y => x.1 < y.1 := by
  induction l with
  | nil => unfold putCell; split <;> simp
  | cons d rest ih =>
    obtain ⟨x, v⟩ := d
    obtain ⟨s0, sr⟩ := List.pairwise_cons.1 s
    unfold putCell
    split
    · rename_i hx
      refine List.pairwise_cons.2 ⟨fun c hc => ?_, ih sr⟩
      rcases putCell_addr hc with e | hc
      · simpa [e] using hx
      · exact s0 c hc
    · split
      · rename_i hx
        split
        · exact sr
        · exact List.pairwise_cons.2 ⟨fun c hc => by simpa [← hx] using s0 c hc, sr⟩
      · split
        · exact s
        · refine List.pairwise_cons.2 ⟨fun c hc => ?_, s⟩
          rcases List.mem_cons.1 hc with rfl | hc
          · show a < x; omega
          · have := s0 c hc; show a < c.1; dsimp only at this; omega

/-- A write keeps the canonical form. -/
theorem Memory.write_wf {m : Memory} (h : m.wf = true) (a : Nat) (b : Byte) : (m.write a b).wf = true := by
  rw [Memory.wf_iff] at *
  exact ⟨putCell_sorted h.1, putCell_kept h.2⟩

/-- A write of several bytes keeps the canonical form. -/
theorem Memory.writeBytes_wf (l : List Byte) : ∀ {m : Memory} (_ : m.wf = true) (a : Nat), (m.writeBytes a l).wf = true := by
  induction l with
  | nil => intro m h a; exact h
  | cons b rest ih => intro m h a; exact ih (Memory.write_wf h a b) (a + 1)

/-- The pages loaded at Kindling are in canonical form, whatever the flash holds. -/
theorem Nv.loadRam_wf (n : Nv) : n.loadRam.ram.wf = true := by
  unfold Nv.loadRam
  refine List.foldlRecOn (motive := fun m : Nv => m.ram.wf = true) _ _ Memory.empty_wf fun m hm p _ => ?_
  split
  · exact hm
  · exact Memory.writeBytes_wf _ hm _

end Sys2Proof.Machine
end

