-- ==== Sys2Proof/Laws/Writes.lean ====
section
/-! SUPPORT. What an event and a host write can do: the operation where it is let, a refusal record where it is not, nothing
without power. -/

namespace Sys2Proof.Machine

theorem Hub.powered_of_active {h : Hub} {p : PlaneId} (a : h.active p = true) : h.powered = true := by
  simp only [Hub.active, Bool.and_eq_true] at a; exact a.1

theorem Hub.ifActive_eq {h : Hub} {p : PlaneId} (a : h.active p = true) (f : Hub → Hub) : h.ifActive p f = f h := by
  simp [Hub.ifActive, a]

/-- An event of a plane whose word clock stands does not occur. -/
theorem Hub.ifActive_idle {h : Hub} {p : PlaneId} (a : h.active p = false) (f : Hub → Hub) : h.ifActive p f = h := by
  simp [Hub.ifActive, a]

theorem Hub.event_eq {h : Hub} {p : PlaneId} (a : h.active p = true) (f : Plane → Plane) : h.event p f = h.onPlane p f :=
  Hub.ifActive_eq a _

theorem Hub.eventFree_eq {h : Hub} {p : PlaneId} (a : h.active p = true) (f : Int → Plane → Plane) :
    h.eventFree p f = h.fresh.2.onPlane p (f h.fresh.1) :=
  Hub.ifActive_eq a _

/-- A judged write acts, or records its refusal, or finds no power. -/
theorem Hub.judged_cases (h : Hub) (q : PortId) (a : BitVec 7) (g : BitVec 5) (r : Reason) (f : Hub → Hub) :
    (h.powered = true ∧ r = .none ∧ h.judged q a g r f = f h) ∨
    (h.powered = true ∧ r ≠ .none ∧ h.judged q a g r f = h.refuse q a g r) ∨
    (h.powered = false ∧ h.judged q a g r f = h) := by
  cases e : h.powered <;> cases r <;> simp [Hub.judged, e]

theorem firstReason_none {a b c d e : Bool} :
    firstReason a b c d e = .none ↔ a = false ∧ b = false ∧ c = false ∧ d = false ∧ e = false := by
  cases a <;> cases b <;> cases c <;> cases d <;> cases e <;> simp [firstReason]

/-- A host write that nothing refuses acts. -/
theorem Hub.hostWrite_accept {h : Hub} {q : PortId} {p : PlaneId} (m : HostMay h q p) (g : BitVec 5)
    {range structural state : Bool} (f : Hub → Hub) (hr : range = false)
    (hs : (structural && (h.plane p).inHusk) = false) (ht : state = false) :
    h.hostWrite q p g range structural state f = f h := by
  obtain ⟨a, c, w⟩ := m
  have e : h.planeReason q p range (structural && (h.plane p).inHusk) state = .none := by
    simp [Hub.planeReason, firstReason_none, a, c, w, hr, hs, ht]
  simp [Hub.hostWrite, Hub.judged, e, Hub.powered_of_active a]

theorem Hub.judged_none {h : Hub} (w : h.powered = true) (q : PortId) (a : BitVec 7) (g : BitVec 5) {r : Reason}
    (e : r = .none) (f : Hub → Hub) : h.judged q a g r f = f h := by
  simp [Hub.judged, w, e]

theorem Hub.unitWrite_accept {h : Hub} {q : PortId} (m : HostMayAll h q) (g : BitVec 5) {range husk state : Bool}
    (f : Hub → Hub) (hr : range = false) (hh : husk = false) (ht : state = false) :
    h.unitWrite q g (h.unitReason q range husk state) f = f h := by
  obtain ⟨w, c, o⟩ := m
  have e : h.unitReason q range husk state = .none := by simp [Hub.unitReason, firstReason_none, c, o, hr, hh, ht]
  simp [Hub.unitWrite, Hub.judged, e, w]

end Sys2Proof.Machine
end

