-- ==== Sys2Proof/Laws/Ops.lean ====
section
/-! SUPPORT. Everything a shared operation can do, said once: the fields it may change, and what it leaves in those that
matter to a claim. -/

namespace Sys2Proof.Machine

/-! ### Plane operations -/

/-- A judged source keeps its detector, its pair, its severity and its reactions, and its sticky bit once set. -/
theorem Src.judge_only (s : Src) : ∃ t, s.judge.1 = { s with live := s.det || s.wire, sticky := t } ∧ (s.sticky = true → t = true) := by
  unfold Src.judge; dsimp only
  cases h : (s.det || s.wire) <;> cases k : s.live <;> exact ⟨_, by simp; rfl, by simp⟩

/-- Setting a detector changes that source, and the list of due reactions. -/
theorem Plane.setDet_only (x : Plane) (n : Fin 64) (b : Bool) :
    ∃ t f, x.setDet n b = { x with flt := { x.flt with
        src := upd x.flt.src n fun s => { s with det := b, live := b || s.wire, sticky := t }
        fired := f } } ∧ (x.flt.src[n.val].sticky = true → t = true) := by
  obtain ⟨t, e, k⟩ := Src.judge_only { x.flt.src[n.val] with det := b }
  refine ⟨t, (x.setDet n b).flt.fired, ?_, k⟩
  unfold Plane.setDet Plane.setDetAt; dsimp only; rw [e]; rfl

/-- Raising an event source changes that source, and the list of due reactions; the source is live. -/
theorem Plane.fireEvent_only (x : Plane) (n : Fin 64) :
    ∃ c f, x.fireEvent n = { x with flt := { x.flt with src := upd x.flt.src n fun _ => c, fired := f } } ∧ c.live = true := by
  obtain ⟨t, f, e, -⟩ := Plane.setDet_only x n true
  exact ⟨{ x.flt.src[n.val] with det := true, live := true, sticky := t, ev := 1 }, f,
    by unfold Plane.fireEvent; dsimp only; rw [e]; simp [upd], rfl⟩

/-- A history bit changes the history, and notes its cause. -/
theorem Plane.history_only (x : Plane) (b : Nat) :
    ∃ n r, x.history b = { x with phist := x.phist ||| (1#12 <<< b), phistNow := n, raised := r } := by
  unfold Plane.history; dsimp only; split
  · exact ⟨_, _, rfl⟩
  · exact ⟨_, _, rfl⟩

/-- A log entry of a plane enters its outgoing queue, or its loss is counted. -/
theorem Plane.log_only (x : Plane) (p : PlaneId) (type : Byte) (data : Vector Word 4) :
    ∃ o c, x.log p type data = { x with outq := o, cnt := c } ∧ ∀ i : Fin 32, i ≠ 20 → (c)[i.val] = x.cnt[i.val] :=
  Plane.send_only x _

/-- Breaking samples of a pair changes the collector. -/
theorem Plane.breakPair_only (x : Plane) (n : Fin 64) (k : Nat) : ∃ f, x.breakPair n k = { x with flt := f } := by
  unfold Plane.breakPair; dsimp only; split <;> exact ⟨_, rfl⟩

/-- Valid samples of a pair change the collector and a count. -/
theorem Plane.validPair_only (x : Plane) (k : Nat) (r : PairRun) : ∃ f c, x.validPair k r = { x with flt := f, cnt := c } := by
  unfold Plane.validPair
  split
  · exact ⟨_, _, rfl⟩
  · split
    · exact ⟨_, _, rfl⟩
    · split <;> exact ⟨_, _, rfl⟩

/-- Checks of an injection change the collector and a count. -/
theorem Plane.spendChecks_only (x : Plane) (n : Nat) : ∃ f c, x.spendChecks n = { x with flt := f, cnt := c } := by
  unfold Plane.spendChecks; split <;> exact ⟨_, _, rfl⟩

/-- An injection into the collector changes the collector and counts. -/
theorem Plane.injectCycles_only (x : Plane) (c k : Nat) : ∃ f n, x.injectCycles c k = { x with flt := f, cnt := n } := by
  have broken : ∀ (P : Prop) [Decidable P] (y : Plane) (t : Fin 64) (j : Nat), (∃ f n, y = { x with flt := f, cnt := n }) →
      ∃ f n, (if P then y.breakPair t j else y) = { x with flt := f, cnt := n } := by
    rintro P _ y t j ⟨f, n, rfl⟩
    obtain ⟨f', e⟩ := Plane.breakPair_only { x with flt := f, cnt := n } t j
    split
    · exact ⟨f', n, e⟩
    · exact ⟨_, _, rfl⟩
  unfold Plane.injectCycles
  refine List.foldlRecOn (motive := fun z : Plane => ∃ f n, z = { x with flt := f, cnt := n }) _ _ (broken _ _ _ _ ?_) ?_
  · obtain ⟨f, n, e⟩ := Plane.spendChecks_only x
      (if x.flt.inj.chk = 1 ∨ x.flt.inj.chk = 5 then min k x.flt.inj.left.toNat else 0)
    rw [e]; split <;> exact ⟨_, _, rfl⟩
  · rintro z ⟨f, n, rfl⟩ r -
    obtain ⟨f', n', e⟩ := Plane.validPair_only { x with flt := f, cnt := n }
      (if x.flt.inj.chk = 5 ∧ r.src = Fin.ofNat 64 x.flt.inj.tgt.toNat then
        k - (if x.flt.inj.chk = 1 ∨ x.flt.inj.chk = 5 then min k x.flt.inj.left.toNat else 0) else k) r
    exact ⟨f', n', e⟩

/-- Cycles that elapse inside a frame change the collector, the counters, what the queues count, the accumulator of VCO-B,
and the time. -/
theorem Plane.elapse_only (x : Plane) (k : Nat) :
    ∃ f c l g a o t, x.elapse k = { x with flt := f, cnt := c, link := l, gq := g, vcobAcc := a, vcobOdd := o, time := t } ∧
      (l = x.link ∨ l = x.link.map (·.tick k)) ∧ (g = x.gq ∨ g = x.gq.map (·.tick k)) := by
  unfold Plane.elapse
  split
  · exact ⟨_, _, _, _, _, _, _, rfl, .inl rfl, .inl rfl⟩
  · split
    · exact ⟨_, _, _, _, _, _, _, rfl, .inr rfl, .inr rfl⟩
    · obtain ⟨f, n, e⟩ := Plane.injectCycles_only x x.time.cyc k
      rw [e]; exact ⟨_, _, _, _, _, _, _, rfl, .inr rfl, .inr rfl⟩

/-! ### Ports -/

/-- A refusal changes the refusal record of its port and nothing else. -/
theorem Hub.refuse_only (h : Hub) (q : PortId) (a : BitVec 7) (g : BitVec 5) (r : Reason) : OnlyPort q h (h.refuse q a g r) :=
  ⟨rfl, fun _ e => Hub.modPort_port_ne h _ (Ne.symm e)⟩

/-! ### The unit -/

/-- A unit cause changes the causes, messages and sequence numbers of the ports. -/
theorem Hub.ucause_only (h : Hub) (b : Nat) : h.ucause b = { h with ports := (h.ucause b).ports } ∧
    ∀ q : PortId, ∃ m n, (h.ucause b).port q = { h.port q with
      ucause := (h.port q).ucause ||| (1#8 <<< b), ufresh := (h.port q).ufresh ||| (1#8 <<< b), msgs := m, attnSeq := n } := by
  refine ⟨rfl, fun q => ?_⟩
  rw [Hub.ucause, Hub.allPorts_port]
  unfold Port.ucauseSet; dsimp only; split
  · obtain ⟨m, n, e⟩ := Port.pendMsg_only
      { h.port q with ucause := (h.port q).ucause ||| (1#8 <<< b), ufresh := (h.port q).ufresh ||| (1#8 <<< b) } 0
    exact ⟨m, n, e⟩
  · exact ⟨_, _, rfl⟩

/-- Handing a firing over changes what is handed to the planes. -/
theorem Hub.handFire_only (h : Hub) (n : Nat) : ∃ t, h.handFire n = { h with hand := t } := by
  unfold Hub.handFire
  refine List.foldlRecOn (motive := fun g : Hub => ∃ t, g = { h with hand := t }) _ _ ⟨_, rfl⟩ ?_
  rintro g ⟨t, rfl⟩ p -
  split
  · exact ⟨_, rfl⟩
  · exact ⟨_, rfl⟩

/-- Setting a unit detector changes the unit's sources, what is handed to the planes, and the ports' causes. -/
theorem Hub.setUDet_only (h : Hub) (n : Fin 32) (b : Bool) : ∃ c t p, h.setUDet n b = { h with usrc := c, hand := t, ports := p } := by
  have tail : ∀ g : Hub, (∃ c p, g = { h with usrc := c, ports := p }) → ∃ c t p, g.handFire n.val = { h with usrc := c, hand := t, ports := p } := by
    rintro g ⟨c, p, rfl⟩
    obtain ⟨t, e⟩ := Hub.handFire_only { h with usrc := c, ports := p } n.val
    exact ⟨c, t, p, e⟩
  have record : ∀ (P : Prop) [Decidable P] (g : Hub), (∃ c p, g = { h with usrc := c, ports := p }) →
      ∃ c p, (if P then g else g.ucause 0) = { h with usrc := c, ports := p } := by
    rintro P _ g ⟨c, p, rfl⟩
    split <;> exact ⟨_, _, rfl⟩
  unfold Hub.setUDet; dsimp only; split
  · exact tail _ (record _ _ ⟨_, _, rfl⟩)
  · exact ⟨_, _, _, rfl⟩

/-- Raising a unit event source changes what setting its detector does. -/
theorem Hub.fireUEvent_only (h : Hub) (n : Fin 32) : ∃ c t p, h.fireUEvent n = { h with usrc := c, hand := t, ports := p } := by
  obtain ⟨c, t, p, e⟩ := Hub.setUDet_only h n true
  unfold Hub.fireUEvent; dsimp only; rw [e]; exact ⟨_, _, _, rfl⟩

/-- Writing an entry changes the log, a unit counter, page 122's erase counts, and the ports' causes. -/
theorem Hub.writeEntry_only (h : Hub) (r : LogRec) :
    ∃ l c e p, h.writeEntry r = { h with log := l, ucnt := c, nv := { h.nv with erases := e }, ports := p } ∧
      l.waiting = h.log.waiting := by
  have w : (h.log.append r).waiting = h.log.waiting := by
    unfold EvLog.append; dsimp only; split <;> rfl
  unfold Hub.writeEntry; dsimp only; split
  · split
    · exact ⟨_, _, _, _, rfl, w⟩
    · split
      · exact ⟨_, _, _, _, rfl, w⟩
      · exact ⟨_, _, _, _, rfl, w⟩
  · exact ⟨_, _, _, _, rfl, w⟩

/-- A unit record is written, waits in the unit's buffer, or is lost: nothing but the log, its counts and the causes
change, and the buffer keeps its depth. -/
theorem Hub.logUnit_only (h : Hub) (r : LogRec) :
    ∃ l c e p, h.logUnit r = { h with log := l, ucnt := c, nv := { h.nv with erases := e }, ports := p } ∧
      (h.log.waiting.length ≤ 64 → l.waiting.length ≤ 64) := by
  unfold Hub.logUnit; split
  · split
    · rename_i k
      exact ⟨_, _, _, _, rfl, fun _ => by simp only [List.length_append, List.length_cons, List.length_nil]; exact k⟩
    · exact ⟨_, _, _, _, rfl, id⟩
  · obtain ⟨l, c, e, p, q, w⟩ := Hub.writeEntry_only h r
    exact ⟨l, c, e, p, q, fun k => by rw [w]; exact k⟩

/-- A unit log entry changes what logging a unit record does. -/
theorem Hub.ulog_only (h : Hub) (type portn : Byte) (data : Vector Word 4) :
    ∃ l c e p, h.ulog type portn data = { h with log := l, ucnt := c, nv := { h.nv with erases := e }, ports := p } ∧
      (h.log.waiting.length ≤ 64 → l.waiting.length ≤ 64) :=
  Hub.logUnit_only h _

end Sys2Proof.Machine
end

