-- ==== Sys2Proof/Tests/Slice0.lean ====
section
/-! SUPPORT. Tests: ill-formed commands, the spec's worked examples, one step of a command on a small state, and for each
statement with hypotheses a state and operands that meet them. -/

open Sys2Proof Sys2Proof.Machine

namespace Sys2Proof.Tests

set_option Elab.async false

/-! ### States the tests start from -/

/-- Every right for every plane. -/
def full : PortDecl := { rights := Vector.replicate 8 .control, counters := true, nvWrite := true, image := true, auth := true }
/-- An EVENT window of 200 bins around its opener, with one member. -/
def win0 : WinDecl := { used := true, opener := some (.ti 0), members := [.ti 1], openB := .const (-100), closeB := .const 100 }
/-- A plane section that enables everything. -/
def sect0 : PlaneDecl :=
  { refs := Vector.replicate 4 { enabled := true }
    ck := Vector.replicate 16 { enabled := true }
    ti := Vector.replicate 16 { enabled := true }
    trigOut := Vector.replicate 16 { driver := some (.ti 0) }
    links := Vector.replicate 32 { enabled := true, dmax := 1000, p := 500, prims := [7], vids := [9] }
    groups := Vector.replicate 32 { declared := true, links := 3, limitMs := 2000 }
    gens := Vector.replicate 8 { enabled := true, msg := true, groups := 1, lead := 400, defers := true, lim := 3 }
    ownto := 10
    fabric := { wins := Vector.replicate 64 win0
                coincs := Vector.replicate 256 { used := true, inputs := [{ sig := .ti 0 }, { sig := .ti 1 }], k := .const 1 }
                prescs := Vector.replicate 32 { input := some (.ti 0), r := .const 3 }
                cells := Vector.replicate 128 { max := 100 }
                cross := [(.b, 5, .ti 0), (.c, 6, .ti 0)]
                rates := Vector.replicate 16 { input := some (.ti 0) }
                issuers := Vector.replicate 32 { driver := some (.coinc 0), slots := 0xFE } } }
/-- A running plane, LOCKED on reference 0, with two signals in its fabric. -/
def pl : Plane :=
  { sect := sect0, power := .run, oven := { settled := true, gate := true }
    time := { sec := 100, frame := 1000, cyc := 3, clk := 777777, frames := 40 }
    fab := { online := true, sigs := [⟨.ti 0, 5000, 2560007, 2, false⟩, ⟨.ti 1, 5000, 2560050, 2, false⟩] }
    grid := { reg := true, seenLock := true }
    loop := { state := .locked, inLoop := true, steer := 55, freq := 9, hval := 4, hvalid := true }
    sel := { active := some 0 }
    ref := Vector.replicate 4 { state := .qualified, act := true, everQual := true, hql := 5 }
    link := Vector.replicate 32 { state := .up, rxD := 0 }
    ck := Vector.replicate 16 { hgate := true, released := true, run := .running, k := 5, f := 3, fnow := 3 }
    pu := Vector.replicate 4 { hgate := true }
    cnt := Vector.replicate 32 { count := 41 } }
/-- A hub in RUN whose planes are alike and whose ports hold every right. -/
def hub0 : Hub :=
  { powered := true, conv := true, upstate := .run, planes := Tri.same pl, cfg := { applied := true }
    udecl := { group := 7 }
    ports := Vector.replicate 3 { cfg := full, answers := true, haddr := 0x10 } }
/-- That hub with one command waiting. -/
def base : State := { hub := hub0, pending := [.housekeepingTick] }
/-- The same with a change of its hub, of its plane A, of its port 0, of link 4 of plane A. -/
def onHub (f : Hub → Hub) : State := { base with hub := f hub0 }
def onA (f : Plane → Plane) : State := onHub (·.modPlane .a f)
def onP0 (f : Port → Port) : State := onHub (·.modPort 0 f)
def linkA (f : Link → Link) : Plane → Plane := fun x => x.modLink 4 f

/-- The hub after a command. -/
def hubAfter (c : Instr) (s : State) : Hub :=
  match exec c s with
  | .next t => t.hub
  | _ => {}

/-- A received slot 0 that passes its check. -/
def rx0 (w : BitVec 64) : Slot0Rx := ⟨w, slotCrc 1 w, false, .expected⟩

/-! ### Ill-formed commands are refused, a well-formed one of the same shape is not -/

theorem test_wf_comparator_reading : (Instr.comparatorReading 0 10001).wellFormed = false ∧
    (Instr.comparatorReading 0 (-10001)).wellFormed = false ∧ (Instr.comparatorReading 0 10000).wellFormed = true := by decide

theorem test_wf_cross_plane : (Instr.crossPlaneCapture .a .a 0 9).wellFormed = false ∧
    (Instr.crossPlaneCapture .a .b 0 9).wellFormed = true := by decide

theorem test_wf_unit_parity_group : (Instr.collectorParityFault none 4).wellFormed = false ∧
    (Instr.collectorParityFault none 3).wellFormed = true ∧ (Instr.collectorParityFault (some .a) 7).wellFormed = true := by decide

/-- Sources 45 and 46 of a plane and 221 and 222 have no pair (R386). -/
theorem test_wf_pair : (Instr.pairBroken 45).wellFormed = false ∧ (Instr.pairBroken 110).wellFormed = false ∧
    (Instr.pairWhole 221).wellFormed = false ∧ (Instr.pairWhole 222).wellFormed = false ∧
    (Instr.pairBroken 52).wellFormed = false ∧ (Instr.pairBroken 51).wellFormed = true := by decide

theorem test_wf_follower_offset : (Instr.followerAttentionReceived 3 0).wellFormed = false ∧
    (Instr.followerAttentionReceived 4 0).wellFormed = true := by decide

theorem test_wf_transaction : (Instr.transactionComplete 0 ⟨[], Tri.same 0⟩).wellFormed = false ∧
    (Instr.transactionComplete 0 ⟨[.read 0x48 4], Tri.same 0⟩).wellFormed = true := by decide

theorem test_wf_fetched_record : (Instr.followerRecordFetch 0 ⟨2, 5, List.replicate 65 0⟩).wellFormed = false ∧
    (Instr.followerRecordFetch 0 ⟨2, 5, List.replicate 64 0⟩).wellFormed = true := by decide +kernel

/-- No row of the table gives bits, so no word spells a command. -/
theorem test_no_word_spells_a_command : decodeTableWord 32 0xFFFFFFFF = none ∧
    State.reset.withFetchWord 16 5 = State.reset := by constructor <;> rfl

/-! ### The spec's worked examples -/

/-- R5, R6: 0.500000123456 s after second 1,000 is tag 0x000003E8 5F5E1154, FINE 372. -/
theorem test_tag_example : tagCycle 0x000003E8 0x5F5E1154 = some (1000 * 500000000 + 6250001 * 40 + 21) ∧
    123456 % 2000 * 256 / 1000 = 372 := by decide +kernel

/-- A low word with FRAME above 12,499,999, CYC above 39 or bits 1 and 0 set is no tag (R7). -/
theorem test_tag_refused : tagCycle 1 0xBEBC2000 = none ∧ tagCycle 1 0x000000A0 = none ∧ tagCycle 1 1 = none ∧
    (tagCycle 1 0xBEBC1F9C).isSome = true := by decide +kernel

/-- R151: the NOP command of tag 1 has CRC 0xE8, an IDLE slot CRC 0. -/
theorem test_slot_crc : slotCrc 0x20 0xF001000000000000 = 0xE8 ∧ slotCrc 0x00 0 = 0x00 := by decide +kernel

/-- R333: the attention message of plane B at MGMT1, its seven bytes and its PEC. -/
theorem test_attention_bytes :
    let s := onHub fun h => h.modPort 1 fun x =>
      { x with haddr := 0x10, pecNext := true, acause := upd x.acause 2 fun _ => 0x44 }
    s.hub.attnBytes 1 { origin := 2, seq := 7 } = [0x20, 0x4A, 0x07, 0x00, 0x00, 0x00, 0x44, 0x38] := by decide +kernel

/-- R160: the ACCEPT of the latency example names SEC 1,001, FRAME 1,000,000, CYC 17, FINE 200, TRIG 5. -/
theorem test_accept_payload :
    let w : BitVec 64 := 0x0543D0901164002A
    msgCycle (1001 * 500000000 + 1000258 * 40 + 16) w = some (1001 * 500000000 + 1000000 * 40 + 17) ∧
    msgFine w = 200 ∧ msgNum w = 5 ∧
    mkPayload (fld 5 8 56 :: tagFields (512 * (1001 * 500000000 + 1000000 * 40 + 17) + 200) ++ [0x2A]) = w := by decide +kernel

/-- R252, R254: the WALNUT epoch of generator 2 on a link with k_e = 3 and f_e = 100 carries 0x40 43D090E5 AA8123. -/
theorem test_epoch_correction :
    let e := 1001 * 500000000 + 1000000 * 40
    let tau := correctTau (512 * e) (255 + 3) 100 4 3276800000
    tau = 512 * e + 80725 ∧ mkPayload (fld 0x40 8 56 :: tagFields tau ++ [291]) = 0x4043D090E5AA8123 := by decide +kernel

/-- R443: the unit of serial 1,234,567 and variant 2 has UID 0x2012D687. -/
theorem test_uid : ({ variant := 2, serial := 1234567 } : Ident).uid = 0x2012D687 := by decide

/-- R346: the PSTATE of a plane that is LOCKED in AUTO on REF0 at HQL 1, effective code 9, grid registered, no owner. -/
theorem test_pstate :
    (onA fun x => { x with
      loop := { state := .locked, inLoop := true, bw := 9, effbw := 9 }, ref := upd x.ref 0 fun r => { r with hql := 1 }
      sel := { active := some 0, auto := some 0 } }).hub.regPstate .a = 0x4120CA00 := by decide +kernel

/-- R369: B.CK02 at 3,456.789 ns has k = 17,283 and f = 756, and its word 2 reads 0x02F402F4. -/
theorem test_output_record :
    let x := { pl with ck := upd pl.ck 2 fun c => { c with k := 17283, f := 756, fnow := 756 } }
    (x.ckRecord 2).drop 1 = [0x00004383, 0x02F402F4] ∧
    17283 * 200000 + 756 * 250 = 3456789000 := by decide +kernel

/-- R328: a hold request of group 5 and one of group 4 in PCTL words. -/
theorem test_pctl_hold_request : pctlOf 0x0004A000 = { pctlOf 0x00048000 with hgrp := 5 } ∧
    (pctlOf 0x00048000).hgrp = 4 ∧ (pctlOf 0x00048000).hreq = 1 := by decide +kernel

/-- R452: the standby words of plane B. -/
theorem test_pctl_standby : (pctlOf 0x00800000).stby = 1 ∧ (pctlOf 0x01000000).stby = 2 := by decide +kernel

/-- R402: FINJ 0xA5004000 injects CHK 5 into target 20 for 8 checks. -/
theorem test_finj_word :
    ((hubAfter (.hostRegisterWrite 0 0x49 0x10 0xA5004000) base).plane .a).flt.inj =
      { chk := 5, dbl := false, tgt := 20, left := 8 } := by decide +kernel

/-- R99: FREQ 0x43E of plane A in SOFT steers by 1,086 units. -/
theorem test_soft_frequency :
    ((hubAfter (.hostRegisterWrite 0 0x49 0x08 0x0000043E) (onA fun x => { x with loop := { state := .soft } })).plane .a).loop.steer =
      1086 := by decide +kernel

/-- R425, R364: 12 bytes written into a page buffer from byte 26 wrap inside the page. -/
theorem test_page_buffer_wraps :
    let x : Port := { buf := List.replicate 32 0, offset := 26 }
    let y := ((x.writeBuf 0x11223344).writeBuf 0x55667788).writeBuf 0x99AABBCC
    y.offset = 6 ∧ y.buf.take 6 = [0x77, 0x88, 0x99, 0xAA, 0xBB, 0xCC] ∧
    y.buf.drop 26 = [0x11, 0x22, 0x33, 0x44, 0x55, 0x66] := by decide +kernel

/-- R71: REF2 votes for REF1, so REF0 is the disputed one. -/
theorem test_dispute_vote :
    let x := { pl with
      sect := { sect0 with refs := Vector.replicate 4 { enabled := true }, fdis := 2000 }
      ref := ⟨#[{ state := .qualified, hql := 1, fmeas := 400 }, { state := .qualified, hql := 1, fmeas := 3100 },
        { state := .qualified, hql := 4, fmeas := 2600 }, {}], rfl⟩ }
    (x.dispute 0 1).markX = true ∧ (x.dispute 0 1).markY = false := by decide +kernel

/-- SHA-256 of the three bytes of abc, from FIPS 180-4. -/
theorem test_sha256 : sha256 [0x61, 0x62, 0x63] =
    0xBA7816BF8F01CFEA414140DE5DAE2223B00361A396177A9CB410FF61F20015AD := by decide +kernel

/-- The P-256 example of RFC 6979 A.2.5, SHA-256 of the message sample; a digest that differs does not verify. -/
theorem test_ecdsa_verify :
    let x := 0x60FED4BA255A9D31C961EB74C6356D68C049B8923B61FA6CE669622E60F29FB6
    let y := 0x7903FE1008B8BC99A41AE9E95628BC64F2F1B20C2D7E9F5177A3C294D4462299
    let r := 0xEFD48B2AACB6A8FD1140DD9CD45E81D69D2C877B56AAF991C34D0EA84EAF3716
    let s := 0xF7CB1C942D657C41D436C7A1B6E29F65F3E900DBB9AFF4064DC4AB2F843ACDA8
    let d : BitVec 256 := 0xAF2BDBE1AA9B6EC1E2ADE1D694F41FC71A831D0268E9891562113D8A62ADD1BF
    ecdsaVerify x y d r s = true ∧ ecdsaVerify x y (d + 1) r s = false := by decide +kernel

/-- The same example, signed: the key of RFC 6979 A.2.5 with its public key, and r and s with the per-signature number it gives. -/
theorem test_ecdsa_sign :
    let d : BitVec 256 := 0xC9AFA9D845BA75166B5C215767B1D6934E50C3DB36E89B127B8A622B120F6721
    let k : BitVec 256 := 0xA6E3C57DD01ABE90086538398355DD4C3B17AA873382B0F24D6129493D8AAD60
    let h : BitVec 256 := 0xAF2BDBE1AA9B6EC1E2ADE1D694F41FC71A831D0268E9891562113D8A62ADD1BF
    ({ priv := d } : Ident).pubKey = (0x60FED4BA255A9D31C961EB74C6356D68C049B8923B61FA6CE669622E60F29FB6,
      0x7903FE1008B8BC99A41AE9E95628BC64F2F1B20C2D7E9F5177A3C294D4462299) ∧
    ecdsaParts d.toNat k.toNat h = (0xEFD48B2AACB6A8FD1140DD9CD45E81D69D2C877B56AAF991C34D0EA84EAF3716,
      0xF7CB1C942D657C41D436C7A1B6E29F65F3E900DBB9AFF4064DC4AB2F843ACDA8) := by decide +kernel

/-- R427: the check value of CRC-32, the 4 bytes of the magic and GEN 0, and a page of 0xFF. -/
theorem test_crc32 : crc32 [0x31, 0x32, 0x33, 0x34, 0x35, 0x36, 0x37, 0x38, 0x39] = 0xCBF43926 ∧
    ({ magic := 0x50535452, gen := 0, st := .active, hcrc := 0xF7F509CF } : NvSector).headerOk = true ∧
    ({ magic := 0x50535452, gen := 1, st := .active, hcrc := 0xF7F509CF } : NvSector).headerOk = false := by decide +kernel

/-- R442: the certificate of the unit as reset leaves it is a v3 SEQUENCE of at most 4,096 bytes. -/
theorem test_certificate : State.reset.hub.ident.made = true ∧
    State.reset.hub.ident.certDer.take 2 = [0x30, 0x82] := by decide +kernel

/-- R243: generator 2 with period 1,920 cycles and its origin at ORG has its instants on ORG's lattice and no other. -/
theorem test_lattice :
    let x := { pl with gen := pl.gen.map fun (g : Gen) => { g with set := { g.set with en := true }, org := 50000000000 } }
    x.isInstant 2 50000001920 = true ∧ x.isInstant 2 50000001960 = false ∧ x.genCount 2 50000003840 = 2 := by decide +kernel

/-- R292: a slot that has been erased and not streamed fails the header check. -/
theorem test_erased_slot_fails_its_check (f : ImageFile) :
    headerOk (({ known := true } : Slot).parse f) = false := by
  have h : ((({ known := true } : Slot).parse f).magic == 0x48525448) = false := by
    show (BitVec.ofNat 32 (({ known := true } : Slot).be 0 4) == 0x48525448) = false
    decide +kernel
  unfold headerOk
  rw [h]
  rfl

/-- R41: of two waiting STOPs the one seen earlier comes first, whatever order they were sent in, and of one cycle the one of the
lower port. -/
theorem test_waiting_writes_are_ordered :
    let w := fun (q : PortId) (c : Nat) => { heldWrite q .a 1 full (.reg 0x08 5) with seen := c }
    ((insertWrite (w 0 7) (insertWrite (w 1 7) (insertWrite (w 2 5) []))).map fun e => (e.port, e.seen)) =
      [(2, 5), (0, 7), (1, 7)] := by decide +kernel

/-! ### One step of a command -/

/-- R448, R449: Kindling of the hub as reset leaves it. -/
theorem test_kindling :
    let s := { State.reset with hub := hubAfter .converterStart State.reset }
    (hubAfter (.kindling (Vector.replicate 3 true) true) s).powered = true ∧
    (hubAfter (.kindling (Vector.replicate 3 true) true) s).upstate = .kindling := by decide +kernel

/-- R448: a loss of power good ends the power. -/
theorem test_power_good_loss : (hubAfter (.powerGoodLoss ⟨false, true, true⟩) base).powered = false ∧
    (hubAfter (.powerGoodLoss ⟨false, true, true⟩) base).conv = false := by decide +kernel

/-- R36: the boundary after frame 12,499,999 opens frame 0 of the next second. -/
theorem test_frame_boundary_carries :
    let t := ((hubAfter (.frameBoundary .a) (onA fun x => { x with time := { x.time with frame := 12499999 } })).plane .a).time
    t.sec = 101 ∧ t.frame = 0 ∧ t.cyc = 0 := by decide +kernel

/-- R46: a reference declared lost is LOST; the loop acts on it at the next frame boundary (R67). -/
theorem test_loss_of_the_active_reference :
    let x := (hubAfter (.refLossDeclared .a 0) base).plane .a
    x.ref[0].state = .lost ∧ x.ref[1].state = .qualified ∧ x.loop.state = .locked := by decide +kernel

/-- R67: at the frame boundary the lost reference is active no more. -/
theorem test_lost_reference_drops :
    let s := onA fun x => { x with ref := upd x.ref 0 fun r => { r with state := .lost, act := false } }
    ((hubAfter (.frameBoundary .a) s).plane .a).sel.active = none := by decide +kernel

/-- R68: MODE SOFT leaves the loop to FREQ. -/
theorem test_soft_mode :
    ((hubAfter (.loopModeWrite 0 .a .soft) base).plane .a).loop.state = .soft := by decide +kernel

/-- R124: a coarse change drains a running output and takes both steps. -/
theorem test_coarse_change_drains :
    let c := ((hubAfter (.outputDelayWrite 0 .a 3 17283 756) base).plane .a).ck[3]
    c.run = .draining ∧ c.k = 17283 ∧ c.f = 756 := by decide +kernel

/-- R122: a fine step of 800 is out of range, and the refusal names register 0x0E at plane A's address. -/
theorem test_fine_step_range :
    let e := ((hubAfter (.outputDelayWrite 0 .a 3 17283 800) base).port 0).ref
    e.reason = .range ∧ e.treg = 0x0E ∧ e.taddr = 0x49 ∧ e.count = 1 := by decide +kernel

/-- R200: the ninth entry is lost and counted as an overflow. -/
theorem test_full_queue_overflows :
    let s := onA (linkA fun k => { k with dqCmd := { q := List.replicate 8 ⟨0x20, 1⟩ } })
    ((hubAfter (.enqueueCmd 0 .a 4 7) s).plane .a).link[4].dqCmd.q = List.replicate 8 ⟨0x20, 1⟩ := by decide +kernel

/-- R260: a hold of a declared group is requested. -/
theorem test_hold_request :
    ((hubAfter (.trainingHoldRequest 0 .a 5) base).plane .a).hold[5].phase = .requested ∧
    ((hubAfter (.trainingHoldRequest 0 .a 5) base).plane .a).hold[5].left = 2000 * 12500 := by decide +kernel

/-- R175: loss of signal takes a link DOWN. -/
theorem test_link_signal_loss : ((hubAfter (.linkSignalLoss .a 4) base).plane .a).link[4].state = .down ∧
    ((hubAfter (.linkSignalLoss .a 4) base).plane .a).link[5].state = .up := by decide +kernel

/-- R207, R208: a crossing is released 2 cycles later; one 3 cycles after it is lost in the dead time. -/
theorem test_crossing_and_dead_time :
    let s := onA fun x => { x with ti := upd x.ti 3 fun t => { t with last := some 777774 } }
    ((hubAfter (.tiRisingCrossing .a 3 3 300) s).plane .a).fab.held = [] ∧
    ((hubAfter (.tiRisingCrossing .a 3 3 300) base).plane .a).fab.held =
      [⟨.ti 3, 50000040003, 512 * 50000040003 + 300, 50000040005, 0⟩] := by decide +kernel

/-- R225: the third pulse of a prescaler of 3 fires. -/
theorem test_prescaler :
    let s := onA fun x => { x with fab := { x.fab with prescs := Vector.replicate 32 2 } }
    ((hubAfter (.prescalerPulse .a 31 5000) s).plane .a).fab.prescs[31] = 0 ∧
    ((hubAfter (.prescalerPulse .a 31 5000) base).plane .a).fab.prescs[31] = 1 := by decide +kernel

/-- R227: a cell takes the greatest value it declares and refuses the next. -/
theorem test_cell_range :
    ((hubAfter (.parameterCellWrite 0 .a 7 100) base).plane .a).fab.cells[7] = 100 ∧
    ((hubAfter (.parameterCellWrite 0 .a 7 101) base).port 0).ref.reason = .range := by decide +kernel

/-- R224: a double-bit error raises source 38 and marks the word. -/
theorem test_double_bit_error :
    let x := (hubAfter (.lookupScrub .a 3 1023 .double) base).plane .a
    x.flt.src[38].live = true ∧ x.fab.bad = [(3, 1023)] := by decide +kernel

/-- R399: a parity fault of a collector group puts the plane into Husk. -/
theorem test_parity_fault : ((hubAfter (.collectorParityFault (some .a) 7) base).plane .a).loop.state = .husk := by decide +kernel

/-- R398: HUSKCLR leaves Husk into EMBER with a valid holdover value, into FREE without one. -/
theorem test_husk_clear :
    ((hubAfter (.huskClear 0 .a) (onA fun x => { x with loop := { state := .husk, hvalid := true } })).plane .a).loop.state = .ember ∧
    ((hubAfter (.huskClear 0 .a) (onA fun x => { x with loop := { state := .husk } })).plane .a).loop.state = .free := by decide +kernel

/-- R387: a broken pair makes its source live whatever the detector says. -/
theorem test_pair_broken :
    let c := ((hubAfter (.pairBroken 9) base).plane .a).flt.src[9]
    c.wire = true ∧ c.live = true ∧ c.det = false := by decide +kernel

/-- R286: a leave takes effect and the unit is SOLO with its crossings closed. -/
theorem test_leave :
    let s := onHub fun h => { h with chim := { st := Vector.replicate 2 .up, role := .leader, opened := true, leavePend := true } }
    (hubAfter .leaveEffect s).chim.role = .solo ∧ (hubAfter .leaveEffect s).chim.opened = false := by decide +kernel

/-- R299: an erased slot reads 0xFF. -/
theorem test_erase :
    let s := onHub fun h => { h with cfg := { applied := true, erasing := [1], slot := Vector.replicate 2 { mem := { cells := [⟨5, 6⟩] } } } }
    (hubAfter .eraseComplete s).cfg.slot[1].mem.read 5 = 0xFF ∧ (hubAfter .eraseComplete s).cfg.slot[1].erased = true ∧
    (hubAfter .eraseComplete s).cfg.slot[0].mem.read 5 = 6 := by decide +kernel

/-- R300: a block is programmed at 256 times its number. -/
theorem test_block_program :
    let s := onHub fun h => { h with cfg := { applied := true, openBy := some (2, 1) }
                                     ports := upd h.ports 2 fun x => { x with blocks := [(1, 3, [1, 2, 3, 4])] } }
    (hubAfter (.blockProgramComplete 2) s).cfg.slot[1].mem.readBytes 768 5 = [1, 2, 3, 4, 0xFF] := by decide +kernel

/-- R319: a register byte sets the pointer; R324: the word that follows is held for the plane's boundary. -/
theorem test_transaction_holds_a_word :
    let s := onHub fun h => h.modPort 1 fun x => { x with latch := some (base.hub.capture 1) }
    let h := hubAfter (.transactionComplete 1 ⟨[.write 0x4A [0x08, 0, 0, 4, 0x3E]], Tri.same 7⟩) s
    (h.plane .b).commits = [{ heldWrite 1 .b 2 full (.reg 0x08 0x43E) with seen := 777781 }] ∧ (h.plane .b).loop.freq = 9 := by decide +kernel

/-- R323: a void transaction is recorded and writes nothing. -/
theorem test_transaction_void :
    let e := ((hubAfter (.transactionVoid 1 0x49 3) base).port 1).ref
    e.reason = .void ∧ e.taddr = 0x49 ∧ e.treg = 3 ∧ e.count = 1 := by decide +kernel

/-- R335: an attempt that is not acknowledged waits with one retry more. -/
theorem test_attention_retry :
    let s := onP0 fun x => { x with msgs := [{ origin := 3, seq := 7, retries := 2 }] }
    ((hubAfter (.attentionRetry 0 .nacked) s).port 0).msgs = [{ origin := 3, seq := 7, retries := 3 }] := by decide +kernel

/-- R316: a port that owns a plane keeps the others out. -/
theorem test_ownership :
    ((hubAfter (.ownershipClaim 2 .a) base).plane .a).owner = some 2 ∧
    ((hubAfter (.ownershipClaim 1 .a) (onA fun x => { x with owner := some 2 })).port 1).ref.reason = .owner := by decide +kernel

/-- R421, R424: the eighth failed password locks the store out. -/
theorem test_lockout :
    let s := onHub fun h => { h with nv := { h.nv with fails := 7 }, ports := upd h.ports 2 fun x => { x with key := 77 } }
    (hubAfter (.nvKey 2 true) s).nv.lock = true ∧ ((hubAfter (.nvKey 2 true) s).port 2).wpwok = false := by decide +kernel

/-- R420, R421: a password never set is eight bytes of zero. -/
theorem test_password_never_set : ((hubAfter (.nvKey 2 true) base).port 2).wpwok = true := by decide +kernel

/-- R428: a page that verified is in RAM. -/
theorem test_page_program :
    let s := onHub fun h => { h with nv := { h.nv with op := some { port := some 2, page := 7, data := List.replicate 32 0x5A } } }
    (hubAfter (.nvProgramComplete true true) s).nv.ram.readBytes 223 3 = [0xFF, 0x5A, 0x5A] := by decide +kernel

/-- R454, R455: a plane that is still entering standby runs again at once. -/
theorem test_standby_cancelled :
    ((hubAfter (.planeStandbyLeave 2 .a) (onA fun x => { x with power := .entering })).plane .a).power = .run := by decide +kernel

/-- R465: the second mean in a row within 18 V declares a feed absent. -/
theorem test_feed_absent :
    let s := onHub fun h => { h with env := { h.env with feed := Vector.replicate 2 { aRun := 1 } } }
    (hubAfter (.feedJudgement 1 17999) s).env.feed[1].absent = true ∧
    (hubAfter (.feedJudgement 1 17999) base).env.feed[1].absent = false := by decide +kernel

/-- R484: a fan below 70 percent of its speed is not well. -/
theorem test_fan : (hubAfter (.fanSpeedCheck 3 true 69) base).env.fanOk[3] = false ∧
    (hubAfter (.fanSpeedCheck 3 true 69) base).env.fanPct = 100 := by decide +kernel

/-- An empty queue idles; a step takes the front command away. -/
theorem test_step :
    (match step { base with pending := [] } with | .next t => t.pending.isEmpty | _ => false) = true ∧
    (match step { base with pending := [.housekeepingTick, .portSleep 0] } with
     | .next t => t.pending == [.portSleep 0] | _ => false) = true := by decide +kernel

/-- R282: a Chimney crossing of reference cycle 50,000,040,004 has age 14 + K and is released in its cycle. -/
theorem test_chimney_crossing :
    let s := onHub fun h => { h with chim := { opened := true } }
    ((hubAfter (.chimneyCrossingRelease .a 5 50000040004 7 ⟨0, false⟩) s).plane .a).fab.sigs.map
      (fun g => (g.src, g.age)) =
      [(.chin 5, 14 + chimneyK s.hub.udecl)] := by decide +kernel

/-- R176: the fourth comma in a row at one other place realigns a link; at a place of its own it does not. -/
theorem test_alignment_needs_one_place :
    let s := onA (linkA fun k => { k with al := { k.al with moved := 3, movedAt := some 5, absent := 3 } })
    let k := fun (b : Fin 800) =>
      ((hubAfter (.upstreamTimeSlot .a 4 3 { rx0 5 with comma := .moved b }) s).plane .a).link[4]
    (k 5).pendSt = some .aligned ∧ (k 6).pendSt = some .seek := by decide +kernel

/-! ### The hypotheses of the statements are met

One theorem per statement that has hypotheses: every conjunct in parentheses is one clause's hypotheses, met together by one
state and its operands, at values where clauses meet. -/

def kOff : State := onHub fun h => { h with powered := false, planes := Tri.same { pl with power := .off } }
def kDead : State := onHub fun _ => { kOff.hub with conv := false }
def fImg : ImageFile :=
  { planes := Tri.same { sect0 with mode := .forced, fref := 2 }, pubkey := [1], unit := {} , idig := Tri.same 5, sdig := Tri.same 6, sdigU := 9 }
def kState : State :=
  onHub fun h => { h with upstate := .kindling, cfg := {}, ident := { factory := sha256 [1] }, planes := Tri.same {} }
def r0 : LogRec := ⟨1, 0, 0xFF, true, 5, 6, Vector.replicate 4 7⟩
def fr0 : IrigFrame :=
  { markersOk := true, b004 := false, yearT := 0, yearU := 0, dayH := 0, dayT := 0, dayU := 1, hourT := 0, hourU := 0, minT := 0, minU := 0, secT := 0, secU := 5, q := 4 }
def pdu : EsmcFrame :=
  { fcsOk := true, dest := 0x0180C2000002, etype := 0x8809, subtype := 0x0A, oui := 0x0019A7, ituSub := 1, version := 1, tlvType := 1, tlvLen := 4, ssm := 2 }
def esS : State :=
  onA fun x => { x with esmc := { pend := some 2, hql := 4 }, sect := { x.sect with refs := Vector.replicate 4 { enabled := true, qsrc := .esmc } } }
def swp : State :=
  onA fun x => { x with sel := { active := none, sw := some { target := 0, left := 0 } }, loop := { state := .free } }
def swq (st : LoopState) : State :=
  onA fun x => { x with sel := { active := some 1, sw := some { target := 0, left := 0 } }, loop := { x.loop with state := st, resid := 7 } }
def swc : State :=
  onA fun x => { x with sel := { active := some 1, sw := some { target := 0, left := 0 } }, hold := Vector.replicate 32 { phase := .active, left := 10 } }
def acq : State := onA fun x => { x with loop := { x.loop with state := .acquire } }
def g1S : State :=
  onA (fun x => { x with sect := { x.sect with regSrc := .tc0 }, tc := Vector.replicate 2 { valid := true, secOk := true } })
def g2S : State :=
  onA (fun x => { x with grid := { seenLock := true, cap := some ⟨1000, 44⟩ }, sect := { x.sect with regSrc := .tc0 }, tc := Vector.replicate 2 { valid := true, secOk := true } })
def g3S : State := onA (fun x => { x with grid := { x.grid with cap := some ⟨1000, 44⟩, rlgnPend := true } })
def held : State := onA fun x => { x with hold := Vector.replicate 32 { phase := .active, left := 10 } }
def queued : State :=
  onA (linkA fun k => { k with dqCmd := { q := List.replicate 8 ⟨1,2⟩ }, dqBulk := { q := List.replicate 7 ⟨1,2⟩ }, uqStat := { q := [⟨1,2⟩,⟨3,4⟩] }, uqBulk := { q := [⟨1,2⟩] } })
def waits : Plane :=
  let x := pl; { x with ck := x.ck.map fun (c : Ck) => { c with wait := [(4,5), (6, 7)] }, pu := x.pu.map fun (u : Pu) => { u with wait := some {} }, trigOut := x.trigOut.map fun (u : TrigOut) => { u with wait := some 4 }, link := x.link.map fun (k : Link) => { k with waitHeld := true, epdWait := some (4,5), wait := some (3,3) }, gen := x.gen.map fun (g : Gen) => { g with wait := some { bint := 9 } }, sel := { x.sel with sw := some { target := 1, left := 0, deferred := true } } }
def full8 : State :=
  onA (linkA fun k => { k with uqStat := { q := List.replicate 8 ⟨1,2⟩ }, uqBulk := { q := List.replicate 8 ⟨1,2⟩ } })
def downS : State := onA (linkA fun k => { k with state := .down })
def seekS : State := onA (linkA fun k => { k with state := .seek })
def injS : State := onA fun x => { x with flt := { x.flt with inj := { chk := 2, left := 5, tgt := 4 } } }
def W : BitVec 64 := 0x1234
def hm3S : State :=
  onA (fun x => { x with hold := Vector.replicate 32 { phase := .active, left := 10 }, sect := { x.sect with groups := Vector.replicate 32 { declared := true, links := 0xFFFF } } })
def tmS : State := onA (fun x => { x with time := { sec := 100, cyc := 3, clk := 99 } })
def tsS (f : Plane → Plane) (g : Link → Link) : State := onA fun x => f (linkA g { x with time := { x.time with cyc := 5 } })
def noIss (x : Plane) : Plane :=
  { x with sect := { x.sect with fabric := { x.sect.fabric with issuers := Vector.replicate 32 {} } } }
def cmds (k : Link) : Link := { k with dqCmd := { q := [⟨0x20, 77⟩, ⟨0x20, 88⟩] }, dqBulk := { q := [⟨0x41, 5⟩] } }
def testW : BitVec 64 := 0x1380
def issP (x : Plane) : Plane :=
  { x with sect := { x.sect with fabric := { x.sect.fabric with issuers := Vector.replicate 32 { target := .link 4, num := 9, slots := 0xFE } } }, fab := { x.fab with issuers := upd x.fab.issuers 6 fun _ => some ⟨5000, 2560007, false, 100, 3⟩ } }
def ge (k : Nat) : GEntry := ⟨0x05, 0, 2560000, 0, BitVec.ofNat 64 k, 0, k⟩
def gqP (x : Plane) : Plane :=
  { noIss x with gq := upd (upd x.gq 3 fun q => { q with q := [ge 7, ge 9] }) 5 fun q => { q with q := [ge 8] } }
def gqQ (x : Plane) : Plane :=
  linkA id { noIss x with gq := upd x.gq 31 fun q => { q with q := [{ ge 6 with passed := 1 }, ge 9, ge 10] } }
def heldS (n : Nat) : State :=
  onA (fun x => { x with fab := { x.fab with held := [⟨.ti 3, 50000040000, 7, 50000040002, n⟩] } })
def chS : State := onHub (fun h => { h with chim := { opened := true } })
def wo : WinOpen := ⟨5000, 2560007, 2559907, 2560107, false⟩
def opened : State := onA fun x => { x with fab := { x.fab with wins := upd x.fab.wins 63 fun _ => [wo] } }
def gwin : WinDecl := { used := true, grid := true, w := 50, members := [.ti 1] }
def gridS : State :=
  onA fun x => { x with sect := { x.sect with fabric := { x.sect.fabric with wins := upd x.sect.fabric.wins 3 fun _ => gwin } } }
def genP (f : Gen → Gen) (d : GenDecl → GenDecl) : State :=
  onA fun x => { x with gen := x.gen.map fun (g : Gen) => f { g with set := { g.set with en := true }, p := 3, org := 50000000000 }, sect := { x.sect with gens := x.sect.gens.map d } }
def genS : State := genP id id
def atF (s : State) (f c : Nat) : State :=
  { s with hub := s.hub.modPlane .a fun x => { x with time := { x.time with frame := f, cyc := c } } }
def fault (n : Fin 64) : State :=
  onA fun x => { x with flt := { x.flt with fired := [(n.val, 777000)], src := upd x.flt.src n fun c => { c with sticky := true, live := true, sev := .safe } } }
def huskS : State := onA fun x => { x with loop := { state := .husk, hvalid := true } }
def ufault : State :=
  onHub fun h => { h with usrc := upd h.usrc 12 fun c => { c with sticky := true, live := true, sev := .safe }, planes := Tri.same { pl with flt := { pl.flt with fired := [(204, 777770)] } } }
def forcedS (m : LoopMode) (st : LoopState) : State :=
  onA fun x => { x with sel := { x.sel with mode := m, active := none }, loop := { x.loop with forced := true, state := st, inLoop := false }, flt := { x.flt with src := upd x.flt.src 37 fun c => { c with sticky := true, live := true, react := true, sev := .isolate } } }
def pid : PartnerId := { uid := 1, digest := 0, carries := base.hub.runningDigest }
def upP : PortSight := { lanes := Vector.replicate 4 (.group true true 0 0), partner := some pid }
def leadU : UnitDecl := { role := .leader, group := 7 }
def joinable : State :=
  onHub fun h => { h with udecl := leadU, chim := { st := Vector.replicate 2 .up, sights := Vector.replicate 2 upP } }
def annP : State :=
  onHub fun h => { h with udecl := leadU, chim := { st := Vector.replicate 2 .up, sights := Vector.replicate 2 upP, joinPend := true } }
def annF : State :=
  onHub fun h => { h with udecl := { role := .follower }, chim := { st := Vector.replicate 2 .up, sights := Vector.replicate 2 upP } }
def jdue (r : ImgRole) : State :=
  onHub fun h => { h with udecl := { leadU with role := r }, chim := { st := Vector.replicate 2 .up, sights := Vector.replicate 2 upP, joinPend := true, announced := true, joinSec := 90 }, planes := Tri.same { pl with sel := { pl.sel with active := some 3, mode := .forced, fref := 3 }, loop := { pl.loop with lockAt := 0 }, time := { pl.time with clk := 99999999999 } } }
def ledC : Chimney :=
  { st := Vector.replicate 2 .up, sights := Vector.replicate 2 upP, role := .leader, opened := true, out := Vector.replicate 16 { q := [⟨1,2⟩,⟨3,4⟩] } }
def led : State :=
  onHub fun h => { h with udecl := leadU, chim := ledC, ports := h.ports.map fun (e : Port) => { e with sent := [e.sent.head?.getD default] } }
def dark (r : Role) : State :=
  onHub fun h => { h with udecl := leadU, chim := { st := Vector.replicate 2 .down, role := r, opened := true } }
def folC : Chimney := { st := Vector.replicate 2 .up, sights := Vector.replicate 2 upP, role := .follower, opened := true }
def fol : State := onHub fun h => { h with udecl := { role := .follower }, chim := folC }
def idS : Ident := { factory := sha256 [1] }
def ers : State :=
  onHub fun h => { h with cfg := { applied := true, erasing := [1, 0], slot := Vector.replicate 2 { mem := { cells := [⟨5,6⟩] } } } }
def opn : State :=
  onHub fun h => { h with cfg := { applied := true, openBy := some (2, 1), slot := Vector.replicate 2 { erased := true, mem := { cells := [⟨5,6⟩] } } } }
def blk : State := { opn with hub := opn.hub.modPort 2 fun x => { x with blocks := [(1, 3, [1,2,3,4]), (1,4,[5,6,7,8])] } }
def vfy : State := onHub fun h => { h with ident := idS, cfg := { applied := true, verifying := [1] } }
def vfd : State :=
  onHub fun h => { h with ident := idS, cfg := { applied := true, slot := Vector.replicate 2 { verified := true, file := some fImg } } }
def vfd5 : State := { vfd with hub := { vfd.hub with planes := Tri.same { pl with idig := 5 } } }
def rl : State :=
  { vfd with hub := vfd.hub.modPlane .a fun x => { x with next := some (1, 1), sel := { x.sel with sw := some ⟨1, 5, false⟩ } } }
def rl1 (p : Power) : State := { vfd with hub := vfd.hub.modPlane .a fun x => { x with next := some (1, 1), power := p } }
def commS : State := onA fun x => { x with commits := [{ heldWrite 2 .a 1 full (.reg 0x08 77) with seen := 777770 }] }
def ucomm : State := onHub fun h => { h with ticks := 1, ucommits := [heldWrite 2 .a 0 full (.reg 0x17 8)] }
def schd : Sched := ⟨1, 0x64, 0x3E8, [heldWrite 2 .a 1 full (.reg 0x08 77)]⟩
def schS : State := { base with hub := base.hub.modPort 2 fun x => { x with scheds := [schd] } }
def schd2 : Sched := ⟨1, 0x64, 0x500, [heldWrite 2 .a 1 full (.reg 0x08 77)]⟩
def schS2 : State := { base with hub := base.hub.modPort 2 fun x => { x with scheds := [schd2] } }
def lat : Latch := base.hub.capture 1
def started : State := onHub fun h => h.modPort 1 fun x => { x with latch := some lat }
def startedP (pec : Bool) (ptr : BitVec 5) (w : Word) : State :=
  onHub fun h => let g := h.modPort 1 fun x => { x with pec := pec, pecNext := pec, wsel := Vector.replicate 8 w, pointer := ptr }; g.modPort 1 fun x => { x with latch := some (g.capture 1) }
def latP (pec : Bool) (ptr : BitVec 5) (w : Word) : Latch := ((startedP pec ptr w).hub.port 1).latch.getD lat
def mg (o : Fin 9) (r : Nat) : AttnMsg := { origin := o, seq := 7, retries := r }
def msgS (n : Nat) : State := onP0 fun x => { x with msgs := [mg 3 n, mg 0 0], haddr := 0x10 }
def wok : State := onHub (fun h => h.modPort 2 fun x => { x with wpwok := true, buf := List.replicate 32 0x5A, key := 77 })
def op0 : NvOp := { port := some 2, page := 7, data := List.replicate 32 0x5A }
def busy : State := onHub (fun h => { h with nv := { h.nv with op := some op0 } })
def rc (p : BitVec 16) : NvRec := newRec p 9 (List.replicate 32 3)
def stl : State :=
  onHub (fun h => { h with nv := { h.nv with stale := [5], sect := ⟨#[{ magic := 0x50535452, gen := 0, st := .active, hcrc := 0xF7F509CF, recs := [rc 5] }, base.hub.nv.sect[1]], rfl⟩ } })
def page123 : State := onHub fun h => { h with nv := h.nv.setRam 123 ((h.pageContent 123 0 0 0).getD []) }
def z0 (p : Plane) : Plane := { p with time := { p.time with cyc := 0 } }
def snp : State :=
  onHub fun h => { h with planes := Tri.same (z0 pl), snap := { pending := true, ovfclr := true, seen := Tri.same (some 777700) } }
def sgn : State := onHub fun h => { h with auth := { busy := true, capDig := 9, selfOk := true } }
def ent : State :=
  onA fun x => { x with power := .entering, link := x.link.map fun (k : Link) => { k with dqCmd := { q := [⟨1,2⟩] } }, ck := x.ck.map fun (c : Ck) => { c with run := .stopped, halted := true } }
def koff : State :=
  onHub fun h => { h with powered := false, conv := true, nv := { h.nv with ram := { cells := [⟨32*64, 7⟩] }, sect := ⟨#[{ magic := 0x50535452, gen := 0, st := .active, hcrc := 0xF7F509CF, recs := [rc 5] }, base.hub.nv.sect[1]], rfl⟩ } }
def st1 : State := onA fun x => { x with oven := {} }
def st8 : State := onA fun x => { x with outq := [.cause 3] }
def st9 : State :=
  onHub fun h => Hub.modPlane { h with chim := { h.chim with role := .follower } } .a fun x => { x with outq := [.cause 3] }
def st10 : State := onA fun x => { x with outq := [.log r0, .cause 3] }
def st12 : State :=
  onHub fun h => { h with planes := Tri.same { pl with outq := [.log r0, .cause 3] }, log := { erasing := some 1, waiting := List.replicate 64 r0, seq := 2048 } }
def st13 : State := onHub fun h => { h with hand := ⟨[.fire 3, .snapshot, .fire 206, .standby true], [], []⟩ }
def st14 : State := onHub fun h => { h with log := { erasing := some 1 } }
def st17 : State := onHub fun h => { h with cmp := Vector.replicate 3 { overRun := 2 } }
def st18 : State := onHub fun h => { h with cmp := Vector.replicate 3 { overRun := 1 } }
def st19 : State := onHub fun h => { h with cmp := Vector.replicate 3 { clearRun := 2, exceed := true } }
def st22 : State :=
  onHub fun h => { h with udecl := { group := 0 }, cmp := Vector.replicate 3 { inRun := 2, beyond := true } }
def st25 : State := onA fun x => { x with ref := Vector.replicate 4 { state := .wait, hql := 5 } }
def st31 : State := onA fun x => { x with tc := Vector.replicate 2 { valid := true, bad := 2, qEff := some 4 } }
def st43 : State := onA fun _ => { (swq .locked).hub.planes.a with ref := Vector.replicate 4 { state := .failed } }
def st50 : State :=
  onA (fun x => { x with grid := { seenLock := true }, sect := { x.sect with regSrc := .none, startSec := 9 } })
def st53 : State := onA fun x => { x with sect := { x.sect with regSrc := .tc0 } }
def st54 : State := onA (fun x => { x with ck := upd x.ck 3 fun c => { c with run := .draining } })
def st55 : State := onA (fun x => { x with ck := upd x.ck 3 fun c => { c with run := .stopped, f := 77 } })
def st56 : State := onA (fun x => { x with ck := upd x.ck 3 fun c => { c with moving := true, f := 77 } })
def st57 : State := onA (fun x => { x with pu := upd x.pu 3 fun c => { c with due := [(0, 777780), (0, 777790)] } })
def st58 : State :=
  onA (fun x => { x with pu := upd x.pu 3 fun c => { c with hgate := false, due := [(1, 777770), (0, 777780), (0, 777790)] } })
def st60 : State := onA (fun x => { x with pu := upd x.pu 3 fun c => { c with high := true, endAt := 777780 } })
def st62 : State := onA (fun x => { x with trigOut := upd x.trigOut 3 fun c => { c with due := [(777780, 7), (777790,8)] } })
def st65 : State := onA (fun x => { x with ck := upd x.ck 3 fun c => { c with moving := true } })
def st82 : State := onA (linkA fun k => { k with bulkSeq := [(0, 5)] })
def st85 : State := tsS noIss fun k => cmds { k with state := .down }
def st88 : State := tsS issP cmds
def st90 : State := tsS noIss (fun k => cmds { k with tests := [testW, 3] })
def st91 : State := tsS gqP cmds
def st92 : State := tsS gqQ cmds
def st93 : State := tsS noIss cmds
def st95 : State := tsS noIss fun k => { cmds k with dqCmd := {} }
def st97 : State := tsS noIss fun k => { k with rxD := 1 }
def st103 : State := heldS 0
def st104 : State := heldS 5
def st109 : State := atF genS 38 0
def st113 : State := atF genS 49 0
def st114 : State := onA (fun x => { x with hold := Vector.replicate 32 { phase := .active, left := 10 } })
def st115 : State := fault 43
def st116 : State := fault 0
def st122 : State := forcedS .soft .ember
def st124 : State :=
  onA fun _ => let x := (forcedS .soft .free).hub.planes.a; { x with flt := { x.flt with src := upd (upd x.flt.src 37 fun _ => {}) 14 fun c => { c with sticky := true, live := true, react := true, sev := .isolate } } }
def st126 : State := onHub fun h => { h with usrc := Vector.replicate 32 { live := true, sticky := true, react := true } }
def st127 : State := fault 9
def st128 : State := onA fun x => { x with flt := { x.flt with inj := { chk := 1, tgt := 5, left := 9 } } }
def st129 : State := onHub fun _ => { joinable.hub with planes := huskS.hub.planes }
def st130 : State := jdue .leader
def st133 : State := { led with hub := { led.hub with chim := { led.hub.chim with leavePend := true } } }
def st135 : State := dark .leader
def st137 : State :=
  { led with hub := { led.hub with chim := { ledC with st := Vector.replicate 2 .down, sights := Vector.replicate 2 {} }, partner := 0 } }
def st138 : State :=
  onHub fun h => { h with udecl := leadU, chim := { st := ⟨#[.down, .up], rfl⟩, role := .leader, opened := true } }
def st142 : State := onHub (fun h => { h with cfg := { applied := true, slot := Vector.replicate 2 { erased := true } } })
def st144 : State := rl1 .reloadKeep
def st146 : State := onA fun x => { x with commits := [{ heldWrite 2 .a 1 full (.reg 0x08 77) with seen := 777771 }] }
def st147 : State :=
  onA fun x => { x with commits := [{ heldWrite 2 .a 1 full (.reg 0x08 77) with seen := 777770, tunnel := true }] }
def st148 : State := { ucomm with hub := { ucomm.hub with ticks := 0 } }
def st149 : State := onHub (fun h => h.modPort 1 fun x => { x with answers := false })
def st150 : State := startedP false 0 0
def st151 : State := startedP true 0 0
def st152 : State := startedP false 1 0
def st153 : State := startedP false 0x1F 0
def st154 : State := startedP false 5 0x00700000
def st155 : State := startedP true 0x14 0
def st156 : State := startedP false 0x0E 0x81000005
def st157 : State := startedP false 0x0E 0x02000005
def st158 : State := startedP false 0x0E 0x890FFFFF
def st159 : State := startedP false 0x0E 0x8A000001
def st160 : State := startedP false 0x0E 0x89000001
def st162 : State := onHub (fun h => h.modPort 1 fun x => { x with acause := Vector.replicate 8 0x80007777 })
def st163 : State := onHub (fun h => h.modPort 1 fun x => { x with pview := 3, ref := { count := 7 } })
def st165 : State := onHub (fun h => h.modPort 1 fun x => { x with asleep := true })
def st166 : State := msgS 0
def st167 : State := msgS 5
def st168 : State := msgS 8
def st169 : State := msgS 7
def st170 : State := onA (fun x => { x with owner := some 2 })
def st173 : State := onA (fun x => { x with owner := some 1 })
def st174 : State := onA (fun x => { x with owner := some 2, sect := { x.sect with ownto := 0 } })
def st175 : State := onHub (fun h => h.modPort 2 fun x => { x with rpwok := true })
def st176 : State := onA fun x => { x with flt := { x.flt with inj := { chk := 4, left := 9 } } }
def st180 : State := onHub (fun h => { h with nv := { h.nv with lock := true } })
def st186 : State := onHub fun h => { h with auth := { nonce := Vector.replicate 8 7 } }
def st187 : State := onHub fun h => { h with auth := { busy := true, selfOk := false } }
def st189 : State :=
  onA fun x => { x with hold := Vector.replicate 32 { phase := .active, left := 10 }, sel := { x.sel with sw := some ⟨1,5,false⟩ } }
def st191 : State := onA (fun x => { x with power := .stopped })
def st192 : State := onA (fun x => { x with power := .leaving })
def st194 : State := onHub (fun h => { h with udecl := { role := .leader }, chim := { st := Vector.replicate 2 .up } })
def st195 : State :=
  onHub (fun h => { h with ustby := true, upstate := .standby, planes := ⟨{ pl with power := .stopped, withUnit := true }, { pl with power := .stopped }, { pl with power := .entering, withUnit := true }⟩ })
def st196 : State := onHub (fun h => { h with env := { h.env with feed := Vector.replicate 2 { aRun := 1 } } })
def st209 : State := onA fun x => { x with loop := { state := .husk } }
def st210 : State := onHub fun h => h.modPort 1 fun x => { x with cfg := {} }
def st211 : State := onA fun x => { x with owner := some 2 }
def st212 : State := onA fun x => { x with power := .stopped }
def st213 : State := onA (linkA fun k => { k with bulkSeq := [(0, 5), (3, 0xAB)] })

theorem wit_MemoryHoldsWhatWasWritten : ({ cells := [⟨5, 6⟩, ⟨7, 8⟩] } : Memory).wf = true ∧ ({} : Memory).wf = true := by
  decide

theorem wit_EveryStepKeepsTheMemoriesCanonical :
    (∃ t, step base = .next t) ∧ base.hub.nv.ram.wf = true ∧ ∀ i : Fin 2, base.hub.cfg.slot[i.val].mem.wf = true :=
  ⟨⟨_, rfl⟩, by decide +kernel, by decide +kernel⟩

theorem wit_EveryStepKeepsTheIdentity : ∃ t, step base = .next t := ⟨_, rfl⟩

theorem wit_EveryStepKeepsTheBuffersBounded : (∃ t, step base = .next t) ∧ BuffersFit base.hub := by
  refine ⟨⟨_, rfl⟩, ?_, ?_, ?_, by decide +kernel, by decide +kernel, by decide +kernel⟩
  · intro p; cases p <;> decide +kernel
  · intro p; cases p <;> decide +kernel
  · intro p; cases p <;> decide +kernel

theorem wit_EveryStepKeepsTheLoopMarkRight :
    (∃ t, step base = .next t) ∧ ∀ p, (base.hub.plane p).loop.inLoop = (base.hub.plane p).loop.state.inLoop :=
  ⟨⟨_, rfl⟩, by intro p; cases p <;> decide +kernel⟩

/-- A store locked out, before a housekeeping tick and before a Kindling that the power bars. -/
def lockedBefore (c : Instr) : State :=
  { hub := { hub0 with nv := { hub0.nv with lock := true } }, pending := [c] }

theorem wit_OnlyKindlingEndsALockout :
    ((∃ t, step (lockedBefore .housekeepingTick) = .next t) ∧ (lockedBefore .housekeepingTick).hub.nv.lock = true ∧
      ∀ sda ok rest, (lockedBefore .housekeepingTick).pending = .kindling sda ok :: rest →
        (lockedBefore .housekeepingTick).hub.powered = true) ∧
    ∃ t, step (lockedBefore (.kindling (Vector.replicate 3 true) true)) = .next t :=
  ⟨⟨⟨_, rfl⟩, rfl, fun _ _ _ _ => rfl⟩, _, rfl⟩

/-- The plane events named in PlaneEventsChangeTheirPlaneAlone, with operands. -/
def planeEvents (p : PlaneId) (b : Bool) (g : Fin 8) (cyc : Fin 40) (l : Fin 32) (n : Fin 7) (rx : Slot0Rx) (w : BitVec 64)
    (ty : Byte) (i : Fin 16) (u : Fin 4) (co : Comma) (fine : BitVec 9) (src : MarkerSrc) (k m : Nat) (v : Int) (tc : Fin 2)
    (irig : IrigFrame) (pdu : EsmcFrame) : List Instr :=
  [.ovenFault p b, .planeSupplyFault p, .planeSupplyRestored p, .configCrcCheck p b, .generatorEvent p g cyc,
   .generatorEnqueue p g cyc, .readoutGapStart p, .deferredActionsResume p, .linkSignalLoss p l, .linkSignalPresent p l,
   .linkMonitorGraceExpiry p l, .slotCheckFailure p l ⟨g, co⟩, .damperTimeout p l, .trafficSlotStart p n,
   .upstreamTimeSlot p l cyc rx, .primitiveReceived p l cyc w, .upstreamVetoReceived p l cyc w, .statusReceived p l cyc w,
   .cmdAckReceived p l cyc w, .upstreamBulkReceived p l cyc w, .trainHoldCompleteReceived p l cyc w,
   .reservedMessageReceived p l cyc ty w, .tiRisingCrossing p i cyc fine, .timeMarkerCapture p src cyc k m,
   .vcobUnlock p b, .outputDrainComplete p i, .outputStart p i, .fineMoveComplete p i, .puPulseStart p u, .puPulseEnd p ⟨u, cyc⟩,
   .puAssignmentEffect p u ⟨cyc, k⟩, .toPulseStart p i, .toPulseEnd p ⟨i, cyc⟩, .acquireTimeout p, .slewComplete p, .driftFitUpdate p,
   .holdLimitExpiry p l, .refLossDeclared p u, .refActiveAgain p u, .timecodeFrame p tc irig, .timecodeFrameMissing p tc,
   .tcQualityEffect p tc, .esmcPduReceived p pdu, .esmcQualityEffect p, .esmcTimeout p, .freqOffsetMeasurement p u v,
   .phaseJumpMean p u v, .waitToRestoreExpiry p u, .selectionTick p]

theorem wit_PlaneEventsChangeTheirPlaneAlone :
    let l := planeEvents .a true 0 3 4 0 (rx0 5) 77 0x20 3 1 .expected 300 .tc0 5 6 7 0 fr0 pdu
    Instr.ovenFault .a true ∈ l ∧ Instr.selectionTick .a ∈ l ∧ ∀ c ∈ l, c.wellFormed = true := by decide +kernel

/-- The host writes named in HostWritesChangeTheirPlaneAlone, with operands. -/
def hostWrites (q : PortId) (p : PlaneId) (b : Bool) (g : Fin 8) (y : Byte) (x1 x2 x3 : Word) (uf : BitVec 9) (l : Fin 32)
    (d : BitVec 16) (h : BitVec 12) (cell : Fin 128) (v : Int) (o : Fin 20) (i : Fin 16) (k : BitVec 17) (f : BitVec 10)
    (u : Fin 4) (width : BitVec 24) (m : LoopMode) (prio : Vector (BitVec 4) 4) (bw : BitVec 4) (w : BitVec 64) : List Instr :=
  [.generatorEnableWrite q p g b, .bintWrite q p b y, .userGeneratorWrite q p x1 x2 x3 uf,
   .epochPhaseDelayWrite q p l x1 x2, .linkDelayWrite q p l x1 x2, .hostDamperWrite q p l d, .historyClear q p h,
   .parameterCellWrite q p cell x1, .realignRequest q p, .realignCancel q p, .gridOffsetWrite q p v,
   .outputGateWrite q p o b, .outputDelayWrite q p i k f, .puSettingsWrite q p u g d y width, .toFineDelayWrite q p i y,
   .loopModeWrite q p m, .forcedRefWrite q p u, .referencePriorityWrite q p b prio, .bandwidthCodeWrite q p bw,
   .freqWrite q p x1, .enqueueCmd q p l w, .enqueueBulk q p l w, .popUqStat q p l, .popUqBulk q p l,
   .injectTestAccept q p l w, .trainingHoldRequest q p l, .trainingHoldHostEnd q p l, .ownershipClaim q p]

theorem wit_HostWritesChangeTheirPlaneAlone :
    let l := hostWrites 0 .a true 7 8 200 0x100 500000000 300 4 0x83FF 0xFFF 127 0 3 3 5 799 1 9 .soft ⟨#[3, 4, 1, 0], rfl⟩ 9 77
    Instr.generatorEnableWrite 0 .a 7 true ∈ l ∧ Instr.ownershipClaim 0 .a ∈ l ∧ ∀ c ∈ l, c.wellFormed = true := by
  decide +kernel

theorem wit_FollowerCauseGoesOverLane3 :
    let s := onHub fun h => { h with planes := Tri.same { pl with outq := [.cause 3] }, chim := { role := .follower } }
    s.hub.powered = true ∧ s.hub.following = true ∧ s.hub.chim.out[3].q.length < 8 ∧
    (s.hub.plane .a).outq = .cause 3 :: [] ∧ (hubAfter (.housekeepingRecordTake .a) s).chim.out[3].q = [⟨3, 1⟩] ∧
    (hubAfter (.housekeepingRecordTake .a) base).following = false := by decide +kernel

theorem wit_FullOutgoingQueueLosesTheRecord :
    ({ pl with outq := List.replicate 15 (.cause 3) } : Plane).outq.length < 16 ∧
    16 ≤ ({ pl with outq := List.replicate 16 (.cause 3) } : Plane).outq.length := by decide +kernel

theorem wit_HuskIgnoresLoopEvents :
    (huskS.hub.plane .a).loop.state = .husk ∧ (huskS.hub.plane .a).loop.inLoop = false ∧
    ∃ t, exec (.selectionTick .a) huskS = .next t := ⟨by decide +kernel, by decide +kernel, _, rfl⟩

theorem wit_RefusalKeepsTheFirstReason :
    (base.hub.powered = true ∧ HostMay base.hub (1 : PortId) PlaneId.a ∧ ((250000000 : Int) < -250000000 ∨ 249999999 <
     (250000000 : Int) ∨ (base.hub.plane PlaneId.a).inHusk = true)) ∧
    (st209.hub.powered = true ∧ HostMay st209.hub (1 : PortId) PlaneId.a ∧ ((0 : Int) < -250000000 ∨ 249999999 < (0 : Int)
     ∨ (st209.hub.plane PlaneId.a).inHusk = true)) ∧
    (st210.hub.powered = true ∧ st210.hub.controls (1 : PortId) PlaneId.a = false) ∧
    (st211.hub.powered = true ∧ st211.hub.controls (1 : PortId) PlaneId.a = true ∧ st211.hub.foreign (1 : PortId)
     PlaneId.a = true) ∧
    (st212.hub.powered = true ∧ st212.hub.controls (1 : PortId) PlaneId.a = true ∧ st212.hub.foreign (1 : PortId)
     PlaneId.a = false ∧ st212.hub.active PlaneId.a = false ∧ -250000000 ≤ (0 : Int) ∧ (0 : Int) ≤ 249999999 ∧
     (st212.hub.plane PlaneId.a).inHusk = false) := by
  decide +kernel

theorem wit_PagesNeverWrittenReadErased :
    (koff.hub.powered = false ∧ koff.hub.conv = true ∧ koff.hub.nv.newest (BitVec.ofNat 16 (6 : Fin 128).val) = none) ∧
    (koff.hub.powered = false ∧ koff.hub.conv = true ∧ koff.hub.nv.newest (BitVec.ofNat 16 (64 : Fin 128).val) = none) := by
  decide +kernel

theorem wit_DuplicateAndStaleMessagesAreDiscarded :
    (st213.hub.active PlaneId.a = true ∧ (st213.hub.plane PlaneId.a).time.cyc = (3 : Fin 40).val ∧ (st213.hub.plane
     PlaneId.a).delivers (4 : Fin 32) = true ∧ (st213.hub.plane PlaneId.a).flt.inj.chk ≠ 2 ∧ (msgNum (0x03AB000000000000 :
     BitVec 64), BitVec.ofNat 8 (bits (0x03AB000000000000 : BitVec 64) 55 48)) ∈ (st213.hub.plane PlaneId.a).link[(4 : Fin
     32).val].bulkSeq) ∧
    (base.hub.active PlaneId.a = true ∧ (base.hub.plane PlaneId.a).time.cyc = (3 : Fin 40).val ∧ (base.hub.plane
     PlaneId.a).delivers (4 : Fin 32) = true ∧ (base.hub.plane PlaneId.a).flt.inj.chk ≠ 2 ∧ msgCycle (base.hub.plane
     PlaneId.a).time.now (0x0700000000001380 : BitVec 64) = some (50000000000 : ℕ) ∧ (50000000000 : ℕ) + (base.hub.plane
     PlaneId.a).sect.links[(4 : Fin 32).val].p.toNat < (base.hub.plane PlaneId.a).time.now) := by
  decide +kernel

theorem wit_OpenerInsideAWindowIsIgnored :
    (opened.hub.fabricRuns PlaneId.a = true ∧ (opened.hub.plane PlaneId.a).sect.fabric.wins[(63 : Fin 64).val].used = true
     ∧ (opened.hub.plane PlaneId.a).sect.fabric.wins[(63 : Fin 64).val].grid = false ∧ (opened.hub.plane
     PlaneId.a).sect.fabric.wins[(63 : Fin 64).val].opener = some (.ti 0 : Sig) ∧ (opened.hub.plane PlaneId.a).pulses (.ti
     0 : Sig) (5000 : ℕ) = ([⟨.ti 0, 5000, 2560007, 2, false⟩] : List Signal) ∧ (∀ g ∈ ([⟨.ti 0, 5000, 2560007, 2, false⟩]
     : List Signal), ∃ w ∈ (opened.hub.plane PlaneId.a).fab.wins[(63 : Fin 64).val], w.lo ≤ (g.tau : Int) ∧ (g.tau : Int) <
     w.hi)) := by
  repeat' apply And.intro
  all_goals decide +kernel

theorem wit_PowerAndKindlingComplete :
    (kDead.hub.powered = false ∧ kDead.hub.conv = false) ∧
    (kOff.hub.powered = false ∧ kOff.hub.conv = true) ∧
    (base.hub.powered = true) ∧
    (kState.hub.powered = true ∧ kState.hub.upstate = UpState.kindling ∧ kState.hub.cfg.applied = false ∧
     (Vector.replicate 2 (.bytes fImg) : Vector SlotRead 2)[↑kState.hub.cfg.boot] = SlotRead.bytes fImg ∧
     kState.hub.checkImage fImg = 0) := by
  decide +kernel

theorem wit_PlaneConditionsRaiseTheirSources :
    (st1.hub.active PlaneId.a = true) ∧
    (st1.hub.active PlaneId.a = true ∧ (st1.hub.plane PlaneId.a).oven.settled = false) ∧
    (base.hub.active PlaneId.a = true ∧ (base.hub.plane PlaneId.a).oven.gate = true) := by
  decide +kernel

theorem wit_GridInstantsCountTime :
    (base.hub.active PlaneId.a = true) := by
  decide +kernel

theorem wit_HousekeepingCommandsComplete :
    (base.hub.powered = true) ∧
    (st8.hub.powered = true ∧ (st8.hub.plane PlaneId.a).outq = OutRec.cause (3 : ℕ) :: ([] : List OutRec) ∧
     st8.hub.following = false) ∧
    (st9.hub.powered = true ∧ (st9.hub.plane PlaneId.a).outq = OutRec.cause (3 : ℕ) :: ([] : List OutRec) ∧
     st9.hub.following = true ∧ st9.hub.chim.out[3].q.length < 8) ∧
    (st10.hub.powered = true ∧ (st10.hub.plane PlaneId.a).outq = OutRec.log r0 :: ([.cause 3] : List OutRec) ∧
     st10.hub.log.blocked = false) ∧
    (st12.hub.powered = true ∧ (st12.hub.plane PlaneId.a).outq = OutRec.log r0 :: ([.cause 3] : List OutRec) ∧
     st12.hub.log.blocked = true) ∧
    (st13.hub.active PlaneId.a = true) ∧
    (st14.hub.powered = true ∧ st14.hub.log.waiting.length ≤ 64) ∧
    (st17.hub.powered = true ∧ st17.hub.compares (0 : Fin 3) = true) := by
  decide +kernel

theorem wit_HousekeepingCommandsComplete_2 :
    (st18.hub.powered = true ∧ st18.hub.compares (1 : Fin 3) = true) ∧
    (st19.hub.powered = true ∧ st19.hub.compares (2 : Fin 3) = true) ∧
    (st22.hub.powered = true ∧ st22.hub.compares (2 : Fin 3) = false) := by
  decide +kernel

theorem wit_ReferenceActivityAndTestsComplete :
    (base.hub.active PlaneId.a = true) ∧
    (st25.hub.active PlaneId.a = true ∧ (st25.hub.plane PlaneId.a).ref[(1 : Fin 4).val].state = RefState.wait) := by
  decide +kernel

theorem wit_QualityFollowsItsMessages :
    (base.hub.active PlaneId.a = true) ∧
    (st31.hub.active PlaneId.a = true ∧ (st31.hub.plane PlaneId.a).tcHeard (1 : Fin 2) = true) ∧
    (esS.hub.active PlaneId.a = true ∧ (esS.hub.plane PlaneId.a).esmc.pend = some (2 : BitVec 4)) := by
  decide +kernel

theorem wit_SwitchesStartAndCommit :
    (base.hub.active PlaneId.a = true) ∧
    (swp.hub.active PlaneId.a = true ∧ (swp.hub.plane PlaneId.a).sel.sw = some ({target := 0, left := 0} : Switch) ∧
     ({target := 0, left := 0} : Switch).left = 0 ∧ SwitchFits (swp.hub.plane PlaneId.a) ∧ (swp.hub.plane PlaneId.a).paused
     = false ∧ (swp.hub.plane PlaneId.a).ref[↑({target := 0, left := 0} : Switch).target].state = RefState.qualified ∧
     (swp.hub.plane PlaneId.a).ref[↑({target := 0, left := 0} : Switch).target].heldOut = false) ∧
    (st43.hub.active PlaneId.a = true ∧ (st43.hub.plane PlaneId.a).sel.sw = some ({target := 0, left := 0} : Switch) ∧
     ({target := 0, left := 0} : Switch).left = 0 ∧ SwitchFits (st43.hub.plane PlaneId.a) ∧ (st43.hub.plane
     PlaneId.a).paused = false ∧ ((st43.hub.plane PlaneId.a).ref[↑({target := 0, left := 0} : Switch).target].state ≠
     RefState.qualified ∨ (st43.hub.plane PlaneId.a).ref[↑({target := 0, left := 0} : Switch).target].heldOut = true)) ∧
    (swc.hub.active PlaneId.a = true ∧ (swc.hub.plane PlaneId.a).sel.sw = some ({target := 0, left := 0} : Switch) ∧
     ({target := 0, left := 0} : Switch).left = 0 ∧ SwitchFits (swc.hub.plane PlaneId.a) ∧ (swc.hub.plane PlaneId.a).paused
     = true) := by
  unfold SwitchFits
  decide +kernel

theorem wit_LoopCommandsComplete :
    (acq.hub.active PlaneId.a = true) ∧
    (HostMay base.hub (0 : PortId) PlaneId.a ∧ (base.hub.plane PlaneId.a).reloading = false ∧ base.hub.following = false) ∧
    (HostMay base.hub (0 : PortId) PlaneId.a ∧ (base.hub.plane PlaneId.a).reloading = false) ∧
    (HostMay base.hub (1 : PortId) PlaneId.b ∧ (base.hub.plane PlaneId.b).reloading = false) ∧
    (HostMay base.hub (1 : PortId) PlaneId.b) := by
  decide +kernel

theorem wit_GridIsRegisteredAndRealigned :
    (g1S.hub.active PlaneId.a = true ∧ (g1S.hub.plane PlaneId.a).markerCounts (.tc0 : MarkerSrc) = true ∧ (g1S.hub.plane
     PlaneId.a).markerValid (.tc0 : MarkerSrc) = true) ∧
    (g2S.hub.active PlaneId.a = true ∧ (g2S.hub.plane PlaneId.a).mayRegister = true ∧ (g2S.hub.plane PlaneId.a).firstSec =
     some (144 : Word)) ∧
    (st50.hub.active PlaneId.a = true ∧ (st50.hub.plane PlaneId.a).mayRegister = true ∧ (st50.hub.plane
     PlaneId.a).firstSec = some (9 : Word)) ∧
    (g3S.hub.active PlaneId.a = true ∧ (g3S.hub.plane PlaneId.a).ownsRealign = true ∧ (g3S.hub.plane
     PlaneId.a).grid.cap.isSome = true) ∧
    (HostMay st53.hub (1 : PortId) PlaneId.a ∧ (st53.hub.plane PlaneId.a).inHusk = false ∧ (st53.hub.plane
     PlaneId.a).sect.regSrc ≠ RegSource.none ∧ st53.hub.following = false) ∧
    (HostMay g3S.hub (1 : PortId) PlaneId.a ∧ (g3S.hub.plane PlaneId.a).inHusk = false ∧ g3S.hub.following = false) ∧
    (HostMay base.hub (1 : PortId) PlaneId.a ∧ (base.hub.plane PlaneId.a).inHusk = false ∧ -250000000 ≤ (249999999 : Int)
     ∧ (249999999 : Int) ≤ 249999999) ∧
    (HostMay base.hub (1 : PortId) PlaneId.a ∧ (base.hub.plane PlaneId.a).inHusk = false ∧ -250000000 ≤ (-250000000 : Int)
     ∧ (-250000000 : Int) ≤ 249999999) := by
  decide +kernel

theorem wit_ClockOutputEventsComplete :
    (base.hub.active PlaneId.a = true) ∧
    (st54.hub.active PlaneId.a = true ∧ (st54.hub.plane PlaneId.a).ck[(3 : Fin 16).val].run = CkRun.draining) ∧
    (st55.hub.active PlaneId.a = true ∧ (st55.hub.plane PlaneId.a).sect.ck[(3 : Fin 16).val].enabled = true ∧
     (st55.hub.plane PlaneId.a).ck[(3 : Fin 16).val].run = CkRun.stopped ∧ (st55.hub.plane PlaneId.a).ck[(3 : Fin
     16).val].gate = true ∧ (st55.hub.plane PlaneId.a).ck[(3 : Fin 16).val].released = true) ∧
    (st56.hub.active PlaneId.a = true ∧ (st56.hub.plane PlaneId.a).paused = false ∧ (st56.hub.plane PlaneId.a).ck[(3 : Fin
     16).val].moving = true) := by
  decide +kernel

theorem wit_PulseEventsComplete :
    (st57.hub.active PlaneId.a = true ∧ takeDue (st57.hub.plane PlaneId.a).pu[(3 : Fin 4).val].set.gen (st57.hub.plane
     PlaneId.a).pu[(3 : Fin 4).val].due = some ((777780 : ℕ), ([(0, 777790)] : List (Fin 8 × ℕ)))) ∧
    (st58.hub.active PlaneId.a = true ∧ takeDue (st58.hub.plane PlaneId.a).pu[(3 : Fin 4).val].set.gen (st58.hub.plane
     PlaneId.a).pu[(3 : Fin 4).val].due = some ((777780 : ℕ), ([(1, 777770), (0, 777790)] : List (Fin 8 × ℕ)))) ∧
    (st60.hub.active PlaneId.a = true) ∧
    (st62.hub.active PlaneId.a = true ∧ (st62.hub.plane PlaneId.a).trigOut[(3 : Fin 16).val].due = ((777780 : ℕ), (7 :
     Byte)) :: ([(777790,8)] : List (ℕ × Byte))) := by
  decide +kernel

theorem wit_OutputWritesCommitOrWait :
    (HostMay base.hub (0 : PortId) PlaneId.a) ∧
    (HostMay base.hub (0 : PortId) PlaneId.a ∧ (base.hub.plane PlaneId.a).inHusk = false ∧ (base.hub.plane
     PlaneId.a).covered = false ∧ (799 : BitVec 10).toNat ≤ 799 ∧ (base.hub.plane PlaneId.a).ck[(3 : Fin 16).val].wait = []
     ∧ (base.hub.plane PlaneId.a).ck[(3 : Fin 16).val].held = false) ∧
    (HostMay base.hub (0 : PortId) PlaneId.a ∧ (base.hub.plane PlaneId.a).inHusk = false ∧ (base.hub.plane
     PlaneId.a).covered = false ∧ (700 : BitVec 10).toNat ≤ 799 ∧ (base.hub.plane PlaneId.a).ck[(3 : Fin 16).val].wait = []
     ∧ (base.hub.plane PlaneId.a).ck[(3 : Fin 16).val].held = false) ∧
    (HostMay st65.hub (0 : PortId) PlaneId.a ∧ (st65.hub.plane PlaneId.a).inHusk = false ∧ (st65.hub.plane
     PlaneId.a).covered = false ∧ (3 : BitVec 10).toNat ≤ 799 ∧ (st65.hub.plane PlaneId.a).ck[(3 : Fin 16).val].wait = [] ∧
     (st65.hub.plane PlaneId.a).ck[(3 : Fin 16).val].held = false) ∧
    (HostMay base.hub (0 : PortId) PlaneId.a ∧ (base.hub.plane PlaneId.a).inHusk = false ∧ (base.hub.plane
     PlaneId.a).covered = false ∧ (9 : BitVec 24) ≠ 0 ∧ (base.hub.plane PlaneId.a).pu[(3 : Fin 4).val].wait = none) ∧
    (HostMay base.hub (0 : PortId) PlaneId.a ∧ (base.hub.plane PlaneId.a).inHusk = false ∧ (base.hub.plane
     PlaneId.a).covered = false ∧ (base.hub.plane PlaneId.a).trigOut[(3 : Fin 16).val].wait = none) ∧
    (HostMay held.hub (0 : PortId) PlaneId.a ∧ (held.hub.plane PlaneId.a).inHusk = false ∧ (held.hub.plane
     PlaneId.a).covered = true ∧ (799 : BitVec 10).toNat ≤ 799) ∧
    (HostMay held.hub (0 : PortId) PlaneId.a ∧ (held.hub.plane PlaneId.a).inHusk = false ∧ (held.hub.plane
     PlaneId.a).covered = true ∧ (⟨1,2,3,4⟩ : PuSet).width ≠ 0) := by
  decide +kernel

theorem wit_OutputWritesCommitOrWait_2 :
    (HostMay held.hub (0 : PortId) PlaneId.a ∧ (held.hub.plane PlaneId.a).inHusk = false ∧ (held.hub.plane
     PlaneId.a).covered = true) := by
  decide +kernel

theorem wit_QueueWritesCommit :
    (HostMay queued.hub (0 : PortId) PlaneId.a) ∧
    (HostMay base.hub (0 : PortId) PlaneId.a ∧ (msgCycle 0 (77 : BitVec 64)).isSome = true) ∧
    (HostMayAll base.hub (0 : PortId)) := by
  decide +kernel

theorem wit_TrainingHoldCommandsComplete :
    (HostMay base.hub (0 : PortId) PlaneId.a ∧ (base.hub.plane PlaneId.a).sect.groups[(31 : Fin 32).val].declared = true ∧
     (base.hub.plane PlaneId.a).power = Power.run) ∧
    (HostMay held.hub (0 : PortId) PlaneId.a ∧ (held.hub.plane PlaneId.a).sect.groups[(31 : Fin 32).val].declared = true) ∧
    (held.hub.active PlaneId.a = true) := by
  decide +kernel

theorem wit_LinkEventsComplete :
    (base.hub.active PlaneId.a = true) := by
  decide +kernel

theorem wit_LinkWritesCommit :
    (HostMay base.hub (2 : PortId) PlaneId.a ∧ (base.hub.plane PlaneId.a).inHusk = false ∧ BitVec.toNat (1000 : Word) ≤
     BitVec.toNat (base.hub.plane PlaneId.a).sect.links[(4 : Fin 32).val].dmax ∧ BitVec.toNat (1000000 : Word) ≤ 1000000) ∧
    (HostMay base.hub (2 : PortId) PlaneId.a ∧ (0x83FF : BitVec 16) &&& 31744 = 0) ∧
    (HostMay base.hub (2 : PortId) PlaneId.a ∧ (base.hub.plane PlaneId.a).inHusk = false ∧ bits (2048 : Word) 10 0 = 0 ∧
     bits (4096 : Word) 10 0 = 0) := by
  decide +kernel

theorem wit_HostMessagesEnterTheirQueue :
    (base.hub.active PlaneId.a = true ∧ (.statusReceived .a 4 3 W : Instr) ∈ [Instr.statusReceived PlaneId.a (4 : Fin 32)
     (3 : Fin 40) W, Instr.cmdAckReceived PlaneId.a (4 : Fin 32) (3 : Fin 40) W, Instr.upstreamBulkReceived PlaneId.a (4 :
     Fin 32) (3 : Fin 40) W, Instr.trainHoldCompleteReceived PlaneId.a (4 : Fin 32) (3 : Fin 40) W, Instr.primitiveReceived
     PlaneId.a (4 : Fin 32) (3 : Fin 40) W, Instr.upstreamVetoReceived PlaneId.a (4 : Fin 32) (3 : Fin 40) W]) ∧
    (downS.hub.active PlaneId.a = true ∧ (.cmdAckReceived .a 4 3 W : Instr) ∈ [Instr.statusReceived PlaneId.a (4 : Fin 32)
     (3 : Fin 40) W, Instr.cmdAckReceived PlaneId.a (4 : Fin 32) (3 : Fin 40) W, Instr.upstreamBulkReceived PlaneId.a (4 :
     Fin 32) (3 : Fin 40) W, Instr.trainHoldCompleteReceived PlaneId.a (4 : Fin 32) (3 : Fin 40) W, Instr.primitiveReceived
     PlaneId.a (4 : Fin 32) (3 : Fin 40) W, Instr.upstreamVetoReceived PlaneId.a (4 : Fin 32) (3 : Fin 40) W]) ∧
    (seekS.hub.active PlaneId.a = true ∧ (.upstreamBulkReceived .a 4 3 W : Instr) ∈ [Instr.statusReceived PlaneId.a (4 :
     Fin 32) (3 : Fin 40) W, Instr.cmdAckReceived PlaneId.a (4 : Fin 32) (3 : Fin 40) W, Instr.upstreamBulkReceived
     PlaneId.a (4 : Fin 32) (3 : Fin 40) W, Instr.trainHoldCompleteReceived PlaneId.a (4 : Fin 32) (3 : Fin 40) W,
     Instr.primitiveReceived PlaneId.a (4 : Fin 32) (3 : Fin 40) W, Instr.upstreamVetoReceived PlaneId.a (4 : Fin 32) (3 :
     Fin 40) W]) ∧
    (seekS.hub.active PlaneId.a = true ∧ (.trainHoldCompleteReceived .a 4 3 W : Instr) ∈ [Instr.statusReceived PlaneId.a
     (4 : Fin 32) (3 : Fin 40) W, Instr.cmdAckReceived PlaneId.a (4 : Fin 32) (3 : Fin 40) W, Instr.upstreamBulkReceived
     PlaneId.a (4 : Fin 32) (3 : Fin 40) W, Instr.trainHoldCompleteReceived PlaneId.a (4 : Fin 32) (3 : Fin 40) W,
     Instr.primitiveReceived PlaneId.a (4 : Fin 32) (3 : Fin 40) W, Instr.upstreamVetoReceived PlaneId.a (4 : Fin 32) (3 :
     Fin 40) W]) := by
  decide +kernel

theorem wit_HostMessagesEnterTheirQueue_2 :
    (injS.hub.active PlaneId.a = true ∧ (.primitiveReceived .a 4 3 W : Instr) ∈ [Instr.statusReceived PlaneId.a (4 : Fin
     32) (3 : Fin 40) W, Instr.cmdAckReceived PlaneId.a (4 : Fin 32) (3 : Fin 40) W, Instr.upstreamBulkReceived PlaneId.a
     (4 : Fin 32) (3 : Fin 40) W, Instr.trainHoldCompleteReceived PlaneId.a (4 : Fin 32) (3 : Fin 40) W,
     Instr.primitiveReceived PlaneId.a (4 : Fin 32) (3 : Fin 40) W, Instr.upstreamVetoReceived PlaneId.a (4 : Fin 32) (3 :
     Fin 40) W]) ∧
    (injS.hub.active PlaneId.a = true ∧ (.upstreamVetoReceived .a 4 30 W : Instr) ∈ [Instr.statusReceived PlaneId.a (4 :
     Fin 32) (30 : Fin 40) W, Instr.cmdAckReceived PlaneId.a (4 : Fin 32) (30 : Fin 40) W, Instr.upstreamBulkReceived
     PlaneId.a (4 : Fin 32) (30 : Fin 40) W, Instr.trainHoldCompleteReceived PlaneId.a (4 : Fin 32) (30 : Fin 40) W,
     Instr.primitiveReceived PlaneId.a (4 : Fin 32) (30 : Fin 40) W, Instr.upstreamVetoReceived PlaneId.a (4 : Fin 32) (30
     : Fin 40) W]) ∧
    (base.hub.active PlaneId.a = true ∧ ((base.hub.toCycle PlaneId.a (3 : Fin 40)).plane PlaneId.a).delivers (4 : Fin 32)
     = true ∧ (((base.hub.toCycle PlaneId.a (3 : Fin 40)).plane PlaneId.a).injectSlot (4 : Fin 32)).2 = false ∧ ((0x40,
     .statusReceived .a 4 3 W) : Byte × Instr) ∈ [(64, Instr.statusReceived PlaneId.a (4 : Fin 32) (3 : Fin 40) W), (33,
     Instr.cmdAckReceived PlaneId.a (4 : Fin 32) (3 : Fin 40) W)]) ∧
    (full8.hub.active PlaneId.a = true ∧ ((full8.hub.toCycle PlaneId.a (30 : Fin 40)).plane PlaneId.a).delivers (4 : Fin
     32) = true ∧ (((full8.hub.toCycle PlaneId.a (30 : Fin 40)).plane PlaneId.a).injectSlot (4 : Fin 32)).2 = false ∧
     ((0x21, .cmdAckReceived .a 4 30 W) : Byte × Instr) ∈ [(64, Instr.statusReceived PlaneId.a (4 : Fin 32) (30 : Fin 40)
     W), (33, Instr.cmdAckReceived PlaneId.a (4 : Fin 32) (30 : Fin 40) W)]) := by
  decide +kernel

theorem wit_HostMessagesEnterTheirQueue_3 :
    (st82.hub.active PlaneId.a = true ∧ ((st82.hub.toCycle PlaneId.a (3 : Fin 40)).plane PlaneId.a).delivers (4 : Fin 32)
     = true ∧ (((st82.hub.toCycle PlaneId.a (3 : Fin 40)).plane PlaneId.a).injectSlot (4 : Fin 32)).2 = false) ∧
    (hm3S.hub.active PlaneId.a = true ∧ ((hm3S.hub.toCycle PlaneId.a (3 : Fin 40)).plane PlaneId.a).delivers (4 : Fin 32)
     = true ∧ (((hm3S.hub.toCycle PlaneId.a (3 : Fin 40)).plane PlaneId.a).injectSlot (4 : Fin 32)).2 = false ∧ bits
     (0x8000000000050000 : BitVec 64) 23 16 = (5 : Fin 32).val) ∧
    (hm3S.hub.active PlaneId.a = true ∧ ((hm3S.hub.toCycle PlaneId.a (3 : Fin 40)).plane PlaneId.a).delivers (4 : Fin 32)
     = true ∧ (((hm3S.hub.toCycle PlaneId.a (3 : Fin 40)).plane PlaneId.a).injectSlot (4 : Fin 32)).2 = false ∧ bits
     (0x0000000000050000 : BitVec 64) 23 16 = (5 : Fin 32).val) := by
  decide +kernel

theorem wit_TimedMessagesAreHeldForRelease :
    (tmS.hub.active PlaneId.a = true ∧ ((tmS.hub.toCycle PlaneId.a (3 : Fin 40)).plane PlaneId.a).delivers (4 : Fin 32) =
     true ∧ (((tmS.hub.toCycle PlaneId.a (3 : Fin 40)).plane PlaneId.a).injectSlot (4 : Fin 32)).2 = false ∧ msgCycle
     ((tmS.hub.toCycle PlaneId.a (3 : Fin 40)).plane PlaneId.a).time.now (0x0700000000001380 : BitVec 64) = some
     (50000000000 : ℕ) ∧ ((tmS.hub.toCycle PlaneId.a (3 : Fin 40)).plane PlaneId.a).time.now ≤ (50000000000 : ℕ) +
     ((tmS.hub.toCycle PlaneId.a (3 : Fin 40)).plane PlaneId.a).sect.links[(4 : Fin 32).val].p.toNat) ∧
    (tmS.hub.active PlaneId.a = true ∧ ((tmS.hub.toCycle PlaneId.a (3 : Fin 40)).plane PlaneId.a).delivers (4 : Fin 32) =
     true ∧ (((tmS.hub.toCycle PlaneId.a (3 : Fin 40)).plane PlaneId.a).injectSlot (4 : Fin 32)).2 = false ∧ msgCycle
     ((tmS.hub.toCycle PlaneId.a (3 : Fin 40)).plane PlaneId.a).time.now (0x0600000000001380 : BitVec 64) = some
     (50000000000 : ℕ) ∧ ((tmS.hub.toCycle PlaneId.a (3 : Fin 40)).plane PlaneId.a).time.now ≤ (50000000000 : ℕ) +
     ((tmS.hub.toCycle PlaneId.a (3 : Fin 40)).plane PlaneId.a).sect.links[(4 : Fin 32).val].p.toNat) ∧
    (tmS.hub.active PlaneId.a = true ∧ ((tmS.hub.toCycle PlaneId.a (3 : Fin 40)).plane PlaneId.a).delivers (4 : Fin 32) =
     true ∧ (((tmS.hub.toCycle PlaneId.a (3 : Fin 40)).plane PlaneId.a).injectSlot (4 : Fin 32)).2 = false ∧ msgCycle
     ((tmS.hub.toCycle PlaneId.a (3 : Fin 40)).plane PlaneId.a).time.now (0x0900000000021380 : BitVec 64) = some
     (50000000000 : ℕ) ∧ ((tmS.hub.toCycle PlaneId.a (3 : Fin 40)).plane PlaneId.a).time.now ≤ (50000000000 : ℕ) +
     ((tmS.hub.toCycle PlaneId.a (3 : Fin 40)).plane PlaneId.a).sect.links[(4 : Fin 32).val].p.toNat) := by
  decide +kernel

theorem wit_TimedMessagesAreHeldForRelease_2 :
    (tmS.hub.active PlaneId.a = true ∧ ((tmS.hub.toCycle PlaneId.a (3 : Fin 40)).plane PlaneId.a).delivers (4 : Fin 32) =
     true ∧ (((tmS.hub.toCycle PlaneId.a (3 : Fin 40)).plane PlaneId.a).injectSlot (4 : Fin 32)).2 = false ∧ msgCycle
     ((tmS.hub.toCycle PlaneId.a (3 : Fin 40)).plane PlaneId.a).time.now (0x0800000000021380 : BitVec 64) = some
     (50000000000 : ℕ) ∧ ((tmS.hub.toCycle PlaneId.a (3 : Fin 40)).plane PlaneId.a).time.now ≤ (50000000000 : ℕ) +
     ((tmS.hub.toCycle PlaneId.a (3 : Fin 40)).plane PlaneId.a).sect.links[(4 : Fin 32).val].p.toNat) ∧
    (tmS.hub.active PlaneId.a = true ∧ ((tmS.hub.toCycle PlaneId.a (3 : Fin 40)).plane PlaneId.a).delivers (4 : Fin 32) =
     true ∧ (((tmS.hub.toCycle PlaneId.a (3 : Fin 40)).plane PlaneId.a).injectSlot (4 : Fin 32)).2 = false ∧ msgCycle
     ((tmS.hub.toCycle PlaneId.a (3 : Fin 40)).plane PlaneId.a).time.now (0x0900000000000080 : BitVec 64) = some
     (50000000000 : ℕ) ∧ ((tmS.hub.toCycle PlaneId.a (3 : Fin 40)).plane PlaneId.a).time.now ≤ (50000000000 : ℕ) +
     ((tmS.hub.toCycle PlaneId.a (3 : Fin 40)).plane PlaneId.a).sect.links[(4 : Fin 32).val].p.toNat) ∧
    (tmS.hub.active PlaneId.a = true ∧ ((tmS.hub.toCycle PlaneId.a (3 : Fin 40)).plane PlaneId.a).delivers (4 : Fin 32) =
     true ∧ (((tmS.hub.toCycle PlaneId.a (3 : Fin 40)).plane PlaneId.a).injectSlot (4 : Fin 32)).2 = false ∧ msgCycle
     ((tmS.hub.toCycle PlaneId.a (3 : Fin 40)).plane PlaneId.a).time.now (0x07FFFFFFFFFFFF80 : BitVec 64) = none) ∧
    (base.hub.active PlaneId.a = true ∧ ((base.hub.toCycle PlaneId.a (3 : Fin 40)).plane PlaneId.a).delivers (4 : Fin 32)
     = true ∧ (((base.hub.toCycle PlaneId.a (3 : Fin 40)).plane PlaneId.a).injectSlot (4 : Fin 32)).2 = false) := by
  decide +kernel

theorem wit_TrafficSlotCarriesTheCommandQueue :
    (st85.hub.active PlaneId.a = true ∧ (((st85.hub.toCycle PlaneId.a (Fin.ofNat 40 (5 * ((0 : Fin 7).val + 1)))).plane
     PlaneId.a).link[(4 : Fin 32).val].sends = false ∨ ((st85.hub.toCycle PlaneId.a (Fin.ofNat 40 (5 * ((0 : Fin 7).val +
     1)))).plane PlaneId.a).slotCut = true ∨ ((st85.hub.toCycle PlaneId.a (Fin.ofNat 40 (5 * ((0 : Fin 7).val + 1)))).plane
     PlaneId.a).fab.online = false)) ∧
    (st88.hub.active PlaneId.a = true ∧ ((st88.hub.toCycle PlaneId.a (Fin.ofNat 40 (5 * ((0 : Fin 7).val + 1)))).plane
     PlaneId.a).link[(4 : Fin 32).val].sends = true ∧ ((st88.hub.toCycle PlaneId.a (Fin.ofNat 40 (5 * ((0 : Fin 7).val +
     1)))).plane PlaneId.a).slotCut = false ∧ ((st88.hub.toCycle PlaneId.a (Fin.ofNat 40 (5 * ((0 : Fin 7).val +
     1)))).plane PlaneId.a).fab.online = true ∧ List.find? (fun i => ((st88.hub.toCycle PlaneId.a (Fin.ofNat 40 (5 * ((0 :
     Fin 7).val + 1)))).plane PlaneId.a).issuerTargets i (4 : Fin 32)) (List.filter (((st88.hub.toCycle PlaneId.a
     (Fin.ofNat 40 (5 * ((0 : Fin 7).val + 1)))).plane PlaneId.a).issuerReady ((0 : Fin 7).val + 1)) (List.finRange 32)) =
     some (6 : Fin 32) ∧ ((st88.hub.toCycle PlaneId.a (Fin.ofNat 40 (5 * ((0 : Fin 7).val + 1)))).plane
     PlaneId.a).fab.issuers[(6 : Fin 32).val] = some (⟨5000, 2560007, false, 100, 3⟩ : IssMsg)) ∧
    (st90.hub.active PlaneId.a = true ∧ ((st90.hub.toCycle PlaneId.a (Fin.ofNat 40 (5 * ((0 : Fin 7).val + 1)))).plane
     PlaneId.a).link[(4 : Fin 32).val].sends = true ∧ ((st90.hub.toCycle PlaneId.a (Fin.ofNat 40 (5 * ((0 : Fin 7).val +
     1)))).plane PlaneId.a).slotCut = false ∧ ((st90.hub.toCycle PlaneId.a (Fin.ofNat 40 (5 * ((0 : Fin 7).val +
     1)))).plane PlaneId.a).fab.online = true ∧ (∀ (i : Fin 32), ((st90.hub.toCycle PlaneId.a (Fin.ofNat 40 (5 * ((0 : Fin
     7).val + 1)))).plane PlaneId.a).issuerReady ((0 : Fin 7).val + 1) i = true → ((st90.hub.toCycle PlaneId.a (Fin.ofNat
     40 (5 * ((0 : Fin 7).val + 1)))).plane PlaneId.a).issuerTargets i (4 : Fin 32) = false) ∧ ((st90.hub.toCycle PlaneId.a
     (Fin.ofNat 40 (5 * ((0 : Fin 7).val + 1)))).plane PlaneId.a).link[(4 : Fin 32).val].tests = testW :: ([3] : List
     (BitVec 64)) ∧ (msgCycle ((st90.hub.toCycle PlaneId.a (Fin.ofNat 40 (5 * ((0 : Fin 7).val + 1)))).plane
     PlaneId.a).time.now testW).isSome = true) := by
  decide +kernel

theorem wit_TrafficSlotCarriesTheCommandQueue_2 :
    (st91.hub.active PlaneId.a = true ∧ ((st91.hub.toCycle PlaneId.a (Fin.ofNat 40 (5 * ((0 : Fin 7).val + 1)))).plane
     PlaneId.a).link[(0 : Fin 32).val].sends = true ∧ ((st91.hub.toCycle PlaneId.a (Fin.ofNat 40 (5 * ((0 : Fin 7).val +
     1)))).plane PlaneId.a).slotCut = false ∧ ((st91.hub.toCycle PlaneId.a (Fin.ofNat 40 (5 * ((0 : Fin 7).val +
     1)))).plane PlaneId.a).fab.online = true ∧ (∀ (i : Fin 32), ((st91.hub.toCycle PlaneId.a (Fin.ofNat 40 (5 * ((0 : Fin
     7).val + 1)))).plane PlaneId.a).issuerReady ((0 : Fin 7).val + 1) i = true → ((st91.hub.toCycle PlaneId.a (Fin.ofNat
     40 (5 * ((0 : Fin 7).val + 1)))).plane PlaneId.a).issuerTargets i (0 : Fin 32) = false) ∧ ((st91.hub.toCycle PlaneId.a
     (Fin.ofNat 40 (5 * ((0 : Fin 7).val + 1)))).plane PlaneId.a).link[(0 : Fin 32).val].tests = [] ∧ ((st91.hub.toCycle
     PlaneId.a (Fin.ofNat 40 (5 * ((0 : Fin 7).val + 1)))).plane PlaneId.a).groupHead (0 : Fin 32) = some ((3 : Fin 32),
     (ge 7 : GEntry))) ∧
    (st92.hub.active PlaneId.a = true ∧ ((st92.hub.toCycle PlaneId.a (Fin.ofNat 40 (5 * ((0 : Fin 7).val + 1)))).plane
     PlaneId.a).link[(0 : Fin 32).val].sends = true ∧ ((st92.hub.toCycle PlaneId.a (Fin.ofNat 40 (5 * ((0 : Fin 7).val +
     1)))).plane PlaneId.a).slotCut = false ∧ ((st92.hub.toCycle PlaneId.a (Fin.ofNat 40 (5 * ((0 : Fin 7).val +
     1)))).plane PlaneId.a).fab.online = true ∧ (∀ (i : Fin 32), ((st92.hub.toCycle PlaneId.a (Fin.ofNat 40 (5 * ((0 : Fin
     7).val + 1)))).plane PlaneId.a).issuerReady ((0 : Fin 7).val + 1) i = true → ((st92.hub.toCycle PlaneId.a (Fin.ofNat
     40 (5 * ((0 : Fin 7).val + 1)))).plane PlaneId.a).issuerTargets i (0 : Fin 32) = false) ∧ ((st92.hub.toCycle PlaneId.a
     (Fin.ofNat 40 (5 * ((0 : Fin 7).val + 1)))).plane PlaneId.a).link[(0 : Fin 32).val].tests = [] ∧ ((st92.hub.toCycle
     PlaneId.a (Fin.ofNat 40 (5 * ((0 : Fin 7).val + 1)))).plane PlaneId.a).groupHead (0 : Fin 32) = some ((31 : Fin 32),
     (ge 9 : GEntry))) := by
  decide +kernel

theorem wit_TrafficSlotCarriesTheCommandQueue_3 :
    (st93.hub.active PlaneId.a = true ∧ ((st93.hub.toCycle PlaneId.a (Fin.ofNat 40 (5 * ((0 : Fin 7).val + 1)))).plane
     PlaneId.a).link[(4 : Fin 32).val].sends = true ∧ ((st93.hub.toCycle PlaneId.a (Fin.ofNat 40 (5 * ((0 : Fin 7).val +
     1)))).plane PlaneId.a).slotCut = false ∧ ((st93.hub.toCycle PlaneId.a (Fin.ofNat 40 (5 * ((0 : Fin 7).val +
     1)))).plane PlaneId.a).fab.online = true ∧ (∀ (i : Fin 32), ((st93.hub.toCycle PlaneId.a (Fin.ofNat 40 (5 * ((0 : Fin
     7).val + 1)))).plane PlaneId.a).issuerReady ((0 : Fin 7).val + 1) i = true → ((st93.hub.toCycle PlaneId.a (Fin.ofNat
     40 (5 * ((0 : Fin 7).val + 1)))).plane PlaneId.a).issuerTargets i (4 : Fin 32) = false) ∧ ((st93.hub.toCycle PlaneId.a
     (Fin.ofNat 40 (5 * ((0 : Fin 7).val + 1)))).plane PlaneId.a).link[(4 : Fin 32).val].tests = [] ∧ ((st93.hub.toCycle
     PlaneId.a (Fin.ofNat 40 (5 * ((0 : Fin 7).val + 1)))).plane PlaneId.a).groupHead (4 : Fin 32) = none ∧
     ((st93.hub.toCycle PlaneId.a (Fin.ofNat 40 (5 * ((0 : Fin 7).val + 1)))).plane PlaneId.a).link[(4 : Fin
     32).val].dqCmd.q = (⟨0x20,77⟩ : QEntry) :: ([⟨0x20,88⟩] : List QEntry) ∧ heldCmd (((st93.hub.toCycle PlaneId.a
     (Fin.ofNat 40 (5 * ((0 : Fin 7).val + 1)))).plane PlaneId.a).damper (4 : Fin 32)) = false) ∧
    (st95.hub.active PlaneId.a = true ∧ ((st95.hub.toCycle PlaneId.a (Fin.ofNat 40 (5 * ((0 : Fin 7).val + 1)))).plane
     PlaneId.a).link[(4 : Fin 32).val].sends = true ∧ ((st95.hub.toCycle PlaneId.a (Fin.ofNat 40 (5 * ((0 : Fin 7).val +
     1)))).plane PlaneId.a).slotCut = false ∧ ((st95.hub.toCycle PlaneId.a (Fin.ofNat 40 (5 * ((0 : Fin 7).val +
     1)))).plane PlaneId.a).fab.online = true ∧ (∀ (i : Fin 32), ((st95.hub.toCycle PlaneId.a (Fin.ofNat 40 (5 * ((0 : Fin
     7).val + 1)))).plane PlaneId.a).issuerReady ((0 : Fin 7).val + 1) i = true → ((st95.hub.toCycle PlaneId.a (Fin.ofNat
     40 (5 * ((0 : Fin 7).val + 1)))).plane PlaneId.a).issuerTargets i (4 : Fin 32) = false) ∧ ((st95.hub.toCycle PlaneId.a
     (Fin.ofNat 40 (5 * ((0 : Fin 7).val + 1)))).plane PlaneId.a).link[(4 : Fin 32).val].tests = [] ∧ ((st95.hub.toCycle
     PlaneId.a (Fin.ofNat 40 (5 * ((0 : Fin 7).val + 1)))).plane PlaneId.a).groupHead (4 : Fin 32) = none ∧
     (((st95.hub.toCycle PlaneId.a (Fin.ofNat 40 (5 * ((0 : Fin 7).val + 1)))).plane PlaneId.a).link[(4 : Fin
     32).val].dqCmd.q = [] ∨ heldCmd (((st95.hub.toCycle PlaneId.a (Fin.ofNat 40 (5 * ((0 : Fin 7).val + 1)))).plane
     PlaneId.a).damper (4 : Fin 32)) = true) ∧ ((st95.hub.toCycle PlaneId.a (Fin.ofNat 40 (5 * ((0 : Fin 7).val +
     1)))).plane PlaneId.a).link[(4 : Fin 32).val].dqBulk.q = (⟨0x41,5⟩ : QEntry) :: ([] : List QEntry) ∧ heldBulk
     (((st95.hub.toCycle PlaneId.a (Fin.ofNat 40 (5 * ((0 : Fin 7).val + 1)))).plane PlaneId.a).damper (4 : Fin 32))
     (⟨0x41,5⟩ : QEntry).payload = false) := by
  decide +kernel

theorem wit_TrafficSlotCarriesTheCommandQueue_4 :
    (st97.hub.active PlaneId.a = true ∧ ((st97.hub.toCycle PlaneId.a (Fin.ofNat 40 (5 * ((0 : Fin 7).val + 1)))).plane
     PlaneId.a).link[(4 : Fin 32).val].sends = true ∧ ((st97.hub.toCycle PlaneId.a (Fin.ofNat 40 (5 * ((0 : Fin 7).val +
     1)))).plane PlaneId.a).slotCut = false ∧ ((st97.hub.toCycle PlaneId.a (Fin.ofNat 40 (5 * ((0 : Fin 7).val +
     1)))).plane PlaneId.a).fab.online = true ∧ (∀ (i : Fin 32), ((st97.hub.toCycle PlaneId.a (Fin.ofNat 40 (5 * ((0 : Fin
     7).val + 1)))).plane PlaneId.a).issuerReady ((0 : Fin 7).val + 1) i = true → ((st97.hub.toCycle PlaneId.a (Fin.ofNat
     40 (5 * ((0 : Fin 7).val + 1)))).plane PlaneId.a).issuerTargets i (4 : Fin 32) = false) ∧ ((st97.hub.toCycle PlaneId.a
     (Fin.ofNat 40 (5 * ((0 : Fin 7).val + 1)))).plane PlaneId.a).link[(4 : Fin 32).val].tests = [] ∧ ((st97.hub.toCycle
     PlaneId.a (Fin.ofNat 40 (5 * ((0 : Fin 7).val + 1)))).plane PlaneId.a).groupHead (4 : Fin 32) = none ∧
     (((st97.hub.toCycle PlaneId.a (Fin.ofNat 40 (5 * ((0 : Fin 7).val + 1)))).plane PlaneId.a).link[(4 : Fin
     32).val].dqCmd.q = [] ∨ heldCmd (((st97.hub.toCycle PlaneId.a (Fin.ofNat 40 (5 * ((0 : Fin 7).val + 1)))).plane
     PlaneId.a).damper (4 : Fin 32)) = true) ∧ (∀ e ∈ ((st97.hub.toCycle PlaneId.a (Fin.ofNat 40 (5 * ((0 : Fin 7).val +
     1)))).plane PlaneId.a).link[(4 : Fin 32).val].dqBulk.q.head?, heldBulk (((st97.hub.toCycle PlaneId.a (Fin.ofNat 40 (5
     * ((0 : Fin 7).val + 1)))).plane PlaneId.a).damper (4 : Fin 32)) e.payload = true)) := by
  decide +kernel

theorem wit_EverySlotIsCountedOnce :
    (st93.hub.active PlaneId.a = true) := by
  decide +kernel

theorem wit_CrossingsBecomeSignals :
    (base.hub.active PlaneId.a = true) ∧
    (st103.hub.fabricRuns PlaneId.a = true ∧ earliest (st103.hub.plane PlaneId.a).fab.held = some (⟨.ti 3, 50000040000, 7,
     50000040002, 0⟩ : HeldEvent)) ∧
    (st104.hub.fabricRuns PlaneId.a = true ∧ earliest (st104.hub.plane PlaneId.a).fab.held = some (⟨.ti 3, 50000040000, 7,
     50000040002, 5⟩ : HeldEvent)) ∧
    (PlaneId.a ≠ PlaneId.b ∧ base.hub.fabricRuns PlaneId.a = true ∧ base.hub.fabricRuns PlaneId.b = true ∧ List.find? (fun
     c => c.1 == PlaneId.b && c.2.1 == (5 : Fin 64)) (base.hub.plane PlaneId.a).sect.fabric.cross = some ((.b, 5, .ti 0) :
     PlaneId × Fin 64 × Sig)) ∧
    (chS.hub.fabricRuns PlaneId.a = true ∧ chS.hub.chim.opened = true ∧ chS.hub.udecl.chPair[(5 : Fin 8).val] = PlaneId.a) := by
  decide +kernel

theorem wit_FabricUnitsFire :
    (base.hub.fabricRuns PlaneId.a = true ∧ (base.hub.plane PlaneId.a).sect.fabric.wins[(63 : Fin 64).val].opener = some
     (.ti 0 : Sig) ∧ (base.hub.plane PlaneId.a).sect.fabric.wins[(63 : Fin 64).val].used = true ∧ (base.hub.plane
     PlaneId.a).sect.fabric.wins[(63 : Fin 64).val].grid = false ∧ (base.hub.plane PlaneId.a).pulses (.ti 0 : Sig) (5000 :
     ℕ) = (⟨.ti 0, 5000, 2560007, 2, false⟩ : Signal) :: ([] : List Signal)) ∧
    (opened.hub.fabricRuns PlaneId.a = true ∧ (opened.hub.plane PlaneId.a).sect.fabric.wins[(63 : Fin 64).val].used = true
     ∧ (opened.hub.plane PlaneId.a).sect.fabric.wins[(63 : Fin 64).val].grid = false ∧ List.find? (fun w => w.c0 == (5000 :
     ℕ)) (opened.hub.plane PlaneId.a).fab.wins[(63 : Fin 64).val] = some wo) ∧
    (gridS.hub.fabricRuns PlaneId.a = true ∧ (gridS.hub.plane PlaneId.a).sect.fabric.wins[(3 : Fin 64).val].used = true ∧
     (gridS.hub.plane PlaneId.a).sect.fabric.wins[(3 : Fin 64).val].grid = true ∧ gridClose (gridS.hub.plane
     PlaneId.a).sect.fabric.wins[(3 : Fin 64).val] (5006 : ℕ) = some ((gridClose gwin 5006).getD 0 : ℕ)) ∧
    (gridS.hub.fabricRuns PlaneId.a = true ∧ ((gridS.hub.plane PlaneId.a).sect.fabric.wins[(3 : Fin 64).val].used = false
     ∨ (gridS.hub.plane PlaneId.a).sect.fabric.wins[(3 : Fin 64).val].grid = true ∨ (gridS.hub.plane
     PlaneId.a).sect.fabric.wins[(3 : Fin 64).val].opener = none)) ∧
    (base.hub.fabricRuns PlaneId.a = true ∧ ((base.hub.plane PlaneId.a).sect.fabric.wins[(3 : Fin 64).val].used = false ∨
     (base.hub.plane PlaneId.a).sect.fabric.wins[(3 : Fin 64).val].grid = true ∧ gridClose (base.hub.plane
     PlaneId.a).sect.fabric.wins[(3 : Fin 64).val] (5007 : ℕ) = none ∨ (base.hub.plane PlaneId.a).sect.fabric.wins[(3 : Fin
     64).val].grid = false ∧ ((base.hub.plane PlaneId.a).fab.wins[(3 : Fin 64).val].any fun w => w.c0 == (5007 : ℕ)) =
     false)) := by
  decide +kernel

theorem wit_FabricUnitsFire_2 :
    (base.hub.fabricRuns PlaneId.a = true) ∧
    (base.hub.fabricRuns PlaneId.a = true ∧ (base.hub.plane PlaneId.a).sect.fabric.prescs[(31 : Fin 32).val].input = some
     (.ti 0 : Sig) ∧ (base.hub.plane PlaneId.a).pulses (.ti 0 : Sig) (5000 : ℕ) = (⟨.ti 0, 5000, 2560007, 2, false⟩ :
     Signal) :: ([] : List Signal)) ∧
    (base.hub.fabricRuns PlaneId.a = true ∧ (∀ o ∈ (base.hub.plane PlaneId.a).sect.fabric.prescs[(31 : Fin 32).val].input,
     (base.hub.plane PlaneId.a).pulses o (5001 : ℕ) = [])) := by
  decide +kernel

theorem wit_FabricMemoriesAreWrittenAndScrubbed :
    (HostMay base.hub (0 : PortId) PlaneId.a ∧ (base.hub.plane PlaneId.a).fab.online = true ∧ cellAccepts (base.hub.plane
     PlaneId.a).sect.fabric.cells[(127 : Fin 128).val] (100 : Word) = true) ∧
    (base.hub.fabricRuns PlaneId.a = true ∧ (base.hub.plane PlaneId.a).flt.inj.chk ≠ 3) := by
  decide +kernel

theorem wit_GeneratorCommandsComplete :
    (st109.hub.active PlaneId.a = true) ∧
    (st113.hub.active PlaneId.a = true ∧ isBeacon (5 : Fin 8) = true) ∧
    (genS.hub.active PlaneId.a = true ∧ isBeacon (4 : Fin 8) = true) ∧
    (HostMay genS.hub (0 : PortId) PlaneId.a ∧ (genS.hub.plane PlaneId.a).inHusk = false) ∧
    (HostMay genS.hub (0 : PortId) PlaneId.a ∧ (genS.hub.plane PlaneId.a).inHusk = false ∧ 8 ≤ BitVec.toNat (8 : Byte)) ∧
    (HostMay st114.hub (0 : PortId) PlaneId.a ∧ (st114.hub.plane PlaneId.a).inHusk = false ∧ 8 ≤ BitVec.toNat (255 :
     Byte)) ∧
    (HostMay genS.hub (0 : PortId) PlaneId.a ∧ (genS.hub.plane PlaneId.a).inHusk = false ∧ uperMin (genS.hub.plane
     PlaneId.a).sect.gens[7] ≤ BitVec.toNat (500000000 : Word) ∧ (tagCycle (200 : Word) (0x100 : Word)).isSome = true) := by
  decide +kernel

theorem wit_HuskIsEnteredAndLeft :
    (st115.hub.active PlaneId.a = true ∧ (st115.hub.plane PlaneId.a).flt.parity = [] ∧ ((43 : Fin 64).val, (777000 : ℕ)) ∈
     (st115.hub.plane PlaneId.a).flt.fired ∧ (st115.hub.plane PlaneId.a).dueSince (777000 : ℕ) = true ∧ (st115.hub.plane
     PlaneId.a).flt.src[(43 : Fin 64).val].sticky = true ∧ (st115.hub.plane PlaneId.a).flt.src[(43 : Fin 64).val].sev =
     Severity.safe) ∧
    (st116.hub.active PlaneId.a = true ∧ (st116.hub.plane PlaneId.a).flt.parity = [] ∧ ((0 : Fin 64).val, (777000 : ℕ)) ∈
     (st116.hub.plane PlaneId.a).flt.fired ∧ (st116.hub.plane PlaneId.a).dueSince (777000 : ℕ) = true ∧ (st116.hub.plane
     PlaneId.a).flt.src[(0 : Fin 64).val].sticky = true ∧ (st116.hub.plane PlaneId.a).flt.src[(0 : Fin 64).val].sev =
     Severity.safe) ∧
    (ufault.hub.active PlaneId.a = true ∧ (192 + (12 : Fin 32).val, (777770 : ℕ)) ∈ (ufault.hub.plane PlaneId.a).flt.fired
     ∧ (ufault.hub.plane PlaneId.a).dueSince (777770 : ℕ) = true ∧ ufault.hub.usrc[(12 : Fin 32).val].sticky = true ∧
     ufault.hub.usrc[(12 : Fin 32).val].sev = Severity.safe) ∧
    (HostMay huskS.hub (0 : PortId) PlaneId.a ∧ (huskS.hub.plane PlaneId.a).loop.state = LoopState.husk ∧
     huskS.hub.huskMayClear PlaneId.a = true) ∧
    (base.hub.active PlaneId.a = true) ∧
    (base.hub.powered = true ∧ (3 : Fin 8).val < 4) ∧
    (base.hub.powered = true ∧ 4 ≤ (4 : Fin 8).val) := by
  decide +kernel

theorem wit_PairEventsComplete :
    (base.hub.active PlaneId.a = true ∧ hasPair ⟨64 * PlaneId.a.num + (9 : Fin 64).val, by decide⟩ = true) ∧
    (base.hub.active PlaneId.c = true ∧ hasPair ⟨64 * PlaneId.c.num + (47 : Fin 64).val, by decide⟩ = true) ∧
    (base.hub.powered = true ∧ hasPair ⟨192 + (14 : Fin 32).val, by decide⟩ = true) ∧
    (base.hub.active PlaneId.b = true) ∧
    (base.hub.powered = true) := by
  decide +kernel

theorem wit_FaultWritesCommit :
    (HostMay st115.hub (0 : PortId) PlaneId.a ∧ (st115.hub.plane PlaneId.a).loop.forced = false) ∧
    (HostMay st122.hub (0 : PortId) PlaneId.a ∧ (st122.hub.plane PlaneId.a).loop.forced = true ∧ planeWide (37 : Fin
     64).val = true ∧ (st122.hub.plane PlaneId.a).firedHere (37 : Fin 64) = false ∧ (st122.hub.plane PlaneId.a).flt.uforce
     = 0 ∧ (∀ (m : Fin 64), m ≠ (37 : Fin 64) → planeWide ↑m = true → (st122.hub.plane PlaneId.a).flt.src[↑m].sev =
     Severity.isolate → (st122.hub.plane PlaneId.a).flt.src[↑m].sticky = false)) ∧
    (HostMay st124.hub (0 : PortId) PlaneId.a ∧ (st124.hub.plane PlaneId.a).loop.forced = true ∧ planeWide (14 : Fin
     64).val = true ∧ (st124.hub.plane PlaneId.a).firedHere (14 : Fin 64) = false ∧ (st124.hub.plane PlaneId.a).flt.uforce
     = 0 ∧ (∀ (m : Fin 64), m ≠ (14 : Fin 64) → planeWide ↑m = true → (st124.hub.plane PlaneId.a).flt.src[↑m].sev =
     Severity.isolate → (st124.hub.plane PlaneId.a).flt.src[↑m].sticky = false)) ∧
    (HostMayAll st126.hub (0 : PortId)) ∧
    (HostMay base.hub (0 : PortId) PlaneId.b ∧ (51 : Fin 64) ≠ 46 ∧ (51 : Fin 64).val < 52) ∧
    (HostMay st127.hub (0 : PortId) PlaneId.a ∧ (9 : Fin 64) ≠ 46 ∧ (9 : Fin 64).val < 52) ∧
    (HostMayAll base.hub (0 : PortId) ∧ (31 : Fin 32) ≠ 30) ∧
    (HostMay base.hub (0 : PortId) PlaneId.b ∧ (base.hub.plane PlaneId.b).power = Power.run ∧ ((2 : BitVec 3) ≠ 4 ∨
     base.hub.controlsAll (0 : PortId) = true ∧ base.hub.storeInjected PlaneId.b = false) ∧ injectRange (2 : BitVec 3)
     (false : Bool) (31 : BitVec 6) = false) := by
  repeat' apply And.intro
  all_goals decide +kernel

theorem wit_FaultWritesCommit_2 :
    (HostMay base.hub (0 : PortId) PlaneId.b ∧ (base.hub.plane PlaneId.b).power = Power.run ∧ ((3 : BitVec 3) ≠ 4 ∨
     base.hub.controlsAll (0 : PortId) = true ∧ base.hub.storeInjected PlaneId.b = false) ∧ injectRange (3 : BitVec 3)
     (true : Bool) (3 : BitVec 6) = false) ∧
    (HostMay st128.hub (0 : PortId) PlaneId.a ∧ (st128.hub.plane PlaneId.a).power = Power.run ∧ ((1 : BitVec 3) ≠ 4 ∨
     st128.hub.controlsAll (0 : PortId) = true ∧ st128.hub.storeInjected PlaneId.a = false) ∧ injectRange (1 : BitVec 3)
     (false : Bool) (0 : BitVec 6) = false) ∧
    (HostMay base.hub (0 : PortId) PlaneId.b ∧ (base.hub.plane PlaneId.b).power = Power.run ∧ ((4 : BitVec 3) ≠ 4 ∨
     base.hub.controlsAll (0 : PortId) = true ∧ base.hub.storeInjected PlaneId.b = false) ∧ injectRange (4 : BitVec 3)
     (false : Bool) (0 : BitVec 6) = false) ∧
    (HostMay st128.hub (0 : PortId) PlaneId.a ∧ (st128.hub.plane PlaneId.a).power = Power.run) := by
  decide +kernel

theorem wit_JoinCommandsComplete :
    (HostMayAll joinable.hub (0 : PortId) ∧ joinable.hub.anyHusk = false ∧ joinable.hub.joinFails (⟨true,true⟩ :
     PartnerReady) = false) ∧
    (HostMayAll joinable.hub (0 : PortId) ∧ (joinable.hub.anyHusk = true ∨ joinable.hub.joinFails (⟨true,false⟩ :
     PartnerReady) = true)) ∧
    (HostMayAll st129.hub (0 : PortId) ∧ (st129.hub.anyHusk = true ∨ st129.hub.joinFails (⟨true,true⟩ : PartnerReady) =
     true)) ∧
    (annP.hub.powered = true ∧ annP.hub.udecl.role = ImgRole.leader ∧ annP.hub.chim.joinPend = true) ∧
    (annF.hub.powered = true ∧ annF.hub.udecl.role = ImgRole.follower ∧ annF.hub.chim.role = Role.solo ∧
     annF.hub.chim.announced = false) ∧
    (st130.hub.powered = true ∧ st130.hub.joinDue = true) ∧
    (base.hub.powered = true ∧ base.hub.joinDue = false) ∧
    (st130.hub.powered = true ∧ st130.hub.chim.joinPend = true) := by
  decide +kernel

theorem wit_JoinCommandsComplete_2 :
    (base.hub.powered = true ∧ base.hub.chim.joinPend = false) := by
  decide +kernel

theorem wit_ChimneySeparatesAndSwitchesOver :
    (HostMayAll led.hub (0 : PortId) ∧ led.hub.chim.role = Role.leader ∧ led.hub.chim.joinPend = false) ∧
    (st133.hub.powered = true ∧ (st133.hub.chim.leavePend = true ∨ st133.hub.following = true)) ∧
    (led.hub.powered = true ∧ led.hub.chim.leavePend = false ∧ led.hub.following = false) ∧
    (st135.hub.powered = true ∧ st135.hub.joined = true ∧ st135.hub.chim.isUp 0 = false ∧ st135.hub.chim.isUp 1 = false) ∧
    (led.hub.powered = true ∧ (led.hub.joined = false ∨ led.hub.chim.isUp 0 = true ∨ led.hub.chim.isUp 1 = true)) ∧
    (st137.hub.powered = true) ∧
    (st138.hub.powered = true ∧ st138.hub.joined = true ∧ st138.hub.chim.isUp st138.hub.chim.active = false ∧
     st138.hub.chim.isUp (1 - st138.hub.chim.active) = true) ∧
    (led.hub.powered = true ∧ (led.hub.joined = false ∨ led.hub.chim.isUp led.hub.chim.active = true ∨ led.hub.chim.isUp
     (1 - led.hub.chim.active) = false)) := by
  decide +kernel

theorem wit_TunnelAndLaneThreeComplete :
    (led.hub.chim.role = Role.leader) ∧
    (base.hub.chim.role ≠ Role.leader) ∧
    (led.hub.chim.role = Role.leader ∧ 4 ≤ (7 : Fin 8).val) ∧
    ((led.hub.chim.role ≠ Role.leader ∨ (3 : Fin 8).val < 4)) ∧
    (fol.hub.powered = true ∧ fol.hub.following = true ∧ (0 : ℕ) = fol.hub.chim.tdone[↑(2 : PortId)] ∧
     fol.hub.chim.inq[↑(2 : PortId)].q.length < 8) ∧
    (fol.hub.powered = true ∧ fol.hub.following = true) ∧
    (led.hub.powered = true ∧ led.hub.chim.role = Role.leader) ∧
    (led.hub.powered = true ∧ led.hub.joined = true ∧ (led.hub.chim.role = Role.leader ∧ ((.leave : Lane3Act) =
     Lane3Act.leave ∨ ∃ ovf sec frame, (.leave : Lane3Act) = Lane3Act.snapshot ovf sec frame) ∨ led.hub.following = true ∧
     ((∃ ovf ago, (.leave : Lane3Act) = Lane3Act.ask ovf ago) ∨ ∃ pst, (.leave : Lane3Act) = Lane3Act.captured pst))) := by
  repeat' apply And.intro
  all_goals first | decide +kernel | exact .inl ⟨by decide +kernel, by simp⟩

theorem wit_TunnelAndLaneThreeComplete_2 :
    (led.hub.powered = true ∧ led.hub.joined = true ∧ (led.hub.chim.role = Role.leader ∧ ((.snapshot true 5 6 : Lane3Act)
     = Lane3Act.leave ∨ ∃ ovf sec frame, (.snapshot true 5 6 : Lane3Act) = Lane3Act.snapshot ovf sec frame) ∨
     led.hub.following = true ∧ ((∃ ovf ago, (.snapshot true 5 6 : Lane3Act) = Lane3Act.ask ovf ago) ∨ ∃ pst, (.snapshot
     true 5 6 : Lane3Act) = Lane3Act.captured pst))) ∧
    (fol.hub.powered = true ∧ fol.hub.joined = true ∧ (fol.hub.chim.role = Role.leader ∧ ((.ask true 6 : Lane3Act) =
     Lane3Act.leave ∨ ∃ ovf sec frame, (.ask true 6 : Lane3Act) = Lane3Act.snapshot ovf sec frame) ∨ fol.hub.following =
     true ∧ ((∃ ovf ago, (.ask true 6 : Lane3Act) = Lane3Act.ask ovf ago) ∨ ∃ pst, (.ask true 6 : Lane3Act) =
     Lane3Act.captured pst))) ∧
    (fol.hub.powered = true ∧ fol.hub.joined = true ∧ (fol.hub.chim.role = Role.leader ∧ ((.captured (Tri.same 6) :
     Lane3Act) = Lane3Act.leave ∨ ∃ ovf sec frame, (.captured (Tri.same 6) : Lane3Act) = Lane3Act.snapshot ovf sec frame) ∨
     fol.hub.following = true ∧ ((∃ ovf ago, (.captured (Tri.same 6) : Lane3Act) = Lane3Act.ask ovf ago) ∨ ∃ pst,
     (.captured (Tri.same 6) : Lane3Act) = Lane3Act.captured pst))) ∧
    (led.hub.powered = true ∧ led.hub.joined = true ∧ led.hub.active PlaneId.b = true) ∧
    (fol.hub.powered = true ∧ fol.hub.joined = true ∧ fol.hub.active PlaneId.b = true ∧ fol.hub.foreign (1 : PortId)
     PlaneId.b = false) := by
  repeat' apply And.intro
  all_goals first | decide +kernel | exact .inl ⟨by decide +kernel, by simp⟩ | exact .inr ⟨by decide +kernel, by simp⟩

theorem wit_SlotCommandsComplete :
    (base.hub.powered = true ∧ (base.hub.grants (1 : PortId)).image = true ∧ base.hub.eraseBarred (1 : Fin 2) = false) ∧
    (base.hub.powered = true ∧ base.hub.cfg.erasing = []) ∧
    (st142.hub.powered = true ∧ (st142.hub.grants (2 : PortId)).image = true ∧ st142.hub.openBarred (2 : PortId) (1 : Fin
     2) = false) ∧
    (opn.hub.powered = true ∧ (opn.hub.grants (2 : PortId)).image = true ∧ opn.hub.holdsOpen (2 : PortId) = some (1 : Fin
     2) ∧ opn.hub.blockUsed (1 : Fin 2) (32767 : Fin 32768).val = false ∧ 0 < ([1,2,3,4] : List Byte).length ∧ ([1,2,3,4] :
     List Byte).length ≤ 256 ∧ ([1,2,3,4] : List Byte).length % 4 = 0 ∧ (opn.hub.port (2 : PortId)).blocks.length < 2) ∧
    (opn.hub.powered = true ∧ (opn.hub.grants (2 : PortId)).image = true ∧ opn.hub.holdsOpen (2 : PortId) = some (1 : Fin
     2) ∧ opn.hub.blockUsed (1 : Fin 2) (0 : Fin 32768).val = false ∧ 0 < (List.replicate 256 7 : List Byte).length ∧
     (List.replicate 256 7 : List Byte).length ≤ 256 ∧ (List.replicate 256 7 : List Byte).length % 4 = 0 ∧ (opn.hub.port (2
     : PortId)).blocks.length < 2) ∧
    (blk.hub.powered = true ∧ 2 ≤ (blk.hub.port (2 : PortId)).blocks.length) ∧
    (blk.hub.powered = true ∧ (blk.hub.port (2 : PortId)).blocks = ((1 : Fin 2), (3 : ℕ), ([1,2,3,4] : List Byte)) ::
     ([(1,4,[5,6,7,8])] : List (Fin 2 × ℕ × List Byte))) ∧
    (opn.hub.powered = true ∧ (opn.hub.grants (2 : PortId)).image = true ∧ opn.hub.holdsOpen (2 : PortId) = some (1 : Fin
     2)) := by
  decide +kernel

theorem wit_SlotCommandsComplete_2 :
    (vfy.hub.powered = true ∧ vfy.hub.cfg.verifying = (1 : Fin 2) :: ([] : List (Fin 2))) ∧
    (vfd.hub.powered = true ∧ (vfd.hub.grants (1 : PortId)).image = true ∧ vfd.hub.cfg.slot[(1 : Fin 2).val].verified =
     true) ∧
    (ers.hub.powered = true ∧ ers.hub.cfg.erasing = (1 : Fin 2) :: ([0] : List (Fin 2))) := by
  decide +kernel

theorem wit_LoadsReachTheirPlanes :
    (vfd.hub.powered = true ∧ vfd.hub.loadReason (1 : PortId) (1 : Fin 2) = Reason.none) ∧
    (vfd5.hub.powered = true ∧ vfd5.hub.reloadReason (1 : PortId) (1 : Fin 2) (5 : BitVec 3) = Reason.none) ∧
    (rl.hub.powered = true ∧ (rl.hub.plane PlaneId.a).next = some ((1 : Fin 2), (1 : PortId)) ∧ (rl.hub.plane
     PlaneId.a).power = Power.run ∧ (rl.hub.plane PlaneId.a).inHusk = false) ∧
    (st144.hub.powered = true ∧ (st144.hub.plane PlaneId.a).next = some ((1 : Fin 2), (1 : PortId)) ∧ (st144.hub.plane
     PlaneId.a).reloading = true ∧ st144.hub.cfg.slot[(1 : Fin 2).val].file = some fImg) := by
  decide +kernel

theorem wit_HeldAndScheduledWritesCommit :
    (HostMay commS.hub (2 : PortId) PlaneId.a ∧ (commS.hub.plane PlaneId.a).commits = [{ heldWrite (2 : PortId) PlaneId.a
     (offOf PlaneId.a) (commS.hub.port (2 : PortId)).cfg (WriteKind.reg 8 (77 : Word)) with seen := (777770 : ℕ) }] ∧
     (777770 : ℕ) + 4 ≤ (commS.hub.plane PlaneId.a).time.clk - (commS.hub.plane PlaneId.a).time.cyc) ∧
    (HostMay st146.hub (2 : PortId) PlaneId.a ∧ (st146.hub.plane PlaneId.a).commits = [{ heldWrite (2 : PortId) PlaneId.a
     (offOf PlaneId.a) (st146.hub.port (2 : PortId)).cfg (WriteKind.reg 8 (77 : Word)) with seen := (777771 : ℕ) }] ∧
     (st146.hub.plane PlaneId.a).time.clk - (st146.hub.plane PlaneId.a).time.cyc < (777771 : ℕ) + 4) ∧
    (st147.hub.active PlaneId.a = true ∧ st147.hub.foreign (2 : PortId) PlaneId.a = false ∧ (st147.hub.plane
     PlaneId.a).commits = [{ heldWrite (2 : PortId) PlaneId.a (offOf PlaneId.a) (st147.hub.port (2 : PortId)).cfg
     (WriteKind.reg 8 (77 : Word)) with seen := (777770 : ℕ), tunnel := true }] ∧ (777770 : ℕ) + 4 ≤ (st147.hub.plane
     PlaneId.a).time.clk - (st147.hub.plane PlaneId.a).time.cyc) ∧
    (ucomm.hub.powered = true ∧ (ucomm.hub.grants (2 : PortId)).counters = true ∧ ucomm.hub.ucommits = [{ heldWrite (2 :
     PortId) PlaneId.a 0 (ucomm.hub.port (2 : PortId)).cfg (WriteKind.reg 23 8) with seen := (0 : ℕ) }] ∧ (0 : ℕ) <
     ucomm.hub.ticks) ∧
    (st148.hub.powered = true ∧ (st148.hub.grants (2 : PortId)).counters = true ∧ st148.hub.ucommits = [{ heldWrite (2 :
     PortId) PlaneId.a 0 (st148.hub.port (2 : PortId)).cfg (WriteKind.reg 23 8) with seen := (0 : ℕ) }] ∧ st148.hub.ticks ≤
     (0 : ℕ)) ∧
    (HostMay base.hub (2 : PortId) PlaneId.b ∧ base.hub.offset (2 : PortId) (0x4A : BitVec 7) = some (offOf PlaneId.b) ∧
     base.hub.acks (2 : PortId) (offOf PlaneId.b) = true ∧ (base.hub.port (2 : PortId)).asleep = false) := by
  decide +kernel

theorem wit_HeldAndScheduledWritesCommit_2 :
    (base.hub.powered = true ∧ (0x64000500 : Word) ≠ 4294967295 ∧ base.hub.schedReason (2 : PortId) (offOf PlaneId.a)
     (0x64000500 : Word) false false false = Reason.none) ∧
    (HostMay schS.hub (2 : PortId) PlaneId.a ∧ (schS.hub.port (2 : PortId)).scheds = [schd] ∧ schd.writes = [heldWrite (2
     : PortId) PlaneId.a (offOf PlaneId.a) (schS.hub.port (2 : PortId)).cfg (WriteKind.reg 8 (77 : Word))] ∧
     schS.hub.schedDue PlaneId.a schd = true) ∧
    (HostMay schS2.hub (2 : PortId) PlaneId.a ∧ (schS2.hub.port (2 : PortId)).scheds = [schd2] ∧ schd2.writes = [heldWrite
     (2 : PortId) PlaneId.a (offOf PlaneId.a) (schS2.hub.port (2 : PortId)).cfg (WriteKind.reg 8 (77 : Word))] ∧
     schS2.hub.schedDue PlaneId.a schd2 = false) ∧
    (schS.hub.powered = true ∧ schS.hub.controls (2 : PortId) PlaneId.a = true) := by
  decide +kernel

theorem wit_TransactionsStartAndEnd :
    (base.hub.powered = true ∧ (base.hub.port (1 : PortId)).answers = true) ∧
    (st149.hub.powered = true ∧ (st149.hub.port (1 : PortId)).answers = false) ∧
    (st150.hub.active PlaneId.b = true ∧ (st150.hub.port (1 : PortId)).answers = true ∧ (st150.hub.port (1 :
     PortId)).latch = some (latP false 0 0 : Latch) ∧ (latP false 0 0 : Latch).cfg = (st150.hub.port (1 : PortId)).cfg ∧
     (st150.hub.port (1 : PortId)).sleepDue = false ∧ st150.hub.offset (1 : PortId) (0x4A : BitVec 7) = some (offOf
     PlaneId.b) ∧ st150.hub.acks (1 : PortId) (offOf PlaneId.b) = true ∧ (st150.hub.port (1 : PortId)).asleep = false ∧
     (st150.hub.port (1 : PortId)).pec = false) ∧
    (st151.hub.active PlaneId.b = true ∧ (st151.hub.port (1 : PortId)).answers = true ∧ (st151.hub.port (1 :
     PortId)).latch = some (latP true 0 0 : Latch) ∧ (latP true 0 0 : Latch).cfg = (st151.hub.port (1 : PortId)).cfg ∧
     (st151.hub.port (1 : PortId)).sleepDue = false ∧ st151.hub.offset (1 : PortId) (0x4A : BitVec 7) = some (offOf
     PlaneId.b) ∧ st151.hub.acks (1 : PortId) (offOf PlaneId.b) = true ∧ (st151.hub.port (1 : PortId)).asleep = false ∧
     (st151.hub.port (1 : PortId)).pec = true) ∧
    (st151.hub.active PlaneId.b = true ∧ (st151.hub.port (1 : PortId)).answers = true ∧ (st151.hub.port (1 :
     PortId)).latch = some (latP true 0 0 : Latch) ∧ (latP true 0 0 : Latch).cfg = (st151.hub.port (1 : PortId)).cfg ∧
     (st151.hub.port (1 : PortId)).sleepDue = false ∧ st151.hub.offset (1 : PortId) (0x4A : BitVec 7) = some (offOf
     PlaneId.b) ∧ st151.hub.acks (1 : PortId) (offOf PlaneId.b) = true ∧ (st151.hub.port (1 : PortId)).asleep = false ∧
     (st151.hub.port (1 : PortId)).pec = true ∧ (0x12 : Byte) ≠ crc8 (BitVec.ofNat 8 ((0x4A : BitVec 7).toNat * 2) :: 8 ::
     wordBytes (0xDEADBEEF : Word))) := by
  repeat' apply And.intro
  all_goals decide +kernel

theorem wit_TransactionsStartAndEnd_2 :
    (st152.hub.active PlaneId.b = true ∧ (st152.hub.port (1 : PortId)).answers = true ∧ (st152.hub.port (1 :
     PortId)).latch = some (latP false 1 0 : Latch) ∧ (latP false 1 0 : Latch).cfg = (st152.hub.port (1 : PortId)).cfg ∧
     (st152.hub.port (1 : PortId)).sleepDue = false ∧ st152.hub.offset (1 : PortId) (0x4A : BitVec 7) = some (offOf
     PlaneId.b) ∧ st152.hub.acks (1 : PortId) (offOf PlaneId.b) = true ∧ (st152.hub.port (1 : PortId)).asleep = false ∧
     (latP false 1 0 : Latch).pointer ≠ 14 ∧ (latP false 1 0 : Latch).pointer ≠ 27 ∧ (st152.hub.port (1 : PortId)).pec =
     false) ∧
    (st153.hub.active PlaneId.b = true ∧ (st153.hub.port (1 : PortId)).answers = true ∧ (st153.hub.port (1 :
     PortId)).latch = some (latP false 0x1F 0 : Latch) ∧ (latP false 0x1F 0 : Latch).cfg = (st153.hub.port (1 :
     PortId)).cfg ∧ (st153.hub.port (1 : PortId)).sleepDue = false ∧ st153.hub.offset (1 : PortId) (0x4A : BitVec 7) = some
     (offOf PlaneId.b) ∧ st153.hub.acks (1 : PortId) (offOf PlaneId.b) = true ∧ (st153.hub.port (1 : PortId)).asleep =
     false ∧ (latP false 0x1F 0 : Latch).pointer ≠ 14 ∧ (latP false 0x1F 0 : Latch).pointer ≠ 27 ∧ (st153.hub.port (1 :
     PortId)).pec = false) ∧
    (st154.hub.active PlaneId.b = true ∧ (st154.hub.port (1 : PortId)).answers = true ∧ (st154.hub.port (1 :
     PortId)).latch = some (latP false 5 0x00700000 : Latch) ∧ (latP false 5 0x00700000 : Latch).cfg = (st154.hub.port (1 :
     PortId)).cfg ∧ (st154.hub.port (1 : PortId)).sleepDue = false ∧ st154.hub.offset (1 : PortId) (0x4A : BitVec 7) = some
     (offOf PlaneId.b) ∧ st154.hub.acks (1 : PortId) (offOf PlaneId.b) = true ∧ (st154.hub.port (1 : PortId)).asleep =
     false ∧ (latP false 5 0x00700000 : Latch).pointer ≠ 14 ∧ (latP false 5 0x00700000 : Latch).pointer ≠ 27 ∧
     (st154.hub.port (1 : PortId)).pec = false) := by
  repeat' apply And.intro
  all_goals decide +kernel

theorem wit_TransactionsStartAndEnd_3 :
    (st155.hub.active PlaneId.b = true ∧ (st155.hub.port (1 : PortId)).answers = true ∧ (st155.hub.port (1 :
     PortId)).latch = some (latP true 0x14 0 : Latch) ∧ (latP true 0x14 0 : Latch).cfg = (st155.hub.port (1 : PortId)).cfg
     ∧ (st155.hub.port (1 : PortId)).sleepDue = false ∧ st155.hub.offset (1 : PortId) (0x4A : BitVec 7) = some (offOf
     PlaneId.b) ∧ st155.hub.acks (1 : PortId) (offOf PlaneId.b) = true ∧ (st155.hub.port (1 : PortId)).asleep = false ∧
     (latP true 0x14 0 : Latch).pointer ≠ 14 ∧ (latP true 0x14 0 : Latch).pointer ≠ 27 ∧ (st155.hub.port (1 : PortId)).pec
     = true) ∧
    (st156.hub.active PlaneId.b = true ∧ (st156.hub.port (1 : PortId)).answers = true ∧ (st156.hub.port (1 :
     PortId)).latch = some (latP false 0x0E 0x81000005 : Latch) ∧ (latP false 0x0E 0x81000005 : Latch).cfg =
     (st156.hub.port (1 : PortId)).cfg ∧ (st156.hub.port (1 : PortId)).sleepDue = false ∧ st156.hub.offset (1 : PortId)
     (0x4A : BitVec 7) = some (offOf PlaneId.b) ∧ st156.hub.acks (1 : PortId) (offOf PlaneId.b) = true ∧ (st156.hub.port (1
     : PortId)).asleep = false ∧ (latP false 0x0E 0x81000005 : Latch).pointer = 14 ∧ (st156.hub.port (1 : PortId)).pec =
     false) ∧
    (st157.hub.active PlaneId.b = true ∧ (st157.hub.port (1 : PortId)).answers = true ∧ (st157.hub.port (1 :
     PortId)).latch = some (latP false 0x0E 0x02000005 : Latch) ∧ (latP false 0x0E 0x02000005 : Latch).cfg =
     (st157.hub.port (1 : PortId)).cfg ∧ (st157.hub.port (1 : PortId)).sleepDue = false ∧ st157.hub.offset (1 : PortId)
     (0x4A : BitVec 7) = some (offOf PlaneId.b) ∧ st157.hub.acks (1 : PortId) (offOf PlaneId.b) = true ∧ (st157.hub.port (1
     : PortId)).asleep = false ∧ (latP false 0x0E 0x02000005 : Latch).pointer = 14 ∧ (st157.hub.port (1 : PortId)).pec =
     false) := by
  repeat' apply And.intro
  all_goals decide +kernel

theorem wit_TransactionsStartAndEnd_4 :
    (st158.hub.active PlaneId.b = true ∧ (st158.hub.port (1 : PortId)).answers = true ∧ (st158.hub.port (1 :
     PortId)).latch = some (latP false 0x0E 0x890FFFFF : Latch) ∧ (latP false 0x0E 0x890FFFFF : Latch).cfg =
     (st158.hub.port (1 : PortId)).cfg ∧ (st158.hub.port (1 : PortId)).sleepDue = false ∧ st158.hub.offset (1 : PortId)
     (0x4A : BitVec 7) = some (offOf PlaneId.b) ∧ st158.hub.acks (1 : PortId) (offOf PlaneId.b) = true ∧ (st158.hub.port (1
     : PortId)).asleep = false ∧ (latP false 0x0E 0x890FFFFF : Latch).pointer = 14 ∧ (st158.hub.port (1 : PortId)).pec =
     false) ∧
    (st159.hub.active PlaneId.b = true ∧ (st159.hub.port (1 : PortId)).answers = true ∧ (st159.hub.port (1 :
     PortId)).latch = some (latP false 0x0E 0x8A000001 : Latch) ∧ (latP false 0x0E 0x8A000001 : Latch).cfg =
     (st159.hub.port (1 : PortId)).cfg ∧ (st159.hub.port (1 : PortId)).sleepDue = false ∧ st159.hub.offset (1 : PortId)
     (0x4A : BitVec 7) = some (offOf PlaneId.b) ∧ st159.hub.acks (1 : PortId) (offOf PlaneId.b) = true ∧ (st159.hub.port (1
     : PortId)).asleep = false ∧ (latP false 0x0E 0x8A000001 : Latch).pointer = 14 ∧ (st159.hub.port (1 : PortId)).pec =
     false) ∧
    (st160.hub.active PlaneId.b = true ∧ (st160.hub.port (1 : PortId)).answers = true ∧ (st160.hub.port (1 :
     PortId)).latch = some (latP false 0x0E 0x89000001 : Latch) ∧ (latP false 0x0E 0x89000001 : Latch).cfg =
     (st160.hub.port (1 : PortId)).cfg ∧ (st160.hub.port (1 : PortId)).sleepDue = false ∧ st160.hub.offset (1 : PortId)
     (0x4A : BitVec 7) = some (offOf PlaneId.b) ∧ st160.hub.acks (1 : PortId) (offOf PlaneId.b) = true ∧ (st160.hub.port (1
     : PortId)).asleep = false ∧ (latP false 0x0E 0x89000001 : Latch).pointer = 14 ∧ (st160.hub.port (1 : PortId)).pec =
     false) := by
  repeat' apply And.intro
  all_goals first | decide +kernel | rfl

theorem wit_TransactionsStartAndEnd_5 :
    (started.hub.powered = true) := by
  decide +kernel

theorem wit_PortFieldWritesCommit :
    (base.hub.powered = true ∧ base.hub.offset (1 : PortId) (0x4B : BitVec 7) = some (3 : Fin 8) ∧ (3 : Fin 8).val % 4 ≠ 0
     ∧ base.hub.rightAt (1 : PortId) (3 : Fin 8) ≠ Right.none ∧ wselRange (0x81000005 : Word) = false) ∧
    (base.hub.powered = true ∧ base.hub.offset (1 : PortId) (0x4B : BitVec 7) = some (3 : Fin 8) ∧ (3 : Fin 8).val % 4 ≠ 0
     ∧ base.hub.rightAt (1 : PortId) (3 : Fin 8) ≠ Right.none ∧ attnRange (0x20000005 : Word) = false) ∧
    (st162.hub.powered = true ∧ st162.hub.offset (1 : PortId) (0x4B : BitVec 7) = some (3 : Fin 8) ∧ (3 : Fin 8).val % 4 ≠
     0 ∧ st162.hub.rightAt (1 : PortId) (3 : Fin 8) ≠ Right.none ∧ bits (0x80000075 : Word) 30 21 = 0) ∧
    (st163.hub.powered = true) ∧
    (st165.hub.powered = true ∧ (st165.hub.offset (1 : PortId) (0x48 : BitVec 7)).isSome = true) ∧
    (st165.hub.powered = true ∧ st165.hub.offset (1 : PortId) (0x60 : BitVec 7) = none) := by
  decide +kernel

theorem wit_AttentionAndBusRecoveryComplete :
    (st166.hub.mayAttempt (0 : PortId) = true ∧ (st166.hub.port (0 : PortId)).msgs = (mg 3 0 : AttnMsg) :: ([mg 0 0] :
     List AttnMsg) ∧ (.attentionAttempt 0 .acked : Instr) ∈ [Instr.attentionAttempt (0 : PortId) AttnEnd.acked,
     Instr.attentionRetry (0 : PortId) AttnEnd.acked] ∧ ((.attentionAttempt 0 .acked : Instr) = Instr.attentionRetry (0 :
     PortId) AttnEnd.acked → (mg 3 0 : AttnMsg).retries ≠ 0)) ∧
    (st167.hub.mayAttempt (0 : PortId) = true ∧ (st167.hub.port (0 : PortId)).msgs = (mg 3 5 : AttnMsg) :: ([mg 0 0] :
     List AttnMsg) ∧ (.attentionRetry 0 .acked : Instr) ∈ [Instr.attentionAttempt (0 : PortId) AttnEnd.acked,
     Instr.attentionRetry (0 : PortId) AttnEnd.acked] ∧ ((.attentionRetry 0 .acked : Instr) = Instr.attentionRetry (0 :
     PortId) AttnEnd.acked → (mg 3 5 : AttnMsg).retries ≠ 0)) ∧
    (st166.hub.mayAttempt (0 : PortId) = true ∧ (st166.hub.port (0 : PortId)).msgs = (mg 3 0 : AttnMsg) :: ([mg 0 0] :
     List AttnMsg) ∧ (.attentionAttempt 0 .lostArb : Instr) ∈ [Instr.attentionAttempt (0 : PortId) AttnEnd.lostArb,
     Instr.attentionRetry (0 : PortId) AttnEnd.lostArb]) ∧
    (st167.hub.mayAttempt (0 : PortId) = true ∧ (st167.hub.port (0 : PortId)).msgs = (mg 3 5 : AttnMsg) :: ([mg 0 0] :
     List AttnMsg) ∧ (.attentionRetry 0 .lostArb : Instr) ∈ [Instr.attentionAttempt (0 : PortId) AttnEnd.lostArb,
     Instr.attentionRetry (0 : PortId) AttnEnd.lostArb]) ∧
    (st166.hub.mayAttempt (0 : PortId) = true ∧ (st166.hub.port (0 : PortId)).msgs = (mg 3 0 : AttnMsg) :: ([mg 0 0] :
     List AttnMsg) ∧ (.attentionAttempt 0 .nacked : Instr) ∈ [Instr.attentionAttempt (0 : PortId) AttnEnd.nacked,
     Instr.attentionRetry (0 : PortId) AttnEnd.nacked, Instr.attentionHoldTimeout (0 : PortId)] ∧ ((.attentionAttempt 0
     .nacked : Instr) = Instr.attentionRetry (0 : PortId) AttnEnd.nacked → (mg 3 0 : AttnMsg).retries ≠ 0) ∧ (mg 3 0 :
     AttnMsg).retries < 8) := by
  decide +kernel

theorem wit_AttentionAndBusRecoveryComplete_2 :
    (st168.hub.mayAttempt (0 : PortId) = true ∧ (st168.hub.port (0 : PortId)).msgs = (mg 3 8 : AttnMsg) :: ([mg 0 0] :
     List AttnMsg) ∧ (.attentionRetry 0 .nacked : Instr) ∈ [Instr.attentionAttempt (0 : PortId) AttnEnd.nacked,
     Instr.attentionRetry (0 : PortId) AttnEnd.nacked, Instr.attentionHoldTimeout (0 : PortId)] ∧ ((.attentionRetry 0
     .nacked : Instr) = Instr.attentionRetry (0 : PortId) AttnEnd.nacked → (mg 3 8 : AttnMsg).retries ≠ 0) ∧ 8 ≤ (mg 3 8 :
     AttnMsg).retries) ∧
    (st169.hub.mayAttempt (0 : PortId) = true ∧ (st169.hub.port (0 : PortId)).msgs = (mg 3 7 : AttnMsg) :: ([mg 0 0] :
     List AttnMsg) ∧ (.attentionHoldTimeout 0 : Instr) ∈ [Instr.attentionAttempt (0 : PortId) AttnEnd.nacked,
     Instr.attentionRetry (0 : PortId) AttnEnd.nacked, Instr.attentionHoldTimeout (0 : PortId)] ∧ ((.attentionHoldTimeout 0
     : Instr) = Instr.attentionRetry (0 : PortId) AttnEnd.nacked → (mg 3 7 : AttnMsg).retries ≠ 0) ∧ (mg 3 7 :
     AttnMsg).retries < 8) ∧
    (st168.hub.mayAttempt (0 : PortId) = true ∧ (st168.hub.port (0 : PortId)).msgs = (mg 3 8 : AttnMsg) :: ([mg 0 0] :
     List AttnMsg) ∧ (.attentionHoldTimeout 0 : Instr) ∈ [Instr.attentionAttempt (0 : PortId) AttnEnd.nacked,
     Instr.attentionRetry (0 : PortId) AttnEnd.nacked, Instr.attentionHoldTimeout (0 : PortId)] ∧ ((.attentionHoldTimeout 0
     : Instr) = Instr.attentionRetry (0 : PortId) AttnEnd.nacked → (mg 3 8 : AttnMsg).retries ≠ 0) ∧ 8 ≤ (mg 3 8 :
     AttnMsg).retries) ∧
    (base.hub.powered = true ∧ base.hub.controls (2 : PortId) PlaneId.c = true ∧ (2 : PortId) ≠ (1 : PortId)) := by
  decide +kernel

theorem wit_OwnershipCommandsComplete :
    (HostMay base.hub (2 : PortId) PlaneId.c) ∧
    (st173.hub.active PlaneId.a = true ∧ st173.hub.controls (2 : PortId) PlaneId.a = true ∧ (st173.hub.plane
     PlaneId.a).owner = some (1 : PortId) ∧ (1 : PortId) ≠ (2 : PortId)) ∧
    (st170.hub.powered = true ∧ (st170.hub.plane PlaneId.a).sect.ownto ≠ 0) ∧
    (st174.hub.powered = true ∧ (st174.hub.plane PlaneId.a).sect.ownto = 0) := by
  decide +kernel

theorem wit_StoreAccessesComplete :
    (base.hub.powered = true ∧ (base.hub.port (2 : PortId)).readLacks (63 : Fin 128) = false ∧ base.hub.storeInjector =
     none ∧ base.hub.nv.copyOk (63 : Fin 128) = true) ∧
    (st175.hub.powered = true ∧ (st175.hub.port (2 : PortId)).readLacks (119 : Fin 128) = false ∧ st175.hub.storeInjector
     = none ∧ st175.hub.nv.copyOk (119 : Fin 128) = true) ∧
    (base.hub.powered = true ∧ (base.hub.port (2 : PortId)).readLacks (63 : Fin 128) = false ∧
     (base.hub.storeInjector.isSome = true ∨ (false : Bool) = false ∨ base.hub.nv.copyOk (63 : Fin 128) = false)) ∧
    (st176.hub.powered = true ∧ (st176.hub.port (2 : PortId)).readLacks (63 : Fin 128) = false ∧
     (st176.hub.storeInjector.isSome = true ∨ (true : Bool) = false ∨ st176.hub.nv.copyOk (63 : Fin 128) = false)) ∧
    (wok.hub.powered = true ∧ wok.hub.writeLacks (2 : PortId) (119 : Fin 128) = false ∧ (119 : Fin 128).val < 120 ∧
     wok.hub.nv.lock = false ∧ wok.hub.nv.op = none) ∧
    (busy.hub.powered = true ∧ busy.hub.nv.op = some op0 ∧ op0.page.toNat < 128) ∧
    (stl.hub.nv.stale.contains (5 : Fin 128) = true) ∧
    (stl.hub.nv.stale.contains (6 : Fin 128) = false) := by
  decide +kernel

theorem wit_StoreAccessesComplete_2 :
    (base.hub.powered = true ∧ base.hub.pageContent (121 : Fin 128) (20 : Int) (30 : Int) (40 : Int) = some
     (((base.hub.pageContent 121 20 30 40).getD []) : List Byte) ∧ base.hub.nv.unchanged (121 : Fin 128)
     (((base.hub.pageContent 121 20 30 40).getD []) : List Byte) = false ∧ base.hub.nv.op = none ∧ base.hub.nv.waiting = []
     ∧ (∀ w ∈ base.hub.ucommits, base.hub.ticks ≤ w.seen)) ∧
    (base.hub.powered = true ∧ (∀ (data : List Byte), base.hub.pageContent (4 : Fin 128) (20 : Int) (30 : Int) (40 : Int)
     = some data → base.hub.nv.unchanged (4 : Fin 128) data = true)) ∧
    (busy.hub.powered = true ∧ busy.hub.pageContent (121 : Fin 128) (20 : Int) (30 : Int) (40 : Int) = some
     (((base.hub.pageContent 121 20 30 40).getD []) : List Byte) ∧ busy.hub.nv.unchanged (121 : Fin 128)
     (((base.hub.pageContent 121 20 30 40).getD []) : List Byte) = false ∧ (busy.hub.nv.op.isSome = true ∨ ∃ w ∈
     busy.hub.ucommits, w.seen < busy.hub.ticks)) ∧
    (page123.hub.powered = true ∧ (∀ (data : List Byte), page123.hub.pageContent (123 : Fin 128) (20 : Int) (30 : Int) (40
     : Int) = some data → page123.hub.nv.unchanged (123 : Fin 128) data = true)) := by
  repeat' apply And.intro
  all_goals decide +kernel

theorem wit_PasswordCommandsComplete :
    (base.hub.powered = true ∧ base.hub.nv.lock = false) ∧
    (st180.hub.powered = true ∧ st180.hub.nv.lock = true) ∧
    (wok.hub.powered = true ∧ wok.hub.nv.lock = false ∧ wok.hub.nv.op = none ∧ (wok.hub.port (2 : PortId)).wpwok = true ∧
     (wok.hub.grants (2 : PortId)).nvWrite = true) := by
  decide +kernel

theorem wit_SnapshotsAndAttestationComplete :
    (base.hub.powered = true ∧ (base.hub.grants (2 : PortId)).counters = true) ∧
    (snp.hub.powered = true ∧ snp.hub.snapPlane = some PlaneId.a ∧ snp.hub.snap.pending = true ∧ snp.hub.snap.tag = none ∧
     snp.hub.snapDue PlaneId.a = true) ∧
    (base.hub.powered = true ∧ base.hub.snapPlane = some PlaneId.a ∧ (base.hub.snap.pending = false ∨ base.hub.snapDue
     PlaneId.a = false)) ∧
    (base.hub.powered = true ∧ (base.hub.grants (2 : PortId)).auth = true ∧ base.hub.auth.busy = false) ∧
    (st186.hub.powered = true ∧ st186.hub.signReason (2 : PortId) = Reason.none) ∧
    (base.hub.powered = true ∧ (base.hub.auth.busy = false ∨ base.hub.auth.waiting = true)) ∧
    (sgn.hub.powered = true ∧ sgn.hub.auth.busy = true ∧ sgn.hub.auth.waiting = false ∧ sgn.hub.auth.selfOk = true ∧
     sgn.hub.usrc[14].live = false) ∧
    (st187.hub.powered = true ∧ st187.hub.auth.busy = true ∧ st187.hub.auth.waiting = false ∧ (st187.hub.auth.selfOk =
     false ∨ st187.hub.usrc[14].live = true)) := by
  decide +kernel

theorem wit_SnapshotsAndAttestationComplete_2 :
    (sgn.hub.powered = true) := by
  decide +kernel

theorem wit_StandbyCommandsComplete :
    (HostMay st189.hub (2 : PortId) PlaneId.a ∧ (st189.hub.plane PlaneId.a).inHusk = false ∧ st189.hub.standbyBarred
     PlaneId.a = false) ∧
    (ent.hub.active PlaneId.a = true ∧ (ent.hub.plane PlaneId.a).power = Power.entering ∧ (ent.hub.plane
     PlaneId.a).drained = true) ∧
    (base.hub.active PlaneId.a = true ∧ ((base.hub.plane PlaneId.a).power ≠ Power.entering ∨ (base.hub.plane
     PlaneId.a).drained = false)) ∧
    (ent.hub.powered = true ∧ ent.hub.controls (2 : PortId) PlaneId.a = true ∧ ent.hub.foreign (2 : PortId) PlaneId.a =
     false ∧ (ent.hub.plane PlaneId.a).power = Power.entering) ∧
    (st191.hub.powered = true ∧ st191.hub.controls (2 : PortId) PlaneId.a = true ∧ st191.hub.foreign (2 : PortId)
     PlaneId.a = false ∧ (st191.hub.plane PlaneId.a).power = Power.stopped) ∧
    (base.hub.powered = true ∧ base.hub.controls (2 : PortId) PlaneId.a = true ∧ base.hub.foreign (2 : PortId) PlaneId.a =
     false ∧ (base.hub.plane PlaneId.a).power = Power.run) ∧
    (st192.hub.powered = true ∧ (st192.hub.plane PlaneId.a).power = Power.leaving) ∧
    (base.hub.powered = true ∧ (base.hub.plane PlaneId.a).power ≠ Power.leaving) := by
  decide +kernel

theorem wit_StandbyCommandsComplete_2 :
    (st194.hub.powered = true ∧ st194.hub.ustbyReason (2 : PortId) = Reason.none) ∧
    (HostMayAll st195.hub (2 : PortId) ∧ st195.hub.ustby = true) ∧
    (HostMayAll base.hub (2 : PortId) ∧ base.hub.ustby = false) := by
  decide +kernel

theorem wit_FeedsFansAndEnvironmentAreJudged :
    (st196.hub.powered = true) := by
  decide +kernel

end Sys2Proof.Tests
end

section
/-! SUPPORT. Every command keeps every queue and buffer within its depth. A property of the lists that hold entries, for a plane, a
port, the Chimney and the hub; one lemma for each operation of the model, in the model's order; then one for each command. -/

namespace Sys2Proof.Machine

/-! ### Queues of a plane

A command can only lengthen a queue through the operations below, each of which looks for room first. -/

theorem upd_all {α : Type} {n : Nat} (P : α → Prop) {v : Vector α n} {f : α → α} (i : Fin n)
    (h : ∀ j : Fin n, P v[j.val]) (hf : P v[i.val] → P (f v[i.val])) (j : Fin n) : P (upd v i f)[j.val] := by
  by_cases e : i = j
  · subst e; rw [upd_get_same]; exact hf (h i)
  · rw [upd_get_ne _ _ _ _ e]; exact h j

/-- The four queues of a link hold no more than 8 entries each (R182). -/
def LinkFits (cmd bulk stat ubulk : List QEntry) : Prop :=
  cmd.length ≤ 8 ∧ bulk.length ≤ 8 ∧ stat.length ≤ 8 ∧ ubulk.length ≤ 8

/-- A link keeps its queues within their depth. -/
@[reducible, simp] def Link.Fits (k : Link) : Prop := LinkFits k.dqCmd.q k.dqBulk.q k.uqStat.q k.uqBulk.q

/-- An outgoing queue, the links and the group queues of a plane are within their depth (R42, R182). -/
def PlaneFits (o : List OutRec) (k : Vector Link 32) (g : Vector GQueue 32) : Prop :=
  o.length ≤ 16 ∧ (∀ l : Fin 32, k[l.val].Fits) ∧ ∀ i : Fin 32, g[i.val].q.length ≤ 8

/-- A plane keeps its queues within their depth. -/
@[reducible, simp] def Plane.Fits (x : Plane) : Prop := PlaneFits x.outq x.link x.gq

@[simp] theorem Queue.tick_q (q : Queue) (k : Nat) : (q.tick k).q = q.q := by unfold Queue.tick; split <;> rfl
@[simp] theorem GQueue.tick_q (q : GQueue) (k : Nat) : (q.tick k).q = q.q := by unfold GQueue.tick; split <;> rfl

/-- A push looks for room: the queue stays within its depth (R200). -/
theorem Queue.push_length {q : Queue} (e : QEntry) (h : q.q.length ≤ 8) : (q.push e).q.length ≤ 8 := by
  unfold Queue.push; split
  · rename_i k
    simp only [List.length_append, List.length_cons, List.length_nil]; exact k
  · exact h

theorem Queue.pop_length {q : Queue} (h : q.q.length ≤ 8) : q.pop.q.length ≤ 8 := by
  simp only [Queue.pop, List.length_drop]; omega

theorem GQueue.release_length {q : GQueue} (m : BitVec 32) (h : q.q.length ≤ 8) : (q.release m).q.length ≤ 8 :=
  (List.length_filter_le _ _).trans h

@[simp] theorem markFirst_length (l : Fin 32) (q : List GEntry) : (markFirst l q).length = q.length := by
  induction q with
  | nil => rfl
  | cons e rest ih => unfold markFirst; split <;> simp [ih]

/-! #### Links -/

theorem LinkFits.empty : LinkFits [] [] [] [] := ⟨by simp, by simp, by simp, by simp⟩

@[simp] theorem Link.Fits.ite {c : Prop} {d : Decidable c} {k m : Link} (hk : k.Fits) (hm : m.Fits) :
    (if c then k else m).Fits := by
  split
  · exact hk
  · exact hm

theorem Link.Fits.pushStat {k : Link} (h : k.Fits) (e : QEntry) : Link.Fits { k with uqStat := k.uqStat.push e } :=
  ⟨h.1, h.2.1, Queue.push_length e h.2.2.1, h.2.2.2⟩
theorem Link.Fits.pushUBulk {k : Link} (h : k.Fits) (e : QEntry) : Link.Fits { k with uqBulk := k.uqBulk.push e } :=
  ⟨h.1, h.2.1, h.2.2.1, Queue.push_length e h.2.2.2⟩
theorem Link.Fits.pushCmd {k : Link} (h : k.Fits) (e : QEntry) : Link.Fits { k with dqCmd := k.dqCmd.push e } :=
  ⟨Queue.push_length e h.1, h.2.1, h.2.2.1, h.2.2.2⟩
theorem Link.Fits.pushBulk {k : Link} (h : k.Fits) (e : QEntry) : Link.Fits { k with dqBulk := k.dqBulk.push e } :=
  ⟨h.1, Queue.push_length e h.2.1, h.2.2.1, h.2.2.2⟩
theorem Link.Fits.popStat {k : Link} (h : k.Fits) : Link.Fits { k with uqStat := k.uqStat.pop } :=
  ⟨h.1, h.2.1, Queue.pop_length h.2.2.1, h.2.2.2⟩
theorem Link.Fits.popUBulk {k : Link} (h : k.Fits) : Link.Fits { k with uqBulk := k.uqBulk.pop } :=
  ⟨h.1, h.2.1, h.2.2.1, Queue.pop_length h.2.2.2⟩
theorem Link.Fits.popCmd {k : Link} (h : k.Fits) : Link.Fits { k with dqCmd := k.dqCmd.pop } :=
  ⟨Queue.pop_length h.1, h.2.1, h.2.2.1, h.2.2.2⟩
theorem Link.Fits.popBulk {k : Link} (h : k.Fits) : Link.Fits { k with dqBulk := k.dqBulk.pop } :=
  ⟨h.1, Queue.pop_length h.2.1, h.2.2.1, h.2.2.2⟩

@[simp] theorem Link.Fits.clear (k : Link) : k.clear.Fits := LinkFits.empty
@[simp] theorem Link.Fits.start (k : Link) : k.start.Fits := LinkFits.empty
@[simp] theorem Link.Fits.tick {k : Link} (h : k.Fits) (n : Nat) : (k.tick n).Fits := by simpa [Link.tick] using h
@[simp] theorem Link.Fits.ms {k : Link} (h : k.Fits) (n : Nat) : (k.ms n).Fits := h
@[simp] theorem Link.Fits.clearOvf {k : Link} (h : k.Fits) (c : Link) : (k.clearOvf c).Fits := h
@[simp] theorem Link.Fits.image {k : Link} (h : k.Fits) (d : LinkDecl) : (k.image d).Fits := h
@[simp] theorem Link.Fits.putIdle {k : Link} (h : k.Fits) (d : BitVec 16) : (k.putIdle d).Fits := h
@[simp] theorem Link.putDirect_dqCmd (k : Link) (t : Byte) (v : BitVec 64) : (k.putDirect t v).dqCmd = k.dqCmd := by
  simp only [Link.putDirect, Link.put, Link.count]
@[simp] theorem Link.putDirect_dqBulk (k : Link) (t : Byte) (v : BitVec 64) : (k.putDirect t v).dqBulk = k.dqBulk := by
  simp only [Link.putDirect, Link.put, Link.count]
@[simp] theorem Link.putDirect_uqStat (k : Link) (t : Byte) (v : BitVec 64) : (k.putDirect t v).uqStat = k.uqStat := by
  simp only [Link.putDirect, Link.put, Link.count]
@[simp] theorem Link.putDirect_uqBulk (k : Link) (t : Byte) (v : BitVec 64) : (k.putDirect t v).uqBulk = k.uqBulk := by
  simp only [Link.putDirect, Link.put, Link.count]
theorem Link.Fits.putDirect {k : Link} (h : k.Fits) (t : Byte) (v : BitVec 64) : (k.putDirect t v).Fits := by simpa using h
@[simp] theorem Link.Fits.enter {k : Link} (h : k.Fits) (st : LinkState) : (k.enter st).Fits := by
  unfold Link.enter; dsimp only; (repeat' split) <;> exact h
@[simp] theorem Link.Fits.groupD {k : Link} (h : k.Fits) (m : Bool) : (k.groupD m).Fits := by
  unfold Link.groupD; dsimp only; (repeat' split) <;> exact h
@[simp] theorem Link.Fits.remember {k : Link} (h : k.Fits) (old : Link) (clk : Nat) : (k.remember old clk).Fits := by
  unfold Link.remember; split <;> exact h
@[simp] theorem Link.Fits.misplaced {k : Link} (h : k.Fits) (a : Option (Fin 800)) : (k.misplaced a).Fits := by
  unfold Link.misplaced; dsimp only; exact Link.Fits.ite h h
@[simp] theorem Link.Fits.resume {k : Link} (h : k.Fits) : k.resume.Fits := by
  unfold Link.resume; split <;> exact h
@[simp] theorem Link.Fits.takeDamper {k : Link} (h : k.Fits) (clk : Nat) : (k.takeDamper clk).Fits := by
  unfold Link.takeDamper; (repeat' split) <;> exact h
@[simp] theorem Link.Fits.setThr {k : Link} (h : k.Fits) (c : Fin 4) (n : BitVec 3) : (k.setThr c n).Fits := by
  unfold Link.setThr; (repeat' split) <;> exact h

/-! #### Planes -/

section
variable {o : List OutRec} {k : Vector Link 32} {g : Vector GQueue 32}

theorem PlaneFits.upd_link (h : PlaneFits o k g) (l : Fin 32) {f : Link → Link} (hf : ∀ m : Link, m.Fits → (f m).Fits) :
    PlaneFits o (upd k l f) g :=
  ⟨h.1, upd_all Link.Fits l h.2.1 (hf _), h.2.2⟩
theorem PlaneFits.ofFn_link (h : PlaneFits o k g) {f : Fin 32 → Link} (hf : ∀ l : Fin 32, (k[l.val]).Fits → (f l).Fits) :
    PlaneFits o (Vector.ofFn f) g :=
  ⟨h.1, fun l => by simpa using hf l (h.2.1 l), h.2.2⟩
theorem PlaneFits.map_link (h : PlaneFits o k g) {f : Link → Link} (hf : ∀ m : Link, m.Fits → (f m).Fits) :
    PlaneFits o (k.map f) g :=
  ⟨h.1, fun l => by simpa using hf _ (h.2.1 l), h.2.2⟩
theorem PlaneFits.upd_gq (h : PlaneFits o k g) (i : Fin 32) {f : GQueue → GQueue}
    (hf : (g[i.val]).q.length ≤ 8 → (f g[i.val]).q.length ≤ 8) : PlaneFits o k (upd g i f) :=
  ⟨h.1, h.2.1, upd_all (fun q : GQueue => q.q.length ≤ 8) i h.2.2 hf⟩
theorem PlaneFits.ofFn_gq (h : PlaneFits o k g) {f : Fin 32 → GQueue}
    (hf : ∀ i : Fin 32, (g[i.val]).q.length ≤ 8 → (f i).q.length ≤ 8) : PlaneFits o k (Vector.ofFn f) :=
  ⟨h.1, h.2.1, fun i => by simpa using hf i (h.2.2 i)⟩
theorem PlaneFits.map_gq (h : PlaneFits o k g) {f : GQueue → GQueue}
    (hf : ∀ q : GQueue, q.q.length ≤ 8 → (f q).q.length ≤ 8) : PlaneFits o k (g.map f) :=
  ⟨h.1, h.2.1, fun i => by simpa using hf _ (h.2.2 i)⟩

end

section
variable {c : Prop} {d : Decidable c} {x y : Plane}

@[simp] theorem Plane.Fits.ite (hx : x.Fits) (hy : y.Fits) : (if c then x else y).Fits := by
  split
  · exact hx
  · exact hy

theorem Plane.Fits.when (hx : x.Fits) (hy : x.Fits → y.Fits) : (if c then y else x).Fits := (hy hx).ite hx
theorem Plane.Fits.unless (hx : x.Fits) (hy : x.Fits → y.Fits) : (if c then x else y).Fits := hx.ite (hy hx)

end

theorem Plane.Fits.foldl {α : Type} {f : Plane → α → Plane} {l : List α} {x : Plane}
    (hf : ∀ (z : Plane) (a : α), z.Fits → (f z a).Fits) (h : x.Fits) : (l.foldl f x).Fits :=
  List.foldlRecOn (motive := Plane.Fits) l f h fun z hz a _ => hf z a hz

@[simp] theorem Plane.Fits.send_outq {x : Plane} {k : Vector Link 32} {g : Vector GQueue 32} (h : PlaneFits x.outq k g)
    (r : OutRec) : PlaneFits (x.send r).outq k g := by
  obtain ⟨ho, hk, hg⟩ := h
  refine ⟨?_, hk, hg⟩
  unfold Plane.send; split
  · rename_i room
    simp only [List.length_append, List.length_cons, List.length_nil]; exact room
  · split <;> exact ho

@[simp] theorem Plane.Fits.log_outq {x : Plane} {k : Vector Link 32} {g : Vector GQueue 32} (h : PlaneFits x.outq k g)
    (p : PlaneId) (t : Byte) (d : Vector Word 4) : PlaneFits (x.log p t d).outq k g :=
  Plane.Fits.send_outq h _

/-- A record enters the outgoing queue only where there is room (R42). -/
theorem Plane.Fits.send {x : Plane} {r : OutRec} (h : x.Fits) : (x.send r).Fits := by simp [h]
theorem Plane.Fits.log {x : Plane} {p : PlaneId} {t : Byte} {d : Vector Word 4} (h : x.Fits) : (x.log p t d).Fits := by simp [h]
theorem Plane.Fits.history {x : Plane} {b : Nat} (h : x.Fits) : (x.history b).Fits := by simp [h]

theorem Plane.Fits.modLink {x : Plane} {l : Fin 32} {f : Link → Link} (h : x.Fits) (hf : ∀ m : Link, m.Fits → (f m).Fits) :
    (x.modLink l f).Fits :=
  PlaneFits.upd_link h l hf

/-- Elapsing cycles count occupancies and move no entry (R409). -/
@[simp] theorem Plane.Fits.elapse {x : Plane} {k : Nat} (h : x.Fits) : (x.elapse k).Fits := by
  obtain ⟨f, c, l, g, a, o, t, e, hl, hg⟩ := Plane.elapse_only x k
  have hk : PlaneFits x.outq l x.gq := by
    rcases hl with rfl | rfl
    · exact h
    · exact h.map_link fun m hm => hm.tick k
  rw [e]
  rcases hg with rfl | rfl
  · exact hk
  · exact hk.map_gq fun q hq => by simpa using hq

/-! #### The operations of a plane -/

section
variable {x : Plane} {p : PlaneId} {l : Fin 32} {n : Fin 64} {r : Fin 4} {v : Int}

/-! Ops -/

@[simp] theorem Plane.Fits.countN {n : Fin 32} {k : Nat} (h : x.Fits) : (x.countN n k).Fits := h
@[simp] theorem Plane.Fits.count {n : Fin 32} (h : x.Fits) : (x.count n).Fits := h
@[simp] theorem Plane.Fits.raise {bit : Nat} (h : x.Fits) : (x.raise bit).Fits := h
@[simp] theorem Plane.Fits.setDet {b : Bool} (h : x.Fits) : (x.setDet n b).Fits := h
@[simp] theorem Plane.Fits.fireEvent (h : x.Fits) : (x.fireEvent n).Fits := h
@[simp] theorem Plane.Fits.judgeSource {seen : Nat} (h : x.Fits) : (x.judgeSource n seen).Fits := h
@[simp] theorem Plane.Fits.setRun {r : Option PairRun} (h : x.Fits) : (x.setRun n r).Fits := h

@[simp] theorem Plane.Fits.spendChecks {n : Nat} (h : x.Fits) : (x.spendChecks n).Fits := by
  unfold Plane.spendChecks; split <;> simp [h]

@[simp] theorem Plane.Fits.clearRatio (h : x.Fits) : x.clearRatio.Fits := h
@[simp] theorem Plane.Fits.advanceTo {c : Nat} (h : x.Fits) : (x.advanceTo c).Fits := by simp [Plane.advanceTo, h]

/-! Loop -/

@[simp] theorem Plane.Fits.loopSources (h : x.Fits) : x.loopSources.Fits := h
@[simp] theorem Plane.Fits.refreshBw (h : x.Fits) : x.refreshBw.Fits := h

@[simp] theorem Plane.Fits.setLoop {st : LoopState} (h : x.Fits) : (x.setLoop st).Fits := by
  unfold Plane.setLoop; dsimp only; (repeat' split) <;> simp [h]

@[simp] theorem Plane.Fits.slewFrame (h : x.Fits) : x.slewFrame.Fits := by simp [Plane.slewFrame, h]
@[simp] theorem Plane.Fits.discardResid (h : x.Fits) : (x.discardResid p).Fits := by simp [Plane.discardResid, h]
@[simp] theorem Plane.Fits.holdSteer (h : x.Fits) : (x.holdSteer v).Fits := by simp [Plane.holdSteer, h]

@[simp] theorem Plane.Fits.takeHoldover (h : x.Fits) : x.takeHoldover.Fits := by
  unfold Plane.takeHoldover; dsimp only; (repeat' split) <;> simp [h]

@[simp] theorem Plane.Fits.steerHeld (h : x.Fits) : x.steerHeld.Fits := by simp [Plane.steerHeld, h]
@[simp] theorem Plane.Fits.noActive (h : x.Fits) : x.noActive.Fits := h

@[simp] theorem Plane.Fits.toEmber (h : x.Fits) : (x.toEmber p v).Fits := by
  simp only [Plane.toEmber]; split
  · exact Plane.Fits.log (Plane.Fits.steerHeld h.holdSteer.takeHoldover.noActive.discardResid.setLoop)
  · exact h.holdSteer.takeHoldover.noActive.setLoop

@[simp] theorem Plane.Fits.toSoft (h : x.Fits) : (x.toSoft p v).Fits := by
  simp only [Plane.toSoft]; exact Plane.Fits.setLoop (h.holdSteer.discardResid)

@[simp] theorem Plane.Fits.resumeSoft (h : x.Fits) : (x.resumeSoft p).Fits := by unfold Plane.resumeSoft; split <;> simp [h]

@[simp] theorem Plane.Fits.switchRec {type : Byte} {new : Fin 4} {step : Int} (h : x.Fits) :
    (x.switchRec p type new step).Fits := by
  simp [Plane.switchRec, h]

@[simp] theorem Plane.Fits.abandonSwitch (h : x.Fits) : (x.abandonSwitch p).Fits := by
  unfold Plane.abandonSwitch; split
  · exact h
  · exact Plane.Fits.switchRec (Plane.Fits.count h)

@[simp] theorem Plane.Fits.startSwitch (h : x.Fits) : (x.startSwitch r).Fits := h

@[simp] theorem Plane.Fits.supersede {old new : Fin 4} (h : x.Fits) : (x.supersede p old new).Fits := by
  simp only [Plane.supersede]; exact (h.count.switchRec).startSwitch

@[simp] theorem Plane.Fits.review (h : x.Fits) : (x.review p).Fits := by
  unfold Plane.review; dsimp only; (repeat' split) <;> simp [h]

@[simp] theorem Plane.Fits.dropActive (h : x.Fits) : (x.dropActive p v).Fits := by
  unfold Plane.dropActive; split
  · exact h
  · exact h.ite (h.toEmber.ite h.noActive)

@[simp] theorem Plane.Fits.forceEmber (h : x.Fits) : (x.forceEmber p v).Fits := by
  unfold Plane.forceEmber; dsimp only; (repeat' split) <;> simp [h]

@[simp] theorem Plane.Fits.endForced (h : x.Fits) : (x.endForced p).Fits := by simp [Plane.endForced, h]
@[simp] theorem Plane.Fits.noteRealign (h : x.Fits) : x.noteRealign.Fits := by simp [Plane.noteRealign, h]
@[simp] theorem Plane.Fits.requestRealign (h : x.Fits) : x.requestRealign.Fits := by simp [Plane.requestRealign, h]
@[simp] theorem Plane.Fits.cancelRealign (h : x.Fits) : x.cancelRealign.Fits := by simp [Plane.cancelRealign, h]

@[simp] theorem Plane.Fits.enterHusk {n : Nat} (h : x.Fits) : (x.enterHusk p v n).Fits := by
  simp only [Plane.enterHusk]
  exact h.ite (Plane.Fits.log (Plane.Fits.steerHeld
    h.abandonSwitch.holdSteer.takeHoldover.discardResid.cancelRealign.noActive.setLoop))

@[simp] theorem Plane.Fits.leaveHusk (h : x.Fits) : (x.leaveHusk p).Fits := by simp [Plane.leaveHusk, h]

@[simp] theorem Plane.Fits.judgeLock {phase : Int} (h : x.Fits) : (x.judgeLock phase).Fits := by
  unfold Plane.judgeLock; split <;> simp [h]

@[simp] theorem Plane.Fits.phaseMs {mean : Int} (h : x.Fits) : (x.phaseMs mean).Fits := by
  unfold Plane.phaseMs; split <;> simp [h]

@[simp] theorem Plane.Fits.loopSecond (h : x.Fits) : (x.loopSecond v).Fits := by simp [Plane.loopSecond, h]

@[simp] theorem Plane.Fits.setModeRef {m : LoopMode} (h : x.Fits) : (x.setModeRef p v m r).Fits := by
  unfold Plane.setModeRef; dsimp only; (repeat' split) <;> simp [h]

@[simp] theorem Plane.Fits.setMode {m : LoopMode} (h : x.Fits) : (x.setMode p v m).Fits := by simp [Plane.setMode, h]
@[simp] theorem Plane.Fits.setFref (h : x.Fits) : (x.setFref p r).Fits := by simp [Plane.setFref, h]
@[simp] theorem Plane.Fits.setBw {c : BitVec 4} (h : x.Fits) : (x.setBw c).Fits := h
@[simp] theorem Plane.Fits.setFreq {w : Word} (h : x.Fits) : (x.setFreq w).Fits := h

/-! Queues -/

@[simp] theorem Plane.Fits.overflowed (h : x.Fits) : x.overflowed.Fits := h

@[simp] theorem Plane.Fits.gpush {g : Fin 32} {e : GEntry} (h : x.Fits) : (x.gpush g e).1.Fits := by
  unfold Plane.gpush; split
  · rename_i room
    refine PlaneFits.upd_gq h g fun _ => GQueue.release_length _ ?_
    simp only [List.length_append, List.length_cons, List.length_nil]; exact room
  · exact Plane.Fits.overflowed (PlaneFits.upd_gq h g id)

@[simp] theorem Plane.Fits.pushStat {e : QEntry} (h : x.Fits) : (x.pushStat l e).Fits := by
  simp only [Plane.pushStat]
  have t : (x.modLink l fun k => { k with uqStat := k.uqStat.push e }).Fits := h.modLink fun _ hm => hm.pushStat e
  exact t.overflowed.ite (t.raise.ite t)

@[simp] theorem Plane.Fits.pushBulk {payload : BitVec 64} (h : x.Fits) : (x.pushBulk l payload).Fits := by
  simp only [Plane.pushBulk]
  exact h.count.ite (Plane.Fits.ite (Plane.Fits.overflowed (h.modLink fun _ hm => hm)) (h.modLink fun _ hm => hm.pushUBulk _))

@[simp] theorem Plane.Fits.enqCmd {payload : BitVec 64} (h : x.Fits) : (x.enqCmd l payload).Fits := by
  simp only [Plane.enqCmd]
  exact Plane.Fits.when (h.modLink fun _ hm => hm.pushCmd _) fun t => t.overflowed

@[simp] theorem Plane.Fits.enqBulk {payload : BitVec 64} (h : x.Fits) : (x.enqBulk l payload).Fits := by
  simp only [Plane.enqBulk]
  exact Plane.Fits.when (h.modLink fun _ hm => hm.pushBulk _) fun t => t.overflowed

@[simp] theorem Plane.Fits.injectTest {payload : BitVec 64} (h : x.Fits) : (x.injectTest l payload).Fits := by
  simp only [Plane.injectTest]; exact h.modLink fun _ hm => hm

@[simp] theorem Plane.Fits.emptyQueues (h : x.Fits) : x.emptyQueues.Fits := by
  simp only [Plane.emptyQueues]
  exact Plane.Fits.countN ((PlaneFits.map_link h fun m _ => Link.Fits.clear m).map_gq fun _ _ => Nat.zero_le _)

@[simp] theorem Plane.Fits.requestHold {g : Fin 32} (h : x.Fits) : (x.requestHold g).Fits := h
@[simp] theorem Plane.Fits.endHold {g : Fin 32} (h : x.Fits) : (x.endHold g).Fits := h

@[simp] theorem Plane.Fits.sendHold {g : Fin 32} {st : BitVec 2} {limit : Nat} (h : x.Fits) : (x.sendHold g st limit).Fits := by
  simp only [Plane.sendHold]; exact h.gpush

@[simp] theorem Plane.Fits.expireHold {g : Fin 32} (h : x.Fits) : (x.expireHold g).Fits := by
  unfold Plane.expireHold; split <;> simp [h]

@[simp] theorem Plane.Fits.judgeHold {g : Fin 32} (h : x.Fits) : (x.judgeHold g).Fits := by
  unfold Plane.judgeHold; dsimp only; split <;> simp [h]

@[simp] theorem Plane.Fits.holdBoundary {g : Fin 32} (h : x.Fits) : (x.holdBoundary g).Fits := by
  simp only [Plane.holdBoundary]; split
  · exact h
  · exact h
  · exact Plane.Fits.raise (Plane.Fits.sendHold (Plane.Fits.when h fun t => t.expireHold))
  · exact Plane.Fits.judgeHold (Plane.Fits.raise (Plane.Fits.count (Plane.Fits.sendHold h)))
  · exact Plane.Fits.judgeHold h

@[simp] theorem Plane.Fits.dropHolds (h : x.Fits) : x.dropHolds.Fits := by unfold Plane.dropHolds; split <;> simp [h]

/-! Links -/

@[simp] theorem Plane.Fits.turnSched (h : x.Fits) : x.turnSched.Fits := by
  simp only [Plane.turnSched]; exact PlaneFits.ofFn_link h fun _ hk => hk

@[simp] theorem Plane.Fits.startSched (h : x.Fits) : x.startSched.Fits := by
  simp only [Plane.startSched]; exact PlaneFits.ofFn_link h fun _ hk => hk

@[simp] theorem Plane.Fits.linkSources (h : x.Fits) : x.linkSources.Fits := h

@[simp] theorem Plane.Fits.enterLink {st : LinkState} (h : x.Fits) : (x.enterLink l st).Fits := by
  simp only [Plane.enterLink]
  refine Plane.Fits.when (Plane.Fits.when (h.modLink fun _ hm => hm.enter st) fun t => t.modLink fun _ hm => hm) fun t => ?_
  exact Plane.Fits.foldl (fun z g hz => hz.when fun a => a.requestHold) t

@[simp] theorem Plane.Fits.setLink {st : LinkState} (h : x.Fits) : (x.setLink l st).Fits := by simp [Plane.setLink, h]

@[simp] theorem Plane.Fits.applyPending (h : x.Fits) : x.applyPending.Fits := by
  unfold Plane.applyPending; split
  · exact h
  · refine (Plane.Fits.foldl (fun z l hz => ?_) h).linkSources
    split
    · exact hz.enterLink
    · exact hz

@[simp] theorem Plane.Fits.lightLinks (h : x.Fits) : x.lightLinks.Fits := by
  simp only [Plane.lightLinks]; exact Plane.Fits.linkSources (Plane.Fits.foldl (fun z l hz => hz.when fun a => a.enterLink) h)

@[simp] theorem Plane.Fits.darkenLinks (h : x.Fits) : x.darkenLinks.Fits := by
  simp only [Plane.darkenLinks]; exact PlaneFits.map_link h fun _ hm => hm.enter .off

@[simp] theorem Plane.Fits.sendSlot0 {base : Nat} (h : x.Fits) : (x.sendSlot0 base).Fits := by
  simp only [Plane.sendSlot0, Plane.Fits]
  refine PlaneFits.ofFn_link (PlaneFits.map_link h ?_) fun l hk => Link.Fits.ite hk hk
  exact fun _ hm => hm

@[simp] theorem Plane.Fits.evalDamper (h : x.Fits) : x.evalDamper.Fits := by
  simp only [Plane.evalDamper]; exact PlaneFits.ofFn_link h fun _ hk => hk

@[simp] theorem Plane.Fits.latchGroup (h : x.Fits) : x.latchGroup.Fits := by
  simp only [Plane.latchGroup]; exact PlaneFits.ofFn_link h fun _ hk => hk

@[simp] theorem Plane.Fits.writeD {d turn : Word} (h : x.Fits) : (x.writeD l d turn).Fits := by
  simp only [Plane.writeD]; exact h.modLink fun _ hm => hm

@[simp] theorem Plane.Fits.badSlot (h : x.Fits) : (x.badSlot l).Fits := by
  simp only [Plane.badSlot]; exact h.modLink fun _ hm => hm

@[simp] theorem Plane.Fits.badSlot0 (h : x.Fits) : (x.badSlot0 l).Fits := by
  simp only [Plane.badSlot0]; exact h.badSlot.modLink fun _ hm => hm

@[simp] theorem Plane.Fits.injectSlot (h : x.Fits) : (x.injectSlot l).1.Fits := by unfold Plane.injectSlot; split <;> simp [h]

@[simp] theorem Plane.Fits.receive {f : Plane → Plane} (h : x.Fits) (hf : ∀ z : Plane, z.Fits → (f z).Fits) :
    (x.receive l f).Fits := by
  simp only [Plane.receive]
  exact h.ite (h.injectSlot.badSlot.ite ((hf _ h.injectSlot).ite h.injectSlot.count))

@[simp] theorem Plane.Fits.anomaly (h : x.Fits) : x.anomaly.Fits := h

@[simp] theorem Plane.Fits.timedUp {payload : BitVec 64} {veto : Bool} (h : x.Fits) : (x.timedUp l payload veto).Fits := by
  unfold Plane.timedUp; dsimp only; (repeat' split) <;> simp [h]

@[simp] theorem Plane.Fits.trainUp {payload : BitVec 64} (h : x.Fits) : (x.trainUp l payload).Fits := by
  unfold Plane.trainUp; dsimp only; split <;> simp [h]

@[simp] theorem Plane.Fits.goodSlot0 {base : Nat} {payload : BitVec 64} (h : x.Fits) : (x.goodSlot0 l base payload).Fits := by
  simp only [Plane.goodSlot0]; split
  · refine Plane.Fits.modLink (Plane.Fits.modLink (Plane.Fits.modLink h ?_) ?_) ?_
    all_goals exact fun _ hm => hm
  · refine Plane.Fits.anomaly (Plane.Fits.modLink (Plane.Fits.modLink h ?_) ?_)
    all_goals exact fun _ hm => hm

@[simp] theorem Plane.Fits.takeSlot0 {base : Nat} {ok : Bool} {comma : Comma} {payload : BitVec 64} (h : x.Fits) :
    (x.takeSlot0 l base ok comma payload).Fits := by
  simp only [Plane.takeSlot0]; split
  · exact Plane.Fits.modLink (h.unless fun t => t.badSlot0) fun _ hm => hm
  · split
    · exact Plane.Fits.ite (Plane.Fits.goodSlot0 (h.modLink fun _ hm => hm)) (Plane.Fits.badSlot0 (h.modLink fun _ hm => hm))
    · exact Plane.Fits.anomaly (h.badSlot0.modLink fun _ hm => hm.misplaced _)
    · exact Plane.Fits.anomaly (h.badSlot0.modLink fun _ hm => hm.misplaced _)

@[simp] theorem Plane.Fits.upSlot0 {base : Nat} {rx : Slot0Rx} (h : x.Fits) : (x.upSlot0 l base rx).Fits := by
  simp only [Plane.upSlot0]; exact h.ite (h.injectSlot.takeSlot0)

@[simp] theorem Plane.Fits.rttReading {r : Option Int} (h : x.Fits) : (x.rttReading l r).Fits := by
  simp only [Plane.rttReading]; split
  · exact h.modLink fun _ hm => hm
  · exact Plane.Fits.ite (h.modLink fun _ hm => hm) (h.modLink fun m hm => Link.Fits.ite hm hm)

@[simp] theorem Plane.Fits.linksMs {rtt : Vector (Option Int) 32} (h : x.Fits) : (x.linksMs rtt).Fits := by
  have t : ((List.finRange 32).foldl (fun (z : Plane) l => z.rttReading l rtt[l.val]) x).Fits :=
    Plane.Fits.foldl (fun z l hz => hz.rttReading) h
  simp only [Plane.linksMs]
  refine Plane.Fits.linkSources ?_
  simp only [Plane.Fits]
  exact (PlaneFits.ofFn_link t fun _ hk => hk.ms _).map_gq fun _ hq => hq

@[simp] theorem Plane.Fits.writeDamper {base : Nat} {w : BitVec 16} (h : x.Fits) : (x.writeDamper l base w).Fits := by
  simp only [Plane.writeDamper]
  exact Plane.Fits.when (h.modLink fun _ hm => hm) fun t => t.sendSlot0

/-! Fabric -/

@[simp] theorem Plane.Fits.evaluated {u : Sig} {ref : Nat} (h : x.Fits) : (x.evaluated u ref).Fits := h

@[simp] theorem Plane.Fits.drive {s : Signal} {i : Fin 32} (h : x.Fits) : (x.drive s i).Fits := by
  unfold Plane.drive; dsimp only; (repeat' split) <;> simp [h]

@[simp] theorem Plane.Fits.emit {s : Signal} (h : x.Fits) : (x.emit s).Fits := by
  simp only [Plane.emit]; exact Plane.Fits.foldl (fun z i hz => hz.drive) h

@[simp] theorem Plane.Fits.openerArrives {u : Fin 64} {s : Signal} (h : x.Fits) : (x.openerArrives u s).Fits := by
  unfold Plane.openerArrives; split <;> simp [h]

@[simp] theorem Plane.Fits.openWindow {u : Fin 64} {ref : Nat} (h : x.Fits) : (x.openWindow u ref).Fits := by
  unfold Plane.openWindow; dsimp only; split
  · exact h
  · exact h.ite (Plane.Fits.foldl (fun z s hz => hz.openerArrives) h.evaluated)

@[simp] theorem Plane.Fits.evalWindow {u : Fin 64} {ref : Nat} (h : x.Fits) : (x.evalWindow u ref).1.Fits := by
  unfold Plane.evalWindow; dsimp only; (repeat' split) <;> simp [h]

@[simp] theorem Plane.Fits.eccRead {mem : Fin 4} {word : Nat} {e : EccRead} (h : x.Fits) : (x.eccRead mem word e).1.Fits := by
  have t : (if x.flt.inj.chk == 3 && x.flt.inj.tgt.toNat == mem.val && x.flt.inj.left != 0 then x.spendChecks 1 else x).Fits :=
    h.when fun t => t.spendChecks
  simp only [Plane.eccRead]
  generalize (if x.flt.inj.chk == 3 && x.flt.inj.tgt.toNat == mem.val && x.flt.inj.left != 0 then x.spendChecks 1 else x) = y at t ⊢
  split
  · split
    · exact t.count
    · exact t
  · split
    · exact t.count.fireEvent.count
    · exact t.count.fireEvent
  · exact Plane.Fits.fireEvent (Plane.Fits.count (t.ite t))

@[simp] theorem Plane.Fits.evalCoinc {u : Fin 256} {ref : Nat} {ecc : EccRead} (h : x.Fits) :
    (x.evalCoinc u ref ecc).1.Fits := by
  unfold Plane.evalCoinc; dsimp only; (repeat' split) <;> simp [h]

@[simp] theorem Plane.Fits.rateInterval {second : Bool} (h : x.Fits) : (x.rateInterval second).Fits := h
@[simp] theorem Plane.Fits.discardFabric (h : x.Fits) : x.discardFabric.Fits := h
@[simp] theorem Plane.Fits.fabricOff (h : x.Fits) : x.fabricOff.Fits := h
@[simp] theorem Plane.Fits.judgeTi {i : Fin 16} {t : TiSense} (h : x.Fits) : (x.judgeTi i t).Fits := by simp [Plane.judgeTi, h]

@[simp] theorem Plane.Fits.tiMs {t : Vector TiSense 16} (h : x.Fits) : (x.tiMs t).Fits := by
  simp only [Plane.tiMs]; exact Plane.Fits.setDet (Plane.Fits.foldl (fun z i hz => hz.judgeTi) h)

@[simp] theorem Plane.Fits.setCell {c : Fin 128} {v : Word} (h : x.Fits) : (x.setCell c v).Fits := h

/-! Outputs -/

@[simp] theorem Plane.Fits.applyDelays (h : x.Fits) : x.applyDelays.Fits := by simp [Plane.applyDelays, h]
@[simp] theorem Plane.Fits.queueDelay {n : Fin 16} {k : BitVec 17} {f : BitVec 10} (h : x.Fits) : (x.queueDelay n k f).Fits := h

@[simp] theorem Plane.Fits.writeDelay {n : Fin 16} {k : BitVec 17} {f : BitVec 10} (h : x.Fits) :
    (x.writeDelay n k f).Fits := by
  simp [Plane.writeDelay, h]

@[simp] theorem Plane.Fits.fineMoves (h : x.Fits) : x.fineMoves.Fits := by simp [Plane.fineMoves, h]
@[simp] theorem Plane.Fits.releaseAll (h : x.Fits) : x.releaseAll.Fits := by simp [Plane.releaseAll, h]
@[simp] theorem Plane.Fits.releaseEarly (h : x.Fits) : x.releaseEarly.Fits := by simp [Plane.releaseEarly, h]

@[simp] theorem Plane.Fits.haltOutputs (h : x.Fits) : x.haltOutputs.Fits := by
  have t : ((List.finRange 16).foldl (fun (z : Plane) n => z.modCk n fun c => { c with halted := true }) x).Fits :=
    Plane.Fits.foldl (fun _ _ hz => hz) h
  simpa only [Plane.haltOutputs, Plane.Fits] using t

@[simp] theorem Plane.Fits.unhaltOutputs (h : x.Fits) : x.unhaltOutputs.Fits := h
@[simp] theorem Plane.Fits.writePu {n : Fin 4} {v : PuSet} (h : x.Fits) : (x.writePu n v).Fits := by simp [Plane.writePu, h]
@[simp] theorem Plane.Fits.pulseEvent {g : Fin 8} (h : x.Fits) : (x.pulseEvent g).Fits := h
@[simp] theorem Plane.Fits.writeTo {n : Fin 16} {f : Byte} (h : x.Fits) : (x.writeTo n f).Fits := by simp [Plane.writeTo, h]
@[simp] theorem Plane.Fits.resumeOutputs (h : x.Fits) : x.resumeOutputs.Fits := h

@[simp] theorem Plane.Fits.writeGate {o : Fin 20} {on : Bool} (h : x.Fits) : (x.writeGate o on).Fits := by
  unfold Plane.writeGate; split <;> exact h

@[simp] theorem Plane.Fits.isolateOut {o : Fin 20} {on : Bool} (h : x.Fits) : (x.isolateOut o on).Fits := by
  unfold Plane.isolateOut; split <;> exact h

@[simp] theorem Plane.Fits.senseSource {bad good : Nat} (h : x.Fits) : (x.senseSource n bad good).Fits := by
  simp only [Plane.senseSource]; exact h.setDet.ite (h.setDet.ite h)

@[simp] theorem Plane.Fits.senseOut {o : Fin 20} {t : TermSense} (h : x.Fits) : (x.senseOut o t).Fits := by
  unfold Plane.senseOut; dsimp only; (repeat' split) <;> simp [h]

@[simp] theorem Plane.Fits.senseAll {t : Vector TermSense 20} (h : x.Fits) : (x.senseAll t).Fits := by
  simp only [Plane.senseAll]; exact Plane.Fits.foldl (fun z o hz => hz.senseOut) h

/-! Registers -/

@[simp] theorem Plane.Fits.resample (h : x.Fits) : x.resample.Fits := by
  simp only [Plane.resample]
  refine Plane.Fits.setDet (Plane.Fits.setDet (Plane.Fits.setDet (Plane.Fits.setDet (Plane.Fits.linkSources ?_))))
  refine Plane.Fits.foldl (fun z n hz => hz.setDet) (Plane.Fits.setDet (Plane.Fits.loopSources (Plane.Fits.setDet ?_)))
  exact Plane.Fits.foldl (fun z i hz => hz.setDet.setDet) h

/-! Gens -/

@[simp] theorem Plane.Fits.modGen {g : Fin 8} {f : Gen → Gen} (h : x.Fits) : (x.modGen g f).Fits := h
@[simp] theorem Plane.Fits.misscheduled {g : Fin 8} (h : x.Fits) : (x.misscheduled g).Fits := h

@[simp] theorem Plane.Fits.genSend {g : Fin 8} {e : GEntry} (h : x.Fits) : (x.genSend g e).Fits := by
  have t : ((List.finRange 32).foldl (fun (a : Plane × Bool) i =>
      if bitAt x.sect.gens[g.val].groups i.val then
        let b := a.1.gpush i e
        (b.1, a.2 && b.2)
      else a) (x, true)).1.Fits := by
    refine List.foldlRecOn (motive := fun a : Plane × Bool => a.1.Fits) _ _ h fun a ha i _ => ?_
    split
    · exact ha.gpush
    · exact ha
  unfold Plane.genSend
  exact t.ite (t.misscheduled)

@[simp] theorem Plane.Fits.flushBeacons {g : Fin 8} {e : Nat} (h : x.Fits) : (x.flushBeacons g e).Fits := by
  simp only [Plane.flushBeacons]; split
  · exact h
  · exact h.ite (Plane.Fits.foldl (fun z i hz => hz.genSend) h.modGen)

@[simp] theorem Plane.Fits.enqueueEvent {g : Fin 8} {e : Nat} (h : x.Fits) : (x.enqueueEvent g e).Fits := by
  simp only [Plane.enqueueEvent]; split
  · split
    · exact h.modGen.genSend
    · exact h.modGen.unless fun t => t.genSend
  · exact h.modGen.genSend

@[simp] theorem Plane.Fits.genEnqueue {g : Fin 8} (h : x.Fits) : (x.genEnqueue g).Fits := by
  unfold Plane.genEnqueue; dsimp only; (repeat' split) <;> simp [h]

@[simp] theorem Plane.Fits.unsent {g : Fin 8} (h : x.Fits) : (x.unsent g).Fits := by unfold Plane.unsent; split <;> simp [h]
@[simp] theorem Plane.Fits.arrive {g : Fin 8} (h : x.Fits) : (x.arrive g).1.Fits := h

@[simp] theorem Plane.Fits.beaconEvent {g : Fin 8} (h : x.Fits) : (x.beaconEvent g).Fits := by
  have sent : ∀ {z : Plane}, z.Fits → ((if (x.arrive g).2 then z else z.unsent g).pulseEvent g).Fits :=
    fun hz => Plane.Fits.pulseEvent (hz.unless fun t => t.unsent)
  have t : (x.arrive g).1.Fits := h.arrive
  simp only [Plane.beaconEvent]; split
  · exact sent t
  · exact Plane.Fits.ite t.modGen (sent (by exact t))

@[simp] theorem Plane.Fits.genEvent {g : Fin 8} (h : x.Fits) : (x.genEvent g).Fits := by
  simp only [Plane.genEvent]
  refine h.ite (h.beaconEvent.ite (Plane.Fits.pulseEvent (Plane.Fits.when ?_ fun t => t.count)))
  exact h.arrive.modGen.unless fun t => t.unsent

@[simp] theorem Plane.Fits.gapOpens {g : Fin 8} (h : x.Fits) : (x.gapOpens g).Fits := by
  simp only [Plane.gapOpens]; split
  · exact h
  · refine Plane.Fits.unless (h.modGen.when fun t => ?_) fun t => t.pulseEvent
    exact Plane.Fits.foldl (fun z _ hz => hz.unsent) t

@[simp] theorem Plane.Fits.genRestart {org : Nat} (h : x.Fits) : (x.genRestart org).Fits := by
  simp only [Plane.genRestart]; exact Plane.Fits.countN (PlaneFits.map_gq h fun _ hq => (List.length_filter_le _ _).trans hq)

@[simp] theorem Plane.Fits.applyGen {g : Fin 8} {s : GenSet} (h : x.Fits) : (x.applyGen g s).Fits := by
  unfold Plane.applyGen
  exact Plane.Fits.ite h (Plane.Fits.ite h h)

@[simp] theorem Plane.Fits.writeGen {g : Fin 8} {f : GenSet → GenSet} (h : x.Fits) : (x.writeGen g f).Fits := by
  unfold Plane.writeGen; dsimp only; split <;> simp [h]

@[simp] theorem Plane.Fits.writeEpd {a b : Word} (h : x.Fits) : (x.writeEpd l a b).Fits := by
  simp only [Plane.writeEpd]
  exact Plane.Fits.ite (h.modLink fun _ hm => hm) (h.modLink fun _ hm => hm)

@[simp] theorem Plane.Fits.resumeGen {g : Fin 8} (h : x.Fits) : (x.resumeGen g).Fits := by
  unfold Plane.resumeGen; split <;> simp [h]

@[simp] theorem Plane.Fits.resumeAll (h : x.Fits) : x.resumeAll.Fits := by
  simp only [Plane.resumeAll, Plane.Fits]
  exact PlaneFits.map_link (Plane.Fits.foldl (fun z g hz => hz.resumeGen) h.resumeOutputs) fun _ hm => hm.resume

/-! Select -/

@[simp] theorem Plane.Fits.sweepDisputes (h : x.Fits) : x.sweepDisputes.Fits := h
@[simp] theorem Plane.Fits.refsChanged (h : x.Fits) : (x.refsChanged p).Fits := by simp [Plane.refsChanged, h]

@[simp] theorem Plane.Fits.setPrio {revert : Bool} {prio : Vector (BitVec 4) 4} (h : x.Fits) :
    (x.setPrio p revert prio).Fits := by
  simp [Plane.setPrio, h]

@[simp] theorem Plane.Fits.judgeRef (h : x.Fits) : (x.judgeRef p r).Fits := by
  simp only [Plane.judgeRef]
  refine Plane.Fits.ite h (Plane.Fits.refsChanged (Plane.Fits.setDet (Plane.Fits.setDet ?_)))
  refine Plane.Fits.ite ?_ (Plane.Fits.raise ?_) <;> exact h

@[simp] theorem Plane.Fits.modRef {f : Ref → Ref} (h : x.Fits) : (x.modRef p r f).Fits := by simp [Plane.modRef, h]

@[simp] theorem Plane.Fits.monitorStart {b000Year : Nat} (h : x.Fits) : (x.monitorStart b000Year).Fits := by
  simp only [Plane.monitorStart]; exact Plane.Fits.setDet (Plane.Fits.foldl (fun _ _ hz => (Plane.Fits.setDet hz).setDet) h)

@[simp] theorem Plane.Fits.followCross {hql : Nat} (h : x.Fits) : (x.followCross p hql).Fits := by
  simp only [Plane.followCross]
  refine Plane.Fits.ite (Plane.Fits.ite (Plane.Fits.refsChanged h) ?_) h
  refine Plane.Fits.refsChanged (Plane.Fits.setDet (Plane.Fits.setDet (Plane.Fits.raise ?_)))
  exact h

@[simp] theorem Plane.Fits.judgePair {q : Fin 4 × Fin 4} (h : x.Fits) : (x.judgePair q).Fits := by
  unfold Plane.judgePair; dsimp only; split <;> simp [h]

@[simp] theorem Plane.Fits.refSecond {freq : Vector Int 4} (h : x.Fits) : (x.refSecond p freq).Fits := by
  simp only [Plane.refSecond]
  refine Plane.Fits.refsChanged (Plane.Fits.foldl (fun z q hz => hz.judgePair) ?_)
  exact h

@[simp] theorem Plane.Fits.tick (h : x.Fits) : x.tick.Fits := by unfold Plane.tick; dsimp only; (repeat' split) <;> simp [h]

@[simp] theorem Plane.Fits.commitLoop {step dfreq : Int} (h : x.Fits) : (x.commitLoop step dfreq).Fits := by
  unfold Plane.commitLoop; dsimp only; (repeat' split) <;> simp [h]

@[simp] theorem Plane.Fits.commitSwitch {step dfreq : Int} (h : x.Fits) : (x.commitSwitch p step dfreq).Fits := by
  simp only [Plane.commitSwitch]; split
  · exact h
  · refine h.ite (Plane.Fits.ite h (Plane.Fits.ite (Plane.Fits.refreshBw (Plane.Fits.commitLoop ?_)) h.abandonSwitch))
    refine Plane.Fits.when (Plane.Fits.history ?_) fun t => t.fireEvent
    exact h.switchRec

/-! Faults -/

@[simp] theorem Plane.Fits.modSrc {f : Src → Src} (h : x.Fits) : (x.modSrc n f).Fits := h

@[simp] theorem Plane.Fits.isolateLinks {n : Fin 3} (h : x.Fits) : (x.isolateLinks n).Fits := by
  simp only [Plane.isolateLinks]; exact PlaneFits.ofFn_link h fun _ hk => Link.Fits.ite hk hk

@[simp] theorem Plane.Fits.disableInputs (h : x.Fits) : x.disableInputs.Fits := h
@[simp] theorem Plane.Fits.holdRefs (h : x.Fits) : (x.holdRefs p).Fits := by simp [Plane.holdRefs, h]

@[simp] theorem Plane.Fits.isolateElement (h : x.Fits) : (x.isolateElement p n).Fits := by
  unfold Plane.isolateElement
  exact h.holdRefs.ite (h.isolateOut.ite (h.disableInputs.ite
    (h.isolateLinks.ite (h.isolateLinks.ite (h.isolateLinks.ite h)))))

@[simp] theorem Plane.Fits.isolateMore (h : x.Fits) : x.isolateMore.Fits := by
  simp only [Plane.isolateMore]
  exact Plane.Fits.when (Plane.Fits.when (Plane.Fits.when (h.when fun t => t.disableInputs) fun t => t.isolateLinks)
    fun t => t.isolateLinks) fun t => t.isolateLinks

@[simp] theorem Plane.Fits.releaseLinks {n : Fin 3} (h : x.Fits) : (x.releaseLinks n).Fits := by
  simp only [Plane.releaseLinks]; exact PlaneFits.map_link h fun _ hm => hm

@[simp] theorem Plane.Fits.reactTo (h : x.Fits) : (x.reactTo p n).Fits := by
  simp only [Plane.reactTo]; split
  · exact h
  · have t : ∀ (c : Prop) [Decidable c], (if c then x else x.raise 12).Fits := fun _ _ => h.unless fun t => t.raise
    split
    · exact t _
    · exact t _
    · exact (t _).ite (Plane.Fits.isolateElement (t _))
    · exact t _

@[simp] theorem Plane.Fits.parityFault {g : Fin 8} {seen : Nat} (h : x.Fits) : (x.parityFault g seen).Fits := by
  simp only [Plane.parityFault, Plane.setDetAt, Plane.Fits]
  exact h

@[simp] theorem Plane.Fits.parityFaults (h : x.Fits) : x.parityFaults.Fits := by
  simp only [Plane.parityFaults]; exact Plane.Fits.foldl (fun z e hz => hz.parityFault) h

@[simp] theorem Plane.Fits.restartDetector (h : x.Fits) : (x.restartDetector n).Fits := by
  unfold Plane.restartDetector
  repeat' apply Plane.Fits.ite
  any_goals exact h
  all_goals exact PlaneFits.map_link h fun _ hm => hm

@[simp] theorem Plane.Fits.liftElement (h : x.Fits) : (x.liftElement p n).Fits := by
  unfold Plane.liftElement
  exact h.holdRefs.ite (h.isolateOut.ite (Plane.Fits.ite h
    (h.releaseLinks.ite (h.releaseLinks.ite (h.releaseLinks.ite h)))))

@[simp] theorem Plane.Fits.clearSticky (h : x.Fits) : (x.clearSticky p n).Fits := by
  simp only [Plane.clearSticky]
  refine Plane.Fits.ite (Plane.Fits.liftElement ?_) (Plane.Fits.restartDetector (Plane.Fits.liftElement ?_)) <;> exact h

@[simp] theorem Plane.Fits.stopInject (h : x.Fits) : x.stopInject.Fits := h

@[simp] theorem Plane.Fits.setWire {b : Bool} (h : x.Fits) : (x.setWire n b).Fits := by
  simp only [Plane.setWire]
  exact Plane.Fits.judgeSource (h.when fun t => t.setRun)

/-! Boundaries -/

@[simp] theorem Plane.Fits.endEvents (h : x.Fits) : x.endEvents.Fits := by
  simp only [Plane.endEvents]; exact Plane.Fits.foldl (fun z n hz => hz.ite hz.modSrc.setDet) h

@[simp] theorem Plane.Fits.countSwitch (h : x.Fits) : x.countSwitch.Fits := h

@[simp] theorem Plane.Fits.openLoop {hql : Nat} {judge : Plane → Plane} (h : x.Fits) (hjudge : ∀ z : Plane, z.Fits →
    (judge z).Fits) :
    (x.openLoop p hql v judge).Fits := by
  simp only [Plane.openLoop]
  exact Plane.Fits.noteRealign (Plane.Fits.resumeSoft (Plane.Fits.refsChanged (Plane.Fits.followCross
    (hjudge _ h.countSwitch.dropActive))))

@[simp] theorem Plane.Fits.countVcob {n : Nat} (h : x.Fits) : (x.countVcob n).Fits := h
@[simp] theorem Plane.Fits.startWaiting (h : x.Fits) : x.startWaiting.Fits := h

@[simp] theorem Plane.Fits.openSecond (h : x.Fits) : (x.openSecond v).Fits := by
  simp only [Plane.openSecond, Plane.Fits]
  exact Plane.Fits.startWaiting h.loopSecond.releaseEarly.rateInterval

@[simp] theorem Plane.Fits.groupStep (h : x.Fits) : x.groupStep.Fits := by
  unfold Plane.groupStep
  generalize hy : Plane.turnSched { x with link := x.link.map fun (k : Link) => k.groupD (x.time.frame % 12500 != 0) } = y
  have t : y.Fits := hy ▸ Plane.Fits.turnSched (PlaneFits.map_link h fun _ hm => hm.groupD _)
  have u : Plane.Fits { y with link := Vector.ofFn fun l => y.link[l.val].remember x.link[l.val] x.time.clk } :=
    PlaneFits.ofFn_link t fun _ hk => hk.remember _ _
  dsimp only
  refine Plane.Fits.ite ?_ ?_
  all_goals
    simp only [Plane.Fits]
    exact Plane.Fits.foldl (fun z g hz => hz.holdBoundary) u

@[simp] theorem Plane.Fits.tails (h : x.Fits) : x.tails.Fits := by
  simp only [Plane.tails]; exact Plane.Fits.setDet (Plane.Fits.setDet (Plane.Fits.setDet h))

@[simp] theorem Plane.Fits.msStep {m : MsMeas} (h : x.Fits) : (x.msStep m).Fits := by
  simp only [Plane.msStep]
  refine Plane.Fits.tails ?_
  simp only [Plane.Fits]
  exact Plane.Fits.rateInterval h.phaseMs.senseAll.linksMs.tiMs

/-! Environment -/

@[simp] theorem Plane.Fits.heat {t : Int} (h : x.Fits) : (x.heat t).Fits := h

/-! Grid -/

@[simp] theorem Plane.Fits.judgeD {d : Int} (h : x.Fits) : (x.judgeD d).Fits := h

@[simp] theorem Plane.Fits.capture {src : MarkerSrc} {before after : Nat} {ref3 : Word} (h : x.Fits) :
    (x.capture src before after ref3).Fits := by
  unfold Plane.capture; dsimp only; (repeat' split) <;> simp [h]

@[simp] theorem Plane.Fits.setCount {sec : Word} (h : x.Fits) : (x.setCount sec).Fits := by simp [Plane.setCount, h]

@[simp] theorem Plane.Fits.register {sec : Word} (h : x.Fits) : (x.register sec).Fits := by
  simp only [Plane.register]
  refine Plane.Fits.loopSources (Plane.Fits.history (Plane.Fits.genRestart (Plane.Fits.releaseAll ?_)))
  simp only [Plane.Fits]
  exact h.setCount

@[simp] theorem Plane.Fits.moveGrid {sec : Word} (h : x.Fits) : (x.moveGrid sec).Fits := by
  simp only [Plane.moveGrid]
  refine Plane.Fits.genRestart (Plane.Fits.releaseAll ?_)
  simp only [Plane.Fits]
  exact Plane.Fits.setCount h.discardFabric

@[simp] theorem Plane.Fits.setGoff (h : x.Fits) : (x.setGoff v).Fits := h

/-! Tandem -/

@[simp] theorem Plane.Fits.hold3 {b : Bool} (h : x.Fits) : (x.hold3 p b).Fits := by simp [Plane.hold3, h]
@[simp] theorem Plane.Fits.leave3 (h : x.Fits) : (x.leave3 p v).Fits := by unfold Plane.leave3; split <;> simp [h]

@[simp] theorem Plane.Fits.takeRef3 (h : x.Fits) : (x.takeRef3 p v).Fits := by
  simp only [Plane.takeRef3]; exact (h.hold3.setMode).setFref

@[simp] theorem Plane.Fits.dropRef3 {m : LoopMode} (h : x.Fits) : (x.dropRef3 p v m r).Fits := by
  simp only [Plane.dropRef3]; exact ((h.hold3.leave3).setMode).setFref

@[simp] theorem Plane.Fits.modeStopped {out : Bool} {m : LoopMode} (h : x.Fits) : (x.modeStopped out m r).Fits := h
@[simp] theorem Plane.Fits.dropCrossed (h : x.Fits) : x.dropCrossed.Fits := h

/-! Start -/

@[simp] theorem Plane.Fits.imageCk {d : PlaneDecl} (h : x.Fits) : (x.imageCk d).Fits := by
  simp only [Plane.imageCk]; exact Plane.Fits.foldl (fun z n hz => hz) h

@[simp] theorem Plane.Fits.takeSection {d : PlaneDecl} (h : x.Fits) : (x.takeSection d).Fits := by
  simp only [Plane.takeSection]
  refine Plane.Fits.refreshBw ?_
  simp only [Plane.Fits]
  exact (PlaneFits.ofFn_link h.imageCk fun _ hk => hk.image _).ofFn_gq fun _ hq => hq

@[simp] theorem Plane.Fits.imageGens (h : x.Fits) : x.imageGens.Fits := h

@[simp] theorem Plane.Fits.release {b000Year : Nat} {released : Bool} (h : x.Fits) : (x.release b000Year released).Fits := by
  simp only [Plane.release]
  refine Plane.Fits.when (Plane.Fits.unless (Plane.Fits.monitorStart (Plane.Fits.startSched ?_)) fun t => t.history)
    fun t => t.lightLinks
  exact (PlaneFits.map_link h fun m _ => Link.Fits.start m).map_gq fun _ _ => Nat.zero_le _

/-! Standby -/

@[simp] theorem Plane.Fits.enterStandby {withUnit : Bool} (h : x.Fits) : (x.enterStandby p withUnit).Fits := by
  simp only [Plane.enterStandby, Plane.Fits]; exact Plane.Fits.haltOutputs h.abandonSwitch.cancelRealign.dropHolds.stopInject

@[simp] theorem Plane.Fits.stopClocks (h : x.Fits) : x.stopClocks.Fits := by
  simp only [Plane.stopClocks, Plane.Fits]; exact Plane.Fits.fabricOff h.darkenLinks.emptyQueues

@[simp] theorem Plane.Fits.leaveStandby (h : x.Fits) : x.leaveStandby.Fits := by unfold Plane.leaveStandby; split <;> simp [h]

/-! Images -/

@[simp] theorem Plane.Fits.beginReload (h : x.Fits) : (x.beginReload p v).Fits := by
  have t : (x.abandonSwitch p).cancelRealign.dropHolds.stopInject.fabricOff.Fits :=
    Plane.Fits.fabricOff h.abandonSwitch.cancelRealign.dropHolds.stopInject
  simp only [Plane.beginReload]; split
  · exact t.toEmber
  · exact t.toEmber
  · exact t.toEmber
  · exact t
  · exact t
  · exact t

@[simp] theorem Plane.Fits.atF0 {keep : Bool} (h : x.Fits) : (x.atF0 p v keep).Fits := by
  unfold Plane.atF0; split
  · simp only [Plane.Fits]; exact h.beginReload
  · simp only [Plane.Fits]; exact Plane.Fits.emptyQueues h.beginReload.haltOutputs.darkenLinks

@[simp] theorem Plane.Fits.reloadGens {old : PlaneDecl} {same : Bool} (h : x.Fits) : (x.reloadGens old same).Fits := by
  simp only [Plane.reloadGens]
  exact h.ite (Plane.Fits.foldl (fun z i hz => hz.applyGen.ite hz.modGen) h)

@[simp] theorem Plane.Fits.relight (h : x.Fits) : x.relight.Fits := by
  simp only [Plane.relight]
  exact Plane.Fits.when (Plane.Fits.foldl (fun z l hz => hz.when fun t => t.setLink) h) fun t => t.lightLinks

@[simp] theorem Plane.Fits.atF1 {d : PlaneDecl} {same : Bool} {b000Year : Nat} {released : Bool} (h : x.Fits) :
    (x.atF1 d same b000Year released).Fits := by
  simp only [Plane.atF1]
  exact Plane.Fits.relight (Plane.Fits.monitorStart (Plane.Fits.reloadGens (h.unless fun t => t.takeSection)))

@[simp] theorem Plane.Fits.freshConfig (h : x.Fits) : x.freshConfig.Fits := h

/-! Records -/

@[simp] theorem Plane.Fits.writeCk {o : Fin 20} {n : Fin 16} {ws : List Word} (h : x.Fits) : (x.writeCk o n ws).Fits := by
  unfold Plane.writeCk; dsimp only; split <;> simp [h]

@[simp] theorem Plane.Fits.writePuRecord {o : Fin 20} {n : Fin 4} {ws : List Word} (h : x.Fits) :
    (x.writePuRecord o n ws).Fits := by
  unfold Plane.writePuRecord; dsimp only; split <;> simp [h]

@[simp] theorem Plane.Fits.linkAct {op : Nat} {payload : BitVec 64} (h : x.Fits) : (x.linkAct l op payload).Fits := by
  unfold Plane.linkAct; split
  · exact h.enqCmd
  · exact h.enqBulk
  · exact h.modLink fun _ hm => hm.popStat
  · exact h.modLink fun _ hm => hm.popUBulk
  · exact h.injectTest
  · exact h

@[simp] theorem Plane.Fits.writeLink {base : Nat} {ws : List Word} (h : x.Fits) : (x.writeLink l base ws).Fits := by
  simp only [Plane.writeLink]
  refine Plane.Fits.linkAct (Plane.Fits.unless (Plane.Fits.modLink ?_ fun _ hm => hm) fun t => t.writeEpd)
  exact Plane.Fits.unless (h.unless fun t => t.writeDamper) fun t => t.writeD

/-! Slots -/

@[simp] theorem Plane.Fits.passEntry {g : Fin 32} (h : x.Fits) : (x.passEntry g l).Fits := by
  simp only [Plane.passEntry]; exact PlaneFits.upd_gq h g fun hq => GQueue.release_length _ (by simpa using hq)

@[simp] theorem Plane.Fits.skipLink (h : x.Fits) : (x.skipLink l).Fits := by
  refine Plane.Fits.foldl (fun z g hz => Plane.Fits.ite (Plane.Fits.countN ?_) hz) h
  exact PlaneFits.upd_gq hz g fun hq => GQueue.release_length _ (by simpa using hq)

@[simp] theorem Plane.Fits.sendGroup {g : Fin 32} {e : GEntry} (h : x.Fits) : (x.sendGroup l g e).Fits := by
  simp only [Plane.sendGroup]; exact Plane.Fits.modLink h.passEntry fun _ hm => hm

@[simp] theorem Plane.Fits.fillQueued (h : x.Fits) : (x.fillQueued l).Fits := by
  have idle : (x.modLink l fun k => k.putIdle (x.damper l)).Fits := h.modLink fun _ hm => hm.putIdle _
  have bulk : ∀ v, (x.modLink l fun k => { k.put false codeBulk v with dqBulk := k.dqBulk.pop }).Fits :=
    fun _ => h.modLink fun _ hm => hm.popBulk
  simp only [Plane.fillQueued]; split
  · exact h.sendGroup
  · split
    · refine Plane.Fits.ite ?_ (h.modLink fun _ hm => hm.popCmd)
      split
      · exact idle.ite (bulk _)
      · exact idle
    · exact idle.ite (bulk _)
    · exact idle

@[simp] theorem Plane.Fits.fillSlot {ready : List (Fin 32)} (h : x.Fits) : (x.fillSlot ready l).Fits := by
  simp only [Plane.fillSlot]; split
  · exact Plane.Fits.countN (Plane.Fits.modLink (h.when fun t => t.skipLink) fun _ hm => hm)
  · split
    · exact h.modLink fun _ hm => hm.putIdle _
    · split
      · split
        · exact h.modLink fun _ hm => hm.putDirect _ _
        · exact h.fillQueued
      · split
        · split
          · exact h.modLink fun _ hm => by simpa using hm
          · refine Plane.Fits.fillQueued (Plane.Fits.count ?_)
            exact h.modLink fun _ hm => hm
        · exact h.fillQueued

@[simp] theorem Plane.Fits.slotStart {s : Nat} (h : x.Fits) : (x.slotStart s).Fits := by
  simp only [Plane.slotStart, Plane.Fits]
  exact Plane.Fits.foldl (fun z l hz => hz.fillSlot) (PlaneFits.map_link h fun _ hm => hm.takeDamper x.time.clk)

@[simp] theorem Plane.Fits.crossing {i : Fin 16} {fine : BitVec 9} (h : x.Fits) : (x.crossing i fine).Fits := by
  simp only [Plane.crossing, Bool.cond_eq_ite]
  exact h.ite (h.count.ite (Plane.Fits.ite h (Plane.Fits.count h)))

/-! Words -/

@[simp] theorem Plane.Fits.realignField {n : Nat} (h : x.Fits) : (x.realignField n).Fits := by
  unfold Plane.realignField; split <;> simp [h]

@[simp] theorem Plane.Fits.clearHistory {w : BitVec 12} (h : x.Fits) : (x.clearHistory w).Fits := h

end

/-! ### Ports, Chimney and hub -/

/-- A port holds no more than n scheduled transactions and 2 blocks of configuration data (R326, R300). -/
def PortFits (n : Nat) (s : List Sched) (b : List (Fin 2 × Nat × List Byte)) : Prop := s.length ≤ n ∧ b.length ≤ 2

/-- A port keeps its buffers within their depth. -/
@[reducible, simp] def Port.Fits (n : Nat) (x : Port) : Prop := PortFits n x.scheds x.blocks

/-- The queues of the Chimney hold no more than 8 entries each (R200). -/
def ChimneyFits (o i : Vector Queue 16) : Prop := ∀ j : Fin 16, (o[j.val]).q.length ≤ 8 ∧ (i[j.val]).q.length ≤ 8

/-- The Chimney keeps its queues within their depth. -/
@[reducible, simp] def Chimney.Fits (c : Chimney) : Prop := ChimneyFits c.out c.inq

/-- The buffers of a hub, with room for N q scheduled transactions at port q. -/
structure HubFits (N : PortId → Nat) (pl : Tri Plane) (po : Vector Port 3) (o i : Vector Queue 16) (w : List LogRec) : Prop where
  planes : ∀ p, (pl.get p).Fits
  ports : ∀ q : PortId, (po[q.val]).Fits (N q)
  chim : ChimneyFits o i
  waiting : w.length ≤ 64

/-- A hub keeps its buffers within their depth. -/
@[reducible] def Hub.Fits (N : PortId → Nat) (h : Hub) : Prop := HubFits N h.planes h.ports h.chim.out h.chim.inq h.log.waiting

theorem buffersFit_iff (h : Hub) : BuffersFit h ↔ h.Fits fun _ => 4 := by
  constructor
  · rintro ⟨ho, hl, hg, hc, hw, hp⟩
    exact ⟨fun p => ⟨ho p, hl p, hg p⟩, hp, hc, hw⟩
  · rintro ⟨hpl, hpo, hc, hw⟩
    exact ⟨fun p => (hpl p).1, fun p => (hpl p).2.1, fun p => (hpl p).2.2, hc, hw, hpo⟩

theorem ChimneyFits.upd_out {o i : Vector Queue 16} (h : ChimneyFits o i) (j : Fin 16) {f : Queue → Queue}
    (hf : ∀ q : Queue, q.q.length ≤ 8 → (f q).q.length ≤ 8) : ChimneyFits (upd o j f) i :=
  fun k => ⟨upd_all (fun q : Queue => q.q.length ≤ 8) j (fun l => (h l).1) (hf _) k, (h k).2⟩

theorem ChimneyFits.upd_inq {o i : Vector Queue 16} (h : ChimneyFits o i) (j : Fin 16) {f : Queue → Queue}
    (hf : ∀ q : Queue, q.q.length ≤ 8 → (f q).q.length ≤ 8) : ChimneyFits o (upd i j f) :=
  fun k => ⟨(h k).1, upd_all (fun q : Queue => q.q.length ≤ 8) j (fun l => (h l).2) (hf _) k⟩

theorem ChimneyFits.map {o i : Vector Queue 16} (h : ChimneyFits o i) {f g : Queue → Queue}
    (hf : ∀ q : Queue, q.q.length ≤ 8 → (f q).q.length ≤ 8)
    (hg : ∀ q : Queue, q.q.length ≤ 8 → (g q).q.length ≤ 8) :
    ChimneyFits (o.map f) (i.map g) :=
  fun k => ⟨by simpa using hf _ (h k).1, by simpa using hg _ (h k).2⟩

theorem ChimneyFits.ofFn {o i : Vector Queue 16} (h : ChimneyFits o i) {f g : Fin 16 → Queue}
    (hf : ∀ k : Fin 16, (o[k.val]).q.length ≤ 8 → (f k).q.length ≤ 8)
    (hg : ∀ k : Fin 16, (i[k.val]).q.length ≤ 8 → (g k).q.length ≤ 8) :
    ChimneyFits (Vector.ofFn f) (Vector.ofFn g) :=
  fun k => ⟨by simpa using hf k (h k).1, by simpa using hg k (h k).2⟩

section
variable {n : Nat} {x y : Port} {c : Prop} {d : Decidable c}

theorem Port.Fits.ite (hx : x.Fits n) (hy : y.Fits n) : (if c then x else y).Fits n := by
  split
  · exact hx
  · exact hy

theorem Port.Fits.refuse {addr : BitVec 7} {reg : BitVec 5} {r : Reason} (fit : x.Fits n) : (x.refuse addr reg r).Fits n := fit

theorem Port.Fits.pendMsg {o : Fin 9} (fit : x.Fits n) : (x.pendMsg o).Fits n := by
  obtain ⟨m, k, e⟩ := Port.pendMsg_only x o
  rw [e]; exact fit

theorem Port.Fits.cause {off : Fin 8} {bit : Nat} (fit : x.Fits n) : (x.cause off bit).Fits n := by
  obtain ⟨a, m, k, e⟩ := Port.cause_only x off bit
  rw [e]; exact fit

end

section
variable {N : PortId → Nat} {h g : Hub} {c : Prop} {d : Decidable c}

theorem Hub.Fits.ite (hh : h.Fits N) (hg : g.Fits N) : (if c then h else g).Fits N := by
  split
  · exact hh
  · exact hg

theorem Hub.Fits.when (hh : h.Fits N) (hg : h.Fits N → g.Fits N) : (if c then g else h).Fits N := (hg hh).ite hh
theorem Hub.Fits.unless (hh : h.Fits N) (hg : h.Fits N → g.Fits N) : (if c then h else g).Fits N := hh.ite (hg hh)

theorem Hub.Fits.cond {b : Bool} (hh : h.Fits N) (hg : g.Fits N) : (bif b then h else g).Fits N := by
  cases b
  · exact hg
  · exact hh

theorem Hub.Fits.foldl {α : Type} {f : Hub → α → Hub} {l : List α} (fit : h.Fits N)
    (hf : ∀ (k : Hub) (a : α), k.Fits N → (f k a).Fits N) : (l.foldl f h).Fits N :=
  List.foldlRecOn (motive := Hub.Fits N) l f fit fun k hk a _ => hf k a hk

theorem Hub.Fits.plane {p : PlaneId} (fit : h.Fits N) : (h.plane p).Fits := HubFits.planes fit p
theorem Hub.Fits.port {q : PortId} (fit : h.Fits N) : (h.port q).Fits (N q) := HubFits.ports fit q

theorem Hub.Fits.setPlane {p : PlaneId} {x : Plane} (fit : h.Fits N) (hx : x.Fits) : (h.setPlane p x).Fits N :=
  { planes := fun r => by
      show ((h.planes.set p x).get r).Fits
      rw [Tri.get_set]
      exact hx.ite (HubFits.planes fit r)
    ports := HubFits.ports fit, chim := HubFits.chim fit, waiting := HubFits.waiting fit }

theorem Hub.Fits.modPlane {p : PlaneId} {f : Plane → Plane} (fit : h.Fits N) (hf : ∀ z : Plane, z.Fits → (f z).Fits) :
    (h.modPlane p f).Fits N :=
  fit.setPlane (hf _ fit.plane)

theorem Hub.Fits.allPlanes {f : PlaneId → Plane → Plane} (fit : h.Fits N)
    (hf : ∀ (p : PlaneId) (z : Plane), z.Fits → (f p z).Fits) :
    (h.allPlanes f).Fits N :=
  { planes := fun r => by
      cases r with
      | a => exact hf .a _ (HubFits.planes fit .a)
      | b => exact hf .b _ (HubFits.planes fit .b)
      | c => exact hf .c _ (HubFits.planes fit .c)
    ports := HubFits.ports fit, chim := HubFits.chim fit, waiting := HubFits.waiting fit }

theorem Hub.Fits.setPorts {v : Vector Port 3} (fit : h.Fits N) (hv : ∀ q : PortId, (v[q.val]).Fits (N q)) :
    ({ h with ports := v } : Hub).Fits N :=
  { planes := HubFits.planes fit, ports := hv, chim := HubFits.chim fit, waiting := HubFits.waiting fit }

theorem Hub.Fits.modPort {q : PortId} {f : Port → Port} (fit : h.Fits N) (hf : ∀ z : Port, z.Fits (N q) → (f z).Fits (N q)) :
    (h.modPort q f).Fits N :=
  fit.setPorts fun r => by
    by_cases e : q = r
    · subst e; rw [upd_get_same]; exact hf _ (HubFits.ports fit q)
    · rw [upd_get_ne _ _ _ _ e]; exact HubFits.ports fit r

theorem Hub.Fits.allPorts {f : Port → Port} (fit : h.Fits N) (hf : ∀ (k : Nat) (z : Port), z.Fits k → (f z).Fits k) :
    (h.allPorts f).Fits N :=
  fit.setPorts fun r => by simpa using hf _ _ (HubFits.ports fit r)

theorem Hub.Fits.setChim {k : Chimney} (fit : h.Fits N) (hk : k.Fits) : ({ h with chim := k } : Hub).Fits N :=
  { planes := HubFits.planes fit, ports := HubFits.ports fit, chim := hk, waiting := HubFits.waiting fit }

theorem Hub.Fits.chimney (fit : h.Fits N) : h.chim.Fits := HubFits.chim fit

theorem Hub.Fits.setLog {l : EvLog} (fit : h.Fits N) (hl : l.waiting.length ≤ 64) : ({ h with log := l } : Hub).Fits N :=
  { planes := HubFits.planes fit, ports := HubFits.ports fit, chim := HubFits.chim fit, waiting := hl }

/-- A judged write acts where nothing refuses it; a refusal moves no buffer. -/
theorem Hub.Fits.judged {q : PortId} {a : BitVec 7} {k : BitVec 5} {r : Reason} {f : Hub → Hub} (fit : h.Fits N)
    (hf : r = .none → (f h).Fits N) : (h.judged q a k r f).Fits N := by
  obtain ⟨-, e, j⟩ | ⟨-, -, j⟩ | ⟨-, j⟩ := Hub.judged_cases h q a k r f
  · rw [j]; exact hf e
  · rw [j]; exact fit.modPort fun _ hz => hz.refuse
  · rw [j]; exact fit

theorem Hub.Fits.hostWrite {q : PortId} {p : PlaneId} {k : BitVec 5} {a b e : Bool} {f : Hub → Hub} (fit : h.Fits N)
    (hf : (f h).Fits N) : (h.hostWrite q p k a b e f).Fits N :=
  fit.judged fun _ => hf

theorem Hub.Fits.unitWrite {q : PortId} {k : BitVec 5} {r : Reason} {f : Hub → Hub} (fit : h.Fits N)
    (hf : r = .none → (f h).Fits N) : (h.unitWrite q k r f).Fits N :=
  fit.judged hf

theorem Hub.Fits.ifActive {p : PlaneId} {f : Hub → Hub} (fit : h.Fits N) (hf : (f h).Fits N) : (h.ifActive p f).Fits N :=
  hf.ite fit

/-- Setting a cause can lengthen an outgoing queue only by a sent record. -/
theorem Hub.Fits.cause {p : PlaneId} {bit : Nat} (fit : h.Fits N) : (h.cause p bit).Fits N := by
  have sent : (h.modPlane p (·.send (.cause bit))).Fits N := fit.modPlane fun _ hz => hz.send
  have set {k : Hub} (hk : k.Fits N) : (k.allPorts (·.cause (offOf p) bit)).Fits N := hk.allPorts fun _ _ hz => hz.cause
  exact Hub.Fits.ite (Hub.Fits.ite (sent.allPorts fun _ _ hz => hz) (set sent)) (set fit)

theorem Hub.Fits.deliver {p : PlaneId} (fit : h.Fits N) : (h.deliver p).Fits N :=
  Hub.Fits.foldl (fit.modPlane fun _ hz => hz) fun _ _ hk => hk.cause

theorem Hub.Fits.onPlane {p : PlaneId} {f : Plane → Plane} (fit : h.Fits N) (hf : ∀ z : Plane, z.Fits → (f z).Fits) :
    (h.onPlane p f).Fits N :=
  (fit.modPlane hf).deliver

theorem Hub.Fits.onPlaneFree {p : PlaneId} {f : Int → Plane → Plane} (fit : h.Fits N)
    (hf : ∀ (v : Int) (z : Plane), z.Fits → (f v z).Fits) : (h.onPlaneFree p f).Fits N :=
  Hub.Fits.onPlane (h := h.fresh.2) fit (hf _)

theorem Hub.Fits.event {p : PlaneId} {f : Plane → Plane} (fit : h.Fits N) (hf : ∀ z : Plane, z.Fits → (f z).Fits) :
    (h.event p f).Fits N :=
  fit.ifActive (fit.onPlane hf)

theorem Hub.Fits.eventFree {p : PlaneId} {f : Int → Plane → Plane} (fit : h.Fits N)
    (hf : ∀ (v : Int) (z : Plane), z.Fits → (f v z).Fits) : (h.eventFree p f).Fits N :=
  fit.ifActive (fit.onPlaneFree hf)

theorem Hub.Fits.ucause {bit : Nat} (fit : h.Fits N) : (h.ucause bit).Fits N :=
  fit.allPorts fun _ _ hz => by unfold Port.ucauseSet; exact Port.Fits.ite (Port.Fits.pendMsg hz) hz

theorem Hub.Fits.setUDet {n : Fin 32} {b : Bool} (fit : h.Fits N) : (h.setUDet n b).Fits N := by
  unfold Hub.setUDet; dsimp only
  have fire : ∀ {k : Hub} {m : Nat}, k.Fits N → (k.handFire m).Fits N := fun {k m} hk => by
    obtain ⟨t, e⟩ := Hub.handFire_only k m
    rw [e]; exact hk
  exact Hub.Fits.ite (fire (Hub.Fits.unless fit fun t => t.ucause)) fit

theorem Hub.Fits.writeEntry {r : LogRec} (fit : h.Fits N) : (h.writeEntry r).Fits N := by
  have logged : ({ h with log := h.log.append r } : Hub).Fits N := fit.setLog <| by
    unfold EvLog.append; dsimp only; split <;> exact HubFits.waiting fit
  unfold Hub.writeEntry; dsimp only; split
  · split
    · exact logged
    · exact Hub.Fits.ite logged.ucause logged
  · exact logged

/-- A unit record waits only where the unit's buffer has room (R437). -/
theorem Hub.Fits.logUnit {r : LogRec} (fit : h.Fits N) : (h.logUnit r).Fits N := by
  unfold Hub.logUnit; split
  · split
    · rename_i room
      exact fit.setLog (by simp only [List.length_append, List.length_cons, List.length_nil]; exact room)
    · exact fit
  · exact fit.writeEntry

end

theorem Plane.Fits.empty : Plane.Fits {} := by
  refine ⟨Nat.zero_le _, fun l => ?_, fun i => ?_⟩
  · simp [LinkFits]
  · simp

theorem Plane.Fits.clearOvf {x k : Plane} (h : x.Fits) : (x.clearOvf k).Fits := by
  simp only [Plane.clearOvf, Plane.Fits]
  exact (PlaneFits.ofFn_link h fun _ t => t.clearOvf _).ofFn_gq fun _ t => t

theorem Chimney.Fits.ite {a c : Chimney} {b : Prop} {d : Decidable b} (ha : a.Fits) (hc : c.Fits) : (if b then a else c).Fits := by
  split
  · exact ha
  · exact hc

theorem Chimney.Fits.withSlot0 {c : Chimney} {w : BitVec 16} (hc : c.Fits) : ({ c with slot0 := w } : Chimney).Fits := hc

section
variable {N : PortId → Nat} {h g : Hub}

/-! What holds no buffer may change freely. -/

theorem Hub.Fits.withShots {s : Tri Plane} (fit : h.Fits N) : ({ h with shots := s } : Hub).Fits N := fit
theorem Hub.Fits.withSnap {s : Snapshot} (fit : h.Fits N) : ({ h with snap := s } : Hub).Fits N := fit
theorem Hub.Fits.withTicks {k : Nat} (fit : h.Fits N) : ({ h with ticks := k } : Hub).Fits N := fit
theorem Hub.Fits.withCmp {v : Vector Comparator 3} (fit : h.Fits N) : ({ h with cmp := v } : Hub).Fits N := fit
theorem Hub.Fits.withEnv {e : Env} (fit : h.Fits N) : ({ h with env := e } : Hub).Fits N := fit
theorem Hub.Fits.withUsrc {v : Vector Src 32} (fit : h.Fits N) : ({ h with usrc := v } : Hub).Fits N := fit
theorem Hub.Fits.withCfg {k : Cfg} (fit : h.Fits N) : ({ h with cfg := k } : Hub).Fits N := fit
theorem Hub.Fits.withNv {n : Nv} (fit : h.Fits N) : ({ h with nv := n } : Hub).Fits N := fit
theorem Hub.Fits.withCfgNv {k : Cfg} {n : Nv} (fit : h.Fits N) : ({ h with cfg := k, nv := n } : Hub).Fits N := fit
theorem Hub.Fits.withConv {b : Bool} (fit : h.Fits N) : ({ h with conv := b } : Hub).Fits N := fit
theorem Hub.Fits.withNvPowered {n : Nv} {b : Bool} (fit : h.Fits N) : ({ h with nv := n, powered := b } : Hub).Fits N := fit
theorem Hub.Fits.withUcommits {l : List HeldWrite} (fit : h.Fits N) : ({ h with ucommits := l } : Hub).Fits N := fit
theorem Hub.Fits.withUstby {b : Bool} (fit : h.Fits N) : ({ h with ustby := b } : Hub).Fits N := fit
theorem Hub.Fits.withUpstate {u : UpState} (fit : h.Fits N) : ({ h with upstate := u } : Hub).Fits N := fit

theorem Hub.Fits.setBound {M : PortId → Nat} (fit : h.Fits N)
    (room : ∀ q : PortId, (h.port q).scheds.length ≤ M q) : h.Fits M :=
  { planes := HubFits.planes fit, ports := fun q => ⟨room q, (HubFits.ports fit q).2⟩
    chim := HubFits.chim fit, waiting := HubFits.waiting fit }

theorem Hub.Fits.widen {M : PortId → Nat} (fit : h.Fits M) (wider : ∀ q : PortId, M q ≤ N q) : h.Fits N :=
  fit.setBound fun q => (fit.port (q := q)).1.trans (wider q)

theorem Hub.Fits.andThen (fit : h.Fits N) (hg : h.Fits N → g.Fits N) : g.Fits N := hg fit

theorem Hub.Fits.setPort {q : PortId} {f : Port → Port} (fit : h.Fits N) (hf : (f (h.port q)).Fits (N q)) :
    (h.modPort q f).Fits N :=
  fit.setPorts fun r => by
    by_cases e : q = r
    · subst e; rw [upd_get_same]; exact hf
    · rw [upd_get_ne _ _ _ _ e]; exact HubFits.ports fit r

end

/-! #### The operations of a port, of the Chimney and of the hub -/

section
variable {m : Nat} {x : Port}

theorem Port.Fits.ucauseSet {bit : Nat} (fit : x.Fits m) : (x.ucauseSet bit).Fits m := Port.Fits.ite (Port.Fits.pendMsg fit) fit
theorem Port.Fits.shiftKey {w : Word} (fit : x.Fits m) : (x.shiftKey w).Fits m := fit
theorem Port.Fits.writeBuf {w : Word} (fit : x.Fits m) : (x.writeBuf w).Fits m := fit

theorem Port.Fits.followerCause {off : Fin 8} {w : Word} (fit : x.Fits m) : (x.followerCause off w).Fits m :=
  Port.Fits.ite fit (Port.Fits.pendMsg fit)

theorem Port.Fits.sleepUnit (fit : x.Fits m) : x.sleepUnit.Fits m := Port.Fits.ite fit (Port.Fits.ite fit fit)
theorem Port.Fits.wakeUnit (fit : x.Fits m) : x.wakeUnit.Fits m := Port.Fits.ite fit fit
theorem Port.Fits.endTransaction (fit : x.Fits m) : x.endTransaction.Fits m := Port.Fits.ite fit fit
theorem Port.Fits.wake (fit : x.Fits m) : x.wake.Fits m := fit
theorem Port.Fits.setAttn {off : Fin 8} {w : Word} (fit : x.Fits m) : (x.setAttn off w).Fits m := fit
theorem Port.Fits.clearCause {off : Fin 8} {w : Word} (fit : x.Fits m) : (x.clearCause off w).Fits m := Port.Fits.ite fit fit

theorem Port.Fits.setPort {w : Word} (fit : x.Fits m) : (x.setPort w).Fits m := by
  simp only [Port.setPort]; (repeat' split) <;> exact fit

theorem Port.Fits.setNvctl {w : Word} (fit : x.Fits m) : (x.setNvctl w).Fits m := fit

theorem Port.Fits.nextBlock {off : Fin 8} {index : BitVec 20} (fit : x.Fits m) : (x.nextBlock off index).Fits m :=
  Port.Fits.ite fit fit

theorem Port.Fits.nvRead (fit : x.Fits m) : x.nvRead.Fits m := fit

theorem Port.Fits.blockTaken {block : BitVec 20} (fit : x.Fits m) : (x.blockTaken block).Fits m := by
  unfold Port.blockTaken; split
  · exact fit
  · exact fit.nextBlock

end

section
variable {c : Chimney}

theorem Chimney.Fits.hear {ch : Fin 2} {clk : Nat} {bits : Option (BitVec 16)} (fit : c.Fits) : (c.hear ch clk bits).Fits := by
  unfold Chimney.hear; split <;> exact fit

theorem Chimney.Fits.sendOne {span clk : Nat} {i : Fin 16} (fit : c.Fits) : (c.sendOne span clk i).Fits := by
  simp only [Chimney.sendOne]
  exact Chimney.Fits.ite fit (Chimney.Fits.ite fit (fit.upd_out _ fun _ t => Queue.pop_length t))

theorem Chimney.Fits.drain {dch : Nat} {clk : Nat} (fit : c.Fits) : (c.drain dch clk).Fits :=
  List.foldlRecOn (motive := Chimney.Fits) _ _ fit fun _ t _ _ => t.sendOne

theorem Chimney.Fits.reading {tol dch : Nat} {ch : Fin 2} {v : Int} (fit : c.Fits) : (c.reading tol dch ch v).1.Fits := fit
theorem Chimney.Fits.ms (fit : c.Fits) : c.ms.Fits := fit.map (fun _ t => t) fun _ t => t
theorem Chimney.Fits.tick (fit : c.Fits) : c.tick.Fits := fit.map (fun _ t => by simpa using t) fun _ t => by simpa using t

theorem Chimney.Fits.sees {ch : Fin 2} {clk : Nat} {s : PortSight} (fit : c.Fits) : (c.sees ch clk s).Fits :=
  Chimney.Fits.ite fit.hear fit.hear

theorem Chimney.Fits.setThr {i : Fin 32} {n : BitVec 3} (fit : c.Fits) : (c.setThr i n).Fits :=
  Chimney.Fits.ite (fit.upd_out _ fun _ t => t) (fit.upd_inq _ fun _ t => t)

end

section
variable {N : PortId → Nat} {h g : Hub} {p : PlaneId} {q : PortId}

/-! Ops -/

theorem Hub.Fits.ucountN {u : Fin 32} {k : Nat} (fit : h.Fits N) : (h.ucountN u k).Fits N := fit
theorem Hub.Fits.ucount {u : Fin 32} (fit : h.Fits N) : (h.ucount u).Fits N := fit

theorem Hub.Fits.refuse {addr : BitVec 7} {reg : BitVec 5} {r : Reason} (fit : h.Fits N) : (h.refuse q addr reg r).Fits N :=
  fit.modPort fun _ t => t

theorem Hub.Fits.ulog {type portn : Byte} {data : Vector Word 4} (fit : h.Fits N) : (h.ulog type portn data).Fits N :=
  fit.logUnit

theorem Hub.Fits.handTo {v : Hand} (fit : h.Fits N) : (h.handTo p v).Fits N := fit

theorem Hub.Fits.handFire {n : Nat} (fit : h.Fits N) : (h.handFire n).Fits N :=
  Hub.Fits.foldl fit fun _ _ t => Hub.Fits.ite t.handTo t

theorem Hub.Fits.fireUEvent {n : Fin 32} (fit : h.Fits N) : (h.fireUEvent n).Fits N := fit.setUDet

/-! Fabric -/

theorem Hub.Fits.chimneyPort {s : Signal} {port : Fin 8} (fit : h.Fits N) : (h.chimneyPort p s port).Fits N :=
  Hub.Fits.ite (Hub.Fits.cond fit (fit.modPlane fun _ t => t)) fit

theorem Hub.Fits.emit {s : Signal} (fit : h.Fits N) : (h.emit p s).Fits N :=
  Hub.Fits.foldl (fit.onPlane fun _ t => t.emit) fun _ _ t => t.chimneyPort

theorem Hub.Fits.emitOpt {s : Option Signal} (fit : h.Fits N) : (h.emitOpt p s).Fits N := by
  cases s with
  | none => exact fit
  | some s => exact fit.emit

theorem Hub.Fits.releaseHeld (fit : h.Fits N) : (h.releaseHeld p).Fits N := by
  simp only [Hub.releaseHeld]; split
  · exact fit
  · exact Hub.Fits.ite (Hub.Fits.emit (fit.modPlane fun _ t => t)) (Hub.Fits.modPlane (fit.modPlane fun _ t => t) fun _ t => t)

theorem Hub.Fits.prescalePulse {u : Fin 32} {s : Signal} (fit : h.Fits N) : (h.prescalePulse p u s).Fits N :=
  Hub.Fits.cond (Hub.Fits.emit (fit.modPlane fun _ t => t)) (fit.modPlane fun _ t => t)

theorem Hub.Fits.prescale {u : Fin 32} {ref : Nat} (fit : h.Fits N) : (h.prescale p u ref).Fits N := by
  unfold Hub.prescale; split
  · exact fit
  · exact Hub.Fits.foldl (fit.modPlane fun _ t => t.evaluated) fun _ _ t => t.prescalePulse

/-! Registers -/

theorem Hub.Fits.judgeOutliers (fit : h.Fits N) : h.judgeOutliers.Fits N :=
  Hub.Fits.allPlanes fit fun _ _ t => Plane.Fits.ite t.setDet t

theorem Hub.Fits.firstBank (fit : h.Fits N) : (h.firstBank p).Fits N := Hub.Fits.setPlane fit fit.plane

theorem Hub.Fits.leaveZero (fit : h.Fits N) : (h.leaveZero p).Fits N := by
  have t : (h.modPlane p Plane.applyDelays).Fits N := fit.modPlane fun _ t => t.applyDelays
  simp only [Hub.leaveZero]
  exact Hub.Fits.ite (Hub.Fits.withShots (t.setPlane (Plane.Fits.ite (Plane.Fits.latchGroup (Plane.Fits.resample t.plane))
    (Plane.Fits.resample t.plane)))) fit

theorem Hub.Fits.toCycle {c : Fin 40} (fit : h.Fits N) : (h.toCycle p c).Fits N :=
  Hub.Fits.ite (fit.leaveZero.modPlane fun _ t => t.advanceTo) fit

theorem Hub.Fits.eventAt {c : Fin 40} {f : Plane → Plane} (fit : h.Fits N) (hf : ∀ z : Plane, z.Fits → (f z).Fits) :
    (h.eventAt p c f).Fits N :=
  fit.ifActive (fit.toCycle.onPlane hf)

theorem Hub.Fits.releaseCrossed {port : Fin 8} {ref tau age : Nat} {suspect : Bool} (fit : h.Fits N) :
    (h.releaseCrossed p port ref tau age suspect).Fits N :=
  Hub.Fits.ite fit.toCycle.emit fit

/-! Select -/

theorem Hub.Fits.settleMove (fit : h.Fits N) : (h.settleMove p).Fits N := Hub.Fits.ite fit fit

/-! Faults -/

theorem Hub.Fits.modUSrc {n : Fin 32} {f : Src → Src} (fit : h.Fits N) : (h.modUSrc n f).Fits N := fit
theorem Hub.Fits.setFans (fit : h.Fits N) : h.setFans.Fits N := fit

theorem Hub.Fits.reforce (fit : h.Fits N) : (h.reforce p).Fits N :=
  Hub.Fits.ite (fit.onPlaneFree fun _ _ t => t.forceEmber) (fit.onPlane fun _ t => t.endForced)

theorem Hub.Fits.takeForce {n : Fin 32} {on : Bool} (fit : h.Fits N) : (h.takeForce p n on).Fits N :=
  Hub.Fits.reforce (fit.modPlane fun _ t => t)

theorem Hub.Fits.handForce {n : Fin 32} {on : Bool} (fit : h.Fits N) : (h.handForce n on).Fits N :=
  Hub.Fits.foldl fit fun _ _ t => Hub.Fits.ite t.handTo (Hub.Fits.ite t (t.modPlane fun _ t => t))

theorem Hub.Fits.handChanged {before : BitVec 32} (fit : h.Fits N) : (h.handChanged before).Fits N :=
  Hub.Fits.foldl fit fun _ _ t => Hub.Fits.ite t t.handForce

theorem Hub.Fits.noteUnit {n : Nat} (fit : h.Fits N) : (h.noteUnit n).Fits N := by
  simp only [Hub.noteUnit]; (repeat' split) <;> exact fit

theorem Hub.Fits.unitReact {n : Nat} (fit : h.Fits N) : (h.unitReact p n).Fits N := by
  simp only [Hub.unitReact]; exact Hub.Fits.ite (fit.modPlane fun _ t => t) fit

theorem Hub.Fits.react (fit : h.Fits N) : (h.react p).Fits N := by
  simp only [Hub.react]
  refine Hub.Fits.when (Hub.Fits.foldl (Hub.Fits.foldl (Hub.Fits.onPlane ?_ fun _ t => Plane.Fits.foldl (fun _ _ u => u.reactTo) t)
    fun _ _ t => t.noteUnit) fun _ _ t => t.unitReact) fun t => t.reforce
  split
  · exact Hub.Fits.modPlane (fit.modPlane fun _ t => t.parityFaults) fun _ t => t
  · exact Hub.Fits.onPlaneFree (Hub.Fits.modPlane (fit.modPlane fun _ t => t.parityFaults) fun _ t => t) fun _ _ t => t.enterHusk

theorem Hub.Fits.restartComparators (fit : h.Fits N) : (h.restartComparators p).Fits N := Hub.Fits.judgeOutliers fit

theorem Hub.Fits.clearPlaneSticky {n : Fin 64} (fit : h.Fits N) : (h.clearPlaneSticky p n).Fits N :=
  Hub.Fits.unless (Hub.Fits.when (fit.onPlane fun _ t => t.clearSticky) fun t => t.restartComparators) fun t => t.reforce

theorem Hub.Fits.restartUnitDetector {n : Fin 32} (fit : h.Fits N) : (h.restartUnitDetector n).Fits N :=
  Hub.Fits.ite fit <| Hub.Fits.ite fit <| Hub.Fits.ite fit <| Hub.Fits.ite fit <| Hub.Fits.ite fit <|
    Hub.Fits.ite (fit.modPort fun _ t => t) <| Hub.Fits.ite (fit.modPort fun _ t => t) fit

theorem Hub.Fits.clearUnitSticky {n : Fin 32} (fit : h.Fits N) : (h.clearUnitSticky n).Fits N :=
  fit.modUSrc.restartUnitDetector.setFans.when fun t => t.handForce

theorem Hub.Fits.setSev {n : Fin 64} {sev : Severity} (fit : h.Fits N) : (h.setSev p n sev).Fits N :=
  Hub.Fits.unless (Hub.Fits.when (fit.modPlane fun _ t => t.modSrc) fun t =>
    Hub.Fits.onPlane (Hub.Fits.when t fun t => t.onPlaneFree fun _ _ t => t.enterHusk) fun _ t => t.reactTo) fun t => t.reforce

theorem Hub.Fits.setUSev {n : Fin 32} {sev : Severity} (fit : h.Fits N) : (h.setUSev n sev).Fits N :=
  Hub.Fits.andThen (Hub.Fits.when (Hub.Fits.when fit.modUSrc fun t => t.ucause) fun t => t.handForce)
    fun t => Hub.Fits.ite t.modUSrc.handFire (Hub.Fits.ite t.modUSrc.handFire t)

theorem Hub.Fits.injectEffect {chk : BitVec 3} {double : Bool} {tgt : BitVec 6} {nchk : BitVec 11} (fit : h.Fits N) :
    (h.injectEffect p chk double tgt nchk).Fits N :=
  fit.onPlane fun _ t => t

theorem Hub.Fits.inject {chk : BitVec 3} {double : Bool} {tgt : BitVec 6} {nchk : BitVec 11} (fit : h.Fits N) :
    (h.inject q p chk double tgt nchk).Fits N :=
  fit.judged fun _ => fit.injectEffect

theorem Hub.Fits.setUWire {n : Fin 32} {b : Bool} (fit : h.Fits N) : (h.setUWire n b).Fits N :=
  Hub.Fits.setFans (Hub.Fits.setUDet (Hub.Fits.setUDet fit.modUSrc))

theorem Hub.Fits.pairEvent {src : Fin 224} {b : Bool} (fit : h.Fits N) : (h.pairEvent src b).Fits N :=
  Hub.Fits.ite fit <| Hub.Fits.ite (fit.event fun _ t => t.setWire) <| Hub.Fits.ite fit.setUWire fit

theorem Hub.Fits.unitParity {g : Fin 8} (fit : h.Fits N) : (h.unitParity g).Fits N :=
  Hub.Fits.handChanged (Hub.Fits.fireUEvent (Hub.Fits.withUsrc fit))

theorem Hub.Fits.clearHusk (fit : h.Fits N) : (h.clearHusk p).Fits N :=
  Hub.Fits.unless (fit.onPlane fun _ t => Plane.Fits.leaveHusk t) fun t => t

/-! Snapshots -/

theorem Hub.Fits.clearOvf (fit : h.Fits N) : h.clearOvf.Fits N := by
  obtain ⟨hpl, hpo, hc, hw⟩ := fit
  simp only [Hub.clearOvf]
  refine ⟨fun p => ?_, hpo, hc.ofFn (fun _ t => t) fun _ t => t, hw⟩
  cases p with
  | a => exact (hpl .a).clearOvf
  | b => exact (hpl .b).clearOvf
  | c => exact (hpl .c).clearOvf

theorem Hub.Fits.chimneyOverflow (fit : h.Fits N) : h.chimneyOverflow.Fits N :=
  Hub.Fits.foldl fit.ucount fun _ _ t => t.event fun _ t => t.setDet

theorem Hub.Fits.chimneyPush {i : Fin 16} {e : QEntry} (fit : h.Fits N) : (h.chimneyPush i e).Fits N :=
  Hub.Fits.when (fit.setChim (fit.chimney.upd_out _ fun _ t => Queue.push_length _ t)) fun t => t.chimneyOverflow

theorem Hub.Fits.laneAction {type : Byte} (fit : h.Fits N) : (h.laneAction type).Fits N := Hub.Fits.ite fit.chimneyPush fit

theorem Hub.Fits.requestSince {ovfclr : Bool} {ago : Nat} (fit : h.Fits N) : (h.requestSince ovfclr ago).Fits N :=
  Hub.Fits.ite fit (Hub.Fits.ite (Hub.Fits.laneAction fit) (Hub.Fits.foldl fit fun _ _ t => Hub.Fits.ite t t))

theorem Hub.Fits.requestSnapshot {ovfclr : Bool} (fit : h.Fits N) : (h.requestSnapshot ovfclr).Fits N := fit.requestSince
theorem Hub.Fits.latchDigest (fit : h.Fits N) : h.latchDigest.Fits N := Hub.Fits.ite fit fit
theorem Hub.Fits.capturePlane (fit : h.Fits N) : (h.capturePlane p).Fits N := fit

theorem Hub.Fits.finishSnapshot (fit : h.Fits N) : h.finishSnapshot.Fits N := by
  simp only [Hub.finishSnapshot]; split
  · exact fit
  · exact Hub.Fits.ite fit (Hub.Fits.ucause (Hub.Fits.latchDigest (Hub.Fits.when
      (Hub.Fits.withSnap (Hub.Fits.foldl fit fun _ _ t => Hub.Fits.ite t.capturePlane t)) fun t => t.clearOvf)))

theorem Hub.Fits.captureWith {sec low : Word} {here : PlaneId → Bool} (fit : h.Fits N) : (h.captureWith sec low here).Fits N :=
  Hub.Fits.finishSnapshot (Hub.Fits.foldl fit fun _ _ t => Hub.Fits.ite t.capturePlane t)

theorem Hub.Fits.captureAt (fit : h.Fits N) : (h.captureAt p).Fits N := fit.captureWith

theorem Hub.Fits.farSnapshot {ovfclr : Bool} {sec : Word} {frame : Nat} (fit : h.Fits N) :
    (h.farSnapshot ovfclr sec frame).Fits N :=
  Hub.Fits.captureWith fit

theorem Hub.Fits.takeSnapshot (fit : h.Fits N) : h.takeSnapshot.Fits N := by
  unfold Hub.takeSnapshot; split
  · exact fit
  · exact Hub.Fits.ite fit.captureAt fit

theorem Hub.Fits.endFrame (fit : h.Fits N) : (h.endFrame p).Fits N :=
  Hub.Fits.ite (Hub.Fits.finishSnapshot (Hub.Fits.capturePlane fit)) fit

/-! Boundaries -/

theorem Hub.Fits.drainLane3 (fit : h.Fits N) : (h.drainLane3 p).Fits N := by
  simp only [Hub.drainLane3]
  exact Hub.Fits.ite fit (fit.setChim (Chimney.Fits.withSlot0 (Chimney.Fits.ite fit.chimney fit.chimney.drain)))

theorem Hub.Fits.closeFrame (fit : h.Fits N) : (h.closeFrame p).Fits N :=
  Hub.Fits.modPlane (Hub.Fits.drainLane3 (Hub.Fits.endFrame
    (fit.leaveZero.modPlane fun _ t => t.elapse.fineMoves.slewFrame.evalDamper))) fun _ t => t

theorem Hub.Fits.checkCounters (fit : h.Fits N) : (h.checkCounters p).Fits N := fit

theorem Hub.Fits.openFrame {judge : Plane → Plane} (fit : h.Fits N) (hjudge : ∀ z : Plane, z.Fits → (judge z).Fits) :
    (h.openFrame p judge).Fits N :=
  Hub.Fits.modPlane (Hub.Fits.checkCounters (Hub.Fits.onPlaneFree (fit.modPlane fun _ t => t)
    fun _ _ t => (t.endEvents.openLoop hjudge).applyPending.isolateMore)) fun _ t => t.sendSlot0

theorem Hub.Fits.ppsStep {m : Option PpsMeas} (fit : h.Fits N) : (h.ppsStep p m).Fits N :=
  Hub.Fits.openFrame (Hub.Fits.onPlaneFree (fit.closeFrame.modPlane fun _ t => t) fun _ _ t => t.openSecond)
    fun _ t => by
      split
      · exact t
      · exact t.refSecond.countVcob

theorem Hub.Fits.frameStep (fit : h.Fits N) : (h.frameStep p).Fits N :=
  Hub.Fits.ite (Hub.Fits.openFrame (fit.closeFrame.modPlane fun _ t => t) fun _ t => t) fit.ppsStep

theorem Hub.Fits.takeMirror {b : Option PartnerBank} (fit : h.Fits N) : (h.takeMirror p b).Fits N := by
  unfold Hub.takeMirror; split
  · exact fit
  · exact Hub.Fits.ite (Hub.Fits.ite (Hub.Fits.modPlane fit fun _ t => t) fit) fit

theorem Hub.Fits.chimneyReading {ch : Fin 2} {r : Option Int} (fit : h.Fits N) : (h.chimneyReading ch r).Fits N := by
  unfold Hub.chimneyReading; split
  · exact fit
  · exact Hub.Fits.ite (Hub.Fits.ite (Hub.Fits.ucount (fit.setChim fit.chimney.reading)) (fit.setChim fit.chimney.reading)) fit

theorem Hub.Fits.msChimney (fit : h.Fits N) : ({ h with chim := h.chim.ms } : Hub).Fits N := fit.setChim fit.chimney.ms

theorem Hub.Fits.msBoundary {p : PlaneId} {m : MsMeas} (fit : h.Fits N) : (h.msBoundary p m).Fits N := by
  have t : (h.onPlane p fun x => x.msStep m).Fits N := fit.onPlane fun _ t => t.msStep
  simp only [Hub.msBoundary]; split
  · exact Hub.Fits.msChimney (Hub.Fits.chimneyReading (Hub.Fits.chimneyReading t))
  · exact t

theorem Hub.Fits.sampleUnit (fit : h.Fits N) : h.sampleUnit.Fits N := by
  simp only [Hub.sampleUnit]
  exact Hub.Fits.setUDet (Hub.Fits.foldl (Hub.Fits.foldl fit.setUDet.setUDet fun _ _ t => t.setUDet) fun _ _ t => t.setUDet)

theorem Hub.Fits.ageEvents (fit : h.Fits N) : h.ageEvents.Fits N :=
  Hub.Fits.foldl fit fun _ _ t => Hub.Fits.ite t (Hub.Fits.ite (Hub.Fits.setUDet t.modUSrc) t.modUSrc)

theorem Hub.Fits.carryCauses (fit : h.Fits N) : h.carryCauses.Fits N :=
  Hub.Fits.when (fit.allPorts fun _ _ t => t) fun t => Hub.Fits.foldl t fun _ _ t => Hub.Fits.ite t.chimneyPush t

theorem Hub.Fits.hkTick (fit : h.Fits N) : h.hkTick.Fits N := by
  have t : h.ageEvents.sampleUnit.carryCauses.Fits N := fit.ageEvents.sampleUnit.carryCauses
  simp only [Hub.hkTick]
  generalize h.ageEvents.sampleUnit.carryCauses = k at t ⊢
  exact Hub.Fits.allPorts (Hub.Fits.withTicks (t.setChim t.chimney.tick)) fun _ _ t => t

theorem Hub.Fits.writeWaiting {n : Nat} (fit : h.Fits N) : (Hub.writeWaiting n h).Fits N := by
  induction n generalizing h with
  | zero => exact fit
  | succ n ih =>
    unfold Hub.writeWaiting; split
    · exact fit
    · rename_i r rest e
      have room : rest.length + 1 ≤ 64 := by simpa [e] using HubFits.waiting fit
      exact Hub.Fits.ite fit (ih (Hub.Fits.writeEntry (fit.setLog (Nat.le_of_succ_le room))))

theorem Hub.Fits.takeRecord (fit : h.Fits N) : (h.takeRecord p).Fits N := by
  unfold Hub.takeRecord; split
  · exact fit
  · rename_i r rest e
    obtain ⟨ho, hk, hg⟩ := fit.plane (p := p)
    have room : rest.length + 1 ≤ 16 := by simpa [e] using ho
    have t : (h.modPlane p fun x => { x with outq := rest }).Fits N := fit.setPlane ⟨Nat.le_of_succ_le room, hk, hg⟩
    split
    · exact Hub.Fits.ite t.chimneyPush t
    · exact Hub.Fits.ite fit t.writeEntry

theorem Hub.Fits.compare {i : Fin 3} {d : Int} (fit : h.Fits N) : (h.compare i d).Fits N :=
  Hub.Fits.ite fit (Hub.Fits.when (Hub.Fits.judgeOutliers (Hub.Fits.unless (Hub.Fits.withCmp fit) fun t => t.cause.cause))
    fun t => t.allPlanes fun _ _ t => Plane.Fits.ite t.count t)

theorem Hub.Fits.keepField {k : WriteKind} (fit : h.Fits N) : (h.keepField p k).Fits N := fit.modPlane fun _ t => t

theorem Hub.Fits.seeValue {v : Hand} (fit : h.Fits N) : (h.seeValue p v).Fits N := by
  cases v with
  | fire n => exact fit.modPlane fun _ t => t
  | snapshot => exact fit
  | standby b => exact fit.keepField
  | force n b => exact fit.keepField

/-! Environment -/

theorem Hub.Fits.judgeFeed {n : Fin 2} {mean : Int} (fit : h.Fits N) : (h.judgeFeed n mean).Fits N :=
  Hub.Fits.when (Hub.Fits.setUDet (Hub.Fits.setUDet (Hub.Fits.setUDet (Hub.Fits.setUDet (Hub.Fits.withEnv fit)))))
    fun t => t.ulog.ucause

theorem Hub.Fits.checkFan {fan : Fin 4} {present : Bool} {percent : Nat} (fit : h.Fits N) :
    (h.checkFan fan present percent).Fits N :=
  Hub.Fits.setFans (Hub.Fits.setUDet fit)

theorem Hub.Fits.sampleEnv {m : EnvMeas} (fit : h.Fits N) : (h.sampleEnv m).Fits N :=
  Hub.Fits.setFans (Hub.Fits.foldl (Hub.Fits.setUDet (Hub.Fits.setUDet (Hub.Fits.setUDet fit)))
    fun _ _ t => Hub.Fits.event (t.modPlane fun _ t => t.heat) fun _ t => t.setDet)

theorem Hub.Fits.cutFeed {feed : Fin 2} {cut : Bool} (fit : h.Fits N) : (h.cutFeed feed cut).Fits N := fit

/-! Grid -/

theorem Hub.Fits.moveCount {f : Plane → Plane} (fit : h.Fits N) (hf : ∀ z : Plane, z.Fits → (f z).Fits) :
    (h.moveCount p f).Fits N := by
  have t : ((h.modPlane p Plane.evalDamper).endFrame p).Fits N := Hub.Fits.endFrame (fit.modPlane fun _ t => t.evalDamper)
  have moved {k : Hub} (hk : k.Fits N) : (k.onPlane p f).Fits N := hk.onPlane hf
  rcases Bool.eq_false_or_eq_true ((h.plane p).time.cyc == 0) with e | e
  · simp only [Hub.moveCount, e, if_true]
    exact (moved fit).modPlane fun _ t => t.sendSlot0
  · simp only [Hub.moveCount, e, Bool.false_eq_true, if_false]
    exact Hub.Fits.openFrame (moved (t.modPlane fun _ t => t)) fun _ t => t

theorem Hub.Fits.realignTo {sec : Word} (fit : h.Fits N) : (h.realignTo p sec).Fits N :=
  Hub.Fits.ite (fit.moveCount fun _ t => t.discardFabric.register.history)
    (Hub.Fits.ite (fit.onPlane fun _ t => Plane.Fits.history t)
      (fit.moveCount fun _ t => Plane.Fits.history (Plane.Fits.moveGrid t)))

theorem Hub.Fits.realign (fit : h.Fits N) : (h.realign p).Fits N := by
  simp only [Hub.realign]; split
  · split
    · exact fit
    · exact fit.realignTo
  · exact fit.realignTo

theorem Hub.Fits.announceRealign (fit : g.Fits N) : (h.announceRealign p g).Fits N := Hub.Fits.ite fit.laneAction fit

/-! Nv -/

theorem Hub.Fits.useStoreChecks {k : Nat} (fit : h.Fits N) : (h.useStoreChecks k).Fits N := by
  unfold Hub.useStoreChecks; split
  · exact fit
  · exact Hub.Fits.ucountN (fit.modPlane fun _ t => t.spendChecks)

theorem Hub.Fits.compact (fit : h.Fits N) : h.compact.Fits N := Hub.Fits.ucount (Hub.Fits.ucountN (Hub.Fits.useStoreChecks fit))
theorem Hub.Fits.makeRoom (fit : h.Fits N) : h.makeRoom.Fits N := Hub.Fits.ite fit fit.compact

theorem Hub.Fits.append {page : BitVec 16} {data : List Byte} {ok : Bool} (fit : h.Fits N) : (h.append page data ok).Fits N :=
  Hub.Fits.withNv (Hub.Fits.ite fit fit)

theorem Hub.Fits.put {page : BitVec 16} {data : List Byte} {ok : Bool} (fit : h.Fits N) : (h.put page data ok).Fits N :=
  fit.makeRoom.append

theorem Hub.Fits.recordEffect {page : BitVec 16} {data : List Byte} (fit : h.Fits N) : (h.recordEffect page data).Fits N :=
  Hub.Fits.ite (Hub.Fits.allPorts fit fun _ _ t => t) (Hub.Fits.ite (Hub.Fits.allPorts fit fun _ _ t => t) fit)

theorem Hub.Fits.program {page : BitVec 16} {data : List Byte} {ok1 ok2 : Bool} (fit : h.Fits N) :
    (h.program page data ok1 ok2).1.Fits N := by
  simp only [Hub.program, apply_ite Prod.fst]
  exact Hub.Fits.andThen (Hub.Fits.unless fit.put fun t => t.put) fun t =>
    Hub.Fits.ite (Hub.Fits.recordEffect (Hub.Fits.ucount (Hub.Fits.withNv t))) (Hub.Fits.withNv t)

theorem Hub.Fits.startOp {op : NvOp} (fit : h.Fits N) : (h.startOp op).Fits N := Hub.Fits.withNv fit.makeRoom

theorem Hub.Fits.startWaiting (fit : h.Fits N) : h.startWaiting.Fits N := by
  unfold Hub.startWaiting; split
  · exact Hub.Fits.startOp fit
  · exact fit

theorem Hub.Fits.ownWrite {page : Fin 128} {data : List Byte} (fit : h.Fits N) : (h.ownWrite page data).Fits N := fit
theorem Hub.Fits.namePage {page : Fin 128} (fit : h.Fits N) : (h.namePage q page).Fits N := fit.modPort fun _ t => t

theorem Hub.Fits.loadPage {page : Fin 128} (fit : h.Fits N) : (h.loadPage q page).Fits N :=
  Hub.Fits.ite (Hub.Fits.withNv (Hub.Fits.modPort (Hub.Fits.ite fit.useStoreChecks fit.ucount) fun _ t => t))
    (fit.modPort fun _ t => t)

theorem Hub.Fits.nvRead {addr : BitVec 7} {page : Fin 128} (fit : h.Fits N) : (h.nvRead q addr page).Fits N :=
  fit.judged fun _ => fit.loadPage

theorem Hub.Fits.nvWrite {addr : BitVec 7} {page : Fin 128} (fit : h.Fits N) : (h.nvWrite q addr page).Fits N :=
  fit.judged fun _ => fit.startOp

theorem Hub.Fits.lockOut (fit : h.Fits N) : h.lockOut.Fits N :=
  Hub.Fits.ulog (Hub.Fits.allPorts (Hub.Fits.setUDet fit) fun _ _ t => t)

theorem Hub.Fits.passwordFails {write : Bool} (fit : h.Fits N) : (h.passwordFails q write).Fits N :=
  Hub.Fits.when (Hub.Fits.ulog (Hub.Fits.ucount (Hub.Fits.withNv (fit.modPort fun _ t => t)))) fun t => t.lockOut

theorem Hub.Fits.presentKey {write : Bool} (fit : h.Fits N) : (h.presentKey q write).Fits N :=
  Hub.Fits.ite (Hub.Fits.modPort (fit.modPort fun _ t => t) fun _ t => t)
    (Hub.Fits.passwordFails (fit.modPort fun _ t => t))

theorem Hub.Fits.keyRefused (fit : h.Fits N) : h.keyRefused.Fits N := Hub.Fits.ite fit.ucount fit

theorem Hub.Fits.nvKey {addr : BitVec 7} {write : Bool} (fit : h.Fits N) : (h.nvKey q addr write).Fits N :=
  fit.keyRefused.judged fun _ => fit.keyRefused.presentKey

theorem Hub.Fits.nvPassword {addr : BitVec 7} {write : Bool} (fit : h.Fits N) : (h.nvPassword q addr write).Fits N :=
  fit.keyRefused.judged fun _ => Hub.Fits.modPort (Hub.Fits.startOp fit.keyRefused) fun _ t => t

theorem Hub.Fits.setKsel {k : BitVec 2} (fit : h.Fits N) : (h.setKsel q k).Fits N := fit.modPort fun _ t => t

theorem Hub.Fits.endOp {op : NvOp} {ok1 ok2 : Bool} (fit : h.Fits N) : (h.endOp op ok1 ok2).Fits N := by
  simp only [Hub.endOp]
  refine Hub.Fits.startWaiting ?_
  split
  · exact Hub.Fits.withNv fit.program
  · exact Hub.Fits.modPort (Hub.Fits.withNv fit.program) fun _ t => Port.Fits.ucauseSet t

theorem Hub.Fits.hubPage {page : Fin 128} {hiIn loIn hiInt : Int} (fit : h.Fits N) :
    (h.hubPage page hiIn loIn hiInt).Fits N := by
  unfold Hub.hubPage; split
  · exact fit
  · exact Hub.Fits.ite fit (Hub.Fits.ite fit.ownWrite fit.ownWrite.startWaiting)

/-! Ownership -/

theorem Hub.Fits.causeIn {bit : Nat} (fit : h.Fits N) : (h.causeIn q p bit).Fits N := by
  have sent : (h.modPlane p (·.send (.cause bit))).Fits N := fit.modPlane fun _ hz => hz.send
  exact Hub.Fits.ite (Hub.Fits.ite (sent.modPort fun _ t => t) (sent.modPort fun _ t => t.cause)) (fit.modPort fun _ t => t.cause)

theorem Hub.Fits.logPort {type : Byte} {w4 : Word} (fit : h.Fits N) : (h.logPort p type q w4).Fits N :=
  fit.modPlane fun _ t => t.send

theorem Hub.Fits.endOwner {code : Nat} (fit : h.Fits N) : (h.endOwner p code).Fits N := by
  unfold Hub.endOwner; split
  · exact fit
  · exact Hub.Fits.foldl (Hub.Fits.logPort (fit.modPlane fun _ t => t)) fun _ _ t => Hub.Fits.ite t t.causeIn

theorem Hub.Fits.causeAt {off : Fin 8} {bit : Nat} (fit : h.Fits N) : (h.causeAt q off bit).Fits N :=
  Hub.Fits.ite fit.causeIn (fit.modPort fun _ t => t.cause)

theorem Hub.Fits.schedLost {s : Sched} (fit : h.Fits N) : (h.schedLost q p s).Fits N :=
  Hub.Fits.causeAt (Hub.Fits.logPort fit.refuse)

theorem Hub.Fits.discardSchedsOf (fit : h.Fits N) : (h.discardSchedsOf p q).Fits N :=
  Hub.Fits.foldl (fit.modPort fun _ t => ⟨(List.length_filter_le _ _).trans (by simpa using t.1), t.2⟩)
    fun _ _ t => t.schedLost

theorem Hub.Fits.discardScheds (fit : h.Fits N) : (h.discardScheds p).Fits N :=
  Hub.Fits.foldl fit fun _ _ t => t.discardSchedsOf

theorem Hub.Fits.discardFarScheds (fit : h.Fits N) : h.discardFarScheds.Fits N :=
  Hub.Fits.foldl fit fun _ _ t =>
    Hub.Fits.foldl (t.modPort fun _ t => ⟨(List.length_filter_le _ _).trans t.1, t.2⟩) fun _ _ t => t.schedLost

theorem Hub.Fits.release (fit : h.Fits N) : (h.release q p).Fits N := Hub.Fits.ite fit.endOwner fit

/-! Tandem -/

theorem Hub.Fits.tandemEvent {code : Nat} (fit : h.Fits N) : (h.tandemEvent code).Fits N :=
  Hub.Fits.unless fit.ulog fun t => Hub.Fits.foldl t fun _ _ t => t.cause

theorem Hub.Fits.modChim {f : Chimney → Chimney} (fit : h.Fits N) (hf : ∀ c : Chimney, c.Fits → (f c).Fits) :
    (h.modChim f).Fits N :=
  fit.setChim (hf _ fit.chimney)

theorem Hub.Fits.modeAll {out : Bool} {m : PlaneId → LoopMode} {r : PlaneId → Fin 4} {f : PlaneId → Int → Plane → Plane}
    (fit : h.Fits N) (hf : ∀ (p : PlaneId) (v : Int) (z : Plane), z.Fits → (f p v z).Fits) :
    (h.modeAll out m r f).Fits N :=
  Hub.Fits.foldl fit fun _ _ t => Hub.Fits.ite (t.onPlaneFree (hf _)) (t.modPlane fun _ t => t.modeStopped)

theorem Hub.Fits.chimneyState {ch : Fin 2} {st : ChState} (fit : h.Fits N) : (h.chimneyState ch st).Fits N :=
  Hub.Fits.when (fit.modChim fun _ t => Chimney.Fits.ite t t) fun t => t.ucount

theorem Hub.Fits.rejudgePorts (fit : h.Fits N) : h.rejudgePorts.Fits N := fit.chimneyState.chimneyState

theorem Hub.Fits.chimneySees {ch : Fin 2} {s : PortSight} (fit : h.Fits N) : (h.chimneySees ch s).Fits N :=
  Hub.Fits.rejudgePorts (fit.modChim fun _ t => t.sees)

theorem Hub.Fits.joinCmd {addr : BitVec 7} {r : PartnerReady} (fit : h.Fits N) : (h.joinCmd q addr r).Fits N :=
  Hub.Fits.andThen (Hub.Fits.when fit fun t => t.tandemEvent) fun t =>
    t.judged fun _ => Hub.Fits.rejudgePorts (t.modChim fun _ t => t)

theorem Hub.Fits.announce (fit : h.Fits N) : h.announce.Fits N :=
  Hub.Fits.ite (Hub.Fits.ite (Hub.Fits.laneAction (fit.modChim fun _ t => t)) fit)
    (Hub.Fits.ite (Hub.Fits.modeAll (Hub.Fits.rejudgePorts (fit.modChim fun _ t => t)) fun _ _ _ t => t.takeRef3) fit)

theorem Hub.Fits.completeJoin {secs : Tri Word} (fit : h.Fits N) : (h.completeJoin secs).Fits N := by
  simp only [Hub.completeJoin]
  exact Hub.Fits.tandemEvent (Hub.Fits.rejudgePorts (Hub.Fits.modChim
    (Hub.Fits.when fit fun t => Hub.Fits.foldl t fun _ _ t => t.realignTo) fun _ t => t))

theorem Hub.Fits.abandonJoin (fit : h.Fits N) : h.abandonJoin.Fits N :=
  Hub.Fits.ite (Hub.Fits.tandemEvent (Hub.Fits.when
    (fit.modChim fun _ t => t.upd_out _ fun _ _ => Nat.zero_le _) fun t => t.modeAll fun _ _ _ t => t.dropRef3)) fit

theorem Hub.Fits.loneSnapshot (fit : h.Fits N) : h.loneSnapshot.Fits N := Hub.Fits.ite fit fit.finishSnapshot

theorem Hub.Fits.separate {lost : Bool} (fit : h.Fits N) : (h.separate lost).Fits N :=
  Hub.Fits.tandemEvent (Hub.Fits.when (Hub.Fits.when (Hub.Fits.loneSnapshot (Hub.Fits.discardFarScheds
    (Hub.Fits.withUcommits (Hub.Fits.allPorts (Hub.Fits.allPlanes (Hub.Fits.ucountN (Hub.Fits.rejudgePorts
      (fit.modChim fun _ t => t.map (fun _ _ => Nat.zero_le _) fun _ _ => Nat.zero_le _)))
      fun _ _ t => Plane.Fits.dropCrossed t) fun _ _ t => t))))
    fun t => t.modeAll fun _ _ _ t => t.dropRef3) fun t => Hub.Fits.foldl t fun _ _ t => t.event fun _ t => t.setDet)

theorem Hub.Fits.switchOver {inFlight : Nat} (fit : h.Fits N) : (h.switchOver inFlight).Fits N :=
  Hub.Fits.ite (Hub.Fits.tandemEvent (Hub.Fits.when (Hub.Fits.ucountN (Hub.Fits.ucount (Hub.Fits.rejudgePorts
    (fit.modChim fun _ t => t)))) fun t => Hub.Fits.foldl t fun _ _ t => t.eventFree fun _ _ t => t.leave3)) fit

theorem Hub.Fits.enterTunnel {off : Fin 8} {k : WriteKind} (fit : h.Fits N) : (h.enterTunnel q off k).Fits N :=
  Hub.Fits.unless fit.chimneyPush fun t => Hub.Fits.modPort (t.modChim fun _ t => t) fun _ t => t

theorem Hub.Fits.leaveCmd {addr : BitVec 7} (fit : h.Fits N) : (h.leaveCmd q addr).Fits N :=
  fit.judged fun _ => Hub.Fits.laneAction (fit.modChim fun _ t => t)

/-! Start -/

theorem Hub.Fits.lateUnit (fit : h.Fits N) : (h.lateUnit p).Fits N := Hub.Fits.modPlane fit fun _ t => t

theorem Hub.Fits.startPlane (fit : h.Fits N) : (h.startPlane p).Fits N :=
  Hub.Fits.firstBank (Hub.Fits.modPlane (Hub.Fits.modPlane (Hub.Fits.restartComparators (Hub.Fits.lateUnit
    (fit.onPlane fun _ t => t.release))) fun _ t => t) fun _ t => t)

/-! Power -/

theorem Hub.Fits.modCfg {f : Cfg → Cfg} (fit : h.Fits N) : (h.modCfg f).Fits N := fit
theorem Hub.Fits.modSlot {i : Fin 2} {f : Slot → Slot} (fit : h.Fits N) : (h.modSlot i f).Fits N := fit

/-- Kindling starts with every buffer empty. -/
theorem Hub.Fits.fromFlash : h.fromFlash.Fits N :=
  Hub.Fits.setFans (Hub.Fits.foldl
    { planes := fun p => by cases p <;> exact Plane.Fits.empty
      ports := fun q => by simp [PortFits]
      chim := fun k => by simp
      waiting := Nat.zero_le _ } fun _ _ t => t.firstBank)

theorem Hub.Fits.recordRecovery {ok : Bool} (fit : h.Fits N) : (h.recordRecovery q ok).Fits N := Hub.Fits.ucount fit.ulog

theorem Hub.Fits.kindleBus {sdaLow : Bool} (fit : h.Fits N) : (h.kindleBus q sdaLow).Fits N :=
  Hub.Fits.ite (Hub.Fits.recordRecovery fit) fit

theorem Hub.Fits.selfTest {ok : Bool} (fit : h.Fits N) : (h.selfTest ok).Fits N := Hub.Fits.ite fit (Hub.Fits.setUDet fit)

theorem Hub.Fits.resolved {n : Nat} (fit : h.Fits N) : (h.resolved n).Fits N :=
  Hub.Fits.ite fit (Hub.Fits.fireUEvent fit.ucountN)

theorem Hub.Fits.kindle {a : Vector Bool 3} {b : Bool} : (h.kindle a b).Fits N :=
  Hub.Fits.kindleBus (Hub.Fits.kindleBus (Hub.Fits.kindleBus (Hub.Fits.startWaiting (Hub.Fits.ownWrite (Hub.Fits.ulog
    (Hub.Fits.resolved (Hub.Fits.ucountN Hub.Fits.fromFlash.selfTest)))))))

theorem Hub.Fits.losePower {markDone headerOk : Bool} (fit : h.Fits N) : (h.losePower markDone headerOk).Fits N := by
  cases e : h.nv.op with
  | none => simp only [Hub.losePower, e]; exact fit
  | some op => simp only [Hub.losePower, e]; exact Hub.Fits.withNvPowered fit.append

theorem Hub.Fits.rejectImage {slot : Fin 2} {code : Nat} (fit : h.Fits N) : (h.rejectImage slot code).Fits N :=
  Hub.Fits.unless fit.ulog fun t => t.ucount

theorem Hub.Fits.imageCond {n : Fin 32} {b : Bool} (fit : h.Fits N) : (h.imageCond n b).Fits N := Hub.Fits.setUDet fit.modUSrc
theorem Hub.Fits.acceptImage (fit : h.Fits N) : h.acceptImage.Fits N := fit.imageCond.imageCond

theorem Hub.Fits.takeUnit {f : ImageFile} (fit : h.Fits N) : (h.takeUnit f).Fits N := by
  simp only [Hub.takeUnit]
  refine Hub.Fits.unless ⟨HubFits.planes fit, fun q => by simpa using HubFits.ports fit q, HubFits.chim fit,
      HubFits.waiting fit⟩ fun t => Hub.Fits.handChanged ⟨HubFits.planes t, fun q => by simpa [Port.settings] using HubFits.ports t q,
      (HubFits.chim t).ofFn (fun _ u => u) fun _ u => u, HubFits.waiting t⟩

theorem Hub.Fits.takeDigests {f : ImageFile} {slot : Fin 2} (fit : h.Fits N) : (h.takeDigests p f slot).Fits N :=
  Hub.Fits.withCfg (fit.modPlane fun _ t => t)

theorem Hub.Fits.logImage {type : Byte} {slot : Fin 2} {f : ImageFile} (fit : h.Fits N) : (h.logImage type slot f).Fits N :=
  fit.ulog

theorem Hub.Fits.checkRun (fit : h.Fits N) : h.checkRun.Fits N := Hub.Fits.ite fit fit

theorem Hub.Fits.applyImage {slot : Fin 2} {f : ImageFile} {fallback : Bool} (fit : h.Fits N) :
    (h.applyImage slot f fallback).Fits N :=
  Hub.Fits.checkRun (Hub.Fits.logImage (Hub.Fits.ucount (Hub.Fits.rejudgePorts (Hub.Fits.foldl (Hub.Fits.foldl
    (Hub.Fits.withCfgNv fit.acceptImage.takeUnit) fun _ _ t => t.takeDigests.modPlane fun _ t => t.takeSection.imageGens)
    fun _ _ t => t.startPlane))))

theorem Hub.Fits.failRead {slot : Fin 2} {code : Nat} (fit : h.Fits N) : (h.failRead slot code).Fits N :=
  fit.rejectImage.imageCond

theorem Hub.Fits.tryRead {slot : Fin 2} {r : SlotRead} {fallback : Bool} (fit : h.Fits N) :
    (h.tryRead slot r fallback).1.Fits N := by
  simp only [Hub.tryRead]; split
  · exact fit.failRead
  · split
    · exact fit.applyImage.modSlot
    · exact fit.failRead

theorem Hub.Fits.bootImage {reads : Vector SlotRead 2} (fit : h.Fits N) : (h.bootImage reads).Fits N :=
  Hub.Fits.ite fit.tryRead (Hub.Fits.ite (Hub.Fits.tryRead fit.tryRead) (Hub.Fits.withUpstate (Hub.Fits.tryRead fit.tryRead)))

theorem Hub.Fits.openGate {f : Plane → Plane} (fit : h.Fits N) (hf : ∀ z : Plane, z.Fits → (f z).Fits) :
    (h.openGate p f).Fits N :=
  Hub.Fits.checkRun (Hub.Fits.when (fit.modPlane fun _ t => hf _ t) fun t => t.onPlane fun _ t => t.lightLinks)

/-! Standby -/

theorem Hub.Fits.standbyEnter (fit : h.Fits N) : (h.standbyEnter p).Fits N := fit.onPlane fun _ t => t.enterStandby
theorem Hub.Fits.checkStandby (fit : h.Fits N) : h.checkStandby.Fits N := Hub.Fits.ite (Hub.Fits.ucause (Hub.Fits.ulog fit)) fit

theorem Hub.Fits.reachStandby (fit : h.Fits N) : (h.reachStandby p).Fits N :=
  Hub.Fits.checkStandby (Hub.Fits.judgeOutliers (Hub.Fits.discardScheds (fit.onPlane fun _ t => t.abandonSwitch.stopClocks)))

theorem Hub.Fits.standbyLeave (fit : h.Fits N) : (h.standbyLeave p).Fits N := fit.modPlane fun _ t => t.leaveStandby

theorem Hub.Fits.standbyWithUnit (fit : h.Fits N) : (h.standbyWithUnit p).Fits N :=
  Hub.Fits.ite (fit.onPlane fun _ t => t.enterStandby) (Hub.Fits.ite (fit.modPlane fun _ t => t) fit)

theorem Hub.Fits.leaveWithUnit (fit : h.Fits N) : (h.leaveWithUnit p).Fits N := Hub.Fits.ite fit.standbyLeave fit

theorem Hub.Fits.handStandby {b : Bool} (fit : h.Fits N) : (h.handStandby b p).Fits N :=
  Hub.Fits.ite fit (Hub.Fits.ite fit.standbyWithUnit fit.leaveWithUnit)

theorem Hub.Fits.unitEnter (fit : h.Fits N) : h.unitEnter.Fits N :=
  Hub.Fits.checkStandby (Hub.Fits.setFans (Hub.Fits.foldl (Hub.Fits.withUstby (Hub.Fits.modChim
    (Hub.Fits.when (fit.allPorts fun _ _ t => t.sleepUnit) fun t => t.separate) fun _ t => t)) fun _ _ t => t.handStandby))

theorem Hub.Fits.unitLeave (fit : h.Fits N) : h.unitLeave.Fits N :=
  Hub.Fits.ucause (Hub.Fits.ulog (Hub.Fits.setFans (Hub.Fits.foldl (Hub.Fits.rejudgePorts
    (Hub.Fits.allPorts fit fun _ _ t => t.wakeUnit)) fun _ _ t => t.handStandby)))

/-! Images -/

theorem Hub.Fits.begins {cmd : BitVec 4} (fit : h.Fits N) : (h.begins cmd).Fits N := fit
theorem Hub.Fits.ends {code : Nat} (fit : h.Fits N) : (h.ends code).Fits N := Hub.Fits.ucause fit.modCfg

theorem Hub.Fits.startErase {i : Fin 2} (fit : h.Fits N) : (h.startErase i).Fits N :=
  Hub.Fits.modCfg (Hub.Fits.modSlot fit.begins)

theorem Hub.Fits.endErase (fit : h.Fits N) : h.endErase.Fits N := by
  unfold Hub.endErase; split
  · exact fit
  · exact Hub.Fits.ends (Hub.Fits.modSlot fit.modCfg)

theorem Hub.Fits.openSlot {i : Fin 2} (fit : h.Fits N) : (h.openSlot q i).Fits N := Hub.Fits.ends (Hub.Fits.modCfg fit.begins)

theorem Hub.Fits.closeSlot (fit : h.Fits N) : (h.closeSlot q).Fits N := by
  unfold Hub.closeSlot; split
  · exact fit
  · exact Hub.Fits.modCfg fit.begins

theorem Hub.Fits.bootSlot {i : Fin 2} (fit : h.Fits N) : (h.bootSlot i).Fits N := by
  simp only [Hub.bootSlot]
  refine Hub.Fits.ends ?_
  split
  · exact fit.begins.modCfg
  · exact Hub.Fits.ownWrite fit.begins.modCfg

theorem Hub.Fits.orderLoad {i : Fin 2} {ps : List PlaneId} (fit : h.Fits N) : (h.orderLoad q i ps).Fits N :=
  Hub.Fits.foldl fit fun _ _ t => t.modPlane fun _ t => t

theorem Hub.Fits.cfgEffect {c : CfgCmd} (fit : h.Fits N) : (h.cfgEffect q c).Fits N := by
  cases c with
  | erase i => exact fit.startErase
  | openSlot i => exact fit.openSlot
  | close => exact fit.closeSlot
  | boot i => exact fit.bootSlot
  | load i => exact Hub.Fits.orderLoad (Hub.Fits.modCfg fit.begins)
  | reload i w => exact fit.begins.orderLoad

theorem Hub.Fits.cfgCommand {addr : BitVec 7} {c : CfgCmd} (fit : h.Fits N) : (h.cfgCommand q addr c).Fits N :=
  fit.judged fun _ => fit.cfgEffect

theorem Hub.blockReason_none {q : PortId} {b k : Nat} (e : h.blockReason q b k = .none) : (h.port q).blocks.length < 2 := by
  obtain ⟨-, -, -, -, room⟩ := firstReason_none.mp e
  split at room
  · cases room
  · simp only [Bool.or_eq_false_iff, decide_eq_false_iff_not] at room
    exact not_le.mp room.2

theorem Hub.Fits.bufferBlock {q : PortId} {b : Nat} {data : List Byte} (fit : h.Fits N) (room : (h.port q).blocks.length < 2) :
    (h.bufferBlock q b data).Fits N := by
  unfold Hub.bufferBlock; split
  · exact fit
  · exact fit.setPort ⟨fit.port.1, by simp only [List.length_append, List.length_cons, List.length_nil]; exact room⟩

theorem Hub.Fits.programBlock (fit : h.Fits N) : (h.programBlock q).Fits N := by
  unfold Hub.programBlock; split
  · exact fit
  · rename_i i b data rest e
    obtain ⟨hs, hb⟩ := fit.port (q := q)
    exact Hub.Fits.modSlot (fit.setPort ⟨hs, by rw [e, List.length_cons] at hb; dsimp only; omega⟩)

theorem Hub.Fits.endVerify {r : SlotRead} (fit : h.Fits N) : (h.endVerify r).Fits N := by
  simp only [Hub.endVerify]; split
  · exact fit
  · split
    · exact Hub.Fits.ends (Hub.Fits.rejectImage fit.modCfg)
    · exact Hub.Fits.ite (Hub.Fits.ends (Hub.Fits.acceptImage (Hub.Fits.modSlot fit.modCfg)))
        (Hub.Fits.ends (Hub.Fits.rejectImage (Hub.Fits.modSlot fit.modCfg)))

theorem Hub.Fits.abandonLoad (fit : h.Fits N) : (h.abandonLoad p q).Fits N :=
  Hub.Fits.when (Hub.Fits.when (Hub.Fits.allPlanes fit.refuse fun _ _ t => Plane.Fits.ite t t) fun t => t.modCfg)
    fun t => t.modCfg

theorem Hub.Fits.reachF0 (fit : h.Fits N) : (h.reachF0 p).Fits N := by
  simp only [Hub.reachF0]; split
  · exact fit
  · exact Hub.Fits.ite fit (Hub.Fits.ite fit.abandonLoad
      (Hub.Fits.judgeOutliers (Hub.Fits.discardScheds (fit.onPlaneFree fun _ _ t => t.atF0))))

theorem Hub.Fits.loadUnit {f : ImageFile} {i : Fin 2} (fit : h.Fits N) : (h.loadUnit f i).Fits N :=
  Hub.Fits.ite (Hub.Fits.foldl (Hub.Fits.modCfg fit.takeUnit) fun _ _ t => t.endOwner) fit

theorem Hub.Fits.holdOut (fit : h.Fits N) : (h.holdOut p).Fits N := fit.onPlane fun _ t => t.holdRefs
theorem Hub.Fits.resetEn (fit : h.Fits N) : (h.resetEn p).Fits N := fit.setPorts fun q => by simpa using HubFits.ports fit q

theorem Hub.Fits.takePlane {i : Fin 2} {f : ImageFile} (fit : h.Fits N) : (h.takePlane p i f).Fits N := by
  have own : (if (h.plane p).sdig = f.sdig.get p then h else h.resetEn p).Fits N := Hub.Fits.unless fit fun t => t.resetEn
  have taken :=
    (own.takeDigests (p := p) (f := f) (slot := i)).modPlane (p := p) (f := fun x => { x with next := none }) fun _ t => t
  simp only [Hub.takePlane]
  refine Hub.Fits.ucount (Hub.Fits.onPlane (Hub.Fits.ite ?_ ?_) fun _ t => t.freshConfig.raise.log)
  · exact Hub.Fits.reforce (Hub.Fits.holdOut (taken.onPlane fun _ t => t.atF1))
  · exact Hub.Fits.startPlane (taken.modPlane fun _ t => t.takeSection.imageGens)

theorem Hub.Fits.finishLoads {f : ImageFile} {i : Fin 2} (fit : h.Fits N) : (h.finishLoads f i).Fits N :=
  Hub.Fits.ite (Hub.Fits.ends (Hub.Fits.when fit fun t =>
    Hub.Fits.logImage (Hub.Fits.ucount (Hub.Fits.withNv (Hub.Fits.ite (Hub.Fits.withUpstate t.modCfg) t.modCfg))))) fit

theorem Hub.Fits.reachF1 (fit : h.Fits N) : (h.reachF1 p).Fits N := by
  simp only [Hub.reachF1]; split
  · exact fit
  · split
    · exact fit
    · exact Hub.Fits.ite fit.loadUnit.takePlane.finishLoads.rejudgePorts.judgeOutliers fit

/-! Windows -/

theorem Hub.Fits.noteRead {space : BitVec 4} {index : BitVec 20} (fit : h.Fits N) : (h.noteRead q space index).Fits N := by
  unfold Hub.noteRead; split
  · split <;> exact fit
  · exact fit

/-! Records -/

theorem Hub.Fits.writeSource {n : Fin 64} {ws : List Word} (fit : h.Fits N) : (h.writeSource p n ws).Fits N :=
  Hub.Fits.unless (Hub.Fits.when fit fun t => t.clearPlaneSticky) fun t => t.setSev

theorem Hub.Fits.writeUnitSource {n : Fin 32} {ws : List Word} (fit : h.Fits N) : (h.writeUnitSource n ws).Fits N :=
  Hub.Fits.unless (Hub.Fits.when fit fun t => t.clearUnitSticky) fun t => t.setUSev

theorem Hub.Fits.setThreshold {i : Item} {n : BitVec 3} (fit : h.Fits N) : (h.setThreshold i n).Fits N := by
  unfold Hub.setThreshold; split
  · exact fit.modPlane fun _ t => t.modLink fun _ u => u.setThr _ _
  · exact fit.modPlane fun _ t => t.upd_gq _ id
  · exact fit.modChim fun _ t => t.setThr
  · exact fit

theorem Hub.Fits.recordAct {i : Item} {ws : List Word} (fit : h.Fits N) (room : ∀ b, i = .block b →
    (h.port q).blocks.length < 2) :
    (h.recordAct q i ws).Fits N := by
  cases i with
  | out p o =>
    refine fit.onPlane fun _ t => ?_
    split
    · exact t.writeCk
    · exact t.writePuRecord
  | link p l => exact fit.onPlane fun _ t => t.writeLink
  | source p n => exact fit.writeSource
  | unitSource n => exact fit.writeUnitSource
  | trigOut p n => exact fit.onPlane fun _ t => Plane.Fits.ite t t.writeTo
  | gen p g => exact fit.onPlane fun _ t => t.writeGen
  | grid p => exact fit.onPlane fun _ t => Plane.Fits.ite t t.setGoff
  | cell p c => exact fit.onPlane fun _ t => t.setCell
  | auth k => exact Hub.Fits.ite fit fit
  | block b => exact fit.bufferBlock (room b rfl)
  | linkQueue p l k => exact fit.setThreshold
  | groupQueue p g => exact fit.setThreshold
  | chimneyQueue k => exact fit.setThreshold
  | counter n => exact fit
  | ti p k => exact fit
  | cert k => exact fit
  | log k => exact fit
  | rate p m => exact fit
  | rtt p l => exact fit

theorem Hub.Fits.writeRecord {off : Fin 8} {space : BitVec 4} {index : BitVec 20} {ws : List Word} (fit : h.Fits N) :
    (h.writeRecord q off space index ws).Fits N := by
  refine fit.judged fun e => ?_
  split
  · exact fit
  · rename_i i hi
    exact fit.recordAct fun b hb => by
      subst hb
      exact Hub.blockReason_none (by simpa [Hub.recordReason, hi, Item.readOnly] using e)

/-! Ports -/

theorem Hub.Fits.start (fit : h.Fits N) : (h.start q).Fits N := Hub.Fits.ite (fit.modPort fun _ t => t) fit

theorem Hub.Fits.voidTx {addr : BitVec 7} {reg : BitVec 5} (fit : h.Fits N) : (h.voidTx q addr reg).Fits N :=
  fit.modPort fun _ t => Port.Fits.endTransaction t.refuse

theorem Hub.Fits.loseMessage (fit : h.Fits N) : (h.loseMessage q).Fits N :=
  Hub.Fits.ucount (Hub.Fits.setUDet (fit.modPort fun _ t => t))

theorem Hub.Fits.attemptFails (fit : h.Fits N) : (h.attemptFails q).Fits N := by
  unfold Hub.attemptFails; split
  · exact fit
  · exact Hub.Fits.ite fit.loseMessage (fit.modPort fun _ t => t)

theorem Hub.Fits.sendAttempt (fit : h.Fits N) : (h.sendAttempt q).Fits N := by
  unfold Hub.sendAttempt; split
  · exact fit
  · exact fit.modPort fun _ t => t

theorem Hub.Fits.attempt {out : AttnEnd} (fit : h.Fits N) : (h.attempt q out).Fits N := by
  unfold Hub.attempt; split
  · cases out with
    | acked => exact Hub.Fits.ucount (fit.sendAttempt.modPort fun _ t => t)
    | nacked => exact fit.sendAttempt.attemptFails
    | lostArb => exact fit.sendAttempt
  · exact fit

theorem Hub.Fits.setStuck {line : BusLine} {b : Bool} (fit : h.Fits N) : (h.setStuck q line b).Fits N := by
  cases line with
  | scl => exact Hub.Fits.setUDet (fit.modPort fun _ t => t)
  | sda => exact Hub.Fits.setUDet (fit.modPort fun _ t => t)

theorem Hub.Fits.voidTarget (fit : h.Fits N) : (h.voidTarget q).Fits N := Hub.Fits.ite fit.voidTx fit

theorem Hub.Fits.recover {lines : BusLines} (fit : h.Fits N) : (h.recover q lines).Fits N := by
  cases lines with
  | bothHigh => exact fit.recordRecovery
  | sclHeld => exact fit.voidTarget.recordRecovery
  | freed _ => exact fit.voidTarget.recordRecovery
  | stuck => exact fit.voidTarget.recordRecovery

theorem Hub.Fits.testPort {lines : BusLines} (fit : h.Fits N) : (h.testPort q lines).Fits N :=
  Hub.Fits.modPort (Hub.Fits.unless fit fun t => t.recover) fun _ t => t.pendMsg

theorem Hub.Fits.localWrite {addr : BitVec 7} {reg : BitVec 5} {range : Bool} {f : Fin 8 → Port → Port} (fit : h.Fits N)
    (hf : ∀ (o : Fin 8) (k : Nat) (z : Port), z.Fits k → (f o z).Fits k) :
    (h.localWrite q addr reg range f).Fits N := by
  unfold Hub.localWrite; split
  · split
    · exact fit
    · split
      · exact fit.refuse
      · split
        · exact fit.modPort (hf _ _)
        · exact fit.refuse
  · exact fit

theorem Hub.Fits.releaseDrive (fit : h.Fits N) : (h.releaseDrive q).Fits N := Hub.Fits.ite fit.voidTarget fit.attempt

/-! Words -/

theorem Hub.Fits.pctlEffect {f : Pctl} (fit : h.Fits N) : (h.pctlEffect q p f).Fits N := by
  simp only [Hub.pctlEffect]
  have mode : (if f.mode = (h.plane p).sel.mode ∧ f.fref = (h.plane p).sel.fref then h
      else h.onPlaneFree p fun v x => x.setModeRef p v f.mode f.fref).Fits N :=
    Hub.Fits.unless fit fun t => t.onPlaneFree fun _ _ t => t.setModeRef
  have align {k : Hub} (hk : k.Fits N) : (if f.realign = 0 then k else k.onPlane p fun x => x.realignField f.realign).Fits N :=
    Hub.Fits.unless hk fun t => t.onPlane fun _ t => t.realignField
  have standby {k : Hub} (hk : k.Fits N) :
      (if f.stby = 1 then k.standbyEnter p else if f.stby = 2 then k.standbyLeave p else k).Fits N :=
    Hub.Fits.ite hk.standbyEnter (Hub.Fits.ite hk.standbyLeave hk)
  have husk {k : Hub} (hk : k.Fits N) : (if f.huskclr then k.clearHusk p else k).Fits N := Hub.Fits.when hk fun t => t.clearHusk
  have own {k : Hub} (hk : k.Fits N) :
      (if f.own = 1 then k.modPlane p fun x => { x with owner := some q } else if f.own = 2 then k.release q p else k).Fits N :=
    Hub.Fits.ite (hk.modPlane fun _ t => t) (Hub.Fits.ite hk.release hk)
  have last := own (husk (standby (align mode)))
  exact Hub.Fits.ite (Hub.Fits.ite (last.onPlane fun _ t => t.requestHold) last)
    (Hub.Fits.ite (last.onPlane fun _ t => t.endHold) last)

theorem Hub.Fits.tandemWord {addr : BitVec 7} {w : Word} (fit : h.Fits N) : (h.tandemWord q addr w).Fits N := by
  unfold Hub.tandemWord; split
  · exact fit.judged fun _ => fit
  · exact fit.joinCmd
  · exact fit.leaveCmd
  · exact fit.judged fun _ => fit

theorem Hub.Fits.finjWord {addr : BitVec 7} {w : Word} (fit : h.Fits N) : (h.finjWord q addr p w).Fits N :=
  fit.judged fun _ => fit.injectEffect

theorem Hub.Fits.planeWord {addr : BitVec 7} {r : BitVec 5} {w : Word} (fit : h.Fits N) :
    (h.planeWord q addr p r w).Fits N := by
  simp only [Hub.planeWord]; split
  · exact fit.judged fun _ => fit.modPlane fun _ t => t.clearHistory
  · exact fit.judged fun _ => fit.pctlEffect
  · exact fit.judged fun _ => fit.onPlane fun _ t => t.setPrio
  · exact fit.judged fun _ => fit.onPlane fun _ t => t.setBw
  · exact fit.judged fun _ => fit.onPlane fun _ t => t.setFreq
  · exact fit.finjWord
  · exact fit.tandemWord
  · exact fit.judged fun _ => fit

theorem Hub.Fits.signEndsErr (fit : h.Fits N) : h.signEndsErr.Fits N := Hub.Fits.ucause fit
theorem Hub.Fits.signFails (fit : h.Fits N) : h.signFails.Fits N := Hub.Fits.signEndsErr fit.setUDet

theorem Hub.Fits.startSigning {selfTestOk : Bool} (fit : h.Fits N) : (h.startSigning selfTestOk).Fits N :=
  Hub.Fits.requestSnapshot fit

theorem Hub.Fits.writeResponse (fit : h.Fits N) : h.writeResponse.Fits N := Hub.Fits.ucause fit

theorem Hub.Fits.endSigning (fit : h.Fits N) : h.endSigning.Fits N :=
  Hub.Fits.ite fit.signFails (Hub.Fits.ite fit.signEndsErr fit.writeResponse)

theorem Hub.Fits.uctlEffect {w : Word} (fit : h.Fits N) : (h.uctlEffect w).Fits N :=
  Hub.Fits.when (Hub.Fits.when (Hub.Fits.ite fit.unitEnter (Hub.Fits.ite fit.unitLeave fit))
    fun t => Hub.Fits.recover t) fun t => Hub.Fits.testPort t

theorem Hub.Fits.snapWord {addr : BitVec 7} {w : Word} (fit : h.Fits N) : (h.snapWord q addr w).Fits N :=
  fit.judged fun _ => Hub.Fits.ite fit.requestSnapshot fit

theorem Hub.Fits.cfgWord {before : Hub} {addr : BitVec 7} {w : Word} (fit : h.Fits N) : (h.cfgWord before q addr w).Fits N :=
  fit.judged fun _ => by
    split
    · exact fit
    · exact fit.cfgEffect

theorem Hub.Fits.nvWord {addr : BitVec 7} {w : Word} (fit : h.Fits N) : (h.nvWord q addr w).Fits N := by
  simp only [Hub.nvWord]; split
  · exact fit.nvRead
  · exact fit.nvWrite
  · exact Hub.Fits.ite fit.nvKey fit.nvPassword
  · exact fit

theorem Hub.Fits.authWord {addr : BitVec 7} {w : Word} (fit : h.Fits N) : (h.authWord q addr w).Fits N := by
  have t : h.fresh.2.Fits N := fit
  simp only [Hub.authWord]
  exact fit.judged fun _ => Hub.Fits.ite t.startSigning fit

theorem Hub.Fits.unitWord {before : Hub} {addr : BitVec 7} {r : BitVec 5} {w : Word} (fit : h.Fits N) :
    (h.unitWord before q addr r w).Fits N := by
  unfold Hub.unitWord; split
  · exact fit.judged fun _ => fit.uctlEffect
  · exact fit.snapWord
  · exact fit.nvWord
  · exact fit.cfgWord
  · exact fit.authWord
  · exact fit.judged fun _ => fit

/-! Transactions -/

theorem Hub.Fits.under {cfg : PortDecl} {f : Hub → Hub} (fit : h.Fits N) (hf : ∀ k : Hub, k.Fits N → (f k).Fits N) :
    (h.under q cfg f).Fits N :=
  Hub.Fits.modPort (hf _ (fit.modPort fun _ t => t)) fun _ t => t

theorem Hub.Fits.commit {before : Hub} {w : HeldWrite} (fit : h.Fits N) : (h.commit before w).Fits N := by
  unfold Hub.commit; split
  · exact Hub.Fits.ite fit.planeWord fit.unitWord
  · exact fit.writeRecord
  · exact Hub.Fits.ite fit.standbyWithUnit fit.leaveWithUnit
  · exact fit.takeForce

theorem Hub.Fits.place {now unit : Bool} {w : HeldWrite} (fit : h.Fits N) : (h.place now unit w).Fits N :=
  Hub.Fits.ite fit.commit (Hub.Fits.ite fit (Hub.Fits.ite fit (fit.modPlane fun _ t => t)))

theorem Hub.Fits.localWord {off : Fin 8} {r : BitVec 5} {w : Word} (fit : h.Fits N) : (h.localWord q off r w).Fits N :=
  Hub.Fits.ite (fit.localWrite fun _ _ _ t => t) (Hub.Fits.ite (fit.localWrite fun _ _ _ t => t.setAttn)
    (fit.localWrite fun _ _ _ t => t.clearCause))

theorem Hub.Fits.nvctlWord {now : Bool} {hw : HeldWrite} {w : Word} (fit : h.Fits N) : (h.nvctlWord now hw w).Fits N :=
  Hub.Fits.ite (fit.judged fun _ => fit) (Hub.Fits.andThen (fit.modPort fun _ t => t.setNvctl) fun t => Hub.Fits.ite t t.place)

theorem Hub.Fits.unitRegWord {now : Bool} {hw : HeldWrite} {r : BitVec 5} {w : Word} (fit : h.Fits N) :
    (h.unitRegWord now hw r w).Fits N :=
  Hub.Fits.ite (fit.judged fun _ => fit.modPort fun _ t => t.setPort) <| Hub.Fits.ite fit.nvctlWord <|
    Hub.Fits.ite (fit.modPort fun _ t => t.shiftKey) <| Hub.Fits.ite (fit.modPort fun _ t => t.writeBuf) fit.place

theorem Hub.Fits.ownWord {now : Bool} {hw : HeldWrite} {r : BitVec 5} {w : Word} (fit : h.Fits N) :
    (h.ownWord now hw r w).Fits N :=
  Hub.Fits.ite (fit.judged fun _ => fit) <| Hub.Fits.ite fit.unitRegWord <| Hub.Fits.ite fit.localWord <|
    Hub.Fits.ite (fit.judged fun _ => fit) fit.place

theorem Hub.Fits.ownRecord {now : Bool} {hw : HeldWrite} {space : BitVec 4} {index : BitVec 20} {ws : List Word}
    (fit : h.Fits N) :
    (h.ownRecord now hw space index ws).Fits N := by
  simp only [Hub.ownRecord]; split
  · exact fit.judged fun _ => fit
  · split
    · exact Hub.Fits.ite (fit.writeRecord.modPort fun _ t => t.nextBlock) fit.writeRecord
    · refine Hub.Fits.ite (fit.judged fun _ => fit) ?_
      split
      · exact fit.place
      · exact fit.place

theorem Hub.Fits.followerWord {hw : HeldWrite} {r : BitVec 5} {w : Word} (fit : h.Fits N) : (h.followerWord hw r w).Fits N :=
  Hub.Fits.ite (fit.judged fun _ => fit) <| Hub.Fits.ite fit.localWord <| Hub.Fits.ite (fit.judged fun _ => fit) <|
    fit.judged fun _ => fit.enterTunnel

theorem Hub.Fits.followerRecord {hw : HeldWrite} {space : BitVec 4} {index : BitVec 20} {ws : List Word} (fit : h.Fits N) :
    (h.followerRecord hw space index ws).Fits N :=
  fit.judged fun _ => fit.enterTunnel

theorem Hub.Fits.applyOp {now : Bool} {cfg : PortDecl} {off : Fin 8} {op : TxOp} (fit : h.Fits N) :
    (h.applyOp now q cfg off op).Fits N := by
  unfold Hub.applyOp; split
  · exact Hub.Fits.ite fit.ownWord fit.followerWord
  · exact Hub.Fits.ite fit.ownRecord fit.followerRecord
  · exact fit.judged fun _ => fit
  · exact fit.modPort fun _ t => t.nvRead

theorem Hub.Fits.cancelScheds {off : Fin 8} (fit : h.Fits N) : (h.cancelScheds q off).Fits N :=
  fit.modPort fun _ t => ⟨(List.length_filter_le _ _).trans t.1, t.2⟩

theorem Hub.Fits.cancelWord {off : Fin 8} (fit : h.Fits N) : (h.cancelWord q off).Fits N := fit.judged fun _ => fit.cancelScheds

/-- A port that has room takes a scheduled transaction (R326). -/
theorem Hub.Fits.addSched {q : PortId} {off : Fin 8} {w : Word} {ws : List HeldWrite} (room : 4 ≤ N q)
    (fit : h.Fits (Function.update N q 3)) : (h.addSched q off w ws).Fits N := by
  have wide : h.Fits N := fit.widen fun r => by
    by_cases e : r = q
    · subst e; simp; omega
    · simp [e]
  refine Hub.Fits.ite wide (wide.setPort ⟨?_, wide.port.2⟩)
  have less : (h.port q).scheds.length ≤ 3 := by simpa using (fit.port (q := q)).1
  simp only [List.length_append, List.length_cons, List.length_nil]; omega

theorem Hub.schedReason_none {q : PortId} {off : Fin 8} {w : Word} {a b c : Bool} (e : h.schedReason q off w a b c = .none) :
    (h.port q).scheds.length < 4 := by
  by_contra full
  have deep : decide (Config.schedDepth ≤ (h.port q).scheds.length) = true := decide_eq_true (not_lt.mp full)
  unfold Hub.schedReason at e; dsimp only at e
  rw [deep, Bool.or_true, if_pos rfl] at e
  (repeat' split at e) <;> cases e

/-- A transaction is scheduled only where its port has room for it; what it applies at once adds none. -/
theorem Hub.Fits.schedule {now : Bool} {q : PortId} {cfg : PortDecl} {off : Fin 8} {w : Word} {rest : List (Fin 8 × TxOp)}
    (fit : h.Fits N) (room : 4 ≤ N q) : (h.schedule now q cfg off w rest).Fits N := by
  refine Hub.Fits.ite fit.cancelWord (fit.judged fun e => ?_)
  have less : h.Fits (Function.update N q 3) := fit.setBound fun r => by
    by_cases k : r = q
    · subst k; simpa using Nat.le_of_lt_succ (Hub.schedReason_none e)
    · simpa [k] using (fit.port (q := r)).1
  exact Hub.Fits.when (Hub.Fits.addSched room (Hub.Fits.foldl less fun _ _ t => t.applyOp)) fun t => t.laneAction

theorem Hub.Fits.applyAll {cfg : PortDecl} {sched : Bool} {ops : List (Fin 8 × TxOp)} (fit : h.Fits N) (room : 4 ≤ N q) :
    (h.applyAll q cfg sched ops).Fits N := by
  have reads {k : Hub} (hk : k.Fits N) (l : List (Fin 8 × TxOp)) :
      (l.foldl (fun (g : Hub) e => g.applyOp false q cfg e.1 e.2) k).Fits N := Hub.Fits.foldl hk fun _ _ t => t.applyOp
  simp only [Hub.applyAll]; split
  · exact (reads fit _).schedule room
  · exact reads (reads fit _) _

theorem Hub.Fits.completeTx {l : Latch} {s : Scan} (fit : h.Fits N) (room : 4 ≤ N q) : (h.completeTx q l s).Fits N :=
  Hub.Fits.modPort (Hub.Fits.applyAll (Hub.Fits.foldl (fit.modPort fun _ t => t) fun _ _ t => t.noteRead) room)
    fun _ t => t.endTransaction

theorem Hub.Fits.endTx {segs : List TxSeg} (fit : h.Fits N) (room : 4 ≤ N q) : (h.endTx q segs).Fits N := by
  simp only [Hub.endTx]
  have t : (if (h.port q).latch.isSome then h else h.start q).Fits N := Hub.Fits.unless fit fun t => t.start
  split
  · exact t
  · refine t.under fun k u => Hub.Fits.ite (u.modPort fun _ t => t.endTransaction)
      (Hub.Fits.ite (u.modPort fun _ t => Port.Fits.endTransaction t.wake) ?_)
    split
    · exact Hub.Fits.voidTx (u.modPort fun _ t => t)
    · exact u.completeTx room

theorem Hub.Fits.tunnelled {f : Hub → Hub} (fit : h.Fits N) (hf : ∀ k : Hub, k.Fits N → (f k).Fits N) :
    (h.tunnelled q f).Fits N :=
  Hub.Fits.modPort (hf _ (fit.modPort fun _ t => t)) fun _ t => t

theorem Hub.Fits.tunnelEffect {off : Fin 8} {k : WriteKind} (fit : h.Fits N) : (h.tunnelEffect q off k).Fits N := by
  refine fit.tunnelled fun _ t => ?_
  split
  · exact t.applyOp
  · exact t.applyOp
  · exact t
  · exact t

theorem Hub.Fits.commitTunnel {w : HeldWrite} (fit : h.Fits N) : (h.commitTunnel w).Fits N :=
  Hub.Fits.chimneyPush (fit.tunnelEffect.modChim fun _ t => t.upd_inq _ fun _ t => Queue.pop_length t)

theorem Hub.Fits.tunnelArrive {num : Nat} {w : TunnelWrite} (fit : h.Fits N) : (h.tunnelArrive q num w).Fits N := by
  have pushed {e : QEntry} {i : Fin 16} : (h.modChim fun c => { c with inq := upd c.inq i (·.push e) }).Fits N :=
    fit.modChim fun _ t => t.upd_inq _ fun _ t => Queue.push_length _ t
  exact Hub.Fits.ite fit (Hub.Fits.ite pushed.chimneyOverflow
    (Hub.Fits.ite (Hub.Fits.modPlane (pushed.modChim fun _ t => t) fun _ t => t) (pushed.modChim fun _ t => t)))

theorem Hub.Fits.commitHeld {before : Hub} {w : HeldWrite} (fit : h.Fits N) : (Hub.commitHeld before h w).Fits N :=
  Hub.Fits.ite fit.commitTunnel (fit.under fun _ t => t.commit)

theorem Hub.Fits.writeNow {off : Fin 8} {r : BitVec 5} {w : Word} (fit : h.Fits N) (room : 4 ≤ N q) :
    (h.writeNow q off r w).Fits N :=
  Hub.Fits.ite (Hub.Fits.ite fit.applyOp fit.applyOp) (Hub.Fits.ite (fit.schedule room) fit.applyOp)

theorem Hub.Fits.judgeFar {w : HeldWrite} (fit : h.Fits N) : (h.judgeFar w).Fits N := fit.judged fun _ => fit

theorem Hub.Fits.applySched {idx : Nat} (fit : h.Fits N) : (h.applySched p q idx).Fits N := by
  unfold Hub.applySched; split
  · exact fit
  · rename_i s e
    have inside : idx < (h.port q).scheds.length := (List.getElem?_eq_some_iff.mp e).1
    have kept : (List.filter (fun t : Sched => !t.writes.isEmpty) [s.without p]).length ≤ 1 := List.length_filter_le _ _
    obtain ⟨hs, hb⟩ := fit.port (q := q)
    refine Hub.Fits.ite (Hub.Fits.causeAt (Hub.Fits.foldl (Hub.Fits.foldl (fit.setPort ⟨?_, hb⟩) fun _ _ t => t.commit)
      fun _ _ t => t.judgeFar)) fit
    simp only [List.length_append, List.length_take, List.length_drop]; omega

theorem Hub.Fits.commitPlane (fit : h.Fits N) : (h.commitPlane p).Fits N :=
  Hub.Fits.foldl (fit.modPlane fun _ t => t) fun _ _ t => Hub.Fits.commitHeld t

theorem Hub.Fits.commitUnit (fit : h.Fits N) : h.commitUnit.Fits N :=
  Hub.Fits.startWaiting (Hub.Fits.foldl (Hub.Fits.withUcommits fit) fun _ _ t => Hub.Fits.commitHeld t)

theorem Hub.Fits.lane3 {act : Lane3Act} (fit : h.Fits N) : (h.lane3 act).Fits N := by
  cases act with
  | announce p n => exact fit.ifActive (fit.modPlane fun _ t => t)
  | realign p sec => exact fit.ifActive fit.realignTo
  | snapshot ovfclr sec frame => exact Hub.Fits.ite fit.farSnapshot fit
  | ask ovfclr ago => exact Hub.Fits.ite fit fit.requestSince
  | captured pst => exact Hub.Fits.ite fit (Hub.Fits.finishSnapshot fit)
  | leave => exact Hub.Fits.ite (fit.modChim fun _ t => t) fit
  | write w q => exact fit.tunnelEffect

end

/-! ### The commands -/

/-- A command answers a hub that keeps its buffers within their depth. -/
def Keeps (s : State) (o : Host.Outcome State Fault Refusal) : Prop :=
  ∃ h : Hub, o = .next { s with hub := h } ∧ h.Fits fun _ => 4

theorem keeps_answer {s : State} {h : Hub} (fit : h.Fits fun _ => 4) : Keeps s (s.answer h) := ⟨h, rfl, fit⟩

section
variable {s : State} {p : PlaneId} {port : PortId} (fit : s.hub.Fits fun _ => 4)
include fit

theorem execLoopModeWrite_keeps {m : LoopMode} : Keeps s (execLoopModeWrite port p m s) :=
  keeps_answer (fit.hostWrite (fit.onPlaneFree fun _ _ t => t.setMode))

theorem execForcedRefWrite_keeps {r : Fin 4} : Keeps s (execForcedRefWrite port p r s) :=
  keeps_answer (fit.hostWrite (fit.onPlane fun _ t => t.setFref))

theorem execBandwidthCodeWrite_keeps {code : BitVec 4} : Keeps s (execBandwidthCodeWrite port p code s) :=
  keeps_answer (fit.hostWrite (fit.onPlane fun _ t => t.setBw))

theorem execFreqWrite_keeps {freq : Word} : Keeps s (execFreqWrite port p freq s) :=
  keeps_answer (fit.hostWrite (fit.onPlane fun _ t => t.setFreq))

theorem execAcquireTimeout_keeps : Keeps s (execAcquireTimeout p s) :=
  keeps_answer (fit.event fun _ t => Plane.Fits.ite (Plane.Fits.loopSources t) t)

theorem execSlewComplete_keeps : Keeps s (execSlewComplete p s) := keeps_answer (fit.event fun _ t => Plane.Fits.ite t t)

theorem execDriftFitUpdate_keeps : Keeps s (execDriftFitUpdate p s) :=
  keeps_answer (fit.eventFree fun _ _ t => Plane.Fits.ite t t)

theorem execEnqueueCmd_keeps {l : Fin 32} {payload : BitVec 64} : Keeps s (execEnqueueCmd port p l payload s) :=
  keeps_answer (fit.hostWrite (fit.onPlane fun _ t => t.enqCmd))

theorem execEnqueueBulk_keeps {l : Fin 32} {payload : BitVec 64} : Keeps s (execEnqueueBulk port p l payload s) :=
  keeps_answer (fit.hostWrite (fit.onPlane fun _ t => t.enqBulk))

theorem execPopUqStat_keeps {l : Fin 32} : Keeps s (execPopUqStat port p l s) :=
  keeps_answer (fit.hostWrite (fit.onPlane fun _ t => t.modLink fun _ u => u.popStat))

theorem execPopUqBulk_keeps {l : Fin 32} : Keeps s (execPopUqBulk port p l s) :=
  keeps_answer (fit.hostWrite (fit.onPlane fun _ t => t.modLink fun _ u => u.popUBulk))

theorem execInjectTestAccept_keeps {l : Fin 32} {payload : BitVec 64} : Keeps s (execInjectTestAccept port p l payload s) :=
  keeps_answer (fit.hostWrite (fit.onPlane fun _ t => t.injectTest))

theorem execTrainingHoldRequest_keeps {g : Fin 32} : Keeps s (execTrainingHoldRequest port p g s) :=
  keeps_answer (fit.hostWrite (fit.onPlane fun _ t => t.requestHold))

theorem execTrainingHoldHostEnd_keeps {g : Fin 32} : Keeps s (execTrainingHoldHostEnd port p g s) :=
  keeps_answer (fit.hostWrite (fit.onPlane fun _ t => t.endHold))

theorem execHoldLimitExpiry_keeps {g : Fin 32} : Keeps s (execHoldLimitExpiry p g s) :=
  keeps_answer (fit.event fun _ t => Plane.Fits.ite t.expireHold t)

theorem execLinkSignalLoss_keeps {l : Fin 32} : Keeps s (execLinkSignalLoss p l s) :=
  keeps_answer (fit.event fun _ t => Plane.Fits.ite t t.setLink)

theorem execLinkSignalPresent_keeps {l : Fin 32} : Keeps s (execLinkSignalPresent p l s) :=
  keeps_answer (fit.event fun _ t => Plane.Fits.ite t.setLink t)

theorem execLinkMonitorGraceExpiry_keeps {l : Fin 32} : Keeps s (execLinkMonitorGraceExpiry p l s) :=
  keeps_answer (fit.event fun _ t => Plane.Fits.linkSources (t.modLink fun _ u => u))

theorem execSlotCheckFailure_keeps {l : Fin 32} {bad : BadSlot} : Keeps s (execSlotCheckFailure p l bad s) :=
  keeps_answer (fit.event fun _ t => Plane.Fits.ite t (Plane.Fits.ite t.injectSlot.takeSlot0 t.injectSlot.badSlot))

theorem execDamperTimeout_keeps {l : Fin 32} : Keeps s (execDamperTimeout p l s) :=
  keeps_answer (fit.event fun _ t => t.modLink fun _ u => u)

theorem execLinkDelayWrite_keeps {l : Fin 32} {d turn : Word} : Keeps s (execLinkDelayWrite port p l d turn s) :=
  keeps_answer (fit.hostWrite (fit.onPlane fun _ t => t.writeD))

theorem execHostDamperWrite_keeps {l : Fin 32} {damper : BitVec 16} : Keeps s (execHostDamperWrite port p l damper s) :=
  keeps_answer (fit.hostWrite (fit.onPlane fun _ t => t.writeDamper))

theorem execFabricEventRelease_keeps : Keeps s (execFabricEventRelease p s) := keeps_answer (Hub.Fits.ite fit.releaseHeld fit)

theorem execWindowOpen_keeps {u : Fin 64} {ref : Nat} : Keeps s (execWindowOpen p u ref s) :=
  keeps_answer (Hub.Fits.ite (fit.onPlane fun _ t => t.openWindow) fit)

theorem execWindowEvaluation_keeps {u : Fin 64} {ref : Nat} : Keeps s (execWindowEvaluation p u ref s) :=
  keeps_answer (Hub.Fits.ite (Hub.Fits.emitOpt (fit.setPlane fit.plane.evalWindow.evaluated)) fit)

theorem execCoincidenceEvaluation_keeps {u : Fin 256} {ref : Nat} {ecc : EccRead} :
    Keeps s (execCoincidenceEvaluation p u ref ecc s) :=
  keeps_answer (Hub.Fits.ite (Hub.Fits.emitOpt (fit.setPlane fit.plane.evalCoinc.evaluated)) fit)

theorem execLookupScrub_keeps {mem : Fin 4} {addr : Fin 1024} {ecc : EccRead} : Keeps s (execLookupScrub p mem addr ecc s) :=
  keeps_answer (Hub.Fits.ite (fit.onPlane fun _ t => t.eccRead) fit)

theorem execPrescalerPulse_keeps {u : Fin 32} {ref : Nat} : Keeps s (execPrescalerPulse p u ref s) :=
  keeps_answer (Hub.Fits.ite fit.prescale fit)

theorem execCrossPlaneCapture_keeps {src dst : PlaneId} {port : Fin 64} {ref : Nat} :
    Keeps s (execCrossPlaneCapture src dst port ref s) := by
  unfold execCrossPlaneCapture; split
  · dsimp only; split
    · exact keeps_answer fit
    · exact keeps_answer (Hub.Fits.foldl fit fun _ _ t => t.emit)
  · exact keeps_answer fit

theorem execParameterCellWrite_keeps {c : Fin 128} {v : Word} : Keeps s (execParameterCellWrite port p c v s) :=
  keeps_answer (fit.hostWrite (fit.onPlane fun _ t => t.setCell))

theorem execVcobUnlock_keeps {unlocked : Bool} : Keeps s (execVcobUnlock p unlocked s) :=
  keeps_answer (fit.event fun _ t => Plane.Fits.setDet t)

theorem execOutputDrainComplete_keeps {ck : Fin 16} : Keeps s (execOutputDrainComplete p ck s) :=
  keeps_answer (fit.event fun _ t => t)

theorem execOutputStart_keeps {ck : Fin 16} : Keeps s (execOutputStart p ck s) :=
  keeps_answer (fit.event fun _ t => Plane.Fits.ite t t)

theorem execFineMoveComplete_keeps {ck : Fin 16} : Keeps s (execFineMoveComplete p ck s) :=
  keeps_answer (fit.event fun _ t => Plane.Fits.ite t t)

theorem execPuPulseStart_keeps {pu : Fin 4} : Keeps s (execPuPulseStart p pu s) := keeps_answer (fit.event fun _ t => t)
theorem execToPulseStart_keeps {o : Fin 16} : Keeps s (execToPulseStart p o s) := keeps_answer (fit.event fun _ t => t)

theorem execOutputGateWrite_keeps {o : Fin 20} {on : Bool} : Keeps s (execOutputGateWrite port p o on s) :=
  keeps_answer (fit.hostWrite (fit.onPlane fun _ t => t.writeGate))

theorem execOutputDelayWrite_keeps {ck : Fin 16} {k : BitVec 17} {f : BitVec 10} :
    Keeps s (execOutputDelayWrite port p ck k f s) :=
  keeps_answer (fit.hostWrite (fit.onPlane fun _ t => t.writeDelay))

theorem execPuSettingsWrite_keeps {pu : Fin 4} {gen : Fin 8} {coarse : BitVec 16} {fine : Byte} {width : BitVec 24} :
    Keeps s (execPuSettingsWrite port p pu gen coarse fine width s) :=
  keeps_answer (fit.hostWrite (fit.onPlane fun _ t => t.writePu))

theorem execToFineDelayWrite_keeps {o : Fin 16} {fine : Byte} : Keeps s (execToFineDelayWrite port p o fine s) :=
  keeps_answer (fit.hostWrite (fit.onPlane fun _ t => t.writeTo))

theorem execChimneyCrossingRelease_keeps {port : Fin 8} {ref tau : Nat} {rel : Release} :
    Keeps s (execChimneyCrossingRelease p port ref tau rel s) :=
  keeps_answer (Hub.Fits.ite fit.releaseCrossed fit)

theorem execGeneratorEvent_keeps {g : Fin 8} {cyc : Fin 40} : Keeps s (execGeneratorEvent p g cyc s) :=
  keeps_answer (fit.eventAt fun _ t => t.genEvent)

theorem execGeneratorEnqueue_keeps {g : Fin 8} {cyc : Fin 40} : Keeps s (execGeneratorEnqueue p g cyc s) :=
  keeps_answer (fit.eventAt fun _ t => t.genEnqueue)

theorem execReadoutGapStart_keeps : Keeps s (execReadoutGapStart p s) := keeps_answer (fit.event fun _ t => t.gapOpens.gapOpens)

theorem execDeferredActionsResume_keeps : Keeps s (execDeferredActionsResume p s) :=
  keeps_answer (fit.event fun _ t => Plane.Fits.ite t t.resumeAll)

theorem execGeneratorEnableWrite_keeps {g : Fin 8} {on : Bool} : Keeps s (execGeneratorEnableWrite port p g on s) :=
  keeps_answer (fit.hostWrite (fit.onPlane fun _ t => t.writeGen))

theorem execBintWrite_keeps {second : Bool} {bint : Byte} : Keeps s (execBintWrite port p second bint s) :=
  keeps_answer (fit.hostWrite (fit.onPlane fun _ t => t.writeGen))

theorem execUserGeneratorWrite_keeps {startSec startLow uper : Word} {ufine : BitVec 9} :
    Keeps s (execUserGeneratorWrite port p startSec startLow uper ufine s) :=
  keeps_answer (fit.hostWrite (fit.onPlane fun _ t => t.writeGen))

theorem execEpochPhaseDelayWrite_keeps {l : Fin 32} {epd2 epd3 : Word} :
    Keeps s (execEpochPhaseDelayWrite port p l epd2 epd3 s) :=
  keeps_answer (fit.hostWrite (fit.onPlane fun _ t => t.writeEpd))

theorem execPuPulseEnd_keeps {pulse : PulseEnd 4} : Keeps s (execPuPulseEnd p pulse s) :=
  keeps_answer (fit.eventAt fun _ t => t)

theorem execPuAssignmentEffect_keeps {pu : Fin 4} {low : LowFound} : Keeps s (execPuAssignmentEffect p pu low s) :=
  keeps_answer (fit.eventAt fun _ t => t)

theorem execToPulseEnd_keeps {pulse : PulseEnd 16} : Keeps s (execToPulseEnd p pulse s) :=
  keeps_answer (fit.eventAt fun _ t => t)

theorem execRefLossDeclared_keeps {r : Fin 4} : Keeps s (execRefLossDeclared p r s) :=
  keeps_answer (fit.event fun _ t => t.modRef)

theorem execRefActiveAgain_keeps {r : Fin 4} : Keeps s (execRefActiveAgain p r s) :=
  keeps_answer (fit.event fun _ t => Plane.Fits.ite t.modRef t)

theorem execTimecodeFrame_keeps {tc : Fin 2} {f : IrigFrame} : Keeps s (execTimecodeFrame p tc f s) :=
  keeps_answer (fit.event fun _ t => Plane.Fits.ite t (Plane.Fits.judgeRef (Plane.Fits.ite (Plane.Fits.count t) t)))

theorem execTimecodeFrameMissing_keeps {tc : Fin 2} : Keeps s (execTimecodeFrameMissing p tc s) :=
  keeps_answer (fit.event fun _ t => Plane.Fits.ite (Plane.Fits.judgeRef t) t)

theorem execTcQualityEffect_keeps {tc : Fin 2} : Keeps s (execTcQualityEffect p tc s) :=
  keeps_answer (fit.event fun _ t => Plane.Fits.ite (Plane.Fits.judgeRef t) t)

theorem execEsmcPduReceived_keeps {f : EsmcFrame} : Keeps s (execEsmcPduReceived p f s) :=
  keeps_answer (fit.event fun _ t =>
    Plane.Fits.ite t (Plane.Fits.ite (Plane.Fits.ite t (Plane.Fits.count t)) (Plane.Fits.ite t.count t)))

theorem execEsmcQualityEffect_keeps : Keeps s (execEsmcQualityEffect p s) := by
  refine keeps_answer (fit.event fun _ t => ?_)
  split
  · exact t
  · exact Plane.Fits.judgeRef t

theorem execEsmcTimeout_keeps : Keeps s (execEsmcTimeout p s) := keeps_answer (fit.event fun _ t => Plane.Fits.judgeRef t)

theorem execFreqOffsetMeasurement_keeps {r : Fin 4} {offset : Int} : Keeps s (execFreqOffsetMeasurement p r offset s) :=
  keeps_answer (fit.event fun _ t => Plane.Fits.ite t.modRef t)

theorem execPhaseJumpMean_keeps {r : Fin 4} {mean : Int} : Keeps s (execPhaseJumpMean p r mean s) :=
  keeps_answer (fit.event fun _ t => Plane.Fits.ite t.modRef t)

theorem execWaitToRestoreExpiry_keeps {r : Fin 4} : Keeps s (execWaitToRestoreExpiry p r s) :=
  keeps_answer (fit.event fun _ t => Plane.Fits.ite (Plane.Fits.refsChanged (Plane.Fits.raise t)) t)

theorem execReferencePriorityWrite_keeps {revert : Bool} {prio : Vector (BitVec 4) 4} :
    Keeps s (execReferencePriorityWrite port p revert prio s) :=
  keeps_answer (fit.hostWrite (fit.onPlane fun _ t => t.setPrio))

theorem execSelectionTick_keeps : Keeps s (execSelectionTick p s) := keeps_answer (fit.event fun _ t => t.tick)

theorem execSwitchCommit_keeps {step dfreq : Int} : Keeps s (execSwitchCommit p step dfreq s) :=
  keeps_answer (Hub.Fits.settleMove (fit.event fun _ t => t.commitSwitch))

theorem execFaultReaction_keeps : Keeps s (execFaultReaction p s) := keeps_answer (fit.ifActive fit.react)
theorem execPairBroken_keeps {src : Fin 224} : Keeps s (execPairBroken src s) := keeps_answer (fit.pairEvent)
theorem execPairWhole_keeps {src : Fin 224} : Keeps s (execPairWhole src s) := keeps_answer (fit.pairEvent)

theorem execShortBrokenRun_keeps {coll : Option PlaneId} : Keeps s (execShortBrokenRun coll s) := by
  cases coll with
  | none => exact keeps_answer (Hub.Fits.ite fit fit)
  | some p => exact keeps_answer (fit.event fun _ t => t.count)

theorem execCollectorParityFault_keeps {coll : Option PlaneId} {g : Fin 8} : Keeps s (execCollectorParityFault coll g s) := by
  cases coll with
  | none => exact keeps_answer (Hub.Fits.ite fit.unitParity fit)
  | some p =>
    refine keeps_answer (fit.ifActive (Hub.Fits.when (fit.onPlaneFree fun v z t => ?_) fun t => t.reforce))
    have husk : ((z.parityFault g z.time.clk).enterHusk p v 46).Fits := t.parityFault.enterHusk
    dsimp only
    generalize (z.parityFault g z.time.clk).enterHusk p v 46 = y at husk ⊢
    exact Plane.Fits.reactTo husk

theorem execStickyClear_keeps {src : Fin 224} : Keeps s (execStickyClear port src s) :=
  keeps_answer (Hub.Fits.ite (fit.hostWrite fit.clearPlaneSticky) (fit.unitWrite fun _ => fit.clearUnitSticky))

theorem execSeverityWrite_keeps {src : Fin 224} {sev : Severity} : Keeps s (execSeverityWrite port src sev s) :=
  keeps_answer (Hub.Fits.ite (fit.hostWrite fit.setSev) (fit.unitWrite fun _ => fit.setUSev))

theorem execFaultInjectStart_keeps {chk : BitVec 3} {double : Bool} {tgt : BitVec 6} {nchk : BitVec 11} :
    Keeps s (execFaultInjectStart port p chk double tgt nchk s) :=
  keeps_answer (fit.inject)

theorem execFaultInjectStop_keeps : Keeps s (execFaultInjectStop port p s) := keeps_answer (fit.inject)

theorem execOvenFault_keeps {present : Bool} : Keeps s (execOvenFault p present s) :=
  keeps_answer (fit.event fun _ t => t.modSrc.setDet)

theorem execPlaneSupplyFault_keeps : Keeps s (execPlaneSupplyFault p s) := keeps_answer (fit.event fun _ t => t.modSrc.setDet)

theorem execPlaneSupplyRestored_keeps : Keeps s (execPlaneSupplyRestored p s) :=
  keeps_answer (fit.event fun _ t => t.modSrc.setDet)

theorem execHuskClear_keeps : Keeps s (execHuskClear port p s) := keeps_answer (fit.hostWrite fit.clearHusk)

theorem execConfigCrcCheck_keeps {matching : Bool} : Keeps s (execConfigCrcCheck p matching s) :=
  keeps_answer (fit.event fun _ t => Plane.Fits.ite t t.modSrc.setDet)

theorem execFrameBoundary_keeps : Keeps s (execFrameBoundary p s) := keeps_answer (fit.ifActive fit.frameStep)
theorem execPps_keeps {m : PpsMeas} : Keeps s (execPps p m s) := keeps_answer (fit.ifActive fit.ppsStep)

theorem execGroupBoundary_keeps {mirror : Option PartnerBank} : Keeps s (execGroupBoundary p mirror s) :=
  keeps_answer (fit.ifActive (fit.takeMirror.onPlane fun _ t => t.groupStep))

theorem execMillisecondBoundary_keeps {m : MsMeas} : Keeps s (execMillisecondBoundary p m s) :=
  keeps_answer (fit.ifActive fit.msBoundary)

theorem execHousekeepingTick_keeps : Keeps s (execHousekeepingTick s) := keeps_answer (Hub.Fits.ite fit.hkTick fit)

theorem execComparatorReading_keeps {cmp : Fin 3} {diff : Int} : Keeps s (execComparatorReading cmp diff s) :=
  keeps_answer (Hub.Fits.ite fit.compare fit)

theorem execHousekeepingRecordTake_keeps : Keeps s (execHousekeepingRecordTake p s) :=
  keeps_answer (Hub.Fits.ite fit.takeRecord fit)

theorem execLogEraseComplete_keeps : Keeps s (execLogEraseComplete s) :=
  keeps_answer (Hub.Fits.ite (Hub.Fits.writeWaiting fit) fit)

theorem execUnitValueHandover_keeps : Keeps s (execUnitValueHandover p s) :=
  keeps_answer (fit.ifActive (Hub.Fits.foldl fit fun _ _ t => t.seeValue))

theorem execFeedJudgement_keeps {feed : Fin 2} {mean : Int} : Keeps s (execFeedJudgement feed mean s) :=
  keeps_answer (Hub.Fits.ite fit.judgeFeed fit)

theorem execFeedOvervoltageDisconnect_keeps {feed : Fin 2} : Keeps s (execFeedOvervoltageDisconnect feed s) :=
  keeps_answer (fit.cutFeed)

theorem execFeedReconnect_keeps {feed : Fin 2} : Keeps s (execFeedReconnect feed s) := keeps_answer (fit.cutFeed)

theorem execFanSpeedCheck_keeps {fan : Fin 4} {present : Bool} {percent : Nat} :
    Keeps s (execFanSpeedCheck fan present percent s) :=
  keeps_answer (Hub.Fits.ite fit.checkFan fit)

theorem execEnvironmentSample_keeps {m : EnvMeas} : Keeps s (execEnvironmentSample m s) :=
  keeps_answer (Hub.Fits.ite fit.sampleEnv fit)

theorem execTimeMarkerCapture_keeps {src : MarkerSrc} {cyc : Fin 40} {before after : Nat} :
    Keeps s (execTimeMarkerCapture p src cyc before after s) :=
  keeps_answer (Hub.Fits.announceRealign (fit.eventAt fun _ t => t.capture))

theorem execGridRegistration_keeps : Keeps s (execGridRegistration p s) := by
  refine keeps_answer (fit.ifActive ?_)
  dsimp only; split
  · split
    · exact fit
    · exact fit.moveCount fun _ t => t.register
  · exact fit

theorem execRealignExecute_keeps : Keeps s (execRealignExecute p s) :=
  keeps_answer (fit.ifActive (Hub.Fits.ite fit.realign fit))

theorem execRealignRequest_keeps : Keeps s (execRealignRequest port p s) :=
  keeps_answer (fit.hostWrite (fit.onPlane fun _ t => t.requestRealign))

theorem execRealignCancel_keeps : Keeps s (execRealignCancel port p s) :=
  keeps_answer (fit.hostWrite (fit.onPlane fun _ t => t.cancelRealign))

theorem execGridOffsetWrite_keeps {goff : Int} : Keeps s (execGridOffsetWrite port p goff s) :=
  keeps_answer (fit.hostWrite (fit.onPlane fun _ t => t.setGoff))

theorem execNvRead_keeps {rd : PageRead} : Keeps s (execNvRead port rd s) :=
  keeps_answer (Hub.Fits.nvRead (Hub.Fits.namePage (Hub.Fits.ite fit (Hub.Fits.withNv fit))))

theorem execNvWrite_keeps {page : Fin 128} : Keeps s (execNvWrite port page s) := keeps_answer (fit.namePage.nvWrite)

theorem execNvProgramComplete_keeps {ok1 ok2 : Bool} : Keeps s (execNvProgramComplete ok1 ok2 s) := by
  unfold execNvProgramComplete; split
  · exact keeps_answer fit
  · exact keeps_answer (Hub.Fits.ite fit.endOp fit)

theorem execNvKey_keeps {write : Bool} : Keeps s (execNvKey port write s) := keeps_answer (fit.setKsel.nvKey)

theorem execNvPasswordChange_keeps {write : Bool} : Keeps s (execNvPasswordChange port write s) :=
  keeps_answer (fit.setKsel.nvPassword)

theorem execNvKeyShift_keeps {w : Word} : Keeps s (execNvKeyShift port w s) := keeps_answer (fit.modPort fun _ t => t)
theorem execNvDataWrite_keeps {w : Word} : Keeps s (execNvDataWrite port w s) := keeps_answer (fit.modPort fun _ t => t)
theorem execPageReload_keeps {page : Fin 128} : Keeps s (execPageReload page s) := keeps_answer (Hub.Fits.ite fit fit)

theorem execHubPageWrite_keeps {page : Fin 128} {inletMax inletMin intMax : Int} :
    Keeps s (execHubPageWrite page inletMax inletMin intMax s) :=
  keeps_answer (Hub.Fits.ite fit.hubPage fit)

theorem execOwnershipClaim_keeps : Keeps s (execOwnershipClaim port p s) :=
  keeps_answer (fit.hostWrite (fit.modPlane fun _ t => t))

theorem execOwnershipRelease_keeps : Keeps s (execOwnershipRelease port p s) := keeps_answer (fit.hostWrite fit.release)
theorem execOwnershipTimeout_keeps : Keeps s (execOwnershipTimeout p s) := keeps_answer (Hub.Fits.ite fit.endOwner fit)
theorem execJoinCommand_keeps {ready : PartnerReady} : Keeps s (execJoinCommand port ready s) := keeps_answer (fit.joinCmd)
theorem execJoinAnnounce_keeps : Keeps s (execJoinAnnounce s) := keeps_answer (Hub.Fits.ite fit.announce fit)

theorem execJoinComplete_keeps {leaderSec : Tri Word} : Keeps s (execJoinComplete leaderSec s) :=
  keeps_answer (Hub.Fits.ite fit.completeJoin fit)

theorem execJoinAbandon_keeps : Keeps s (execJoinAbandon s) := keeps_answer (Hub.Fits.ite fit.abandonJoin fit)
theorem execLeaveCommand_keeps : Keeps s (execLeaveCommand port s) := keeps_answer (fit.leaveCmd)
theorem execLeaveEffect_keeps : Keeps s (execLeaveEffect s) := keeps_answer (Hub.Fits.ite fit.separate fit)

theorem execChimneyPortState_keeps {ch : Fin 2} {sight : PortSight} : Keeps s (execChimneyPortState ch sight s) :=
  keeps_answer (Hub.Fits.ite fit.chimneySees fit)

theorem execChimneySwitchOver_keeps {inFlight : Nat} : Keeps s (execChimneySwitchOver inFlight s) :=
  keeps_answer (Hub.Fits.ite fit.switchOver fit)

theorem execChimneyLoss_keeps : Keeps s (execChimneyLoss s) := keeps_answer (Hub.Fits.ite fit.separate fit)

theorem execFollowerRecordFetch_keeps {rec : FollowerRecord} : Keeps s (execFollowerRecordFetch port rec s) :=
  keeps_answer (Hub.Fits.ite (fit.modPort fun _ t => t) fit)

theorem execTunnelAck_keeps : Keeps s (execTunnelAck port s) :=
  keeps_answer (Hub.Fits.modPort (fit.modChim fun _ t => t.upd_out _ fun _ u => Queue.pop_length u) fun _ t => t)

theorem execFollowerAttentionReceived_keeps {offset : Fin 8} {cause : Word} :
    Keeps s (execFollowerAttentionReceived offset cause s) :=
  keeps_answer (Hub.Fits.ite (fit.allPorts fun _ _ t => t.followerCause) fit)

theorem execKindling_keeps {sdaLow : Vector Bool 3} {selfTestOk : Bool} : Keeps s (execKindling sdaLow selfTestOk s) :=
  keeps_answer (Hub.Fits.ite fit Hub.Fits.kindle)

theorem execPowerGoodLoss_keeps {loss : PowerLoss} : Keeps s (execPowerGoodLoss loss s) :=
  keeps_answer (Hub.Fits.withConv (Hub.Fits.ite fit.losePower fit))

theorem execConverterStart_keeps : Keeps s (execConverterStart s) := keeps_answer fit

theorem execImageApply_keeps {slots : Vector SlotRead 2} : Keeps s (execImageApply slots s) :=
  keeps_answer (Hub.Fits.ite fit.bootImage fit)

theorem execOvenSettled_keeps : Keeps s (execOvenSettled p s) :=
  keeps_answer (Hub.Fits.ite (Hub.Fits.event (fit.openGate fun _ t => Plane.Fits.modSrc t) fun _ t => t.setDet) fit)

theorem execOvenGateTimeout_keeps : Keeps s (execOvenGateTimeout p s) :=
  keeps_answer (Hub.Fits.ite (Hub.Fits.event (fit.openGate fun _ t => t.modSrc) fun _ t => t.setDet) fit)

theorem execPlaneStandbyEnter_keeps : Keeps s (execPlaneStandbyEnter port p s) := keeps_answer (fit.hostWrite fit.standbyEnter)

theorem execStandbyDrainComplete_keeps : Keeps s (execStandbyDrainComplete p s) :=
  keeps_answer (fit.ifActive (Hub.Fits.ite fit.reachStandby fit))

theorem execPlaneStandbyLeave_keeps : Keeps s (execPlaneStandbyLeave port p s) :=
  keeps_answer (fit.judged fun _ => fit.standbyLeave)

theorem execPlaneClockRestart_keeps : Keeps s (execPlaneClockRestart p s) := keeps_answer (Hub.Fits.ite fit.startPlane fit)

theorem execUnitStandbyEnter_keeps : Keeps s (execUnitStandbyEnter port s) :=
  keeps_answer (fit.unitWrite fun _ => fit.unitEnter)

theorem execUnitStandbyLeave_keeps : Keeps s (execUnitStandbyLeave port s) :=
  keeps_answer (fit.unitWrite fun _ => Hub.Fits.ite fit.unitLeave fit)

theorem execImageErase_keeps {slot : Fin 2} : Keeps s (execImageErase port slot s) := keeps_answer (fit.cfgCommand)
theorem execEraseComplete_keeps : Keeps s (execEraseComplete s) := keeps_answer (Hub.Fits.ite fit.endErase fit)
theorem execImageOpen_keeps {slot : Fin 2} : Keeps s (execImageOpen port slot s) := keeps_answer (fit.cfgCommand)

theorem execBlockProgramComplete_keeps : Keeps s (execBlockProgramComplete port s) :=
  keeps_answer (Hub.Fits.ite fit.programBlock fit)

theorem execImageClose_keeps : Keeps s (execImageClose port s) := keeps_answer (fit.cfgCommand)

theorem execVerificationComplete_keeps {read : SlotRead} : Keeps s (execVerificationComplete read s) :=
  keeps_answer (Hub.Fits.ite fit.endVerify fit)

theorem execImageBoot_keeps {slot : Fin 2} : Keeps s (execImageBoot port slot s) := keeps_answer (fit.cfgCommand.startWaiting)
theorem execImageLoad_keeps {slot : Fin 2} : Keeps s (execImageLoad port slot s) := keeps_answer (fit.cfgCommand)

theorem execImageReload_keeps {slot : Fin 2} {planes : BitVec 3} : Keeps s (execImageReload port slot planes s) :=
  keeps_answer (fit.cfgCommand)

theorem execReloadF0_keeps : Keeps s (execReloadF0 p s) := keeps_answer (Hub.Fits.ite fit.reachF0 fit)
theorem execReloadF1_keeps : Keeps s (execReloadF1 p s) := keeps_answer (Hub.Fits.ite fit.reachF1 fit)

theorem execQueueThresholdWrite_keeps {q : Fin 512} {n : BitVec 3} : Keeps s (execQueueThresholdWrite port q n s) := by
  unfold execQueueThresholdWrite; split
  · exact keeps_answer (fit.hostWrite fit.setThreshold)
  · exact keeps_answer (fit.unitWrite fun _ => fit.setThreshold)

theorem execAuthNonceWrite_keeps {nonce : Vector Word 8} : Keeps s (execAuthNonceWrite port nonce s) :=
  keeps_answer (fit.judged fun _ => fit)

theorem execTransactionStart_keeps : Keeps s (execTransactionStart port s) := keeps_answer (fit.start)

theorem execTransactionVoid_keeps {addr : BitVec 7} {reg : BitVec 5} : Keeps s (execTransactionVoid port addr reg s) :=
  keeps_answer (Hub.Fits.ite fit.voidTx fit)

theorem execWindowSelectWrite_keeps {addr : BitVec 7} {word : Word} : Keeps s (execWindowSelectWrite port addr word s) :=
  keeps_answer (fit.localWrite fun _ _ _ t => t)

theorem execPortSleep_keeps : Keeps s (execPortSleep port s) := keeps_answer (Hub.Fits.ite (fit.modPort fun _ t => t) fit)

theorem execPortWake_keeps {addr : BitVec 7} : Keeps s (execPortWake port addr s) :=
  keeps_answer (Hub.Fits.ite (fit.modPort fun _ t => t.wake) fit)

theorem execRefusalClear_keeps : Keeps s (execRefusalClear port s) := keeps_answer (Hub.Fits.ite (fit.modPort fun _ t => t) fit)

theorem execPecEnableWrite_keeps {on : Bool} : Keeps s (execPecEnableWrite port on s) :=
  keeps_answer (Hub.Fits.ite (fit.modPort fun _ t => t) fit)

theorem execAttentionConfigWrite_keeps {addr : BitVec 7} {word : Word} : Keeps s (execAttentionConfigWrite port addr word s) :=
  keeps_answer (fit.localWrite fun _ _ _ t => t.setAttn)

theorem execAttentionCauseClear_keeps {addr : BitVec 7} {clear : Word} : Keeps s (execAttentionCauseClear port addr clear s) :=
  keeps_answer (fit.localWrite fun _ _ _ t => t.clearCause)

theorem execUnitCauseClear_keeps {clear : Byte} : Keeps s (execUnitCauseClear port clear s) :=
  keeps_answer (Hub.Fits.ite (fit.modPort fun _ t => t) fit)

theorem execAttentionAttempt_keeps {out : AttnEnd} : Keeps s (execAttentionAttempt port out s) := keeps_answer (fit.attempt)

theorem execAttentionRetry_keeps {out : AttnEnd} : Keeps s (execAttentionRetry port out s) :=
  keeps_answer (Hub.Fits.ite fit.attempt fit)

theorem execAttentionHoldTimeout_keeps : Keeps s (execAttentionHoldTimeout port s) := keeps_answer (fit.attempt)

theorem execLineStuckDetect_keeps {stuck : StuckLine} : Keeps s (execLineStuckDetect port stuck s) :=
  keeps_answer (Hub.Fits.ite (Hub.Fits.when fit.setStuck fun t => t.releaseDrive) fit)

theorem execLineStuckClear_keeps {line : BusLine} : Keeps s (execLineStuckClear port line s) :=
  keeps_answer (Hub.Fits.ite fit.setStuck fit)

theorem execBusRecover_keeps {target : PortId} {lines : BusLines} : Keeps s (execBusRecover port target lines s) :=
  keeps_answer (fit.unitWrite fun _ => fit.recover)

theorem execPortTest_keeps {target : PortId} {lines : BusLines} : Keeps s (execPortTest port target lines s) :=
  keeps_answer (fit.unitWrite fun _ => fit.testPort)

theorem execTrafficSlotStart_keeps {slot : Fin 7} : Keeps s (execTrafficSlotStart p slot s) :=
  keeps_answer (fit.eventAt fun _ t => t.slotStart)

theorem execUpstreamTimeSlot_keeps {l : Fin 32} {cyc : Fin 40} {rx : Slot0Rx} : Keeps s (execUpstreamTimeSlot p l cyc rx s) :=
  keeps_answer (fit.eventAt fun _ t => t.upSlot0)

theorem execPrimitiveReceived_keeps {l : Fin 32} {cyc : Fin 40} {payload : BitVec 64} :
    Keeps s (execPrimitiveReceived p l cyc payload s) :=
  keeps_answer (fit.eventAt fun _ t => t.receive fun _ u => u.timedUp)

theorem execUpstreamVetoReceived_keeps {l : Fin 32} {cyc : Fin 40} {payload : BitVec 64} :
    Keeps s (execUpstreamVetoReceived p l cyc payload s) :=
  keeps_answer (fit.eventAt fun _ t => t.receive fun _ u => u.timedUp)

theorem execStatusReceived_keeps {l : Fin 32} {cyc : Fin 40} {payload : BitVec 64} :
    Keeps s (execStatusReceived p l cyc payload s) :=
  keeps_answer (fit.eventAt fun _ t => t.receive fun _ u => u.pushStat)

theorem execCmdAckReceived_keeps {l : Fin 32} {cyc : Fin 40} {payload : BitVec 64} :
    Keeps s (execCmdAckReceived p l cyc payload s) :=
  keeps_answer (fit.eventAt fun _ t => t.receive fun _ u => u.pushStat)

theorem execUpstreamBulkReceived_keeps {l : Fin 32} {cyc : Fin 40} {payload : BitVec 64} :
    Keeps s (execUpstreamBulkReceived p l cyc payload s) :=
  keeps_answer (fit.eventAt fun _ t => t.receive fun _ u => u.pushBulk)

theorem execTrainHoldCompleteReceived_keeps {l : Fin 32} {cyc : Fin 40} {payload : BitVec 64} :
    Keeps s (execTrainHoldCompleteReceived p l cyc payload s) :=
  keeps_answer (fit.eventAt fun _ t => t.receive fun _ u => u.trainUp)

theorem execReservedMessageReceived_keeps {l : Fin 32} {cyc : Fin 40} {type : Byte} {payload : BitVec 64} :
    Keeps s (execReservedMessageReceived p l cyc type payload s) :=
  keeps_answer (fit.eventAt fun _ t => t.receive fun _ u => Plane.Fits.ite u.anomaly u)

theorem execTiRisingCrossing_keeps {ti : Fin 16} {cyc : Fin 40} {fine : BitVec 9} :
    Keeps s (execTiRisingCrossing p ti cyc fine s) :=
  keeps_answer (fit.eventAt fun _ t => t.crossing)

theorem execHistoryClear_keeps {clear : BitVec 12} : Keeps s (execHistoryClear port p clear s) :=
  keeps_answer (fit.hostWrite (fit.modPlane fun _ t => t.clearHistory))

theorem execSnapshotRequest_keeps {ovfclr : Bool} : Keeps s (execSnapshotRequest port ovfclr s) :=
  keeps_answer (fit.unitWrite fun _ => fit.requestSnapshot)

theorem execSnapshotCapture_keeps : Keeps s (execSnapshotCapture s) := by
  unfold execSnapshotCapture; split
  · exact keeps_answer fit
  · exact keeps_answer (Hub.Fits.ite fit.takeSnapshot fit)

theorem execAuthStart_keeps {selfTestOk : Bool} : Keeps s (execAuthStart port selfTestOk s) :=
  keeps_answer (fit.unitWrite fun _ => fit.startSigning)

theorem execSigningComplete_keeps : Keeps s (execSigningComplete s) := keeps_answer (Hub.Fits.ite fit.endSigning fit)

theorem execSecurityElementTimeout_keeps : Keeps s (execSecurityElementTimeout s) :=
  keeps_answer (Hub.Fits.ite fit (Hub.Fits.ite fit.signFails (Hub.Fits.setUDet fit)))

theorem execTransactionComplete_keeps {tx : HostTx} : Keeps s (execTransactionComplete port tx s) :=
  keeps_answer (Hub.Fits.ite (Hub.Fits.endTx (fit.modPort fun _ t => t) le_rfl) fit)

theorem execHostRegisterWrite_keeps {addr : BitVec 7} {reg : BitVec 5} {word : Word} :
    Keeps s (execHostRegisterWrite port addr reg word s) := by
  unfold execHostRegisterWrite; split
  · split
    · exact keeps_answer fit
    · exact keeps_answer (Hub.Fits.ite (fit.modPort fun _ t => t.wake) (Hub.Fits.ite (fit.writeNow le_rfl) fit.refuse))
  · exact keeps_answer fit

theorem execCfgdataBlockWrite_keeps {block : Fin 32768} {data : List Byte} :
    Keeps s (execCfgdataBlockWrite port block data s) := by
  unfold execCfgdataBlockWrite; split
  · rename_i room
    exact keeps_answer (fit.judged fun _ => (fit.bufferBlock room).modPort fun _ t => t.blockTaken)
  · exact keeps_answer (Hub.Fits.ite fit.refuse fit)

theorem execScheduledTransaction_keeps {sched : Word} {writes : List RegWrite} :
    Keeps s (execScheduledTransaction port p sched writes s) :=
  keeps_answer (Hub.Fits.ite (fit.schedule le_rfl) fit)

theorem execSchedApply_keeps {idx : Fin 4} : Keeps s (execSchedApply p port idx s) :=
  keeps_answer (Hub.Fits.ite fit.applySched fit)

theorem execSchedCancel_keeps : Keeps s (execSchedCancel port p s) := keeps_answer (fit.cancelWord)
theorem execPlaneWriteCommit_keeps : Keeps s (execPlaneWriteCommit p s) := keeps_answer (Hub.Fits.ite fit.commitPlane fit)
theorem execUnitWriteCommit_keeps : Keeps s (execUnitWriteCommit s) := keeps_answer (Hub.Fits.ite fit.commitUnit fit)

theorem execTunnelWriteApply_keeps {entry : TunnelEntry} : Keeps s (execTunnelWriteApply port entry s) :=
  keeps_answer (Hub.Fits.ite fit.tunnelArrive fit)

theorem execLane3ScheduledAction_keeps {act : Lane3Act} {late : Bool} : Keeps s (execLane3ScheduledAction act late s) :=
  keeps_answer (Hub.Fits.ite (Hub.Fits.lane3 (Hub.Fits.ite fit.ucount fit)) fit)

end

/-- Every command keeps the buffers within their depth. -/
theorem exec_keeps (i : Instr) {s : State} (fit : s.hub.Fits fun _ => 4) : Keeps s (exec i s) := by
  cases i with
  | kindling _ _ => exact execKindling_keeps fit
  | powerGoodLoss _ => exact execPowerGoodLoss_keeps fit
  | converterStart => exact execConverterStart_keeps fit
  | imageApply _ => exact execImageApply_keeps fit
  | ovenSettled _ => exact execOvenSettled_keeps fit
  | ovenGateTimeout _ => exact execOvenGateTimeout_keeps fit
  | frameBoundary _ => exact execFrameBoundary_keeps fit
  | pps _ _ => exact execPps_keeps fit
  | groupBoundary _ _ => exact execGroupBoundary_keeps fit
  | millisecondBoundary _ _ => exact execMillisecondBoundary_keeps fit
  | housekeepingTick => exact execHousekeepingTick_keeps fit
  | comparatorReading _ _ => exact execComparatorReading_keeps fit
  | planeWriteCommit _ => exact execPlaneWriteCommit_keeps fit
  | unitWriteCommit => exact execUnitWriteCommit_keeps fit
  | unitValueHandover _ => exact execUnitValueHandover_keeps fit
  | housekeepingRecordTake _ => exact execHousekeepingRecordTake_keeps fit
  | logEraseComplete => exact execLogEraseComplete_keeps fit
  | refLossDeclared _ _ => exact execRefLossDeclared_keeps fit
  | refActiveAgain _ _ => exact execRefActiveAgain_keeps fit
  | timecodeFrame _ _ _ => exact execTimecodeFrame_keeps fit
  | tcQualityEffect _ _ => exact execTcQualityEffect_keeps fit
  | timeMarkerCapture _ _ _ _ _ => exact execTimeMarkerCapture_keeps fit
  | esmcPduReceived _ _ => exact execEsmcPduReceived_keeps fit
  | esmcQualityEffect _ => exact execEsmcQualityEffect_keeps fit
  | esmcTimeout _ => exact execEsmcTimeout_keeps fit
  | freqOffsetMeasurement _ _ _ => exact execFreqOffsetMeasurement_keeps fit
  | phaseJumpMean _ _ _ => exact execPhaseJumpMean_keeps fit
  | waitToRestoreExpiry _ _ => exact execWaitToRestoreExpiry_keeps fit
  | selectionTick _ => exact execSelectionTick_keeps fit
  | switchCommit _ _ _ => exact execSwitchCommit_keeps fit
  | acquireTimeout _ => exact execAcquireTimeout_keeps fit
  | slewComplete _ => exact execSlewComplete_keeps fit
  | driftFitUpdate _ => exact execDriftFitUpdate_keeps fit
  | gridRegistration _ => exact execGridRegistration_keeps fit
  | realignExecute _ => exact execRealignExecute_keeps fit
  | vcobUnlock _ _ => exact execVcobUnlock_keeps fit
  | outputDrainComplete _ _ => exact execOutputDrainComplete_keeps fit
  | outputStart _ _ => exact execOutputStart_keeps fit
  | fineMoveComplete _ _ => exact execFineMoveComplete_keeps fit
  | puPulseStart _ _ => exact execPuPulseStart_keeps fit
  | puAssignmentEffect _ _ _ => exact execPuAssignmentEffect_keeps fit
  | toPulseStart _ _ => exact execToPulseStart_keeps fit
  | upstreamTimeSlot _ _ _ _ => exact execUpstreamTimeSlot_keeps fit
  | slotCheckFailure _ _ _ => exact execSlotCheckFailure_keeps fit
  | linkSignalLoss _ _ => exact execLinkSignalLoss_keeps fit
  | linkSignalPresent _ _ => exact execLinkSignalPresent_keeps fit
  | linkMonitorGraceExpiry _ _ => exact execLinkMonitorGraceExpiry_keeps fit
  | primitiveReceived _ _ _ _ => exact execPrimitiveReceived_keeps fit
  | upstreamVetoReceived _ _ _ _ => exact execUpstreamVetoReceived_keeps fit
  | statusReceived _ _ _ _ => exact execStatusReceived_keeps fit
  | cmdAckReceived _ _ _ _ => exact execCmdAckReceived_keeps fit
  | upstreamBulkReceived _ _ _ _ => exact execUpstreamBulkReceived_keeps fit
  | trainHoldCompleteReceived _ _ _ _ => exact execTrainHoldCompleteReceived_keeps fit
  | reservedMessageReceived _ _ _ _ _ => exact execReservedMessageReceived_keeps fit
  | damperTimeout _ _ => exact execDamperTimeout_keeps fit
  | trafficSlotStart _ _ => exact execTrafficSlotStart_keeps fit
  | tiRisingCrossing _ _ _ _ => exact execTiRisingCrossing_keeps fit
  | fabricEventRelease _ => exact execFabricEventRelease_keeps fit
  | windowOpen _ _ _ => exact execWindowOpen_keeps fit
  | windowEvaluation _ _ _ => exact execWindowEvaluation_keeps fit
  | coincidenceEvaluation _ _ _ _ => exact execCoincidenceEvaluation_keeps fit
  | lookupScrub _ _ _ _ => exact execLookupScrub_keeps fit
  | prescalerPulse _ _ _ => exact execPrescalerPulse_keeps fit
  | crossPlaneCapture _ _ _ _ => exact execCrossPlaneCapture_keeps fit
  | chimneyCrossingRelease _ _ _ _ _ => exact execChimneyCrossingRelease_keeps fit
  | generatorEvent _ _ _ => exact execGeneratorEvent_keeps fit
  | generatorEnqueue _ _ _ => exact execGeneratorEnqueue_keeps fit
  | readoutGapStart _ => exact execReadoutGapStart_keeps fit
  | holdLimitExpiry _ _ => exact execHoldLimitExpiry_keeps fit
  | deferredActionsResume _ => exact execDeferredActionsResume_keeps fit
  | joinCommand _ _ => exact execJoinCommand_keeps fit
  | joinAnnounce => exact execJoinAnnounce_keeps fit
  | joinComplete _ => exact execJoinComplete_keeps fit
  | joinAbandon => exact execJoinAbandon_keeps fit
  | leaveCommand _ => exact execLeaveCommand_keeps fit
  | leaveEffect => exact execLeaveEffect_keeps fit
  | chimneyPortState _ _ => exact execChimneyPortState_keeps fit
  | chimneySwitchOver _ => exact execChimneySwitchOver_keeps fit
  | chimneyLoss => exact execChimneyLoss_keeps fit
  | followerRecordFetch _ _ => exact execFollowerRecordFetch_keeps fit
  | tunnelWriteApply _ _ => exact execTunnelWriteApply_keeps fit
  | tunnelAck _ => exact execTunnelAck_keeps fit
  | lane3ScheduledAction _ _ => exact execLane3ScheduledAction_keeps fit
  | imageErase _ _ => exact execImageErase_keeps fit
  | eraseComplete => exact execEraseComplete_keeps fit
  | imageOpen _ _ => exact execImageOpen_keeps fit
  | cfgdataBlockWrite _ _ _ => exact execCfgdataBlockWrite_keeps fit
  | blockProgramComplete _ => exact execBlockProgramComplete_keeps fit
  | imageClose _ => exact execImageClose_keeps fit
  | verificationComplete _ => exact execVerificationComplete_keeps fit
  | imageBoot _ _ => exact execImageBoot_keeps fit
  | imageLoad _ _ => exact execImageLoad_keeps fit
  | imageReload _ _ _ => exact execImageReload_keeps fit
  | reloadF0 _ => exact execReloadF0_keeps fit
  | reloadF1 _ => exact execReloadF1_keeps fit
  | configCrcCheck _ _ => exact execConfigCrcCheck_keeps fit
  | transactionStart _ => exact execTransactionStart_keeps fit
  | transactionComplete _ _ => exact execTransactionComplete_keeps fit
  | transactionVoid _ _ _ => exact execTransactionVoid_keeps fit
  | hostRegisterWrite _ _ _ _ => exact execHostRegisterWrite_keeps fit
  | windowSelectWrite _ _ _ => exact execWindowSelectWrite_keeps fit
  | scheduledTransaction _ _ _ _ => exact execScheduledTransaction_keeps fit
  | schedApply _ _ _ => exact execSchedApply_keeps fit
  | schedCancel _ _ => exact execSchedCancel_keeps fit
  | portSleep _ => exact execPortSleep_keeps fit
  | portWake _ _ => exact execPortWake_keeps fit
  | refusalClear _ => exact execRefusalClear_keeps fit
  | pecEnableWrite _ _ => exact execPecEnableWrite_keeps fit
  | attentionConfigWrite _ _ _ => exact execAttentionConfigWrite_keeps fit
  | attentionCauseClear _ _ _ => exact execAttentionCauseClear_keeps fit
  | unitCauseClear _ _ => exact execUnitCauseClear_keeps fit
  | historyClear _ _ _ => exact execHistoryClear_keeps fit
  | attentionAttempt _ _ => exact execAttentionAttempt_keeps fit
  | attentionRetry _ _ => exact execAttentionRetry_keeps fit
  | attentionHoldTimeout _ => exact execAttentionHoldTimeout_keeps fit
  | lineStuckDetect _ _ => exact execLineStuckDetect_keeps fit
  | lineStuckClear _ _ => exact execLineStuckClear_keeps fit
  | busRecover _ _ _ => exact execBusRecover_keeps fit
  | portTest _ _ _ => exact execPortTest_keeps fit
  | ownershipClaim _ _ => exact execOwnershipClaim_keeps fit
  | ownershipRelease _ _ => exact execOwnershipRelease_keeps fit
  | ownershipTimeout _ => exact execOwnershipTimeout_keeps fit
  | loopModeWrite _ _ _ => exact execLoopModeWrite_keeps fit
  | forcedRefWrite _ _ _ => exact execForcedRefWrite_keeps fit
  | realignRequest _ _ => exact execRealignRequest_keeps fit
  | realignCancel _ _ => exact execRealignCancel_keeps fit
  | huskClear _ _ => exact execHuskClear_keeps fit
  | trainingHoldRequest _ _ _ => exact execTrainingHoldRequest_keeps fit
  | trainingHoldHostEnd _ _ _ => exact execTrainingHoldHostEnd_keeps fit
  | referencePriorityWrite _ _ _ _ => exact execReferencePriorityWrite_keeps fit
  | bandwidthCodeWrite _ _ _ => exact execBandwidthCodeWrite_keeps fit
  | freqWrite _ _ _ => exact execFreqWrite_keeps fit
  | gridOffsetWrite _ _ _ => exact execGridOffsetWrite_keeps fit
  | outputGateWrite _ _ _ _ => exact execOutputGateWrite_keeps fit
  | outputDelayWrite _ _ _ _ _ => exact execOutputDelayWrite_keeps fit
  | puSettingsWrite _ _ _ _ _ _ _ => exact execPuSettingsWrite_keeps fit
  | toFineDelayWrite _ _ _ _ => exact execToFineDelayWrite_keeps fit
  | enqueueCmd _ _ _ _ => exact execEnqueueCmd_keeps fit
  | enqueueBulk _ _ _ _ => exact execEnqueueBulk_keeps fit
  | popUqStat _ _ _ => exact execPopUqStat_keeps fit
  | popUqBulk _ _ _ => exact execPopUqBulk_keeps fit
  | injectTestAccept _ _ _ _ => exact execInjectTestAccept_keeps fit
  | linkDelayWrite _ _ _ _ _ => exact execLinkDelayWrite_keeps fit
  | hostDamperWrite _ _ _ _ => exact execHostDamperWrite_keeps fit
  | queueThresholdWrite _ _ _ => exact execQueueThresholdWrite_keeps fit
  | parameterCellWrite _ _ _ _ => exact execParameterCellWrite_keeps fit
  | generatorEnableWrite _ _ _ _ => exact execGeneratorEnableWrite_keeps fit
  | bintWrite _ _ _ _ => exact execBintWrite_keeps fit
  | userGeneratorWrite _ _ _ _ _ _ => exact execUserGeneratorWrite_keeps fit
  | epochPhaseDelayWrite _ _ _ _ _ => exact execEpochPhaseDelayWrite_keeps fit
  | faultReaction _ => exact execFaultReaction_keeps fit
  | pairBroken _ => exact execPairBroken_keeps fit
  | pairWhole _ => exact execPairWhole_keeps fit
  | collectorParityFault _ _ => exact execCollectorParityFault_keeps fit
  | stickyClear _ _ => exact execStickyClear_keeps fit
  | severityWrite _ _ _ => exact execSeverityWrite_keeps fit
  | faultInjectStart _ _ _ _ _ _ => exact execFaultInjectStart_keeps fit
  | faultInjectStop _ _ => exact execFaultInjectStop_keeps fit
  | ovenFault _ _ => exact execOvenFault_keeps fit
  | planeSupplyFault _ => exact execPlaneSupplyFault_keeps fit
  | snapshotRequest _ _ => exact execSnapshotRequest_keeps fit
  | snapshotCapture => exact execSnapshotCapture_keeps fit
  | nvRead _ _ => exact execNvRead_keeps fit
  | nvWrite _ _ => exact execNvWrite_keeps fit
  | nvProgramComplete _ _ => exact execNvProgramComplete_keeps fit
  | nvKey _ _ => exact execNvKey_keeps fit
  | nvPasswordChange _ _ => exact execNvPasswordChange_keeps fit
  | nvKeyShift _ _ => exact execNvKeyShift_keeps fit
  | nvDataWrite _ _ => exact execNvDataWrite_keeps fit
  | pageReload _ => exact execPageReload_keeps fit
  | hubPageWrite _ _ _ _ => exact execHubPageWrite_keeps fit
  | authNonceWrite _ _ => exact execAuthNonceWrite_keeps fit
  | authStart _ _ => exact execAuthStart_keeps fit
  | signingComplete => exact execSigningComplete_keeps fit
  | planeStandbyEnter _ _ => exact execPlaneStandbyEnter_keeps fit
  | standbyDrainComplete _ => exact execStandbyDrainComplete_keeps fit
  | planeStandbyLeave _ _ => exact execPlaneStandbyLeave_keeps fit
  | planeClockRestart _ => exact execPlaneClockRestart_keeps fit
  | unitStandbyEnter _ => exact execUnitStandbyEnter_keeps fit
  | unitStandbyLeave _ => exact execUnitStandbyLeave_keeps fit
  | feedJudgement _ _ => exact execFeedJudgement_keeps fit
  | feedOvervoltageDisconnect _ => exact execFeedOvervoltageDisconnect_keeps fit
  | feedReconnect _ => exact execFeedReconnect_keeps fit
  | fanSpeedCheck _ _ _ => exact execFanSpeedCheck_keeps fit
  | environmentSample _ => exact execEnvironmentSample_keeps fit
  | timecodeFrameMissing _ _ => exact execTimecodeFrameMissing_keeps fit
  | puPulseEnd _ _ => exact execPuPulseEnd_keeps fit
  | toPulseEnd _ _ => exact execToPulseEnd_keeps fit
  | planeSupplyRestored _ => exact execPlaneSupplyRestored_keeps fit
  | securityElementTimeout => exact execSecurityElementTimeout_keeps fit
  | followerAttentionReceived _ _ => exact execFollowerAttentionReceived_keeps fit
  | shortBrokenRun _ => exact execShortBrokenRun_keeps fit

theorem step_keeps {s t : State} (h : step s = .next t) (fit : s.hub.Fits fun _ => 4) : t.hub.Fits fun _ => 4 := by
  cases e : s.pending with
  | nil =>
    simp only [step, e] at h
    injection h with h
    rw [← h]; exact fit
  | cons c rest =>
    simp only [step, e] at h
    obtain ⟨k, hk, kfit⟩ := exec_keeps c (s := { s with pending := rest }) fit
    rw [hk] at h
    injection h with h
    rw [← h]; exact kfit

end Sys2Proof.Machine
end

section
/-! THEOREM. Every step keeps the buffers within their depth. -/

open Sys2Proof Sys2Proof.Machine

/-- Settles O7: every command keeps every queue and buffer within its depth, since each looks for room before it adds an entry. -/
theorem everyStepKeepsTheBuffersBounded : Obligations.EveryStepKeepsTheBuffersBounded := by
  intro s t h fit
  rw [buffersFit_iff] at fit ⊢
  exact step_keeps h fit

end

section
/-! SUPPORT. What an event inside a plane can change, put together from what its parts can. -/

namespace Sys2Proof

open Machine

theorem Tri.set_get {α : Type} (t : Tri α) (p : PlaneId) : t.set p (t.get p) = t := by cases p <;> rfl

theorem Tri.set_set {α : Type} (t : Tri α) (p : PlaneId) (x y : α) : (t.set p x).set p y = t.set p y := by cases p <;> rfl

/-- The hub after a change inside a plane, with the new contents of what may change. -/
theorem onlyPlane_iff {p : PlaneId} {h g : Hub} : OnlyPlane p h g ↔
    ∃ x y o i, g = { h with planes := h.planes.set p x, shots := h.shots.set p y, ports := o, freeIdx := i } ∧
      ∀ q : PortId, ∃ a m n, o[q.val] = { h.port q with acause := a, msgs := m, attnSeq := n } := by
  constructor
  · rintro ⟨e, ports⟩
    exact ⟨_, _, _, _, e, fun q => ⟨_, _, _, ports q⟩⟩
  · rintro ⟨x, y, o, i, rfl, ports⟩
    refine ⟨by simp [Hub.plane], fun q => ?_⟩
    obtain ⟨a, m, n, e⟩ := ports q
    simp only [Hub.port] at e ⊢
    rw [e]

theorem OnlyPlane.refl (p : PlaneId) (h : Hub) : OnlyPlane p h h :=
  onlyPlane_iff.mpr ⟨h.plane p, h.shots.get p, h.ports, h.freeIdx, by simp [Hub.plane, Tri.set_get], fun _ => ⟨_, _, _, rfl⟩⟩

theorem OnlyPlane.trans {p : PlaneId} {h g k : Hub} (a : OnlyPlane p h g) (b : OnlyPlane p g k) : OnlyPlane p h k := by
  obtain ⟨x, y, o, i, rfl, ports⟩ := onlyPlane_iff.mp a
  obtain ⟨x', y', o', i', rfl, ports'⟩ := onlyPlane_iff.mp b
  refine onlyPlane_iff.mpr ⟨x', y', o', i', by simp [Tri.set_set], fun q => ?_⟩
  obtain ⟨a, m, n, e⟩ := ports q
  obtain ⟨a', m', n', e'⟩ := ports' q
  exact ⟨a', m', n', by rw [e', Hub.port, e]⟩

/-- A plane replaced, and what it shows to reads with it. -/
theorem OnlyPlane.setPlane_shots (p : PlaneId) (h : Hub) (x y : Plane) :
    OnlyPlane p h { h.setPlane p x with shots := h.shots.set p y } :=
  onlyPlane_iff.mpr ⟨x, y, h.ports, h.freeIdx, rfl, fun _ => ⟨_, _, _, rfl⟩⟩

theorem OnlyPlane.modPlane (p : PlaneId) (h : Hub) (f : Plane → Plane) : OnlyPlane p h (h.modPlane p f) :=
  onlyPlane_iff.mpr ⟨f (h.plane p), h.shots.get p, h.ports, h.freeIdx, by simp [Hub.modPlane, Hub.setPlane, Tri.set_get],
    fun _ => ⟨_, _, _, rfl⟩⟩

theorem OnlyPlane.fresh (p : PlaneId) (h : Hub) : OnlyPlane p h h.fresh.2 :=
  onlyPlane_iff.mpr ⟨h.plane p, h.shots.get p, h.ports, h.freeIdx + 1, by simp [Hub.fresh, Hub.plane, Tri.set_get],
    fun _ => ⟨_, _, _, rfl⟩⟩

/-- Causes a plane raises reach its outgoing queue, its counters and the ports. -/
theorem Machine.CauseOnly.onlyPlane {p : PlaneId} {h g : Hub} (c : CauseOnly p h g) : OnlyPlane p h g := by
  obtain ⟨e, ⟨o, k, planes, -⟩, ports⟩ := c
  exact onlyPlane_iff.mpr ⟨_, h.shots.get p, g.ports, h.freeIdx, e.trans (by rw [planes, Tri.set_get h.shots]), ports⟩

theorem OnlyPlane.onPlane (p : PlaneId) (h : Hub) (f : Plane → Plane) : OnlyPlane p h (h.onPlane p f) :=
  (OnlyPlane.modPlane p h _).trans (Hub.onPlane_only h p f).onlyPlane

theorem OnlyPlane.ifActive {p : PlaneId} {h : Hub} {f : Hub → Hub} (hf : OnlyPlane p h (f h)) : OnlyPlane p h (h.ifActive p f) := by
  unfold Hub.ifActive; split
  · exact hf
  · exact OnlyPlane.refl p h

theorem OnlyPlane.event (p : PlaneId) (h : Hub) (f : Plane → Plane) : OnlyPlane p h (h.event p f) :=
  OnlyPlane.ifActive (OnlyPlane.onPlane p h f)

theorem OnlyPlane.eventFree (p : PlaneId) (h : Hub) (f : Int → Plane → Plane) : OnlyPlane p h (h.eventFree p f) :=
  OnlyPlane.ifActive ((OnlyPlane.fresh p h).trans (OnlyPlane.onPlane p _ _))

theorem OnlyPlane.leaveZero (p : PlaneId) (h : Hub) : OnlyPlane p h (h.leaveZero p) := by
  unfold Hub.leaveZero; split
  · exact (OnlyPlane.modPlane p h Plane.applyDelays).trans (OnlyPlane.setPlane_shots p _ _ _)
  · exact OnlyPlane.refl p h

theorem OnlyPlane.toCycle (p : PlaneId) (h : Hub) (c : Fin 40) : OnlyPlane p h (h.toCycle p c) := by
  unfold Hub.toCycle; split
  · exact (OnlyPlane.leaveZero p h).trans (OnlyPlane.modPlane p _ _)
  · exact OnlyPlane.refl p h

theorem OnlyPlane.eventAt (p : PlaneId) (h : Hub) (c : Fin 40) (f : Plane → Plane) : OnlyPlane p h (h.eventAt p c f) :=
  OnlyPlane.ifActive ((OnlyPlane.toCycle p h c).trans (OnlyPlane.onPlane p _ f))

section
variable {c : Instr} {s : State} {p : PlaneId}

/-- A command that is an event of a plane changes that plane alone. -/
theorem event_onlyPlane {f : Plane → Plane} (e : exec c s = s.answer (s.hub.event p f)) : Completes c s (OnlyPlane p s.hub) :=
  ⟨_, e, OnlyPlane.event p s.hub f⟩

theorem eventFree_onlyPlane {f : Int → Plane → Plane} (e : exec c s = s.answer (s.hub.eventFree p f)) :
    Completes c s (OnlyPlane p s.hub) :=
  ⟨_, e, OnlyPlane.eventFree p s.hub f⟩

theorem eventAt_onlyPlane {k : Fin 40} {f : Plane → Plane} (e : exec c s = s.answer (s.hub.eventAt p k f)) :
    Completes c s (OnlyPlane p s.hub) :=
  ⟨_, e, OnlyPlane.eventAt p s.hub k f⟩

end

/-- A hub that is not joined has no partner to announce a marker to. -/
theorem Machine.Hub.announceRealign_lone {h : Hub} (lone : h.joined = false) (p : PlaneId) (g : Hub) : h.announceRealign p g = g := by
  simp [Hub.announceRealign, lone]

end Sys2Proof
end

section
/-! THEOREM. Events inside a plane. -/

open Sys2Proof Sys2Proof.Machine

/-- Settles O10: each of the commands is an event of its plane, at once or in its cycle; only a marker captured in a joined leader goes
on to the partner. -/
theorem planeEventsChangeTheirPlaneAlone : Obligations.PlaneEventsChangeTheirPlaneAlone := by
  intro s p b g cyc l n rx w ty i u co fine src k m v tc irig pdu
  have marker : s.hub.joined = false → Completes (.timeMarkerCapture p src cyc k m) s (OnlyPlane p s.hub) := fun lone =>
    ⟨_, rfl, by rw [Hub.announceRealign_lone lone]; exact OnlyPlane.eventAt p s.hub cyc _⟩
  simp only [List.forall_mem_cons, List.not_mem_nil, false_implies, implies_true, and_true, ne_eq, reduceCtorEq, not_false_eq_true,
    not_true_eq_false, or_true, or_false, true_implies]
  exact ⟨event_onlyPlane rfl, event_onlyPlane rfl, event_onlyPlane rfl, event_onlyPlane rfl, eventAt_onlyPlane rfl,
    eventAt_onlyPlane rfl, event_onlyPlane rfl, event_onlyPlane rfl, event_onlyPlane rfl, event_onlyPlane rfl,
    event_onlyPlane rfl, event_onlyPlane rfl, event_onlyPlane rfl, eventAt_onlyPlane rfl, eventAt_onlyPlane rfl,
    eventAt_onlyPlane rfl, eventAt_onlyPlane rfl, eventAt_onlyPlane rfl, eventAt_onlyPlane rfl, eventAt_onlyPlane rfl,
    eventAt_onlyPlane rfl, eventAt_onlyPlane rfl, eventAt_onlyPlane rfl, marker, event_onlyPlane rfl, event_onlyPlane rfl,
    event_onlyPlane rfl, event_onlyPlane rfl, event_onlyPlane rfl, eventAt_onlyPlane rfl, eventAt_onlyPlane rfl,
    event_onlyPlane rfl, eventAt_onlyPlane rfl, event_onlyPlane rfl, event_onlyPlane rfl, eventFree_onlyPlane rfl,
    event_onlyPlane rfl, event_onlyPlane rfl, event_onlyPlane rfl, event_onlyPlane rfl, event_onlyPlane rfl,
    event_onlyPlane rfl, event_onlyPlane rfl, event_onlyPlane rfl, event_onlyPlane rfl, event_onlyPlane rfl,
    event_onlyPlane rfl, event_onlyPlane rfl, event_onlyPlane rfl⟩

end

section
/-! SUPPORT. What the operations of a frame, a second, a group and a millisecond keep: the time counters, the banks, the section and the
ESMC state of a plane in all of them, its links in those of a millisecond that concern none. -/

namespace Sys2Proof.Machine

/-- Plane x has the time, the bank and the gathered bank, the section, the VCO-B difference and the ESMC state of plane o. -/
@[reducible, simp] def SameClock (o x : Plane) : Prop :=
  x.time = o.time ∧ x.bank = o.bank ∧ x.fill = o.fill ∧ x.sect = o.sect ∧ x.vcobDif = o.vcobDif ∧ x.esmc = o.esmc

section
variable {o x y : Plane} {c : Prop} {d : Decidable c}

theorem SameClock.rfl : SameClock o o := ⟨Eq.refl _, Eq.refl _, Eq.refl _, Eq.refl _, Eq.refl _, Eq.refl _⟩

@[simp] theorem SameClock.ite (hx : SameClock o x) (hy : SameClock o y) : SameClock o (if c then x else y) := by
  split
  · exact hx
  · exact hy

theorem SameClock.foldl {α : Type} {f : Plane → α → Plane} {l : List α}
    (hf : ∀ (z : Plane) (a : α), SameClock o z → SameClock o (f z a))
    (h : SameClock o x) : SameClock o (l.foldl f x) :=
  List.foldlRecOn (motive := SameClock o) l f h fun z hz a _ => hf z a hz

end

section
variable {o x y : Plane} {c : Prop} {d : Decidable c}

theorem SameClock.when (hx : SameClock o x) (hy : SameClock o x → SameClock o y) : SameClock o (if c then y else x) := (hy hx).ite hx

end

section
variable {a x : Plane} {p : PlaneId} {l : Fin 32} {n : Fin 64} {r : Fin 4} {v : Int}

@[simp] theorem SameClock.modLink {f : Link → Link} (h : SameClock a x) : SameClock a (x.modLink l f) := h
@[simp] theorem SameClock.count {n : Fin 32} (h : SameClock a x) : SameClock a (x.count n) := h

@[simp] theorem SameClock.send {r : OutRec} (h : SameClock a x) : SameClock a (x.send r) :=
  SameClock.ite h (SameClock.ite h.count h)

@[simp] theorem SameClock.raise {bit : Nat} (h : SameClock a x) : SameClock a (x.raise bit) := h

@[simp] theorem SameClock.history {b : Nat} (h : SameClock a x) : SameClock a (x.history b) :=
  SameClock.ite (SameClock.raise h) h

@[simp] theorem SameClock.log {type : Byte} {data : Vector Word 4} (h : SameClock a x) : SameClock a (x.log p type data) :=
  h.send

@[simp] theorem SameClock.setDet {b : Bool} (h : SameClock a x) : SameClock a (x.setDet n b) := h
@[simp] theorem SameClock.clearRatio (h : SameClock a x) : SameClock a x.clearRatio := h
@[simp] theorem SameClock.loopSources (h : SameClock a x) : SameClock a x.loopSources := h
@[simp] theorem SameClock.refreshBw (h : SameClock a x) : SameClock a x.refreshBw := h

@[simp] theorem SameClock.setLoop {st : LoopState} (h : SameClock a x) : SameClock a (x.setLoop st) := by
  simp only [Plane.setLoop]
  exact SameClock.loopSources (SameClock.refreshBw (SameClock.ite (SameClock.ite h h) (SameClock.history (SameClock.ite h h))))

@[simp] theorem SameClock.slewFrame (h : SameClock a x) : SameClock a x.slewFrame := by
  unfold Plane.slewFrame; dsimp only; (repeat' split) <;> simp [h]

@[simp] theorem SameClock.discardResid (h : SameClock a x) : SameClock a (x.discardResid p) := by
  unfold Plane.discardResid; split <;> simp [h]

@[simp] theorem SameClock.holdSteer (h : SameClock a x) : SameClock a (x.holdSteer v) := by
  unfold Plane.holdSteer; split <;> simp [h]

@[simp] theorem SameClock.takeHoldover (h : SameClock a x) : SameClock a x.takeHoldover := by
  unfold Plane.takeHoldover; dsimp only; (repeat' split) <;> simp [h]

@[simp] theorem SameClock.steerHeld (h : SameClock a x) : SameClock a x.steerHeld := by
  unfold Plane.steerHeld; split <;> simp [h]

@[simp] theorem SameClock.noActive (h : SameClock a x) : SameClock a x.noActive := h

@[simp] theorem SameClock.toEmber (h : SameClock a x) : SameClock a (x.toEmber p v) := by
  simp only [Plane.toEmber]; split
  · exact SameClock.log (SameClock.steerHeld h.holdSteer.takeHoldover.noActive.discardResid.setLoop)
  · exact h.holdSteer.takeHoldover.noActive.setLoop

@[simp] theorem SameClock.resumeSoft (h : SameClock a x) : SameClock a (x.resumeSoft p) := by
  unfold Plane.resumeSoft; split
  · exact SameClock.setLoop (SameClock.discardResid h)
  · exact h

@[simp] theorem SameClock.switchRec {type : Byte} {new : Fin 4} {step : Int} (h : SameClock a x) :
    SameClock a (x.switchRec p type new step) := by
  simp [Plane.switchRec, h]

@[simp] theorem SameClock.abandonSwitch (h : SameClock a x) : SameClock a (x.abandonSwitch p) := by
  unfold Plane.abandonSwitch; split
  · exact h
  · exact SameClock.switchRec (SameClock.count h)

@[simp] theorem SameClock.startSwitch (h : SameClock a x) : SameClock a (x.startSwitch r) := h

@[simp] theorem SameClock.supersede {old new : Fin 4} (h : SameClock a x) : SameClock a (x.supersede p old new) := by
  simp only [Plane.supersede]; exact (h.count.switchRec).startSwitch

@[simp] theorem SameClock.review (h : SameClock a x) : SameClock a (x.review p) := by
  unfold Plane.review; split
  · exact h
  · refine SameClock.ite h ?_
    split
    · exact h.abandonSwitch
    · exact SameClock.ite h.abandonSwitch (SameClock.ite h h.supersede)
    · split
      · exact h.abandonSwitch
      · exact SameClock.ite h.abandonSwitch (SameClock.ite h (SameClock.ite h (SameClock.ite h.supersede h)))

@[simp] theorem SameClock.dropActive (h : SameClock a x) : SameClock a (x.dropActive p v) := by
  unfold Plane.dropActive; split
  · exact h
  · exact h.ite (h.toEmber.ite h.noActive)

@[simp] theorem SameClock.noteRealign (h : SameClock a x) : SameClock a x.noteRealign := by
  unfold Plane.noteRealign; split <;> simp [h]

@[simp] theorem SameClock.judgeLock {phase : Int} (h : SameClock a x) : SameClock a (x.judgeLock phase) := by
  unfold Plane.judgeLock; split
  · exact SameClock.ite h.setLoop h
  · exact SameClock.ite h.setLoop h
  · exact h

@[simp] theorem SameClock.phaseMs {mean : Int} (h : SameClock a x) : SameClock a (x.phaseMs mean) := by
  unfold Plane.phaseMs; split
  · exact h
  · exact SameClock.judgeLock h

@[simp] theorem SameClock.loopSecond (h : SameClock a x) : SameClock a (x.loopSecond v) := SameClock.when h fun t => t.steerHeld
@[simp] theorem SameClock.requestHold {g : Fin 32} (h : SameClock a x) : SameClock a (x.requestHold g) := h
@[simp] theorem SameClock.linkSources (h : SameClock a x) : SameClock a x.linkSources := h

@[simp] theorem SameClock.enterLink {st : LinkState} (h : SameClock a x) : SameClock a (x.enterLink l st) := by
  simp only [Plane.enterLink]
  refine SameClock.when (SameClock.when h.modLink fun t => t.modLink) fun t => ?_
  exact SameClock.foldl (fun z g hz => hz.when fun t => t.requestHold) t

@[simp] theorem SameClock.applyPending (h : SameClock a x) : SameClock a x.applyPending := by
  unfold Plane.applyPending; split
  · exact h
  · refine (SameClock.foldl (fun z l hz => ?_) h).linkSources
    split
    · exact hz.enterLink
    · exact hz

@[simp] theorem SameClock.sendSlot0 {base : Nat} (h : SameClock a x) : SameClock a (x.sendSlot0 base) := by
  simp only [Plane.sendSlot0, SameClock]; exact h

@[simp] theorem SameClock.evalDamper (h : SameClock a x) : SameClock a x.evalDamper := by
  simp only [Plane.evalDamper, SameClock]; exact h

@[simp] theorem SameClock.latchGroup (h : SameClock a x) : SameClock a x.latchGroup := by
  simp only [Plane.latchGroup, SameClock]; exact h

@[simp] theorem SameClock.rttReading {r : Option Int} (h : SameClock a x) : SameClock a (x.rttReading l r) := by
  unfold Plane.rttReading; dsimp only; (repeat' split) <;> simp [h]

@[simp] theorem SameClock.linksMs {rtt : Vector (Option Int) 32} (h : SameClock a x) : SameClock a (x.linksMs rtt) := by
  have t : SameClock a ((List.finRange 32).foldl (fun (z : Plane) l => z.rttReading l rtt[l.val]) x) :=
    SameClock.foldl (fun z l hz => hz.rttReading) h
  simp only [Plane.linksMs]
  refine SameClock.linkSources ?_
  simp only [SameClock]; exact t

@[simp] theorem SameClock.rateInterval {second : Bool} (h : SameClock a x) : SameClock a (x.rateInterval second) := h

@[simp] theorem SameClock.judgeTi {i : Fin 16} {t : TiSense} (h : SameClock a x) : SameClock a (x.judgeTi i t) := by
  unfold Plane.judgeTi; dsimp only; (repeat' split) <;> simp [h]

@[simp] theorem SameClock.tiMs {t : Vector TiSense 16} (h : SameClock a x) : SameClock a (x.tiMs t) := by
  simp only [Plane.tiMs]; exact SameClock.setDet (SameClock.foldl (fun z i hz => hz.judgeTi) h)

@[simp] theorem SameClock.applyDelays (h : SameClock a x) : SameClock a x.applyDelays := by
  unfold Plane.applyDelays; split <;> simp [h]

@[simp] theorem SameClock.fineMoves (h : SameClock a x) : SameClock a x.fineMoves := by
  unfold Plane.fineMoves; split <;> simp [h]

@[simp] theorem SameClock.releaseEarly (h : SameClock a x) : SameClock a x.releaseEarly := by
  unfold Plane.releaseEarly; split
  · exact h
  · refine SameClock.clearRatio ?_
    simp only [SameClock]; exact h

@[simp] theorem SameClock.senseSource {bad good : Nat} (h : SameClock a x) : SameClock a (x.senseSource n bad good) := by
  simp only [Plane.senseSource]; exact h.setDet.ite (h.setDet.ite h)

@[simp] theorem SameClock.senseOut {o : Fin 20} {t : TermSense} (h : SameClock a x) : SameClock a (x.senseOut o t) := by
  unfold Plane.senseOut; dsimp only; split
  · exact h
  · split
    · exact SameClock.ite (SameClock.senseSource h) h
    · exact SameClock.ite h (SameClock.senseSource h)

@[simp] theorem SameClock.senseAll {t : Vector TermSense 20} (h : SameClock a x) : SameClock a (x.senseAll t) := by
  simp only [Plane.senseAll]; exact SameClock.foldl (fun z o hz => hz.senseOut) h

@[simp] theorem SameClock.resample (h : SameClock a x) : SameClock a x.resample := by
  simp only [Plane.resample]
  refine SameClock.setDet (SameClock.setDet (SameClock.setDet (SameClock.setDet (SameClock.linkSources ?_))))
  refine SameClock.foldl (fun z n hz => hz.setDet) (SameClock.setDet (SameClock.loopSources (SameClock.setDet ?_)))
  exact SameClock.foldl (fun z i hz => hz.setDet.setDet) h

@[simp] theorem SameClock.sweepDisputes (h : SameClock a x) : SameClock a x.sweepDisputes := h
@[simp] theorem SameClock.refsChanged (h : SameClock a x) : SameClock a (x.refsChanged p) := h.sweepDisputes.review

@[simp] theorem SameClock.followCross {hql : Nat} (h : SameClock a x) : SameClock a (x.followCross p hql) := by
  simp only [Plane.followCross]
  refine SameClock.ite (SameClock.ite (SameClock.refsChanged h) ?_) h
  refine SameClock.refsChanged (SameClock.setDet (SameClock.setDet (SameClock.raise ?_)))
  exact h

@[simp] theorem SameClock.judgePair {q : Fin 4 × Fin 4} (h : SameClock a x) : SameClock a (x.judgePair q) := by
  unfold Plane.judgePair; dsimp only; (repeat' split) <;> simp [h]

@[simp] theorem SameClock.refSecond {freq : Vector Int 4} (h : SameClock a x) : SameClock a (x.refSecond p freq) := by
  simp only [Plane.refSecond]
  refine SameClock.refsChanged (SameClock.foldl (fun z q hz => hz.judgePair) ?_)
  exact h

@[simp] theorem SameClock.modSrc {f : Src → Src} (h : SameClock a x) : SameClock a (x.modSrc n f) := h

@[simp] theorem SameClock.isolateLinks {n : Fin 3} (h : SameClock a x) : SameClock a (x.isolateLinks n) := by
  simp only [Plane.isolateLinks, SameClock]; exact h

@[simp] theorem SameClock.disableInputs (h : SameClock a x) : SameClock a x.disableInputs := h

@[simp] theorem SameClock.isolateMore (h : SameClock a x) : SameClock a x.isolateMore := by
  simp only [Plane.isolateMore]
  exact SameClock.when (SameClock.when (SameClock.when (h.when fun t => t.disableInputs) fun t => t.isolateLinks)
    fun t => t.isolateLinks) fun t => t.isolateLinks

@[simp] theorem SameClock.clearOvf {cap : Plane} (h : SameClock a x) : SameClock a (x.clearOvf cap) := by
  simp only [Plane.clearOvf, SameClock]; exact h

@[simp] theorem SameClock.endEvents (h : SameClock a x) : SameClock a x.endEvents := by
  simp only [Plane.endEvents]; exact SameClock.foldl (fun z n hz => hz.ite hz.modSrc.setDet) h

@[simp] theorem SameClock.countSwitch (h : SameClock a x) : SameClock a x.countSwitch := h
@[simp] theorem SameClock.startWaiting (h : SameClock a x) : SameClock a x.startWaiting := h

@[simp] theorem SameClock.openSecond (h : SameClock a x) : SameClock a (x.openSecond v) := by
  have t : SameClock a ((x.loopSecond v).releaseEarly.rateInterval true).startWaiting :=
    h.loopSecond.releaseEarly.rateInterval.startWaiting
  simp only [Plane.openSecond, SameClock]; exact t

@[simp] theorem SameClock.tails (h : SameClock a x) : SameClock a x.tails := by
  simp only [Plane.tails]; exact SameClock.setDet (SameClock.setDet (SameClock.setDet h))

end

/-- Plane x has the links of plane o. -/
@[reducible, simp] def SameLinks (o x : Plane) : Prop := x.link = o.link

section
variable {o x y : Plane} {c : Prop} {d : Decidable c}

@[simp] theorem SameLinks.ite (hx : SameLinks o x) (hy : SameLinks o y) : SameLinks o (if c then x else y) := by
  split
  · exact hx
  · exact hy

theorem SameLinks.foldl {α : Type} {f : Plane → α → Plane} {l : List α}
    (hf : ∀ (z : Plane) (a : α), SameLinks o z → SameLinks o (f z a))
    (h : SameLinks o x) : SameLinks o (l.foldl f x) :=
  List.foldlRecOn (motive := SameLinks o) l f h fun z hz a _ => hf z a hz

end

section
variable {o x y : Plane} {c : Prop} {d : Decidable c}

end

section
variable {a x : Plane} {p : PlaneId} {l : Fin 32} {n : Fin 64} {r : Fin 4} {v : Int}

@[simp] theorem SameLinks.raise {bit : Nat} (h : SameLinks a x) : SameLinks a (x.raise bit) := h

@[simp] theorem SameLinks.history {b : Nat} (h : SameLinks a x) : SameLinks a (x.history b) :=
  SameLinks.ite (SameLinks.raise h) h

@[simp] theorem SameLinks.setDet {b : Bool} (h : SameLinks a x) : SameLinks a (x.setDet n b) := h
@[simp] theorem SameLinks.loopSources (h : SameLinks a x) : SameLinks a x.loopSources := h
@[simp] theorem SameLinks.refreshBw (h : SameLinks a x) : SameLinks a x.refreshBw := h

@[simp] theorem SameLinks.setLoop {st : LoopState} (h : SameLinks a x) : SameLinks a (x.setLoop st) := by
  simp only [Plane.setLoop]
  exact SameLinks.loopSources (SameLinks.refreshBw (SameLinks.ite (SameLinks.ite h h) (SameLinks.history (SameLinks.ite h h))))

@[simp] theorem SameLinks.judgeLock {phase : Int} (h : SameLinks a x) : SameLinks a (x.judgeLock phase) := by
  unfold Plane.judgeLock; split
  · exact SameLinks.ite h.setLoop h
  · exact SameLinks.ite h.setLoop h
  · exact h

@[simp] theorem SameLinks.phaseMs {mean : Int} (h : SameLinks a x) : SameLinks a (x.phaseMs mean) := by
  unfold Plane.phaseMs; split
  · exact h
  · exact SameLinks.judgeLock h

@[simp] theorem SameLinks.linkSources (h : SameLinks a x) : SameLinks a x.linkSources := h
@[simp] theorem SameLinks.rateInterval {second : Bool} (h : SameLinks a x) : SameLinks a (x.rateInterval second) := h

@[simp] theorem SameLinks.judgeTi {i : Fin 16} {t : TiSense} (h : SameLinks a x) : SameLinks a (x.judgeTi i t) := by
  unfold Plane.judgeTi; dsimp only; (repeat' split) <;> simp [h]

@[simp] theorem SameLinks.tiMs {t : Vector TiSense 16} (h : SameLinks a x) : SameLinks a (x.tiMs t) := by
  simp only [Plane.tiMs]; exact SameLinks.setDet (SameLinks.foldl (fun z i hz => hz.judgeTi) h)

@[simp] theorem SameLinks.senseSource {bad good : Nat} (h : SameLinks a x) : SameLinks a (x.senseSource n bad good) := by
  simp only [Plane.senseSource]; exact h.setDet.ite (h.setDet.ite h)

@[simp] theorem SameLinks.senseOut {o : Fin 20} {t : TermSense} (h : SameLinks a x) : SameLinks a (x.senseOut o t) := by
  unfold Plane.senseOut; dsimp only; split
  · exact h
  · split
    · exact SameLinks.ite (SameLinks.senseSource h) h
    · exact SameLinks.ite h (SameLinks.senseSource h)

@[simp] theorem SameLinks.senseAll {t : Vector TermSense 20} (h : SameLinks a x) : SameLinks a (x.senseAll t) := by
  simp only [Plane.senseAll]; exact SameLinks.foldl (fun z o hz => hz.senseOut) h

@[simp] theorem SameLinks.tails (h : SameLinks a x) : SameLinks a x.tails := by
  simp only [Plane.tails]; exact SameLinks.setDet (SameLinks.setDet (SameLinks.setDet h))

end

/-! #### Cycles that elapse -/

/-- Cycles that elapse inside a frame advance the clock alone of the time counters, and no boundary's values. -/
theorem Plane.elapse_clock (x : Plane) (k : Nat) : ∃ n, (x.elapse k).time = { x.time with clk := n } := by
  unfold Plane.elapse; split
  · exact ⟨x.time.clk, rfl⟩
  · split
    · exact ⟨x.time.clk + k, rfl⟩
    · obtain ⟨f, n, e⟩ := Plane.injectCycles_only x x.time.cyc k
      rw [e]; exact ⟨x.time.clk + k, rfl⟩

/-- Plane x has the second, the frame and the frames counted of plane o, its section and the bank it gathers. -/
def SameFrame (o x : Plane) : Prop :=
  x.time.sec = o.time.sec ∧ x.time.frame = o.time.frame ∧ x.time.frames = o.time.frames ∧ x.sect = o.sect ∧ x.fill = o.fill

theorem Plane.elapse_sameFrame (x : Plane) (k : Nat) : SameFrame x (x.elapse k) := by
  obtain ⟨n, ht⟩ := Plane.elapse_clock x k
  obtain ⟨f, c, l, g, a, o, t, e, -, -⟩ := Plane.elapse_only x k
  exact ⟨by rw [ht], by rw [ht], by rw [ht], by rw [e], by rw [e]⟩

/-! #### A frame's end and start in the hub -/

/-- Plane p of a hub has the clock, the banks and the section of plane a. -/
@[reducible] def ClockAt (a : Plane) (p : PlaneId) (h : Hub) : Prop := SameClock a (h.plane p)

section
variable {a : Plane} {p : PlaneId} {h g : Hub} {c : Prop} {d : Decidable c}

theorem ClockAt.ite (hh : ClockAt a p h) (hg : ClockAt a p g) : ClockAt a p (if c then h else g) := by
  split
  · exact hh
  · exact hg

theorem ClockAt.foldl {α : Type} {f : Hub → α → Hub} {l : List α} (e : ClockAt a p h)
    (hf : ∀ (k : Hub) (i : α), ClockAt a p k → ClockAt a p (f k i)) : ClockAt a p (l.foldl f h) :=
  List.foldlRecOn (motive := ClockAt a p) l f e fun k hk i _ => hf k i hk

theorem ClockAt.withSnap {s : Snapshot} (e : ClockAt a p h) : ClockAt a p { h with snap := s } := e

theorem ClockAt.modPlane {f : Plane → Plane} (e : SameClock a (f (h.plane p))) : ClockAt a p (h.modPlane p f) := by
  unfold ClockAt; rw [Hub.modPlane_plane]; exact e

theorem ClockAt.onPlane {f : Plane → Plane} (e : SameClock a (f (h.plane p))) : ClockAt a p (h.onPlane p f) := by
  obtain ⟨o, c, k, -⟩ := Hub.onPlane_plane h p f
  unfold ClockAt; rw [k]; exact e

theorem ClockAt.onPlaneFree {f : Int → Plane → Plane} (e : ∀ v, SameClock a (f v (h.plane p))) : ClockAt a p (h.onPlaneFree p f) :=
  ClockAt.onPlane (h := h.fresh.2) (e _)

theorem ClockAt.ucause {n : Nat} (e : ClockAt a p h) : ClockAt a p (h.ucause n) := e

theorem ClockAt.latchDigest (e : ClockAt a p h) : ClockAt a p h.latchDigest := by
  unfold Hub.latchDigest; split <;> exact e

theorem ClockAt.capturePlane {q : PlaneId} (e : ClockAt a p h) : ClockAt a p (h.capturePlane q) := e

theorem ClockAt.clearOvf (e : ClockAt a p h) : ClockAt a p h.clearOvf := by
  cases p with
  | a => exact SameClock.clearOvf e
  | b => exact SameClock.clearOvf e
  | c => exact SameClock.clearOvf e

/-- A finished snapshot can clear overflow bits, and changes no clock. -/
theorem ClockAt.finishSnapshot (e : ClockAt a p h) : ClockAt a p h.finishSnapshot := by
  simp only [Hub.finishSnapshot]; split
  · exact e
  · exact ClockAt.ite e (ClockAt.ucause (ClockAt.latchDigest (ClockAt.ite
      (ClockAt.clearOvf (ClockAt.withSnap (ClockAt.foldl e fun _ _ t => ClockAt.ite t.capturePlane t)))
      (ClockAt.withSnap (ClockAt.foldl e fun _ _ t => ClockAt.ite t.capturePlane t)))))

theorem ClockAt.endFrame (e : ClockAt a p h) : ClockAt a p (h.endFrame p) :=
  ClockAt.ite (ClockAt.finishSnapshot (ClockAt.capturePlane e)) e

theorem ClockAt.drainLane3 (e : ClockAt a p h) : ClockAt a p (h.drainLane3 p) := ClockAt.ite e e

end

/-- Leaving cycle 0 keeps the time and the section; past cycle 0 there is nothing to leave. -/
theorem Hub.leaveZero_time (h : Hub) (p : PlaneId) :
    ((h.leaveZero p).plane p).time = (h.plane p).time ∧ ((h.leaveZero p).plane p).sect = (h.plane p).sect := by
  obtain ⟨at_, -, -, as_, -, -⟩ := SameClock.applyDelays (SameClock.rfl (o := h.plane p))
  unfold Hub.leaveZero; split
  · have resampled (b : Bank) : SameClock { (h.plane p).applyDelays with fill := b }
        (if (h.plane p).applyDelays.time.frame % 16 = 0 then ({ (h.plane p).applyDelays with fill := b } : Plane).resample.latchGroup
        else ({ (h.plane p).applyDelays with fill := b } : Plane).resample) :=
      SameClock.ite SameClock.rfl.resample.latchGroup SameClock.rfl.resample
    obtain ⟨ht, -, -, hs, -, -⟩ := resampled ((h.modPlane p Plane.applyDelays).gather p)
    dsimp only
    rw [Hub.modPlane_plane]
    show (Hub.plane (Hub.setPlane _ p _) p).time = _ ∧ (Hub.plane (Hub.setPlane _ p _) p).sect = _
    rw [Hub.setPlane_plane]
    exact ⟨ht.trans at_, hs.trans as_⟩
  · exact ⟨rfl, rfl⟩

theorem Hub.leaveZero_past {h : Hub} {p : PlaneId} (past : (h.plane p).time.cyc ≠ 0) : h.leaveZero p = h := by
  rw [Hub.leaveZero, if_neg past]

/-- Closing a frame counts it, and keeps the second, the frame, the section and, past cycle 0, the bank gathered. -/
theorem Hub.closeFrame_plane (h : Hub) (p : PlaneId) :
    let x := h.plane p
    let y := (h.closeFrame p).plane p
    y.time.sec = x.time.sec ∧ y.time.frame = x.time.frame ∧ y.time.frames = x.time.frames + 1 ∧ y.sect = x.sect ∧
      (x.time.cyc ≠ 0 → y.fill = x.fill) := by
  obtain ⟨zt, zs⟩ := Hub.leaveZero_time h p
  have ends := ClockAt.drainLane3 (ClockAt.endFrame (ClockAt.modPlane (h := h.leaveZero p) (p := p)
    (f := fun x => (x.elapse (40 - x.time.cyc)).fineMoves.slewFrame.evalDamper) SameClock.rfl.fineMoves.slewFrame.evalDamper))
  obtain ⟨es, ef, en, et, eb⟩ := Plane.elapse_sameFrame ((h.leaveZero p).plane p) (40 - ((h.leaveZero p).plane p).time.cyc)
  obtain ⟨ht, -, hb, hs, -, -⟩ := ends
  dsimp only
  rw [Hub.closeFrame, Hub.modPlane_plane]
  dsimp only
  rw [ht, hs, hb, es, ef, en, et, eb, zt, zs]
  exact ⟨rfl, rfl, rfl, rfl, fun past => by rw [Hub.leaveZero_past past]⟩

/-- Opening a frame publishes the bank gathered; of what matters here it changes the rest only by its judge. -/
theorem ClockAt.openFrame {a : Plane} {p : PlaneId} {h : Hub} {judge : Plane → Plane}
    (hj : ∀ z, SameClock { h.plane p with bank := (h.plane p).fill } z → SameClock a (judge z)) :
    ClockAt a p (h.openFrame p judge) := by
  have opened : SameClock { h.plane p with bank := (h.plane p).fill } ((h.modPlane p fun x => { x with bank := x.fill }).plane p) := by
    rw [Hub.modPlane_plane]; exact SameClock.rfl
  have judged : ClockAt a p ((h.modPlane p fun x => { x with bank := x.fill }).onPlaneFree p fun v x =>
      ((x.endEvents.openLoop p (h.crossHql p) v judge).applyPending).isolateMore) := ClockAt.onPlaneFree fun v =>
    (hj _ opened.endEvents.countSwitch.dropActive).followCross.refsChanged.resumeSoft.noteRealign.applyPending.isolateMore
  simp only [Hub.openFrame]
  exact ClockAt.modPlane (SameClock.sendSlot0 judged)

/-- What a frame boundary leaves in its plane. -/
theorem Hub.frameStep_plane (h : Hub) (p : PlaneId) (more : (h.plane p).time.frame + 1 < Config.framesPerSec) :
    SameClock { (h.closeFrame p).plane p with
      time := ((h.closeFrame p).plane p).time.nextFrame, bank := ((h.closeFrame p).plane p).fill } ((h.frameStep p).plane p) := by
  rw [Hub.frameStep, if_pos more]
  refine ClockAt.openFrame fun z e => ?_
  rw [Hub.modPlane_plane] at e; exact e

theorem SameClock.countVcob {o x : Plane} {n : Nat} (h : SameClock o x) :
    SameClock { o with vcobDif := (n : Int) - o.sect.fB } (x.countVcob n) := by
  obtain ⟨ht, hb, hf, hs, -, he⟩ := h
  exact SameClock.setDet ⟨ht, hb, hf, hs, by rw [hs], he⟩

/-- What a PPS leaves in its plane, with what it measured. -/
theorem Hub.ppsStep_plane (h : Hub) (p : PlaneId) (m : Option PpsMeas) :
    ∃ d, SameClock { (h.closeFrame p).plane p with
        time := ((h.closeFrame p).plane p).time.nextSecond, bank := ((h.closeFrame p).plane p).fill, vcobDif := d }
      ((h.ppsStep p m).plane p) ∧ ∀ n ∈ m, d = (n.vcob : Int) - ((h.closeFrame p).plane p).sect.fB := by
  have second : ClockAt { (h.closeFrame p).plane p with time := ((h.closeFrame p).plane p).time.nextSecond } p
      (((h.closeFrame p).modPlane p fun x => { x with time := x.time.nextSecond }).onPlaneFree p fun v x => x.openSecond v) := by
    refine ClockAt.onPlaneFree fun v => SameClock.openSecond ?_
    rw [Hub.modPlane_plane]; exact SameClock.rfl
  obtain ⟨ht, hb, hf, hs, hv, he⟩ := second
  cases m with
  | none =>
    refine ⟨((h.closeFrame p).plane p).vcobDif, ClockAt.openFrame fun z e => ?_, fun _ k => by cases k⟩
    obtain ⟨zt, zb, zf, zs, zv, ze⟩ := e
    exact ⟨zt.trans ht, zb.trans hf, zf.trans hf, zs.trans hs, zv.trans hv, ze.trans he⟩
  | some m =>
    refine ⟨(m.vcob : Int) - ((h.closeFrame p).plane p).sect.fB, ClockAt.openFrame fun z e => ?_, fun n k => by cases k; rfl⟩
    obtain ⟨zt, zb, zf, zs, zv, ze⟩ := SameClock.countVcob (n := m.vcob) e.refSecond
    exact ⟨zt.trans ht, zb.trans hf, zf.trans hf, zs.trans hs, zv.trans (by rw [← hs]), ze.trans he⟩

/-! #### A group boundary -/

/-- An announced delay comes into force at the group boundary (R166). -/
theorem Link.groupD_announced {k : Link} {v : Word × Word} (m : Bool) (e : k.ann = some v) :
    (k.groupD m).d = v.1 ∧ (k.groupD m).turn = v.2 := by
  unfold Link.groupD; rw [e]; dsimp only; split
  · split <;> exact ⟨rfl, rfl⟩
  · exact ⟨rfl, rfl⟩

theorem Link.remember_d (k old : Link) (clk : Nat) : (k.remember old clk).d = k.d ∧ (k.remember old clk).turn = k.turn := by
  unfold Link.remember; split <;> exact ⟨rfl, rfl⟩

/-- Plane x has the links of plane o, and the hold of every group but g. -/
def SameBut (g : Fin 32) (o x : Plane) : Prop := x.link = o.link ∧ ∀ i : Fin 32, i ≠ g → x.hold[i.val] = o.hold[i.val]

section
variable {g : Fin 32} {o x y : Plane} {c : Prop} {d : Decidable c}

theorem SameBut.ite (hx : SameBut g o x) (hy : SameBut g o y) : SameBut g o (if c then x else y) := by
  split
  · exact hx
  · exact hy

theorem SameBut.updHold {f : Hold → Hold} (h : SameBut g o x) : SameBut g o { x with hold := upd x.hold g f } :=
  ⟨h.1, fun i e => (upd_get_ne _ _ _ _ (Ne.symm e)).trans (h.2 i e)⟩

theorem SameBut.raise {n : Nat} (h : SameBut g o x) : SameBut g o (x.raise n) := h
theorem SameBut.count {n : Fin 32} (h : SameBut g o x) : SameBut g o (x.count n) := h

theorem SameBut.sendHold {st : BitVec 2} {n : Nat} (h : SameBut g o x) : SameBut g o (x.sendHold g st n) := by
  unfold Plane.sendHold Plane.gpush; dsimp only; split <;> exact h

theorem SameBut.expireHold (h : SameBut g o x) : SameBut g o (x.expireHold g) := h.ite h.updHold

theorem SameBut.judgeHold (h : SameBut g o x) : SameBut g o (x.judgeHold g) :=
  SameBut.ite (SameBut.ite h.updHold (SameBut.ite h.updHold h)) h

theorem SameBut.holdBoundary (h : SameBut g o x) : SameBut g o (x.holdBoundary g) := by
  unfold Plane.holdBoundary; split
  · exact h
  · exact h.updHold
  · exact SameBut.raise (SameBut.sendHold (SameBut.updHold (h.expireHold.ite h)))
  · exact SameBut.judgeHold (SameBut.raise (SameBut.count (SameBut.sendHold h.updHold)))
  · exact SameBut.judgeHold h.updHold

end

/-- The boundaries of other groups' holds leave a group's hold. -/
theorem Plane.holdBoundaries_other {g : Fin 32} (l : List (Fin 32)) (x : Plane) (out : g ∉ l) :
    (l.foldl (fun (z : Plane) i => z.holdBoundary i) x).hold[g.val] = x.hold[g.val] := by
  induction l generalizing x with
  | nil => rfl
  | cons i rest ih =>
    rw [List.mem_cons, not_or] at out
    rw [List.foldl_cons, ih _ out.2]
    exact (SameBut.holdBoundary (o := x) ⟨rfl, fun _ _ => rfl⟩).2 g out.1

theorem Plane.holdBoundaries_link (l : List (Fin 32)) (x : Plane) :
    (l.foldl (fun (z : Plane) i => z.holdBoundary i) x).link = x.link :=
  List.foldlRecOn (motive := fun z : Plane => z.link = x.link) l _ rfl fun z hz _ _ =>
    (SameBut.holdBoundary (o := z) ⟨rfl, fun _ _ => rfl⟩).1.trans hz

/-- A requested hold is announced at the group boundary. -/
theorem Plane.holdBoundary_requested {x : Plane} {g : Fin 32} (e : x.hold[g.val].phase = .requested) :
    (x.holdBoundary g).hold[g.val].phase = .announced := by
  unfold Plane.holdBoundary; rw [e]; dsimp only
  rw [upd_get_same]

theorem Plane.holdBoundaries_requested {g : Fin 32} (l : List (Fin 32)) (once : l.Nodup) (x : Plane) (inside : g ∈ l)
    (e : x.hold[g.val].phase = .requested) :
    (l.foldl (fun (z : Plane) i => z.holdBoundary i) x).hold[g.val].phase = .announced := by
  induction l generalizing x with
  | nil => cases inside
  | cons i rest ih =>
    rw [List.nodup_cons] at once
    rw [List.foldl_cons]
    by_cases k : g = i
    · subst k
      rw [Plane.holdBoundaries_other rest _ once.1]; exact Plane.holdBoundary_requested e
    · refine ih once.2 _ ((List.mem_cons.mp inside).resolve_left k) ?_
      rw [(SameBut.holdBoundary (o := x) ⟨rfl, fun _ _ => rfl⟩).2 g k]; exact e

theorem Plane.groupStep_link (x : Plane) (l : Fin 32) {v : Word × Word} (e : x.link[l.val].ann = some v) :
    x.groupStep.link[l.val].d = v.1 ∧ x.groupStep.link[l.val].turn = v.2 := by
  obtain ⟨hd, ht⟩ := Link.groupD_announced (x.time.frame % 12500 != 0) e
  unfold Plane.groupStep; dsimp only
  split <;> simp [Plane.holdBoundaries_link, Link.remember_d, Plane.turnSched, hd, ht]

theorem Plane.groupStep_hold (x : Plane) (g : Fin 32) (e : x.hold[g.val].phase = .requested) :
    x.groupStep.hold[g.val].phase = .announced := by
  have announced (y : Plane) (k : y.hold = x.hold) :
      ((List.finRange 32).foldl (fun (z : Plane) i => z.holdBoundary i) y).hold[g.val].phase = .announced :=
    Plane.holdBoundaries_requested _ (List.nodup_finRange 32) y (List.mem_finRange g) (by rw [k]; exact e)
  unfold Plane.groupStep; dsimp only
  split
  · dsimp only
    exact announced _ (by simp only [Plane.turnSched])
  · exact announced _ (by simp only [Plane.turnSched])

theorem Hub.takeMirror_plane (h : Hub) (p : PlaneId) (b : Option PartnerBank) :
    ((h.takeMirror p b).plane p).link = (h.plane p).link ∧ ((h.takeMirror p b).plane p).hold = (h.plane p).hold := by
  unfold Hub.takeMirror; split
  · exact ⟨rfl, rfl⟩
  · split
    · dsimp only; split
      · rw [Hub.modPlane_plane]; exact ⟨rfl, rfl⟩
      · exact ⟨rfl, rfl⟩
    · exact ⟨rfl, rfl⟩

/-! #### A millisecond -/

theorem Plane.modLink_dqCmd {x : Plane} {l : Fin 32} {f : Link → Link} (hf : ∀ k : Link, (f k).dqCmd = k.dqCmd) (i : Fin 32) :
    (x.modLink l f).link[i.val].dqCmd = x.link[i.val].dqCmd := by
  unfold Plane.modLink
  by_cases e : l = i
  · subst e; rw [upd_get_same]; exact hf _
  · rw [upd_get_ne _ _ _ _ e]

theorem Plane.rttReading_dqCmd (x : Plane) (l : Fin 32) (r : Option Int) (i : Fin 32) :
    (x.rttReading l r).link[i.val].dqCmd = x.link[i.val].dqCmd := by
  unfold Plane.rttReading; dsimp only; split
  · refine Plane.modLink_dqCmd ?_ i
    exact fun _ => rfl
  · split
    · refine Plane.modLink_dqCmd ?_ i
      exact fun _ => rfl
    · refine Plane.modLink_dqCmd (fun k => ?_) i
      split <;> rfl

/-- A millisecond turns over the overflow marks of the links' queues. -/
theorem Plane.linksMs_dqCmd (x : Plane) (r : Vector (Option Int) 32) (i : Fin 32) :
    (x.linksMs r).link[i.val].dqCmd = x.link[i.val].dqCmd.ms := by
  have read : ((List.finRange 32).foldl (fun (z : Plane) l => z.rttReading l r[l.val]) x).link[i.val].dqCmd = x.link[i.val].dqCmd :=
    List.foldlRecOn (motive := fun z : Plane => z.link[i.val].dqCmd = x.link[i.val].dqCmd) _ _ rfl fun z hz l _ =>
      (Plane.rttReading_dqCmd z l _ i).trans hz
  unfold Plane.linksMs; dsimp only
  generalize (List.finRange 32).foldl (fun (z : Plane) l => z.rttReading l r[l.val]) x = y at read ⊢
  have linked : SameLinks _ (Plane.linkSources { y with
      link := Vector.ofFn fun l => y.link[l.val].ms y.sect.links[l.val].crcburst, gq := y.gq.map GQueue.ms }) :=
    SameLinks.linkSources rfl
  rw [linked]
  simp [Link.ms, read]

theorem Plane.msStep_esmc (x : Plane) (m : MsMeas) : (x.msStep m).esmc.ms = min (x.esmc.ms + 1) 6300 := by
  have same : SameClock x (((((x.phaseMs m.phase).senseAll m.term).linksMs m.rtt).tiMs m.ti).rateInterval false) :=
    SameClock.rfl.phaseMs.senseAll.linksMs.tiMs.rateInterval
  obtain ⟨-, -, -, -, -, before⟩ := same
  unfold Plane.msStep; dsimp only
  obtain ⟨-, -, -, -, -, after⟩ := SameClock.tails (SameClock.rfl (o :=
    { ((((x.phaseMs m.phase).senseAll m.term).linksMs m.rtt).tiMs m.ti).rateInterval false with esmc := _ }))
  rw [after, before]

theorem Plane.msStep_dqCmd (x : Plane) (m : MsMeas) (i : Fin 32) : (x.msStep m).link[i.val].dqCmd = x.link[i.val].dqCmd.ms := by
  have before : SameLinks x ((x.phaseMs m.phase).senseAll m.term) := SameLinks.senseAll (SameLinks.phaseMs rfl)
  have after : SameLinks (((x.phaseMs m.phase).senseAll m.term).linksMs m.rtt) (x.msStep m) := by
    simp only [Plane.msStep]
    refine SameLinks.tails ?_
    simp only [SameLinks]
    exact SameLinks.rateInterval (SameLinks.tiMs rfl)
  rw [after, Plane.linksMs_dqCmd, before]

theorem Hub.chimneyReading_planes (h : Hub) (c : Fin 2) (r : Option Int) : (h.chimneyReading c r).planes = h.planes := by
  unfold Hub.chimneyReading; split
  · rfl
  · split
    · dsimp only; split <;> rfl
    · rfl

theorem Hub.msBoundary_plane (h : Hub) (p : PlaneId) (m : MsMeas) :
    (h.msBoundary p m).plane p = (h.onPlane p fun x => x.msStep m).plane p := by
  unfold Hub.msBoundary; dsimp only; split
  · simp only [Hub.plane, Hub.chimneyReading_planes]
  · rfl

end Sys2Proof.Machine
end

section
/-! THEOREM. The grid's instants. -/

open Sys2Proof Sys2Proof.Machine

/-- A frame boundary counts its frame, into the next second after the last one, and publishes the bank gathered past cycle 0. -/
theorem frameBoundary_counts (s : State) (p : PlaneId) (act : s.hub.active p = true) :
    Completes (.frameBoundary p) s fun h =>
      let x := s.hub.plane p
      let y := h.plane p
      y.time.cyc = 0 ∧ y.time.frames = x.time.frames + 1 ∧
      (x.time.frame + 1 < 12500000 → y.time.sec = x.time.sec ∧ y.time.frame = x.time.frame + 1) ∧
      (12500000 ≤ x.time.frame + 1 → y.time.sec = x.time.sec + 1 ∧ y.time.frame = 0) ∧
      (x.time.cyc ≠ 0 → y.bank = x.fill) := by
  refine ⟨_, rfl, ?_⟩
  rw [Hub.ifActive_eq act]
  obtain ⟨hs, hf, hn, -, hb⟩ := Hub.closeFrame_plane s.hub p
  by_cases more : (s.hub.plane p).time.frame + 1 < Config.framesPerSec
  · obtain ⟨ht, bank, -, -, -, -⟩ := Hub.frameStep_plane s.hub p more
    dsimp only
    rw [ht, bank]
    exact ⟨rfl, hn, fun _ => ⟨hs, congrArg (· + 1) hf⟩, fun full => absurd more (not_lt.mpr full), hb⟩
  · obtain ⟨d, ⟨ht, bank, -, -, -, -⟩, -⟩ := Hub.ppsStep_plane s.hub p none
    rw [Hub.frameStep, if_neg more]
    dsimp only
    rw [ht, bank]
    exact ⟨rfl, hn, fun k => absurd k more, fun _ => ⟨congrArg (· + 1) hs, rfl⟩, hb⟩

/-- Settles O20: closing a frame counts it, opening one publishes its bank, and what runs between keeps the time counters; the links and
the holds of a plane take up at a group boundary what was announced and requested; a millisecond ages the ESMC quality. -/
theorem gridInstantsCountTime : Obligations.GridInstantsCountTime := by
  refine ⟨frameBoundary_counts, fun s p m act => ?_, fun s p b act => ?_, fun s p m act => ?_⟩
  · refine ⟨_, rfl, ?_⟩
    rw [Hub.ifActive_eq act]
    obtain ⟨hs, -, -, sect, -⟩ := Hub.closeFrame_plane s.hub p
    obtain ⟨d, ⟨ht, -, -, -, hv, -⟩, vcob⟩ := Hub.ppsStep_plane s.hub p (some m)
    dsimp only
    rw [ht, hv, vcob m rfl, sect]
    exact ⟨congrArg (· + 1) hs, rfl, rfl, rfl⟩
  · refine ⟨_, rfl, ?_⟩
    rw [Hub.ifActive_eq act]
    obtain ⟨links, holds⟩ := Hub.takeMirror_plane s.hub p b
    dsimp only
    rw [Hub.onPlane_plane_link, Hub.onPlane_plane_hold]
    refine ⟨fun l some => ?_, fun g e => Plane.groupStep_hold _ g (by rw [holds]; exact e)⟩
    obtain ⟨v, e⟩ := Option.isSome_iff_exists.mp some
    obtain ⟨hd, ht⟩ := Plane.groupStep_link ((s.hub.takeMirror p b).plane p) l (v := v) (by rw [links]; exact e)
    rw [e, hd, ht]
  · refine ⟨_, rfl, ?_⟩
    rw [Hub.ifActive_eq act]
    dsimp only
    rw [Hub.msBoundary_plane, Hub.onPlane_plane_esmc, Hub.onPlane_plane_link]
    exact ⟨Plane.msStep_esmc _ m, fun l => by rw [Plane.msStep_dqCmd]; exact ⟨rfl, rfl⟩⟩

end

section
/-! DEFINITION. What a traffic slot does to one link (R188): the turn of another link leaves this link, and what it has yet to pass of
its groups' queues. -/

namespace Sys2Proof.Machine

/-! ### What a link has yet to pass -/

/-- An entry without the marks of the links that have passed it. -/
def GEntry.plain (e : GEntry) : GEntry := { e with passed := 0 }

/-- The entries of a group queue that a link has not passed, without the other links' marks. -/
def GQueue.ahead (q : GQueue) (l : Fin 32) : List GEntry := (q.q.filter fun e => !bitAt e.passed l.val).map GEntry.plain

theorem GQueue.headFor_ahead (q : GQueue) (l : Fin 32) : (q.headFor l).map GEntry.plain = (q.ahead l).head? := by
  rw [GQueue.ahead, List.head?_map, List.head?_filter, GQueue.headFor]

theorem bitAt_mark_same (w : BitVec 32) (l : Fin 32) : bitAt (w ||| (1#32 <<< l.val)) l.val = true := by
  simp [bitAt]

theorem bitAt_mark_ne (w : BitVec 32) {l m : Fin 32} (ne : m ≠ l) : bitAt (w ||| (1#32 <<< m.val)) l.val = bitAt w l.val := by
  have : ¬ l.val - m.val = 0 ∨ l.val < m.val := by omega
  simp only [bitAt, BitVec.getLsbD_or, BitVec.getLsbD_shiftLeft, BitVec.getLsbD_one]
  rcases this with h | h <;> simp [h]

/-- A member's unpassed entries are not those that every member has passed. -/
theorem GQueue.ahead_release {q : GQueue} {l : Fin 32} {members : BitVec 32} (mem : bitAt members l.val = true) :
    (q.release members).ahead l = q.ahead l := by
  simp only [GQueue.ahead, GQueue.release, List.filter_filter]
  congr 1
  refine List.filter_congr fun e _ => ?_
  cases unpassed : bitAt e.passed l.val
  · have : e.passed &&& members ≠ members := fun eq => by
      have := congrArg (bitAt · l.val) eq
      simp only [bitAt, BitVec.getLsbD_and] at this mem unpassed
      rw [unpassed, mem] at this
      cases this
    simp [this]
  · rfl

theorem Plane.links_of_memberOf {x : Plane} {g l : Fin 32} (mem : x.memberOf g l = true) :
    bitAt x.sect.groups[g.val].links l.val = true := (Bool.and_eq_true _ _ ▸ mem).2

theorem markFirst_ahead_ne {l m : Fin 32} (ne : m ≠ l) (es : List GEntry) :
    ((markFirst m es).filter fun e => !bitAt e.passed l.val).map GEntry.plain =
      (es.filter fun e => !bitAt e.passed l.val).map GEntry.plain := by
  induction es with
  | nil => rfl
  | cons e rest ih =>
    by_cases passed : bitAt e.passed m.val = true
    · simp only [markFirst, if_pos passed, List.filter_cons]
      split <;> simp [ih]
    · simp only [markFirst, if_neg passed, List.filter_cons, bitAt_mark_ne e.passed ne]
      split <;> rfl

theorem markFirst_ahead_same (l : Fin 32) (es : List GEntry) :
    (markFirst l es).filter (fun e => !bitAt e.passed l.val) = (es.filter fun e => !bitAt e.passed l.val).drop 1 := by
  induction es with
  | nil => rfl
  | cons e rest ih =>
    by_cases passed : bitAt e.passed l.val = true
    · simp [markFirst, passed, ih]
    · simp [markFirst, passed, bitAt_mark_same]

theorem markAll_ahead_ne {l m : Fin 32} (ne : m ≠ l) (es : List GEntry) :
    ((es.map fun (e : GEntry) => { e with passed := e.passed ||| (1#32 <<< m.val) }).filter fun e => !bitAt e.passed l.val).map
      GEntry.plain = (es.filter fun e => !bitAt e.passed l.val).map GEntry.plain := by
  rw [List.filter_map, List.map_map]
  simp only [Function.comp_def, bitAt_mark_ne _ ne]
  rfl

/-! ### The turns of the other links -/

/-- Link l stands in z as in x: the link, what it has yet to pass of its groups' queues, and all that a slot never changes. -/
structure Plane.Waits (l : Fin 32) (x z : Plane) : Prop where
  frame : { z with link := x.link, gq := x.gq, cnt := x.cnt } = x
  link : z.link[l.val] = x.link[l.val]
  ahead : ∀ g : Fin 32, x.memberOf g l = true → z.gq[g.val].ahead l = x.gq[g.val].ahead l

namespace Plane.Waits

variable {l : Fin 32} {x y z : Plane}

theorem rfl : Waits l x x := ⟨Eq.refl x, Eq.refl _, fun _ _ => Eq.refl _⟩

theorem memberOf (h : Waits l x z) (g m : Fin 32) : z.memberOf g m = x.memberOf g m :=
  (congrArg (Plane.memberOf · g m) h.frame :)

theorem trans (h : Waits l x y) (k : Waits l y z) : Waits l x z where
  frame := (congrArg (fun w : Plane => { w with link := x.link, gq := x.gq, cnt := x.cnt }) k.frame).trans h.frame
  link := k.link.trans h.link
  ahead g mem := (k.ahead g ((h.memberOf g l).trans mem)).trans (h.ahead g mem)

theorem foldl {is : List (Fin 32)} {f : Plane → Fin 32 → Plane} (step : ∀ z, ∀ i ∈ is, Waits l z (f z i)) (x : Plane) :
    Waits l x (is.foldl f x) := by
  induction is generalizing x with
  | nil => exact rfl
  | cons i is ih =>
    exact (step x i List.mem_cons_self).trans (ih (fun z j hj => step z j (List.mem_cons_of_mem i hj)) (f x i))

theorem modLink {m : Fin 32} (ne : m ≠ l) (h : Waits l x y) (f : Link → Link) : Waits l x (y.modLink m f) :=
  h.trans ⟨Eq.refl y, upd_get_ne y.link m l f ne, fun _ _ => Eq.refl _⟩

theorem countN (h : Waits l x y) (n : Fin 32) (k : Nat) : Waits l x (y.countN n k) :=
  h.trans ⟨Eq.refl y, Eq.refl _, fun _ _ => Eq.refl _⟩

/-- A group queue that is changed, for a member l, only in other links' marks. -/
theorem updQueue (x : Plane) (g : Fin 32) {f : GQueue → GQueue}
    (same : x.memberOf g l = true → (f x.gq[g.val]).ahead l = x.gq[g.val].ahead l) : Waits l x { x with gq := upd x.gq g f } where
  frame := Eq.refl x
  link := Eq.refl _
  ahead k mem := by
    by_cases e : g = k
    · subst e; rw [upd_get_same]; exact same mem
    · rw [upd_get_ne _ _ _ _ e]

theorem passEntry {m : Fin 32} (ne : m ≠ l) (x : Plane) (g : Fin 32) : Waits l x (x.passEntry g m) :=
  updQueue x g fun mem => (GQueue.ahead_release (links_of_memberOf mem)).trans (markFirst_ahead_ne ne _)

theorem skipLink {m : Fin 32} (ne : m ≠ l) (x : Plane) : Waits l x (x.skipLink m) :=
  foldl (x := x) fun z g _ => by
    dsimp only
    split
    · refine (updQueue z g fun mem => ?_).countN 23 _
      exact (GQueue.ahead_release (links_of_memberOf mem)).trans (markAll_ahead_ne ne z.gq[g.val].q)
    · exact rfl

theorem sendGroup {m : Fin 32} (ne : m ≠ l) (x : Plane) (g : Fin 32) (e : GEntry) : Waits l x (x.sendGroup m g e) :=
  (passEntry ne x g).modLink ne _

theorem fillQueued {m : Fin 32} (ne : m ≠ l) (h : Waits l x y) : Waits l x (y.fillQueued m) := by
  unfold Plane.fillQueued; dsimp only
  split
  · exact h.trans (sendGroup ne y _ _)
  · (repeat' split) <;> exact h.modLink ne _

theorem fillSlot {m : Fin 32} (ne : m ≠ l) (x : Plane) (ready : List (Fin 32)) : Waits l x (x.fillSlot ready m) := by
  unfold Plane.fillSlot; dsimp only
  split
  · refine (modLink ne ?_ _).countN 23 _
    split
    · exact skipLink ne x
    · exact rfl
  · split
    · exact rfl.modLink ne _
    · split
      · split
        · exact rfl.modLink ne _
        · exact rfl.fillQueued ne
      · split
        · split
          · exact rfl.modLink ne _
          · exact ((rfl.modLink ne _).countN 23 1).fillQueued ne
        · exact rfl.fillQueued ne

end Plane.Waits

/-! ### The link's own turn -/

theorem Link.takeDamper_eq (k : Link) (clk : Nat) : ∃ d w, k.takeDamper clk = { k with rxD := d, rxPend := w } := by
  unfold Link.takeDamper
  (repeat' split) <;> exact ⟨_, _, rfl⟩

/-- z is the plane when link l's turn comes in a slot that begins in x: the link has taken its Damper (R193). -/
structure Plane.Turn (l : Fin 32) (x z : Plane) : Prop where
  frame : { z with link := x.link, gq := x.gq, cnt := x.cnt } = x
  link : z.link[l.val] = x.link[l.val].takeDamper x.time.clk
  ahead : ∀ g : Fin 32, x.memberOf g l = true → z.gq[g.val].ahead l = x.gq[g.val].ahead l

namespace Plane.Turn

variable {l : Fin 32} {x z : Plane}

theorem sect (h : Turn l x z) : z.sect = x.sect := (congrArg Plane.sect h.frame :)
theorem time (h : Turn l x z) : z.time = x.time := (congrArg Plane.time h.frame :)
theorem fab (h : Turn l x z) : z.fab = x.fab := (congrArg Plane.fab h.frame :)
theorem inHusk (h : Turn l x z) : z.inHusk = x.inHusk := (congrArg Plane.inHusk h.frame :)
theorem slotCut (h : Turn l x z) : z.slotCut = x.slotCut := (congrArg Plane.slotCut h.frame :)

theorem issuerTargets (h : Turn l x z) (i : Fin 32) : z.issuerTargets i l = x.issuerTargets i l :=
  (congrArg (Plane.issuerTargets · i l) h.frame :)

theorem memberOf (h : Turn l x z) (g : Fin 32) : z.memberOf g l = x.memberOf g l :=
  (congrArg (Plane.memberOf · g l) h.frame :)

theorem linkNs (h : Turn l x z) : z.linkNs l = x.linkNs l := (congrArg (Plane.linkNs · l) h.frame :)

theorem groupOf (h : Turn l x z) : z.groupOf l = x.groupOf l := (congrArg (Plane.groupOf · l) h.frame :)

/-- The link keeps what its slot is filled from. -/
theorem kept (h : Turn l x z) : z.link[l.val].sends = x.link[l.val].sends ∧ z.link[l.val].tests = x.link[l.val].tests ∧
    z.link[l.val].seq = x.link[l.val].seq ∧ z.link[l.val].dqCmd = x.link[l.val].dqCmd ∧
    z.link[l.val].dqBulk = x.link[l.val].dqBulk := by
  obtain ⟨d, w, e⟩ := Link.takeDamper_eq x.link[l.val] x.time.clk
  rw [h.link, e]
  exact ⟨rfl, rfl, rfl, rfl, rfl⟩

theorem damper (h : Turn l x z) : z.damper l = x.damper l := by
  obtain ⟨sends, -⟩ := h.kept
  simp only [Plane.damper, sends, h.fab, h.time]
  rw [h.link]
  cases pend : x.link[l.val].rxPend with
  | none => simp [Link.takeDamper, pend]
  | some r => by_cases due : r.2 ≤ x.time.clk <;> simp [Link.takeDamper, pend, due]

theorem carried (h : Turn l x z) (type head : Byte) (tau : Nat) : z.carried l type head tau = x.carried l type head tau := by
  obtain ⟨d, w, e⟩ := Link.takeDamper_eq x.link[l.val] x.time.clk
  simp only [Plane.carried, Plane.corrections, h.linkNs, h.groupOf, h.sect, h.link, e]

theorem issuerPayload (h : Turn l x z) (i : Fin 32) (m : IssMsg) (q : Byte) : z.issuerPayload l i m q = x.issuerPayload l i m q := by
  simp only [Plane.issuerPayload, h.carried, h.sect, h.inHusk]

theorem testPayload (h : Turn l x z) (w : BitVec 64) (q : Byte) : z.testPayload l w q = x.testPayload l w q := by
  simp only [Plane.testPayload, h.carried, h.time, h.inHusk]

theorem groupPayload (h : Turn l x z) {e f : GEntry} (same : f.plain = e.plain) : z.groupPayload l f = x.groupPayload l e := by
  have plain : ∀ (y : Plane) (e : GEntry), y.groupPayload l e.plain = y.groupPayload l e := fun _ _ => rfl
  rw [← plain, same, plain]
  simp only [Plane.groupPayload, h.carried]

/-- The group entry a link would send is the same but for the marks of other links. -/
theorem groupHead (h : Turn l x z) :
    (z.groupHead l).map (fun b => (b.1, b.2.plain)) = (x.groupHead l).map fun b => (b.1, b.2.plain) := by
  unfold Plane.groupHead
  refine List.foldl_rel (r := fun b c : Option (Fin 32 × GEntry) =>
    b.map (fun b => (b.1, b.2.plain)) = c.map fun b => (b.1, b.2.plain)) rfl fun g _ b c best => ?_
  rw [h.memberOf g]
  split
  case isFalse => exact best
  case isTrue mem =>
    have head : (z.gq[g.val].headFor l).map GEntry.plain = (x.gq[g.val].headFor l).map GEntry.plain := by
      rw [GQueue.headFor_ahead, GQueue.headFor_ahead, h.ahead g mem]
    generalize z.gq[g.val].headFor l = u at head ⊢
    generalize x.gq[g.val].headFor l = v at head ⊢
    cases u with
    | none =>
      cases v with
      | none => exact best
      | some f => cases head
    | some e =>
      cases v with
      | none => cases head
      | some f =>
        have same : e.plain = f.plain := Option.some.inj head
        have at_ : e.at_ = f.at_ := (congrArg GEntry.at_ same :)
        cases b with
        | none =>
          cases c with
          | none => exact congrArg (fun r => some (g, r)) same
          | some c => cases best
        | some b =>
          cases c with
          | none => cases best
          | some c =>
            have bestAt : b.2.at_ = c.2.at_ := (congrArg (fun r => r.2.at_) (Option.some.inj best) :)
            dsimp only
            rw [at_, bestAt]
            split
            · exact congrArg (fun r => some (g, r)) same
            · exact best

theorem groupHead_none (h : Turn l x z) (none : x.groupHead l = .none) : z.groupHead l = .none := by
  have := h.groupHead
  rw [none] at this
  exact Option.map_eq_none_iff.mp this

theorem groupHead_some (h : Turn l x z) {g : Fin 32} {e : GEntry} (some : x.groupHead l = .some (g, e)) :
    ∃ f : GEntry, z.groupHead l = .some (g, f) ∧ f.plain = e.plain := by
  have := h.groupHead
  rw [some] at this
  obtain ⟨⟨k, f⟩, head, same⟩ := Option.map_eq_some_iff.mp this
  obtain ⟨rfl, same⟩ := Prod.mk.inj same
  exact ⟨f, head, same⟩

end Plane.Turn

/-- The head a link would send is of a group it belongs to. -/
theorem Plane.memberOf_groupHead {x : Plane} {l g : Fin 32} {e : GEntry} (head : x.groupHead l = some (g, e)) :
    x.memberOf g l = true := by
  suffices ∀ b, x.groupHead l = some b → x.memberOf b.1 l = true from this _ head
  unfold Plane.groupHead
  refine List.foldlRecOn _ _ (motive := fun r : Option (Fin 32 × GEntry) => ∀ b, r = some b → x.memberOf b.1 l = true)
    (fun b none => by cases none) fun best old g _ b eq => ?_
  split at eq
  case isFalse => exact old b eq
  case isTrue mem =>
    split at eq
    · exact old b eq
    · cases eq; exact mem
    · split at eq
      · cases eq; exact mem
      · exact old b eq

/-! ### What the slot carries -/

section
variable (k : Link) (type : Byte) (payload : BitVec 64)

@[simp] theorem Link.putDirect_tx : (k.putDirect type payload).tx = mkSlot type payload := rfl
@[simp] theorem Link.putDirect_seq : (k.putDirect type payload).seq = k.seq + 1 := rfl
@[simp] theorem Link.putDirect_tests : (k.putDirect type payload).tests = k.tests := by
  simp only [Link.putDirect, Link.put, Link.count]

end

section
variable (x : Plane) (ready : List (Fin 32)) (l : Fin 32)

theorem Plane.skipLink_link : (x.skipLink l).link = x.link := by
  unfold Plane.skipLink
  refine List.foldlRecOn _ _ (motive := fun z : Plane => z.link = x.link) rfl fun z same g _ => ?_
  dsimp only
  split <;> exact same

/-- A slot of a link that does not send, one that a grid movement cuts and one of an offline fabric are IDLE. -/
theorem Plane.fillSlot_idle (idle : x.link[l.val].sends = false ∨ x.slotCut = true ∨ x.fab.online = false) :
    (x.fillSlot ready l).link[l.val].tx = mkSlot 0x00 0 ∧
    (x.fillSlot ready l).link[l.val].dqCmd = x.link[l.val].dqCmd ∧
    (x.fillSlot ready l).link[l.val].dqBulk = x.link[l.val].dqBulk := by
  have skipped : (if x.fab.online then x.skipLink l else x).link = x.link := by
    split
    · exact x.skipLink_link l
    · rfl
  by_cases sends : x.link[l.val].sends = true
  · have : (x.slotCut || !x.fab.online) = true := by simpa [sends] using idle
    simp only [Plane.fillSlot, sends, this, Plane.modLink]
    simp [Link.putIdle, Link.count]
  · simp only [Plane.fillSlot, sends, Plane.modLink, Plane.countN]
    simp [skipped, Link.putIdle, Link.count]

variable (sends : x.link[l.val].sends = true) (whole : x.slotCut = false) (online : x.fab.online = true)
include sends whole online

theorem Plane.fillSlot_issuer {i : Fin 32} {m : IssMsg} (first : (ready.find? fun i => x.issuerTargets i l) = some i)
    (msg : x.fab.issuers[i.val] = some m) :
    (x.fillSlot ready l).link[l.val] = x.link[l.val].putDirect
      (if x.sect.fabric.issuers[i.val].veto then codeVeto else codeAccept) (x.issuerPayload l i m x.link[l.val].seq) := by
  simp [Plane.fillSlot, sends, whole, online, first, msg, Plane.modLink]

variable (none : (ready.find? fun i => x.issuerTargets i l) = .none)
include none

theorem Plane.fillSlot_test {w : BitVec 64} {rest : List (BitVec 64)} (tests : x.link[l.val].tests = w :: rest)
    (names : (msgCycle x.time.now w).isSome = true) :
    (x.fillSlot ready l).link[l.val] =
      { x.link[l.val].putDirect codeAccept (x.testPayload l w x.link[l.val].seq) with tests := rest } := by
  simp [Plane.fillSlot, sends, whole, online, none, tests, names, Plane.modLink]

theorem Plane.fillSlot_queued (tests : x.link[l.val].tests = []) : x.fillSlot ready l = x.fillQueued l := by
  simp [Plane.fillSlot, sends, whole, online, none, tests]

end

theorem Plane.sendGroup_link (x : Plane) (l g : Fin 32) (e : GEntry) :
    (x.sendGroup l g e).link[l.val].tx = mkSlot e.type (x.groupPayload l e).1 ∧
    (x.sendGroup l g e).link[l.val].dqCmd = x.link[l.val].dqCmd ∧
    (x.sendGroup l g e).link[l.val].dqBulk = x.link[l.val].dqBulk := by
  simp [Plane.sendGroup, Plane.passEntry, Plane.modLink, Link.put, Link.count]

/-- The link has passed the head of its queue. -/
theorem Plane.sendGroup_ahead {x : Plane} {l g : Fin 32} (mem : x.memberOf g l = true) (e : GEntry) :
    (x.sendGroup l g e).gq[g.val].ahead l = (x.gq[g.val].ahead l).drop 1 := by
  simp only [Plane.sendGroup, Plane.passEntry, Plane.modLink]
  rw [upd_get_same, GQueue.ahead_release (Plane.links_of_memberOf mem)]
  simp only [GQueue.ahead, markFirst_ahead_same, List.map_drop]

section
variable {x : Plane} {l : Fin 32} (head : x.groupHead l = none)
include head

theorem Plane.fillQueued_cmd {e : QEntry} {rest : List QEntry} (cmd : x.link[l.val].dqCmd.q = e :: rest)
    (free : heldCmd (x.damper l) = false) :
    (x.fillQueued l).link[l.val].dqCmd.q = rest ∧ (x.fillQueued l).link[l.val].tx = mkSlot 0x20 e.payload ∧
    (x.fillQueued l).link[l.val].dqBulk = x.link[l.val].dqBulk := by
  simp [Plane.fillQueued, head, cmd, free, Plane.modLink, Link.put, Link.count, Queue.pop, codeCmd]

variable (wait : x.link[l.val].dqCmd.q = [] ∨ heldCmd (x.damper l) = true)
include wait

theorem Plane.fillQueued_bulk {e : QEntry} {rest : List QEntry} (bulk : x.link[l.val].dqBulk.q = e :: rest)
    (free : heldBulk (x.damper l) e.payload = false) :
    (x.fillQueued l).link[l.val].dqBulk.q = rest ∧ (x.fillQueued l).link[l.val].tx = mkSlot 0x41 e.payload ∧
    (x.fillQueued l).link[l.val].dqCmd = x.link[l.val].dqCmd := by
  cases cmd : x.link[l.val].dqCmd.q with
  | nil => simp [Plane.fillQueued, head, cmd, bulk, free, Plane.modLink, Link.put, Link.count, Queue.pop, codeBulk]
  | cons c cs =>
    have held : heldCmd (x.damper l) = true := by simpa [cmd] using wait
    simp [Plane.fillQueued, head, cmd, held, bulk, free, Plane.modLink, Link.put, Link.count, Queue.pop, codeBulk]

theorem Plane.fillQueued_idle (held : ∀ e ∈ x.link[l.val].dqBulk.q.head?, heldBulk (x.damper l) e.payload = true) :
    (x.fillQueued l).link[l.val].tx = mkSlot 0x00 0 ∧
    (x.fillQueued l).link[l.val].dqCmd = x.link[l.val].dqCmd ∧
    (x.fillQueued l).link[l.val].dqBulk = x.link[l.val].dqBulk := by
  have idle : x.fillQueued l = x.modLink l fun k => k.putIdle (x.damper l) := by
    cases cmd : x.link[l.val].dqCmd.q with
    | nil =>
      cases bulk : x.link[l.val].dqBulk.q with
      | nil => simp [Plane.fillQueued, head, cmd, bulk]
      | cons b bs => simp [Plane.fillQueued, head, cmd, bulk, held b (by simp [bulk])]
    | cons c cs =>
      have heldCmd : heldCmd (x.damper l) = true := by simpa [cmd] using wait
      cases bulk : x.link[l.val].dqBulk.q with
      | nil => simp [Plane.fillQueued, head, cmd, heldCmd, bulk]
      | cons b bs => simp [Plane.fillQueued, head, cmd, heldCmd, bulk, held b (by simp [bulk])]
  simp [idle, Plane.modLink, Link.putIdle, Link.count]

end

/-! ### The slot -/

/-- The issuers whose message leaves in traffic slot n. -/
def Plane.slotReady (x : Plane) (n : Nat) : List (Fin 32) := if x.slotCut then [] else (List.finRange 32).filter (x.issuerReady n)

/-- Every link takes its Damper (R193). -/
def Plane.takeDampers (x : Plane) : Plane := { x with link := x.link.map fun (k : Link) => k.takeDamper x.time.clk }

/-- The links of a list fill a traffic slot in their turns. -/
def Plane.fillLinks (x : Plane) (ready ls : List (Fin 32)) : Plane := ls.foldl (fun (z : Plane) l => z.fillSlot ready l) x

theorem Plane.slotStart_eq (x : Plane) (n : Nat) :
    (x.slotStart n).link = (x.takeDampers.fillLinks (x.slotReady n) (List.finRange 32)).link ∧
    (x.slotStart n).gq = (x.takeDampers.fillLinks (x.slotReady n) (List.finRange 32)).gq := by
  simp only [Plane.slotStart, Plane.fillLinks, Plane.takeDampers, Plane.slotReady, and_self]

theorem Plane.Waits.fillLinks {l : Fin 32} {ls : List (Fin 32)} (ne : l ∉ ls) (x : Plane) (ready : List (Fin 32)) :
    Plane.Waits l x (x.fillLinks ready ls) :=
  Plane.Waits.foldl (fun z m mem => Plane.Waits.fillSlot (fun eq : m = l => ne (eq ▸ mem)) z ready) x

theorem Plane.Turn.of_waits {l : Fin 32} {x z : Plane} (h : Plane.Waits l x.takeDampers z) : Plane.Turn l x z where
  frame := congrArg (fun w : Plane => { w with link := x.link }) h.frame
  link := h.link.trans (Vector.getElem_map _ _)
  ahead := h.ahead

/-- A slot fills each link in its turn; the turns before and after it leave the link as it stands. -/
theorem Plane.slotStart_turn (x : Plane) (n : Nat) (l : Fin 32) :
    ∃ z : Plane, Plane.Turn l x z ∧ (x.slotStart n).link[l.val] = (z.fillSlot (x.slotReady n) l).link[l.val] ∧
      ∀ g : Fin 32, (z.fillSlot (x.slotReady n) l).memberOf g l = true →
        (x.slotStart n).gq[g.val].ahead l = (z.fillSlot (x.slotReady n) l).gq[g.val].ahead l := by
  obtain ⟨before, after, split⟩ := List.append_of_mem (List.mem_finRange l)
  obtain ⟨-, notAfter, notBefore⟩ := List.nodup_append.mp (split ▸ List.nodup_finRange 32)
  obtain ⟨link, gq⟩ := x.slotStart_eq n
  have turns : x.takeDampers.fillLinks (x.slotReady n) (List.finRange 32) =
      ((x.takeDampers.fillLinks (x.slotReady n) before).fillSlot (x.slotReady n) l).fillLinks (x.slotReady n) after := by
    simp only [split, Plane.fillLinks, List.foldl_append, List.foldl_cons]
  rw [link, gq, turns]
  have first : Plane.Waits l x.takeDampers (x.takeDampers.fillLinks (x.slotReady n) before) :=
    Plane.Waits.fillLinks (fun mem => notBefore l mem l List.mem_cons_self rfl) _ _
  have last : ∀ z : Plane, Plane.Waits l z (z.fillLinks (x.slotReady n) after) := fun z =>
    Plane.Waits.fillLinks (List.nodup_cons.mp notAfter).1 z _
  exact ⟨_, Plane.Turn.of_waits first, (last _).link, (last _).ahead⟩

theorem Plane.slotStart_issuers {x : Plane} {n : Nat} {i : Fin 32} (mem : i ∈ x.slotReady n) :
    (x.slotStart n).fab.issuers[i.val] = none := by
  have : (x.slotReady n).contains i = true := List.contains_iff_mem.mpr mem
  unfold Plane.slotStart
  dsimp only
  rw [Vector.getElem_ofFn]
  exact if_pos this

/-! ### What a link's slot carries, seen from the slot's start -/

section
variable (x : Plane) (n : Nat) (l : Fin 32)

theorem Plane.slotStart_idle (idle : x.link[l.val].sends = false ∨ x.slotCut = true ∨ x.fab.online = false) :
    (x.slotStart n).link[l.val].tx = mkSlot 0x00 0 ∧
    (x.slotStart n).link[l.val].dqCmd = x.link[l.val].dqCmd ∧
    (x.slotStart n).link[l.val].dqBulk = x.link[l.val].dqBulk := by
  obtain ⟨z, turn, link, -⟩ := x.slotStart_turn n l
  obtain ⟨sends, -, -, cmd, bulk⟩ := turn.kept
  rw [link, ← cmd, ← bulk]
  exact z.fillSlot_idle _ l (by rw [sends, turn.slotCut, turn.fab]; exact idle)

variable {x n l}

theorem Plane.slotReady_find?_none (whole : x.slotCut = false)
    (none : ∀ i : Fin 32, x.issuerReady n i = true → x.issuerTargets i l = false) :
    ((x.slotReady n).find? fun i => x.issuerTargets i l) = .none := by
  rw [List.find?_eq_none]
  intro i ready
  rw [Plane.slotReady, whole] at ready
  rw [none i (List.mem_filter.mp ready).2]
  exact Bool.false_ne_true

variable (sends : x.link[l.val].sends = true) (whole : x.slotCut = false) (online : x.fab.online = true)
include sends whole online

theorem Plane.slotStart_issuer {i : Fin 32} {m : IssMsg}
    (first : ((x.slotReady n).find? fun i => x.issuerTargets i l) = some i) (msg : x.fab.issuers[i.val] = some m) :
    ∃ k : Link, (x.slotStart n).link[l.val] = k.putDirect
      (if x.sect.fabric.issuers[i.val].veto then codeVeto else codeAccept) (x.issuerPayload l i m k.seq) ∧
      k.seq = x.link[l.val].seq ∧ k.tests = x.link[l.val].tests ∧ k.dqCmd = x.link[l.val].dqCmd ∧
      k.dqBulk = x.link[l.val].dqBulk := by
  obtain ⟨z, turn, link, -⟩ := x.slotStart_turn n l
  obtain ⟨same, tests, seq, cmd, bulk⟩ := turn.kept
  refine ⟨z.link[l.val], ?_, seq, tests, cmd, bulk⟩
  rw [link, z.fillSlot_issuer _ l (same.trans sends) (turn.slotCut.trans whole) (by rw [turn.fab, online]) (i := i) (m := m)
    (by simpa only [turn.issuerTargets] using first) (by rw [turn.fab, msg]), turn.sect, turn.issuerPayload]

variable (none : ∀ i : Fin 32, x.issuerReady n i = true → x.issuerTargets i l = false)
include none

theorem Plane.slotStart_test {w : BitVec 64} {rest : List (BitVec 64)} (tests : x.link[l.val].tests = w :: rest)
    (names : (msgCycle x.time.now w).isSome = true) :
    ∃ k : Link, (x.slotStart n).link[l.val] =
        { k.putDirect codeAccept (x.testPayload l w k.seq) with tests := rest } ∧
      k.seq = x.link[l.val].seq ∧ k.dqCmd = x.link[l.val].dqCmd := by
  obtain ⟨z, turn, link, -⟩ := x.slotStart_turn n l
  obtain ⟨same, tsts, seq, cmd, -⟩ := turn.kept
  refine ⟨z.link[l.val], ?_, seq, cmd⟩
  rw [link, z.fillSlot_test _ l (same.trans sends) (turn.slotCut.trans whole) (by rw [turn.fab, online])
    (by simpa only [turn.issuerTargets] using Plane.slotReady_find?_none whole none) (tsts.trans tests)
    (by rw [turn.time]; exact names), turn.testPayload]

/-- With no issuer and no test the slot is filled from the queues. -/
theorem Plane.slotStart_queued (tests : x.link[l.val].tests = []) :
    ∃ z : Plane, Plane.Turn l x z ∧ (x.slotStart n).link[l.val] = (z.fillQueued l).link[l.val] ∧
      ∀ g : Fin 32, (z.fillQueued l).memberOf g l = true →
        (x.slotStart n).gq[g.val].ahead l = (z.fillQueued l).gq[g.val].ahead l := by
  obtain ⟨z, turn, link, gq⟩ := x.slotStart_turn n l
  obtain ⟨same, tsts, -⟩ := turn.kept
  have queued : z.fillSlot (x.slotReady n) l = z.fillQueued l :=
    z.fillSlot_queued _ l (same.trans sends) (turn.slotCut.trans whole) (by rw [turn.fab, online])
      (by simpa only [turn.issuerTargets] using Plane.slotReady_find?_none whole none) (tsts.trans tests)
  rw [queued] at link gq
  exact ⟨z, turn, link, gq⟩

theorem Plane.slotStart_group (tests : x.link[l.val].tests = []) {g : Fin 32} {e : GEntry} (head : x.groupHead l = some (g, e)) :
    (x.slotStart n).link[l.val].tx = mkSlot e.type (x.groupPayload l e).1 ∧
    (x.slotStart n).link[l.val].dqCmd = x.link[l.val].dqCmd ∧
    (x.slotStart n).link[l.val].dqBulk = x.link[l.val].dqBulk ∧
    (x.slotStart n).gq[g.val].ahead l = (x.gq[g.val].ahead l).drop 1 := by
  obtain ⟨z, turn, link, gq⟩ := Plane.slotStart_queued sends whole online none tests
  obtain ⟨-, -, -, cmd, bulk⟩ := turn.kept
  have mem : x.memberOf g l = true := Plane.memberOf_groupHead head
  obtain ⟨f, found, plain⟩ := turn.groupHead_some head
  have sent : z.fillQueued l = z.sendGroup l g f := by simp only [Plane.fillQueued, found]
  have type : f.type = e.type := (congrArg GEntry.type plain :)
  rw [sent] at link gq
  rw [link, gq g ((turn.memberOf g).trans mem), Plane.sendGroup_ahead ((turn.memberOf g).trans mem), turn.ahead g mem,
    ← turn.groupPayload plain, ← type, ← cmd, ← bulk]
  obtain ⟨tx, cmd, bulk⟩ := z.sendGroup_link l g f
  exact ⟨tx, cmd, bulk, rfl⟩

end

end Sys2Proof.Machine
end

section
/-! THEOREM. The traffic slot. -/

open Sys2Proof Sys2Proof.Machine

/-- The slot leaves its plane the links, the group queues and the fabric of `slotStart`. -/
theorem trafficSlotStart_completes {s : State} {p : PlaneId} {n : Fin 7} (act : s.hub.active p = true) (P : Hub → Prop)
    (holds : ∀ h : Hub,
      let x := ((s.hub.toCycle p (Fin.ofNat 40 (5 * (n.val + 1)))).plane p).slotStart (n.val + 1)
      (h.plane p).link = x.link → (h.plane p).gq = x.gq → (h.plane p).fab = x.fab → P h) :
    Completes (.trafficSlotStart p n) s P := by
  refine ⟨_, rfl, ?_⟩
  rw [Hub.eventAt, Hub.ifActive_eq act]
  exact holds _ (Hub.onPlane_plane_link ..) (Hub.onPlane_plane_gq ..) (Hub.onPlane_plane_fab ..)

/-- Settles O37: the turn of every other link leaves a link and what it has yet to pass, so its slot carries what its own turn gives. -/
theorem trafficSlotCarriesTheCommandQueue : Obligations.TrafficSlotCarriesTheCommandQueue := by
  intro s p n l act
  have completes := trafficSlotStart_completes (n := n) act
  generalize (s.hub.toCycle p (Fin.ofNat 40 (5 * (n.val + 1)))).plane p = x at completes ⊢
  dsimp only at completes ⊢
  refine ⟨fun idle => ?_, fun sends whole online i m first msg => ?_, fun sends whole online none =>
    ⟨fun w rest tests names => ?_, fun tests g e head => ?_, fun tests head => ⟨fun e rest cmd free => ?_, fun wait =>
      ⟨fun e rest bulk free => ?_, fun held => ?_⟩⟩⟩⟩
    <;> refine completes _ fun h links gqs fabs => ?_ <;> rw [links]
  · obtain ⟨tx, cmd, bulk⟩ := x.slotStart_idle (n.val + 1) l idle
    exact ⟨tx, congrArg Queue.q cmd, congrArg Queue.q bulk⟩
  · have ready : x.slotReady (n.val + 1) = (List.finRange 32).filter (x.issuerReady (n.val + 1)) := by
      rw [Plane.slotReady, whole]; rfl
    rw [← ready] at first
    obtain ⟨k, link, seq, tests, cmd, bulk⟩ := Plane.slotStart_issuer sends whole online first msg
    rw [fabs, Plane.slotStart_issuers (List.mem_of_find?_eq_some first), link, ← seq, ← tests, ← cmd, ← bulk]
    simp only [Link.putDirect_tx, Link.putDirect_seq, Link.putDirect_tests, Link.putDirect_dqCmd, Link.putDirect_dqBulk, and_self]
  · obtain ⟨k, link, seq, cmd⟩ := Plane.slotStart_test sends whole online none tests names
    rw [link, ← seq, ← cmd]
    simp only [Link.putDirect_tx, Link.putDirect_seq, Link.putDirect_dqCmd, and_self]
  · obtain ⟨tx, cmd, bulk, ahead⟩ := Plane.slotStart_group sends whole online none tests head
    refine ⟨tx, congrArg Queue.q cmd, congrArg Queue.q bulk, ?_⟩
    rw [gqs]
    refine (GQueue.headFor_ahead _ l).trans ((congrArg List.head? ahead).trans ?_)
    rw [GQueue.ahead, ← List.map_drop, List.head?_map]
    rfl
  all_goals
    obtain ⟨z, turn, link, -⟩ := Plane.slotStart_queued sends whole online none tests
    obtain ⟨-, -, -, sameCmd, sameBulk⟩ := turn.kept
    have head := turn.groupHead_none head
    rw [link]
  · obtain ⟨q, tx, bulk⟩ := Plane.fillQueued_cmd head (by rw [sameCmd]; exact cmd) (by rw [turn.damper]; exact free)
    exact ⟨q, tx, congrArg Queue.q (bulk.trans sameBulk)⟩
  · obtain ⟨q, tx, cmd⟩ := Plane.fillQueued_bulk head (by rw [sameCmd, turn.damper]; exact wait) (by rw [sameBulk]; exact bulk)
      (by rw [turn.damper]; exact free)
    exact ⟨q, tx, congrArg Queue.q (cmd.trans sameCmd)⟩
  · obtain ⟨tx, cmd, bulk⟩ := Plane.fillQueued_idle head (by rw [sameCmd, turn.damper]; exact wait)
      (by rw [sameBulk, turn.damper]; exact held)
    exact ⟨tx, congrArg Queue.q (cmd.trans sameCmd), congrArg Queue.q (bulk.trans sameBulk)⟩

end

section
/-! DEFINITION. What a FREQ word does where it is judged, and what the hub keeps around a held write (R41, R324, R325). -/

namespace Sys2Proof.Machine

/-! ### Rules of the hub -/

theorem placeOf_offOf (p : PlaneId) : placeOf (offOf p) = p := by cases p <;> rfl
theorem offOf_lt_four (p : PlaneId) : (offOf p).val < 4 := by cases p <;> decide

theorem Hub.modPort_eq_self {h : Hub} {q : PortId} {f : Port → Port} (same : f (h.port q) = h.port q) : h.modPort q f = h := by
  have : upd h.ports q f = h.ports := by
    rw [upd, show f h.ports[q.val] = h.ports[q.val] from same, Vector.set_getElem_self]
  rw [Hub.modPort, this]

/-- A write judged under the declaration its port has is judged as it stands. -/
theorem Hub.under_own (h : Hub) (q : PortId) (f : Hub → Hub) :
    h.under q (h.port q).cfg f = (f h).modPort q fun x => { x with cfg := (h.port q).cfg } := by
  have : h.modPort q (fun x => { x with cfg := (h.port q).cfg }) = h := Hub.modPort_eq_self rfl
  rw [Hub.under, this]

/-! ### The FREQ word -/

section
variable {h : Hub} {q : PortId} {p : PlaneId}

theorem Hub.planeReason_none (may : HostMay h q p) : h.planeReason q p false false false = .none := by
  obtain ⟨act, right, own⟩ := may
  simp [Hub.planeReason, firstReason_none, act, right, own]

theorem Hub.planeWord_freq (may : HostMay h q p) (addr : BitVec 7) (w : Word) :
    h.planeWord q addr p 0x08 w = h.onPlane p fun x => x.setFreq w :=
  Hub.judged_none (Hub.powered_of_active may.1) q addr 0x08 (Hub.planeReason_none may) fun h => h.onPlane p fun x => x.setFreq w

theorem Hub.commit_freq (before : Hub) {hw : HeldWrite} {w : Word} (kind : hw.kind = .reg 0x08 w)
    (may : HostMay h hw.port hw.plane) : h.commit before hw = h.onPlane hw.plane fun x => x.setFreq w := by
  rw [Hub.commit, kind]
  exact Hub.planeWord_freq may _ w

/-- A FREQ word applied by name at an own offset of the hub. -/
theorem Hub.applyOp_freq (may : HostMay h q p) (cfg : PortDecl) (w : Word) :
    h.applyOp true q cfg (offOf p) (.word 0x08 w) = h.onPlane p fun x => x.setFreq w := by
  have held : h.applyOp true q cfg (offOf p) (.word 0x08 w) = h.commit h (heldWrite q p (offOf p) cfg (.reg 0x08 w)) := by
    cases p <;> rfl
  rw [held]
  exact Hub.commit_freq h rfl may

theorem Hub.writeNow_freq (may : HostMay h q p) (w : Word) :
    h.writeNow q (offOf p) 0x08 w = h.onPlane p fun x => x.setFreq w := by
  have byName : h.writeNow q (offOf p) 0x08 w = h.applyOp true q (h.port q).cfg (offOf p) (.word 0x08 w) := by
    unfold Hub.writeNow
    dsimp only
    rw [if_neg (fun both => absurd both.1 (by decide)), if_neg (fun both => absurd both.1 (by decide))]
  rw [byName, Hub.applyOp_freq may]

end

/-! ### Held writes at their plane's boundary -/

section
variable {h : Hub} {p : PlaneId} {hw : HeldWrite}

theorem Hub.dueAt_active (act : h.active p = true) (w : HeldWrite) :
    h.dueAt p w = decide (w.seen + 4 ≤ (h.plane p).time.clk - (h.plane p).time.cyc) := by
  simp only [Hub.dueAt, act, Bool.not_true, Bool.false_or]

/-- A plane whose one held write is not due keeps it. -/
theorem Hub.commitPlane_early (one : (h.plane p).commits = [hw]) (early : h.dueAt p hw = false) :
    (h.commitPlane p).plane p = h.plane p := by
  simp only [Hub.commitPlane, one, List.filter_cons, early, Bool.not_false, if_true, Bool.false_eq_true, if_false, List.filter_nil,
    List.foldl_nil]
  rw [Hub.modPlane_plane, ← one]

/-- The hub when plane p holds no write any more. -/
def Hub.unheld (h : Hub) (p : PlaneId) : Hub := h.modPlane p fun x => { x with commits := [] }

theorem Hub.unheld_plane (h : Hub) (p : PlaneId) : (h.unheld p).plane p = { h.plane p with commits := [] } := Hub.modPlane_plane ..

theorem Hub.unheld_active (h : Hub) (p : PlaneId) : (h.unheld p).active p = h.active p := by
  rw [Hub.active, Hub.unheld_plane]; rfl

theorem Hub.unheld_foreign (h : Hub) (p : PlaneId) (q : PortId) : (h.unheld p).foreign q p = h.foreign q p := by
  rw [Hub.foreign, Hub.unheld_plane]; rfl

theorem HostMay.unheld {q : PortId} (may : HostMay h q p) : HostMay (h.unheld p) q p := by
  obtain ⟨act, right, own⟩ := may
  exact ⟨(h.unheld_active p).trans act, right, (h.unheld_foreign p q).trans own⟩

/-- A plane's one held write, due, commits where it no longer waits. -/
theorem Hub.commitPlane_due (one : (h.plane p).commits = [hw]) (due : h.dueAt p hw = true) :
    h.commitPlane p = Hub.commitHeld (h.unheld p) (h.unheld p) hw := by
  simp only [Hub.unheld, Hub.commitPlane, one, List.filter_cons, due, Bool.not_true, if_true, Bool.false_eq_true, if_false,
    List.filter_nil, List.foldl_cons, List.foldl_nil]

/-- A port's own held write commits under the declaration the port has. -/
theorem Hub.commitHeld_own (own : hw.cfg = (h.port hw.port).cfg) (direct : hw.tunnel = false) (before : Hub) :
    Hub.commitHeld before h hw = (h.commit before hw).modPort hw.port fun x => { x with cfg := (h.port hw.port).cfg } := by
  rw [Hub.commitHeld, if_neg (by rw [direct]; exact Bool.false_ne_true), own, Hub.under_own]

end

/-! ### Over the tunnel -/

section
variable {h : Hub} {q : PortId} {p : PlaneId}

/-- What comes over the tunnel has every right (R277). -/
theorem Hub.tunnelEffect_freq (act : h.active p = true) (own : h.foreign q p = false) (w : Word) :
    ((h.tunnelEffect q (offOf p) (.reg 0x08 w)).plane p).loop.freq = w ∧
    ((h.tunnelEffect q (offOf p) (.reg 0x08 w)).plane p).commits = (h.plane p).commits ∧
    (h.tunnelEffect q (offOf p) (.reg 0x08 w)).chim = h.chim := by
  have right : (h.modPort q fun x => { x with tunnel := true }).controls q p = true := by
    rw [Hub.controls, Hub.rightAt, Hub.grants, Hub.modPort_port]
    simp
  have may : HostMay (h.modPort q fun x => { x with tunnel := true }) q p := ⟨act, right, own⟩
  rw [Hub.tunnelEffect, Hub.tunnelled]
  dsimp only
  rw [Hub.applyOp_freq may, Hub.modPort_plane, Hub.onPlane_plane_loop, Hub.onPlane_plane_commits, Hub.modPort_chim,
    Hub.onPlane_chim]
  exact ⟨rfl, rfl, rfl⟩

theorem Hub.event_plane_kept (h : Hub) (q p : PlaneId) {f : Plane → Plane} (loop : ∀ x, (f x).loop = x.loop)
    (commits : ∀ x, (f x).commits = x.commits) :
    ((h.event q f).plane p).loop = (h.plane p).loop ∧ ((h.event q f).plane p).commits = (h.plane p).commits := by
  rw [Hub.event, Hub.ifActive]
  split
  · by_cases e : p = q
    · subst e
      rw [Hub.onPlane_plane_loop, Hub.onPlane_plane_commits, loop, commits]
      exact ⟨rfl, rfl⟩
    · rw [Hub.onPlane_plane_ne h f e]
      exact ⟨rfl, rfl⟩
  · exact ⟨rfl, rfl⟩

theorem Hub.event_unit_kept (h : Hub) (q : PlaneId) (f : Plane → Plane) :
    (h.event q f).chim = h.chim ∧ (h.event q f).snap = h.snap ∧ (h.event q f).ucommits = h.ucommits := by
  rw [Hub.event, Hub.ifActive]
  split
  · exact ⟨Hub.onPlane_chim .., Hub.onPlane_snap .., Hub.onPlane_ucommits ..⟩
  · exact ⟨rfl, rfl, rfl⟩

/-- From h to g plane p keeps its loop and its held writes, and the unit its Chimney queues, its snapshot and its held writes. -/
def Hub.KeptBy (h : Hub) (p : PlaneId) (g : Hub) : Prop :=
  (g.plane p).loop = (h.plane p).loop ∧ (g.plane p).commits = (h.plane p).commits ∧
    g.chim = h.chim ∧ g.snap = h.snap ∧ g.ucommits = h.ucommits

theorem Hub.chimneyOverflow_keeps (h : Hub) (p : PlaneId) : h.KeptBy p h.chimneyOverflow := by
  unfold Hub.chimneyOverflow
  refine List.foldlRecOn _ _ (motive := h.KeptBy p) ⟨rfl, rfl, rfl, rfl, rfl⟩ fun g kept q _ => ?_
  obtain ⟨loop, commits, chim, snap, held⟩ := kept
  obtain ⟨loop', commits'⟩ := g.event_plane_kept q p (f := fun x => x.setDet 51 true) (fun _ => rfl) (fun _ => rfl)
  obtain ⟨chim', snap', held'⟩ := g.event_unit_kept q fun x => x.setDet 51 true
  exact ⟨loop'.trans loop, commits'.trans commits, chim'.trans chim, snap'.trans snap, held'.trans held⟩

/-- A push changes its own outgoing queue of the Chimney and, where that is full, raises the overflow. -/
theorem Hub.chimneyPush_keeps (h : Hub) (p : PlaneId) (i : Fin 16) (e : QEntry) :
    Hub.KeptBy { h with chim := { h.chim with out := upd h.chim.out i (·.push e) } } p (h.chimneyPush i e) := by
  unfold Hub.chimneyPush
  dsimp only
  split
  · exact Hub.chimneyOverflow_keeps _ p
  · exact ⟨rfl, rfl, rfl, rfl, rfl⟩

end

theorem upd_get_of_val {α : Type} {n k : Nat} (v : Vector α n) {i : Fin n} (f : α → α) (val : i.val = k) (lt : k < n) :
    (upd v i f)[k] = f v[k] := by
  subst val
  exact upd_get_same v i f

/-- A FREQ word over the tunnel leaves the incoming queue, and its reply enters the outgoing one (R278). -/
theorem Hub.commitTunnel_freq {h : Hub} {p : PlaneId} {hw : HeldWrite} {w : Word} (off : hw.off = offOf p)
    (kind : hw.kind = .reg 0x08 w) (act : h.active p = true) (own : h.foreign hw.port p = false) :
    ((h.commitTunnel hw).plane p).loop.freq = w ∧ ((h.commitTunnel hw).plane p).commits = (h.plane p).commits ∧
    (h.commitTunnel hw).chim.inq[hw.port.val].q = h.chim.inq[hw.port.val].q.drop 1 ∧
    (h.chim.out[hw.port.val].q.length < 8 →
      (h.commitTunnel hw).chim.out[hw.port.val].q = h.chim.out[hw.port.val].q ++ [⟨0, 8⟩]) := by
  have val : (Fin.ofNat 16 hw.port.val).val = hw.port.val := Nat.mod_eq_of_lt (by omega)
  obtain ⟨freq, held, kept⟩ := Hub.tunnelEffect_freq act own w
  rw [Hub.commitTunnel, off, kind]
  generalize h.tunnelEffect hw.port (offOf p) (.reg 0x08 w) = g at freq held kept ⊢
  obtain ⟨loop, commits, chim, -⟩ := Hub.chimneyPush_keeps
    (g.modChim fun c => { c with inq := upd c.inq (Fin.ofNat 16 hw.port.val) Queue.pop }) p (Fin.ofNat 16 hw.port.val)
    { type := 0, payload := (WriteKind.reg 0x08 w).reg5.zeroExtend 64 }
  rw [loop, commits, chim]
  dsimp only [Hub.modChim]
  rw [upd_get_of_val _ _ val, upd_get_of_val _ _ val, kept]
  refine ⟨freq, held, rfl, fun free => ?_⟩
  rw [Queue.push, if_pos (show _ < Config.queueDepth from free)]
  rfl

/-! ### At a housekeeping tick -/

theorem Hub.useStoreChecks_keeps (h : Hub) (k : Nat) :
    (h.useStoreChecks k).snap = h.snap ∧ (h.useStoreChecks k).ucommits = h.ucommits := by
  unfold Hub.useStoreChecks
  split <;> exact ⟨rfl, rfl⟩

theorem Hub.compact_keeps (h : Hub) : h.compact.snap = h.snap ∧ h.compact.ucommits = h.ucommits := Hub.useStoreChecks_keeps _ _

theorem Hub.startOp_keeps (h : Hub) (op : NvOp) : (h.startOp op).snap = h.snap ∧ (h.startOp op).ucommits = h.ucommits := by
  simp only [Hub.startOp, Hub.makeRoom]
  split
  · exact ⟨rfl, rfl⟩
  · exact h.compact_keeps

theorem Hub.startWaiting_keeps (h : Hub) : h.startWaiting.snap = h.snap ∧ h.startWaiting.ucommits = h.ucommits := by
  unfold Hub.startWaiting
  split
  · exact Hub.startOp_keeps _ _
  · exact ⟨rfl, rfl⟩

theorem Hub.requestSnapshot_pending (h : Hub) (b : Bool) :
    (h.requestSnapshot b).snap.pending = true ∧ (h.requestSnapshot b).ucommits = h.ucommits := by
  rw [Hub.requestSnapshot, Hub.requestSince]
  split
  · rename_i pending
    exact ⟨pending, rfl⟩
  · dsimp only
    generalize asked : ({ h with snap := _ } : Hub) = g
    have pending : g.snap.pending = true ∧ g.ucommits = h.ucommits := by rw [← asked]; exact ⟨rfl, rfl⟩
    split
    · rw [Hub.laneAction]
      split
      · obtain ⟨-, -, -, snap, held⟩ := g.chimneyPush_keeps .a 3 ⟨1, 0⟩
        exact ⟨snap ▸ pending.1, held.trans pending.2⟩
      · exact pending
    · refine List.foldlRecOn _ _ (motive := fun k : Hub => k.snap.pending = true ∧ k.ucommits = h.ucommits) pending
        fun k kept p _ => ?_
      split <;> exact kept

section
variable {h : Hub} {hw : HeldWrite}

theorem Hub.commitUnit_early (one : h.ucommits = [hw]) (early : h.ticks ≤ hw.seen) :
    h.commitUnit.ucommits = h.ucommits ∧ h.commitUnit.snap = h.snap := by
  have waits : h.commitUnit = ({ h with ucommits := [hw] } : Hub).startWaiting := by
    simp only [Hub.commitUnit, one, List.filter_cons, early, decide_true, if_true, List.filter_nil, not_lt.mpr early, decide_false,
      Bool.false_eq_true, if_false, List.foldl_nil]
  obtain ⟨snap, held⟩ := Hub.startWaiting_keeps { h with ucommits := [hw] }
  rw [waits, snap, held, one]
  exact ⟨rfl, rfl⟩

/-- A word that requests a snapshot, from a port that may. -/
theorem Hub.snapWord_requests {q : PortId} (on : h.powered = true) (right : (h.grants q).counters = true) (addr : BitVec 7) :
    h.snapWord q addr 0x8 = h.requestSnapshot false :=
  Hub.judged_none on q addr 0x17 (r := firstReason (!(h.grants q).counters) false (bits (0x8 : Word) 7 4 != 0) false false)
    (firstReason_none.mpr ⟨by rw [right]; rfl, rfl, by decide, rfl, rfl⟩) fun h => h.requestSnapshot false

theorem Hub.commit_snapshot (before : Hub) (kind : hw.kind = .reg 0x17 0x8) (on : h.powered = true)
    (right : (h.grants hw.port).counters = true) : h.commit before hw = h.requestSnapshot false := by
  rw [Hub.commit, kind]
  exact Hub.snapWord_requests on right _

theorem Hub.commitUnit_due (on : h.powered = true) (right : (h.grants hw.port).counters = true) (one : h.ucommits = [hw])
    (own : hw.cfg = (h.port hw.port).cfg) (direct : hw.tunnel = false) (kind : hw.kind = .reg 0x17 0x8) (due : hw.seen < h.ticks) :
    h.commitUnit.snap.pending = true ∧ h.commitUnit.ucommits = [] := by
  let g : Hub := { h with ucommits := [] }
  have applied : h.commitUnit = (Hub.commitHeld g g hw).startWaiting := by
    simp only [Hub.commitUnit, one, List.filter_cons, due, decide_true, if_true, List.filter_nil, not_le.mpr due, decide_false,
      Bool.false_eq_true, if_false, List.foldl_cons, List.foldl_nil, g]
  obtain ⟨snap, held⟩ := Hub.startWaiting_keeps (Hub.commitHeld g g hw)
  obtain ⟨pending, empty⟩ := Hub.requestSnapshot_pending g false
  rw [applied, snap, held, Hub.commitHeld_own (h := g) own direct, Hub.commit_snapshot (h := g) g kind on right, Hub.modPort_snap,
    Hub.modPort_ucommits]
  exact ⟨pending, empty⟩

end

/-! ### Scheduled words -/

theorem heldWrite_atPlane (q : PortId) (p : PlaneId) (off : Fin 8) (cfg : PortDecl) (k : WriteKind) :
    (heldWrite q p off cfg k).atPlane p = true := beq_self_eq_true p

theorem Hub.causeIn_keeps (h : Hub) (q : PortId) (r p : PlaneId) (bit : Nat) :
    ((h.causeIn q r bit).plane p).loop = (h.plane p).loop ∧ ((h.causeIn q r bit).port q).scheds = (h.port q).scheds := by
  have cause : ∀ (x : Port) (off : Fin 8), (x.cause off bit).scheds = x.scheds := fun x off => by
    obtain ⟨a, m, n, e⟩ := Port.cause_only x off bit
    rw [e]
  have sent : ∀ o : OutRec, ((h.modPlane r (·.send o)).plane p).loop = (h.plane p).loop := fun o => by
    by_cases e : p = r
    · subst e
      rw [Hub.modPlane_plane, Plane.send]
      (repeat' split) <;> rfl
    · rw [Hub.modPlane_plane_ne h _ e]
  unfold Hub.causeIn
  dsimp only
  split
  · split
    · rw [Hub.modPort_plane, Hub.modPort_port]
      exact ⟨sent _, rfl⟩
    · rw [Hub.modPort_plane, Hub.modPort_port, cause]
      exact ⟨sent _, rfl⟩
  · rw [Hub.modPort_plane, Hub.modPort_port, cause]
    exact ⟨rfl, rfl⟩

theorem Hub.causeAt_keeps (h : Hub) (q : PortId) (off : Fin 8) (bit : Nat) (p : PlaneId) :
    ((h.causeAt q off bit).plane p).loop = (h.plane p).loop ∧ ((h.causeAt q off bit).port q).scheds = (h.port q).scheds := by
  unfold Hub.causeAt
  split
  · exact h.causeIn_keeps q _ p bit
  · obtain ⟨a, m, n, e⟩ := Port.cause_only (h.port q) off bit
    rw [Hub.modPort_plane, Hub.modPort_port, e]
    exact ⟨rfl, rfl⟩

section
variable {h : Hub} {q : PortId} {p : PlaneId} {t : Sched}

/-- The one word of the one scheduled transaction of a port, at its tag. -/
theorem Hub.applySched_due {w : Word} (may : HostMay h q p) (one : (h.port q).scheds = [t])
    (word : t.writes = [heldWrite q p (offOf p) (h.port q).cfg (.reg 0x08 w)]) (due : h.schedDue p t = true) :
    h.applySched p q 0 =
      ((h.modPort q fun x => { x with scheds := [] }).onPlane p fun x => x.setFreq w).causeAt q t.off 14 := by
  have none : h.modPort q (fun x => { x with scheds :=
      (x.scheds.take 0) ++ ([t.without p].filter fun (t : Sched) => !t.writes.isEmpty) ++ x.scheds.drop 1 }) =
      h.modPort q fun x => { x with scheds := [] } := by
    simp only [Hub.modPort, upd]
    rw [show h.ports[q.val].scheds = [t] from one]
    simp [Sched.without, word, heldWrite_atPlane]
  have may' : HostMay (h.modPort q fun x => { x with scheds := [] }) q p := by
    obtain ⟨act, right, own⟩ := may
    refine ⟨act, ?_, own⟩
    rw [Hub.controls, Hub.rightAt, Hub.grants, Hub.modPort_port]
    exact right
  unfold Hub.applySched
  rw [one]
  dsimp only [List.getElem?_cons_zero]
  have own : (heldWrite q p (offOf p) (h.port q).cfg (.reg 0x08 w)).off.val < 4 := offOf_lt_four p
  rw [if_pos (by rw [Sched.names, word, due]; simp [heldWrite_atPlane]), none, word]
  simp only [List.filter_cons, heldWrite_atPlane, own, decide_true, Bool.and_self, if_true, List.filter_nil, List.foldl_cons,
    List.foldl_nil, not_le.mpr own, decide_false, Bool.and_false, Bool.false_eq_true, if_false]
  rw [Hub.commit_freq _ rfl may']
  rfl

theorem Hub.applySched_early (one : (h.port q).scheds = [t]) (early : h.schedDue p t = false) : h.applySched p q 0 = h := by
  unfold Hub.applySched
  rw [one]
  dsimp only [List.getElem?_cons_zero]
  rw [if_neg (by rw [early, Bool.and_false]; exact Bool.false_ne_true)]

/-- One FREQ word with its tag is kept for its plane. -/
theorem Hub.schedule_freq {tag w : Word} (on : h.powered = true) (real : tag ≠ 0xFFFFFFFF)
    (judged : h.schedReason q (offOf p) tag false false false = .none) :
    h.schedule false q (h.port q).cfg (offOf p) tag [(offOf p, .word 0x08 w)] =
      h.addSched q (offOf p) tag [heldWrite q p (offOf p) (h.port q).cfg (.reg 0x08 w)] := by
  have own : ¬ 4 ≤ (offOf p).val := not_le.mpr (offOf_lt_four p)
  have act : h.active p = true := by
    by_contra stopped
    rw [Bool.not_eq_true] at stopped
    simp only [Hub.schedReason, placeOf_offOf, offOf_lt_four p, stopped] at judged
    revert judged
    (repeat' split) <;> simp_all
  have held : TxOp.held (offOf p) (.word 0x08 w) = true := by cases p <;> rfl
  have ops : heldOps q (h.port q).cfg [(offOf p, .word 0x08 w)] = [heldWrite q p (offOf p) (h.port q).cfg (.reg 0x08 w)] := by
    simp only [heldOps, List.filter_cons, held, if_true, List.filter_nil, List.filterMap_cons, List.filterMap_nil, TxOp.hold,
      placeOf_offOf]
  have follower : (decide (4 ≤ (offOf p).val) || [(offOf p, TxOp.word 0x08 w)].any fun e => decide (4 ≤ e.1.val)) = false := by
    simp only [List.any_cons, List.any_nil, own, decide_false, Bool.or_false]
  have stopped : ([heldWrite q p (offOf p) (h.port q).cfg (.reg 0x08 w)].any fun e => decide (e.off.val < 4) && !h.active e.plane) =
      false := by
    simp only [List.any_cons, List.any_nil, heldWrite, act, Bool.not_true, Bool.and_false, Bool.or_false]
  have unit : ([(offOf p, TxOp.word 0x08 w)].any fun e => e.2.isUnit) = false := rfl
  unfold Hub.schedule
  rw [if_neg (fun both => real both.1)]
  dsimp only
  rw [ops, follower, stopped, unit, Hub.judged_none on _ _ _ judged]
  simp only [List.filter_cons, held, Bool.not_true, Bool.false_eq_true, if_false, List.filter_nil, List.foldl_nil, Bool.false_and]

end

end Sys2Proof.Machine
end

section
/-! THEOREM. Held and scheduled writes. -/

open Sys2Proof Sys2Proof.Machine

/-- A plane's one held FREQ word, from a port of the hub. -/
theorem planeWriteCommit_freq {s : State} {p : PlaneId} {hw : HeldWrite} {w : Word} (plane : hw.plane = p)
    (one : (s.hub.plane p).commits = [hw]) (own : hw.cfg = (s.hub.port hw.port).cfg) (direct : hw.tunnel = false)
    (kind : hw.kind = .reg 0x08 w) (may : HostMay s.hub hw.port p) :
    let t := (s.hub.plane p).time
    (hw.seen + 4 ≤ t.clk - t.cyc →
      Completes (.planeWriteCommit p) s fun h => (h.plane p).loop.freq = w ∧ (h.plane p).commits = []) ∧
    (t.clk - t.cyc < hw.seen + 4 → Completes (.planeWriteCommit p) s fun h => (h.plane p) = s.hub.plane p) := by
  subst plane
  have on := Hub.powered_of_active may.1
  refine ⟨fun due => ⟨_, rfl, ?_⟩, fun early => ⟨_, rfl, ?_⟩⟩ <;> rw [if_pos on]
  · rw [Hub.commitPlane_due one (by rw [Hub.dueAt_active may.1]; exact decide_eq_true due), 
      Hub.commitHeld_own (h := s.hub.unheld hw.plane) own direct, Hub.commit_freq _ kind (HostMay.unheld may)]
    dsimp only
    rw [Hub.modPort_plane, Hub.onPlane_plane_loop, Hub.onPlane_plane_commits, Hub.unheld_plane]
    exact ⟨rfl, rfl⟩
  · exact Hub.commitPlane_early one (by rw [Hub.dueAt_active may.1]; exact decide_eq_false (not_le.mpr early))

/-- A plane's one held FREQ word, from the tunnel. -/
theorem planeWriteCommit_tunnel {s : State} {p : PlaneId} {hw : HeldWrite} {w : Word} (off : hw.off = offOf p)
    (one : (s.hub.plane p).commits = [hw]) (tunnel : hw.tunnel = true) (kind : hw.kind = .reg 0x08 w)
    (act : s.hub.active p = true) (own : s.hub.foreign hw.port p = false)
    (due : hw.seen + 4 ≤ (s.hub.plane p).time.clk - (s.hub.plane p).time.cyc) :
    Completes (.planeWriteCommit p) s fun h =>
      (h.plane p).loop.freq = w ∧ (h.plane p).commits = [] ∧
      h.chim.inq[hw.port.val].q = s.hub.chim.inq[hw.port.val].q.drop 1 ∧
      (s.hub.chim.out[hw.port.val].q.length < 8 → h.chim.out[hw.port.val].q = s.hub.chim.out[hw.port.val].q ++ [⟨0, 8⟩]) := by
  refine ⟨_, rfl, ?_⟩
  rw [if_pos (Hub.powered_of_active act), Hub.commitPlane_due one (by rw [Hub.dueAt_active act]; exact decide_eq_true due),
    Hub.commitHeld, if_pos tunnel]
  obtain ⟨freq, commits, inq, out⟩ := Hub.commitTunnel_freq off kind ((s.hub.unheld_active p).trans act)
    ((s.hub.unheld_foreign p hw.port).trans own)
  rw [Hub.unheld_plane] at commits
  exact ⟨freq, commits, inq, out⟩

/-- A snapshot request held for the unit. -/
theorem unitWriteCommit_snapshot {s : State} {hw : HeldWrite} (one : s.hub.ucommits = [hw])
    (own : hw.cfg = (s.hub.port hw.port).cfg) (direct : hw.tunnel = false) (kind : hw.kind = .reg 0x17 0x8)
    (on : s.hub.powered = true) (right : (s.hub.grants hw.port).counters = true) :
    (hw.seen < s.hub.ticks → Completes .unitWriteCommit s fun h => h.snap.pending = true ∧ h.ucommits = []) ∧
    (s.hub.ticks ≤ hw.seen → Completes .unitWriteCommit s fun h => h.ucommits = s.hub.ucommits ∧ h.snap = s.hub.snap) := by
  refine ⟨fun due => ⟨_, rfl, ?_⟩, fun early => ⟨_, rfl, ?_⟩⟩ <;> rw [if_pos on]
  · exact Hub.commitUnit_due on right one own direct kind due
  · exact Hub.commitUnit_early one early

theorem hostRegisterWrite_freq (s : State) (q : PortId) (p : PlaneId) (addr : BitVec 7) (w : Word) (may : HostMay s.hub q p)
    (off : s.hub.offset q addr = some (offOf p)) (acks : s.hub.acks q (offOf p) = true) (awake : (s.hub.port q).asleep = false) :
    Completes (.hostRegisterWrite q addr 0x08 w) s fun h =>
      (h.plane p).loop.freq = w ∧ (h.port q).ref = (s.hub.port q).ref := by
  refine ⟨_, rfl, ?_⟩
  rw [if_pos (Hub.powered_of_active may.1), off]
  dsimp only
  rw [if_neg (by rw [awake]; exact Bool.false_ne_true), if_pos acks, Hub.writeNow_freq may, Hub.onPlane_plane_loop,
    Hub.onPlane_port_ref]
  exact ⟨rfl, rfl⟩

/-- A write by name to no address of the hub, to a port that is asleep, and to an address that is not acknowledged. -/
theorem hostRegisterWrite_unapplied (s : State) (q : PortId) (addr : BitVec 7) (r : BitVec 5) (w : Word)
    (on : s.hub.powered = true) :
    (s.hub.offset q addr = none → Completes (.hostRegisterWrite q addr r w) s fun h => h = s.hub) ∧
    ∀ o : Fin 8, s.hub.offset q addr = some o →
      ((s.hub.port q).asleep = true → Completes (.hostRegisterWrite q addr r w) s fun h =>
        (h.port q).asleep = false ∧ (h.port q).ref = (s.hub.port q).ref ∧ OnlyPort q s.hub h) ∧
      ((s.hub.port q).asleep = false → s.hub.acks q o = false → Completes (.hostRegisterWrite q addr r w) s fun h =>
        h.planes = s.hub.planes ∧
        (h.port q).ref.reason = (if (s.hub.port q).ref.count = 0 then .void else (s.hub.port q).ref.reason)) := by
  refine ⟨fun none => ⟨_, rfl, ?_⟩, fun o off => ⟨fun asleep => ⟨_, rfl, ?_⟩, fun awake silent => ⟨_, rfl, ?_⟩⟩⟩
  · rw [if_pos on, none]
  · rw [if_pos on, off]
    dsimp only
    rw [if_pos asleep, Hub.modPort_port]
    exact ⟨rfl, rfl, rfl, fun r ne => Hub.modPort_port_ne s.hub _ (Ne.symm ne)⟩
  · rw [if_pos on, off]
    dsimp only
    rw [if_neg (by rw [awake]; exact Bool.false_ne_true), if_neg (by rw [silent]; exact Bool.false_ne_true), Hub.refuse,
      Hub.modPort_port]
    exact ⟨rfl, rfl⟩

theorem scheduledTransaction_freq (s : State) (q : PortId) (p : PlaneId) (tag w : Word) (on : s.hub.powered = true)
    (real : tag ≠ 0xFFFFFFFF) (judged : s.hub.schedReason q (offOf p) tag false false false = .none) :
    Completes (.scheduledTransaction q p tag [⟨p, 0x08, w⟩]) s fun h =>
      (h.port q).scheds = (s.hub.port q).scheds ++
        [⟨offOf p, BitVec.ofNat 8 (bits tag 31 24), BitVec.ofNat 24 (bits tag 23 0),
          [heldWrite q p (offOf p) (s.hub.port q).cfg (.reg 0x08 w)]⟩] ∧
      (h.plane p).loop.freq = (s.hub.plane p).loop.freq := by
  refine ⟨_, rfl, ?_⟩
  rw [if_pos on]
  simp only [List.map_cons, List.map_nil]
  rw [Hub.schedule_freq on real judged]
  dsimp only [Hub.addSched, List.isEmpty_cons]
  rw [if_neg Bool.false_ne_true, Hub.modPort_port, Hub.modPort_plane]
  exact ⟨rfl, rfl⟩

/-- The one scheduled transaction of a port, of one FREQ word. -/
theorem schedApply_freq (s : State) (q : PortId) (p : PlaneId) (t : Sched) (w : Word) (may : HostMay s.hub q p)
    (one : (s.hub.port q).scheds = [t]) (word : t.writes = [heldWrite q p (offOf p) (s.hub.port q).cfg (.reg 0x08 w)]) :
    (s.hub.schedDue p t = true →
      Completes (.schedApply p q 0) s fun h => (h.plane p).loop.freq = w ∧ (h.port q).scheds = []) ∧
    (s.hub.schedDue p t = false → Completes (.schedApply p q 0) s fun h => h = s.hub) := by
  refine ⟨fun due => ⟨_, rfl, ?_⟩, fun early => ⟨_, rfl, ?_⟩⟩ <;> rw [if_pos (Hub.powered_of_active may.1)]
  · rw [show (0 : Fin 4).val = 0 from rfl, Hub.applySched_due may one word due]
    obtain ⟨loop, scheds⟩ := Hub.causeAt_keeps
      ((s.hub.modPort q fun x => { x with scheds := [] }).onPlane p fun x => x.setFreq w) q t.off 14 p
    rw [loop, scheds, Hub.onPlane_plane_loop, Hub.onPlane_port_scheds, Hub.modPort_port]
    exact ⟨rfl, rfl⟩
  · exact Hub.applySched_early one early

theorem schedCancel_filters (s : State) (q : PortId) (p : PlaneId) (on : s.hub.powered = true)
    (right : s.hub.controls q p = true) :
    Completes (.schedCancel q p) s fun h =>
      (h.port q).scheds = (s.hub.port q).scheds.filter fun t => t.off != offOf p := by
  refine ⟨_, rfl, ?_⟩
  rw [Hub.cancelWord, Hub.judged_none on]
  · dsimp only [Hub.cancelScheds]
    rw [Hub.modPort_port]
  · rw [firstReason_none]
    exact ⟨by rw [bne_eq_false_iff_eq]; exact eq_of_beq right, rfl, rfl, rfl, rfl⟩

/-- Settles O51: a write that is due commits as the same word written by name does, and what is not due stays as it is. -/
theorem heldAndScheduledWritesCommit : Obligations.HeldAndScheduledWritesCommit :=
  ⟨⟨fun _ _ p _ seen may one => planeWriteCommit_freq (p := p) (hw := { heldWrite .. with seen := seen }) rfl one rfl rfl rfl may,
    fun _ _ _ _ _ act own one => planeWriteCommit_tunnel rfl one rfl rfl act own,
    fun _ _ _ on right one => unitWriteCommit_snapshot one rfl rfl rfl on right⟩,
   hostRegisterWrite_freq, hostRegisterWrite_unapplied, scheduledTransaction_freq, schedApply_freq, schedCancel_filters⟩

end

section
/-! SUPPORT. What judging references can change: the reference judged, marks of dispute, the pending switch and what they raise. -/

namespace Sys2Proof

open Machine

/-- An event of a plane whose word clock runs completes with what the event does there. -/
theorem completes_event {c : Instr} {s : State} {p : PlaneId} {f : Plane → Plane} {P : Hub → Prop} (act : s.hub.active p = true)
    (e : exec c s = s.answer (s.hub.event p f)) (k : P (s.hub.onPlane p f)) : Completes c s P :=
  ⟨_, e, by rwa [Hub.event_eq act]⟩

end Sys2Proof

namespace Sys2Proof.Machine

theorem Plane.setDet_live (x : Plane) (n : Fin 64) : (x.setDet n true).flt.src[n.val].live = true := by
  obtain ⟨t, f, e, -⟩ := Plane.setDet_only x n true
  rw [e]; simp

theorem Plane.setDet_src_ne (x : Plane) {n m : Fin 64} (b : Bool) (ne : n ≠ m) :
    (x.setDet n b).flt.src[m.val] = x.flt.src[m.val] :=
  upd_get_ne _ _ _ _ ne

/-! ### The pending switch -/

/-- Plane y differs from x at most in its pending switch, its outgoing queue, and its counts of switches and lost records. -/
def SwitchOnly (x y : Plane) : Prop :=
  ∃ w o c, y = { x with sel := { x.sel with sw := w }, outq := o, cnt := c } ∧
    ∀ i : Fin 32, i ≠ 15 → i ≠ 16 → i ≠ 20 → (c)[i.val] = x.cnt[i.val]

theorem SwitchOnly.refl (x : Plane) : SwitchOnly x x := ⟨_, _, _, rfl, fun _ _ _ _ => rfl⟩

theorem SwitchOnly.trans {x y z : Plane} (h : SwitchOnly x y) (k : SwitchOnly y z) : SwitchOnly x z := by
  obtain ⟨w, o, c, rfl, hc⟩ := h
  obtain ⟨w', o', c', rfl, kc⟩ := k
  exact ⟨w', o', c', rfl, fun i a b d => (kc i a b d).trans (hc i a b d)⟩

theorem SwitchOnly.ite {P : Prop} {d : Decidable P} {x y z : Plane} (h : SwitchOnly x y) (k : SwitchOnly x z) :
    SwitchOnly x (if P then y else z) := by
  split
  · exact h
  · exact k

/-- A switch record enters the outgoing queue, or its loss is counted. -/
theorem Plane.switchRec_only (x : Plane) (p : PlaneId) (type : Byte) (new : Fin 4) (step : Int) :
    ∃ o c, x.switchRec p type new step = { x with outq := o, cnt := c } ∧ ∀ i : Fin 32, i ≠ 20 → (c)[i.val] = x.cnt[i.val] :=
  Plane.log_only x p type _

/-- A pending switch that is abandoned is counted and recorded (R76, R79). -/
theorem Plane.abandonSwitch_only {x : Plane} {w : Switch} (pending : x.sel.sw = some w) (p : PlaneId) :
    ∃ o c, x.abandonSwitch p = { x with sel := { x.sel with sw := none }, outq := o, cnt := c } ∧
      (c)[15] = x.cnt[15].add 1 ∧ ∀ i : Fin 32, i ≠ 15 → i ≠ 20 → (c)[i.val] = x.cnt[i.val] := by
  obtain ⟨o, c, e, k⟩ :=
    Plane.switchRec_only ({ x with sel := { x.sel with sw := none } }.count 15) p 0x03 w.target 0
  refine ⟨o, c, ?_, ?_, fun i ne lost => ?_⟩
  · unfold Plane.abandonSwitch; rw [pending]; exact e
  · exact (k 15 (by decide)).trans (upd_get_same _ _ _)
  · exact (k i lost).trans (upd_get_ne _ _ _ _ (Ne.symm ne))

theorem SwitchOnly.abandonSwitch (x : Plane) (p : PlaneId) : SwitchOnly x (x.abandonSwitch p) := by
  cases pending : x.sel.sw with
  | none => unfold Plane.abandonSwitch; rw [pending]; exact SwitchOnly.refl x
  | some w =>
    obtain ⟨o, c, e, -, k⟩ := Plane.abandonSwitch_only pending p
    exact ⟨none, o, c, e, fun i a _ b => k i a b⟩

theorem SwitchOnly.supersede (x : Plane) (p : PlaneId) (old new : Fin 4) : SwitchOnly x (x.supersede p old new) := by
  obtain ⟨o, c, e, k⟩ := Plane.switchRec_only (x.count 16) p 0x04 old 0
  refine ⟨some { target := new, left := 12500 }, o, c, ?_, fun i _ ne lost => (k i lost).trans (upd_get_ne _ _ _ _ (Ne.symm ne))⟩
  unfold Plane.supersede; rw [e]; rfl

/-- The review of a pending switch leaves it, abandons it or lets another reference supersede it (R74). -/
theorem SwitchOnly.review (x : Plane) (p : PlaneId) : SwitchOnly x (x.review p) := by
  have stays := SwitchOnly.refl x
  have ends := SwitchOnly.abandonSwitch x p
  unfold Plane.review; split
  · exact stays
  · refine stays.ite ?_
    split
    · exact ends
    · exact ends.ite (stays.ite (SwitchOnly.supersede x p _ _))
    · split
      · exact ends
      · exact ends.ite (stays.ite (stays.ite ((SwitchOnly.supersede x p _ _).ite stays)))

/-! ### The judgement of a reference -/

/-- What judging makes of a reference whose quality source gives HQL q (R59, R62, R63), but for the mark of a dispute. -/
def Ref.judged (f : Ref) (d : RefDecl) (q : Nat) : Ref :=
  let cur := { f with hql := if d.enabled then q else 0 }
  let st := cur.next d.enabled
  { cur with state := st, wtr :=
      if st = .wait then (if f.state = .wait then f.wtr else if f.everQual then d.wtrSec else 10) else 0 }

/-- Plane y is x after reference r, its monitors being cur, has been judged: that reference is judged, every other keeps all but its mark
of dispute, source r is live where it went LOST, and a switch may have been reviewed. -/
structure Judged (x : Plane) (r : Fin 4) (cur : Ref) (y : Plane) : Prop where
  frame : y = { x with
    ref := y.ref, sel := { x.sel with disputes := y.sel.disputes, sw := y.sel.sw }, flt := y.flt
    raised := y.raised, outq := y.outq, cnt := y.cnt }
  self : ∃ b, y.ref[r.val] = { cur.judged x.sect.refs[r.val] (x.sourceHql r) with disputed := b }
  other : ∀ i : Fin 4, i ≠ r → ∃ b, y.ref[i.val] = { x.ref[i.val] with disputed := b }
  lost : (cur.judged x.sect.refs[r.val] (x.sourceHql r)).state = .lost → cur.state ≠ .lost → y.flt.src[r.val].live = true
  cnt : ∀ i : Fin 32, i ≠ 15 → i ≠ 16 → i ≠ 20 → y.cnt[i.val] = x.cnt[i.val]

/-- A change of references marks disputes, ends those whose pair no longer matches, and reviews the pending switch (R72, R74). -/
theorem Plane.refsChanged_only (x : Plane) (p : PlaneId) :
    ∃ m d w f o c, x.refsChanged p =
        { x with ref := m, sel := { x.sel with disputes := d, sw := w }, flt := f, outq := o, cnt := c } ∧
      (∀ i : Fin 4, ∃ b, m[i.val] = { x.ref[i.val] with disputed := b }) ∧
      (∀ n : Fin 64, n ≠ 8 → f.src[n.val] = x.flt.src[n.val]) ∧
      ∀ i : Fin 32, i ≠ 15 → i ≠ 16 → i ≠ 20 → (c)[i.val] = x.cnt[i.val] := by
  obtain ⟨w, o, c, e, k⟩ := SwitchOnly.review x.sweepDisputes p
  refine ⟨_, _, w, _, o, c, e, fun i => ?_, fun n ne => ?_, k⟩
  · exact ⟨_, by simp only [Plane.sweepDisputes, Plane.markDisputes, Plane.setDet_ref, Vector.getElem_ofFn]; rfl⟩
  · exact upd_get_ne _ _ _ _ (Ne.symm ne)

theorem refSource_val (r : Fin 4) : (Fin.ofNat 64 r.val).val = r.val := by revert r; decide
theorem refSource_ne_dispute (r : Fin 4) : Fin.ofNat 64 r.val ≠ 8 := by revert r; decide
theorem failSource_ne_refSource (r : Fin 4) : Fin.ofNat 64 (4 + r.val) ≠ Fin.ofNat 64 r.val := by revert r; decide

/-- Sources raised and references reviewed, the reference judged stays judged. -/
theorem Judged.refsChanged {x y : Plane} {r : Fin 4} {cur : Ref} (h : Judged x r cur y) (p : PlaneId) :
    Judged x r cur (y.refsChanged p) := by
  obtain ⟨frame, ⟨b, self⟩, other, lost, cnt⟩ := h
  obtain ⟨m, d, w, f, o, c, e, marks, src, kept⟩ := Plane.refsChanged_only y p
  rw [e]
  refine ⟨?_, ?_, fun i ne => ?_, fun now before => ?_, fun i a b c => (kept i a b c).trans (cnt i a b c)⟩
  · rw [frame]
  · obtain ⟨b', mark⟩ := marks r
    exact ⟨b', by rw [mark, self]⟩
  · obtain ⟨b, was⟩ := other i ne
    obtain ⟨b', mark⟩ := marks i
    exact ⟨b', by rw [mark, was]⟩
  · have same := src _ (refSource_ne_dispute r)
    simp only [refSource_val] at same
    rw [same]; exact lost now before

/-- Judging a reference judges it, raises its sources where its state has changed, and reviews what follows from the change (R62 to
R64). -/
theorem Plane.judgeRef_judged (x : Plane) (p : PlaneId) (r : Fin 4) : Judged x r x.ref[r.val] (x.judgeRef p r) := by
  let new := x.ref[r.val].judged x.sect.refs[r.val] (x.sourceHql r)
  let y : Plane := { x with ref := upd x.ref r fun _ => new }
  have self : ∃ b, y.ref[r.val] = { new with disputed := b } := ⟨new.disputed, upd_get_same _ _ _⟩
  have other : ∀ i : Fin 4, i ≠ r → ∃ b, y.ref[i.val] = { x.ref[i.val] with disputed := b } := fun i ne =>
    ⟨x.ref[i.val].disputed, upd_get_ne _ _ _ _ (Ne.symm ne)⟩
  show Judged x r x.ref[r.val] (if new.state = x.ref[r.val].state ∧ new.hql = x.ref[r.val].hql then y
    else ((((if new.state = x.ref[r.val].state then y else y.raise 15).setDet (Fin.ofNat 64 r.val) (new.state == .lost)).setDet
      (Fin.ofNat 64 (4 + r.val)) (new.state == .failed)).refsChanged p))
  split
  next same => exact ⟨rfl, self, other, fun now before => absurd (same.1.symm.trans now) before, fun _ _ _ _ => rfl⟩
  next =>
    refine Judged.refsChanged ⟨?_, ?_, ?_, fun now before => ?_, fun _ _ _ _ => ?_⟩ p
    · split <;> rfl
    · split <;> exact self
    · split <;> exact other
    · have raised (z : Plane) (b : Bool) : (((z.setDet (Fin.ofNat 64 r.val) true).setDet (Fin.ofNat 64 (4 + r.val)) b).flt.src[
          (Fin.ofNat 64 r.val).val]).live = true := by
        rw [Plane.setDet_src_ne _ _ (failSource_ne_refSource r)]; exact Plane.setDet_live _ _
      simp only [refSource_val] at raised
      rw [show (new.state == .lost) = true from beq_iff_eq.mpr now]; exact raised _ _
    · split <;> rfl

/-- Changed monitors that keep the HQL are judged by what the quality source gave before. -/
theorem Plane.modRef_judged (x : Plane) (p : PlaneId) (r : Fin 4) {f : Ref → Ref} (hql : (f x.ref[r.val]).hql = x.ref[r.val].hql) :
    Judged x r (f x.ref[r.val]) (x.modRef p r f) := by
  have source : ({ x with ref := upd x.ref r f } : Plane).sourceHql r = x.sourceHql r := by
    unfold Plane.sourceHql; dsimp only; rw [upd_get_same, hql]
  obtain ⟨frame, self, other, lost, cnt⟩ := Plane.judgeRef_judged { x with ref := upd x.ref r f } p r
  rw [source] at self lost
  simp only [upd_get_same] at self lost
  refine ⟨frame, self, fun i ne => ?_, lost, cnt⟩
  obtain ⟨b, e⟩ := other i ne
  exact ⟨b, e.trans (by dsimp only; rw [upd_get_ne _ _ _ _ (Ne.symm ne)])⟩

/-! ### Activity and the tests -/

theorem Judged.other_state {x y : Plane} {r : Fin 4} {cur : Ref} (h : Judged x r cur y) (i : Fin 4) (ne : i ≠ r) :
    y.ref[i.val].state = x.ref[i.val].state := by
  obtain ⟨b, e⟩ := h.other i ne
  rw [e]

/-- A reference without activity is LOST where it is enabled, and OFF where it is not. -/
theorem Ref.judged_inactive {f : Ref} (silent : f.act = false) (d : RefDecl) (q : Nat) :
    (f.judged d q).state = if d.enabled then .lost else .off := by
  cases on : d.enabled <;> simp [Ref.judged, Ref.next, on, silent]

/-- An active and enabled reference fails by a test or its quality, stays QUALIFIED, or waits. -/
theorem Ref.judged_active {f : Ref} {d : RefDecl} (on : d.enabled = true) (alive : f.act = true) (q : Nat) :
    (f.judged d q).state = if f.foffFail = true ∨ f.pjmpFail = true ∨ q = 0 then .failed
      else if f.state = .qualified then .qualified else .wait := by
  simp only [Ref.judged, Ref.next, Ref.testsPass, on, alive]
  cases f.foffFail <;> cases f.pjmpFail <;> by_cases zero : q = 0 <;> simp [zero]

/-- A test of a reference that is not active, or not enabled, has no measurement; another one judges the reference with its result (R44,
R494). -/
theorem Plane.test_judged (x : Plane) (p : PlaneId) (r : Fin 4) {f : Ref → Ref} (hql : (f x.ref[r.val]).hql = x.ref[r.val].hql) :
    let y := if x.sect.refs[r.val].enabled && x.ref[r.val].act then x.modRef p r f else x
    ((x.ref[r.val].act = false ∨ x.sect.refs[r.val].enabled = false) → y.ref = x.ref) ∧
    (x.ref[r.val].act = true → x.sect.refs[r.val].enabled = true → Judged x r (f x.ref[r.val]) y) := by
  refine ⟨fun off => ?_, fun alive on => ?_⟩
  · rw [if_neg]
    rcases off with k | k <;> simp [k]
  · rw [if_pos (by rw [on, alive]; rfl)]
    exact Plane.modRef_judged x p r hql

/-- The frequency test after a measurement in units of 1e-12 (R61, R494). -/
def Ref.freqOffset (f : Ref) (foff : Nat) (offset : Int) : Ref :=
  { f with foffFail := if foff < offset.natAbs then true else if offset.natAbs * 10 ≤ foff * 8 then false else f.foffFail }

theorem Ref.freqOffset_fail (f : Ref) (foff : Nat) (v : Int) :
    (foff < v.natAbs → (f.freqOffset foff v).foffFail = true) ∧ (v.natAbs * 10 ≤ foff * 8 → (f.freqOffset foff v).foffFail = false) ∧
    (v.natAbs ≤ foff → foff * 8 < v.natAbs * 10 → (f.freqOffset foff v).foffFail = f.foffFail) :=
  ⟨fun far => if_pos far, fun near => (if_neg (by omega)).trans (if_pos near),
    fun low high => (if_neg (by omega)).trans (if_neg (by omega))⟩

theorem Plane.freqOffset_tests (x : Plane) (p : PlaneId) (r : Fin 4) (foff : Nat) (v : Int) :
    let y := if x.sect.refs[r.val].enabled && x.ref[r.val].act then x.modRef p r fun f => f.freqOffset foff v else x
    ((x.ref[r.val].act = false ∨ x.sect.refs[r.val].enabled = false) → y.ref = x.ref) ∧
    (x.ref[r.val].act = true → x.sect.refs[r.val].enabled = true →
      (foff < v.natAbs → y.ref[r.val].foffFail = true) ∧ (v.natAbs * 10 ≤ foff * 8 → y.ref[r.val].foffFail = false) ∧
      (v.natAbs ≤ foff → foff * 8 < v.natAbs * 10 → y.ref[r.val].foffFail = x.ref[r.val].foffFail) ∧
      (y.ref[r.val].foffFail = true → y.ref[r.val].state = .failed)) := by
  obtain ⟨off, judged⟩ := Plane.test_judged x p r (f := fun f => f.freqOffset foff v) rfl
  refine ⟨off, fun alive on => ?_⟩
  obtain ⟨b, self⟩ := (judged alive on).self
  rw [self]
  obtain ⟨far, near, between⟩ := Ref.freqOffset_fail x.ref[r.val] foff v
  exact ⟨far, near, between, fun failed =>
    (Ref.judged_active (f := x.ref[r.val].freqOffset foff v) on alive _).trans (if_pos (.inl failed))⟩

/-- The phase test after another mean (R61, R494). -/
def Ref.phaseMean (f : Ref) (limit : Nat) (mean : Int) : Ref :=
  match f.pjmpLast with
  | none => { f with pjmpLast := some mean }
  | some l =>
    if limit < (mean - l).natAbs then { f with pjmpLast := some mean, pjmpFail := true, pjmpGood := 0 }
    else { f with pjmpLast := some mean, pjmpGood := min (f.pjmpGood + 1) 10
                  pjmpFail := f.pjmpFail && decide (f.pjmpGood + 1 < 10) }

theorem Ref.phaseMean_only (f : Ref) (limit : Nat) (mean : Int) :
    ∃ b n, f.phaseMean limit mean = { f with pjmpLast := some mean, pjmpFail := b, pjmpGood := n } := by
  unfold Ref.phaseMean; split
  · exact ⟨_, _, rfl⟩
  · split <;> exact ⟨_, _, rfl⟩

theorem Ref.phaseMean_first {f : Ref} (first : f.pjmpLast = none) (limit : Nat) (mean : Int) :
    (f.phaseMean limit mean).pjmpFail = f.pjmpFail ∧ (f.phaseMean limit mean).pjmpGood = f.pjmpGood := by
  unfold Ref.phaseMean; rw [first]; exact ⟨rfl, rfl⟩

theorem Ref.phaseMean_jump {f : Ref} {l : Int} (last : f.pjmpLast = some l) (limit : Nat) (mean : Int) :
    (limit < (mean - l).natAbs → (f.phaseMean limit mean).pjmpFail = true ∧ (f.phaseMean limit mean).pjmpGood = 0) ∧
    ((mean - l).natAbs ≤ limit → 9 ≤ f.pjmpGood → (f.phaseMean limit mean).pjmpFail = false) ∧
    ((mean - l).natAbs ≤ limit → f.pjmpGood < 9 → (f.phaseMean limit mean).pjmpFail = f.pjmpFail) := by
  unfold Ref.phaseMean; rw [last]; dsimp only
  refine ⟨fun far => ?_, fun near long => ?_, fun near short => ?_⟩
  · rw [if_pos far]; exact ⟨rfl, rfl⟩
  · rw [if_neg (Nat.not_lt.mpr near), decide_eq_false (show ¬ f.pjmpGood + 1 < 10 by omega), Bool.and_false]
  · rw [if_neg (Nat.not_lt.mpr near), decide_eq_true (show f.pjmpGood + 1 < 10 by omega), Bool.and_true]

end Sys2Proof.Machine
end

section
/-! THEOREM. Reference activity, wait to restore, frequency and phase tests. -/

open Sys2Proof Sys2Proof.Machine

theorem refLossDeclared_loses (s : State) (p : PlaneId) (r : Fin 4) (act : s.hub.active p = true) :
    Completes (.refLossDeclared p r) s fun h =>
      let x := s.hub.plane p
      let y := h.plane p
      y.ref[r.val].act = false ∧ y.ref[r.val].foffFail = false ∧ y.ref[r.val].pjmpFail = false ∧
      y.ref[r.val].pjmpLast = none ∧
      y.ref[r.val].state = (if x.sect.refs[r.val].enabled then .lost else .off) ∧
      (x.sect.refs[r.val].enabled = true → x.ref[r.val].state ≠ .lost → y.flt.src[r.val].live = true) ∧
      ∀ i : Fin 4, i ≠ r → y.ref[i.val].state = x.ref[i.val].state := by
  refine completes_event act rfl ?_
  dsimp only
  rw [Hub.onPlane_plane_ref, Hub.onPlane_plane_flt]
  generalize s.hub.plane p = x
  have J := Plane.modRef_judged x p r (f := fun f =>
    { f with act := false, foffFail := false, pjmpFail := false, pjmpGood := 0, pjmpLast := none }) rfl
  obtain ⟨b, self⟩ := J.self
  rw [self]
  refine ⟨rfl, rfl, rfl, rfl, Ref.judged_inactive rfl _ _, fun on before => J.lost ?_ before, J.other_state⟩
  rw [Ref.judged_inactive rfl, if_pos on]

theorem refActiveAgain_waits (s : State) (p : PlaneId) (r : Fin 4) (act : s.hub.active p = true) :
    Completes (.refActiveAgain p r) s fun h =>
      let x := s.hub.plane p
      let y := h.plane p
      (x.sect.refs[r.val].enabled = false → y.ref = x.ref) ∧
      (x.sect.refs[r.val].enabled = true →
        y.ref[r.val].act = true ∧ y.ref[r.val].foffFail = false ∧ y.ref[r.val].pjmpFail = false ∧
        y.ref[r.val].pjmpLast = none ∧ y.ref[r.val].hql = x.sourceHql r ∧
        y.ref[r.val].state = if y.ref[r.val].hql = 0 then .failed
          else if x.ref[r.val].state = .qualified then .qualified else .wait) ∧
      (y.ref[r.val].state = .wait → x.ref[r.val].state ≠ .wait →
        y.ref[r.val].wtr = if x.ref[r.val].everQual then x.sect.refs[r.val].wtrSec else 10) ∧
      ∀ i : Fin 4, i ≠ r → y.ref[i.val].state = x.ref[i.val].state := by
  refine completes_event act rfl ?_
  dsimp only
  rw [Hub.onPlane_plane_ref]
  generalize s.hub.plane p = x
  cases on : x.sect.refs[r.val].enabled with
  | false => exact ⟨fun _ => rfl, fun k => (nomatch k), fun now before => absurd now before, fun _ _ => rfl⟩
  | true =>
    have J := Plane.modRef_judged x p r (f := fun f =>
      { f with act := true, foffFail := false, pjmpFail := false, pjmpGood := 0, pjmpLast := none }) rfl
    obtain ⟨b, self⟩ := J.self
    rw [if_pos rfl, self]
    have hql : (if x.sect.refs[r.val].enabled then x.sourceHql r else 0) = x.sourceHql r := if_pos on
    refine ⟨fun k => (nomatch k), fun _ => ⟨rfl, rfl, rfl, rfl, hql, ?_⟩, fun now before => ?_, J.other_state⟩
    · show _ = if (if x.sect.refs[r.val].enabled then x.sourceHql r else 0) = 0 then _ else _
      rw [hql]
      exact (Ref.judged_active on rfl _).trans (by simp)
    · exact (if_pos now).trans (if_neg before)

theorem waitToRestoreExpiry_qualifies (s : State) (p : PlaneId) (r : Fin 4) (act : s.hub.active p = true)
    (waits : (s.hub.plane p).ref[r.val].state = .wait) :
    Completes (.waitToRestoreExpiry p r) s fun h =>
      let x := s.hub.plane p
      let y := h.plane p
      y.ref[r.val].state = .qualified ∧ y.ref[r.val].everQual = true ∧ y.ref[r.val].wtr = 0 ∧
      ∀ i : Fin 4, i ≠ r → y.ref[i.val].state = x.ref[i.val].state := by
  refine completes_event act rfl ?_
  dsimp only
  rw [Hub.onPlane_plane_ref, if_pos waits]
  generalize s.hub.plane p = x
  obtain ⟨m, d, w, f, o, c, e, marks, -, -⟩ := Plane.refsChanged_only (({ x with
    ref := upd x.ref r fun f => { f with state := .qualified, everQual := true, wtr := 0 } } : Plane).raise 15) p
  rw [e]
  refine ⟨?_, ?_, ?_, fun i ne => ?_⟩
  iterate 3
    obtain ⟨b, e⟩ := marks r
    dsimp only [Plane.raise] at e ⊢
    rw [e, upd_get_same]
  · obtain ⟨b, e⟩ := marks i
    dsimp only [Plane.raise] at e ⊢
    rw [e, upd_get_ne _ _ _ _ (Ne.symm ne)]

theorem freqOffsetMeasurement_tests (s : State) (p : PlaneId) (r : Fin 4) (v : Int) (act : s.hub.active p = true) :
    Completes (.freqOffsetMeasurement p r v) s fun h =>
      let x := s.hub.plane p
      let foff := x.sect.refs[r.val].foffPpm * 1000000
      let old := x.ref[r.val].foffFail
      let new := (h.plane p).ref[r.val].foffFail
      ((x.ref[r.val].act = false ∨ x.sect.refs[r.val].enabled = false) → (h.plane p).ref = x.ref) ∧
      (x.ref[r.val].act = true → x.sect.refs[r.val].enabled = true →
        (foff < v.natAbs → new = true) ∧ (v.natAbs * 10 ≤ foff * 8 → new = false) ∧
        (v.natAbs ≤ foff → foff * 8 < v.natAbs * 10 → new = old) ∧
        (new = true → (h.plane p).ref[r.val].state = .failed)) := by
  refine completes_event (f := fun x => if x.sect.refs[r.val].enabled && x.ref[r.val].act then
    x.modRef p r fun f => f.freqOffset (x.sect.refs[r.val].foffPpm * 1000000) v else x) act rfl ?_
  dsimp only
  rw [Hub.onPlane_plane_ref]
  exact Plane.freqOffset_tests (s.hub.plane p) p r _ v

theorem phaseJumpMean_tests (s : State) (p : PlaneId) (r : Fin 4) (m : Int) (act : s.hub.active p = true) :
    Completes (.phaseJumpMean p r m) s fun h =>
      let x := s.hub.plane p
      let limit := x.sect.refs[r.val].pjmpNs * 1000
      let f := x.ref[r.val]
      let g := (h.plane p).ref[r.val]
      ((f.act = false ∨ x.sect.refs[r.val].enabled = false) → (h.plane p).ref = x.ref) ∧
      (f.act = true → x.sect.refs[r.val].enabled = true →
        g.pjmpLast = some m ∧ (f.pjmpLast = none → g.pjmpFail = f.pjmpFail ∧ g.pjmpGood = f.pjmpGood) ∧
        (∀ l ∈ f.pjmpLast,
          (limit < (m - l).natAbs → g.pjmpFail = true ∧ g.pjmpGood = 0) ∧
          ((m - l).natAbs ≤ limit → 9 ≤ f.pjmpGood → g.pjmpFail = false) ∧
          ((m - l).natAbs ≤ limit → f.pjmpGood < 9 → g.pjmpFail = f.pjmpFail)) ∧
        (g.pjmpFail = true → g.state = .failed)) := by
  refine completes_event (f := fun x => if x.sect.refs[r.val].enabled && x.ref[r.val].act then
    x.modRef p r fun f => f.phaseMean (x.sect.refs[r.val].pjmpNs * 1000) m else x) act rfl ?_
  dsimp only
  rw [Hub.onPlane_plane_ref]
  generalize s.hub.plane p = x
  obtain ⟨bad, n, mean⟩ := Ref.phaseMean_only x.ref[r.val] (x.sect.refs[r.val].pjmpNs * 1000) m
  obtain ⟨off, judged⟩ := Plane.test_judged x p r (f := fun f => f.phaseMean (x.sect.refs[r.val].pjmpNs * 1000) m) (by rw [mean])
  refine ⟨off, fun alive on => ?_⟩
  obtain ⟨b, self⟩ := (judged alive on).self
  rw [self]
  refine ⟨?_, fun first => Ref.phaseMean_first first _ m, fun l last => Ref.phaseMean_jump last _ m, fun failed => ?_⟩
  · show (Ref.phaseMean ..).pjmpLast = _
    rw [mean]
  · exact (Ref.judged_active on (by rw [mean]; exact alive) _).trans (if_pos (.inr (.inl failed)))

/-- Settles O22: each of these commands judges its reference alone by its own tests, so its state follows from what the command set. -/
theorem referenceActivityAndTestsComplete : Obligations.ReferenceActivityAndTestsComplete :=
  ⟨⟨refLossDeclared_loses, refActiveAgain_waits, waitToRestoreExpiry_qualifies⟩, freqOffsetMeasurement_tests, phaseJumpMean_tests⟩

end

section
/-! SUPPORT. What timecode frames and ESMC messages leave in their receivers, and what they make of the reference's HQL. -/

namespace Sys2Proof.Machine

/-! ### What judging keeps -/

section
variable {x y : Plane} {r : Fin 4} {cur : Ref}

theorem Judged.tc (h : Judged x r cur y) : y.tc = x.tc := (congrArg Plane.tc h.frame :)
theorem Judged.esmc (h : Judged x r cur y) : y.esmc = x.esmc := (congrArg Plane.esmc h.frame :)

theorem Judged.hql (h : Judged x r cur y) (on : x.sect.refs[r.val].enabled = true) : y.ref[r.val].hql = x.sourceHql r := by
  obtain ⟨b, e⟩ := h.self
  rw [e]; exact if_pos on

end

/-! ### Timecode -/

theorem tcRef_val (tc : Fin 2) : (Fin.ofNat 4 tc.val).val = tc.val := by revert tc; decide

theorem Timecode.frame_invalid {t : Timecode} {f : IrigFrame} (bad : (f.markersOk && f.digitsOk && t.follows f) = false)
    (u : UnitDecl) (own : Word) : t.frame u own f = t.badFrame := by
  unfold Timecode.frame; rw [bad]; rfl

/-- A valid frame makes the timecode valid, names its second, and is compared with the plane's own (R48, R51, R52). -/
theorem Timecode.frame_valid {t : Timecode} {f : IrigFrame} (ok : (f.markersOk && f.digitsOk && t.follows f) = true)
    (u : UnitDecl) (own : Word) : ∃ c, t.frame u own f = { t with
      valid := true, bad := 0, lastTod := some (f.tod (t.yearOf f)), year := t.yearOf f, lastDay := f.day
      qRun := if t.qLast = some f.q then t.qRun + 1 else 1
      qLast := some f.q, cand := c, secOk := c == own } ∧
    c = BitVec.ofInt 32 ((f.tod (t.yearOf f) : Int) - ((u.epochDay * 86400 + u.epochSec : Nat) : Int)) := by
  unfold Timecode.frame; rw [if_pos ok]; exact ⟨_, rfl, rfl⟩

/-- A missing or invalid frame counts; the third in a row makes the timecode invalid and discards its quality (R48, R51). -/
theorem Timecode.badFrame_counts (t : Timecode) :
    t.badFrame.bad = t.bad + 1 ∧ t.badFrame.lastTod = none ∧ t.badFrame.qRun = 0 ∧
    (2 ≤ t.bad → t.badFrame.valid = false ∧ t.badFrame.qEff = none) ∧
    (t.bad < 2 → t.badFrame.valid = t.valid ∧ t.badFrame.qEff = t.qEff) := by
  by_cases third : 3 ≤ t.bad + 1
  · rw [Timecode.badFrame, if_pos third]
    exact ⟨rfl, rfl, rfl, fun _ => ⟨rfl, rfl⟩, fun few => absurd third (by omega)⟩
  · rw [Timecode.badFrame, if_neg third]
    exact ⟨rfl, rfl, rfl, fun many => absurd many (by omega), fun _ => ⟨rfl, rfl⟩⟩

/-- A frame's timecode is put in the receiver, a disagreement with the registered grid is counted, and the reference is judged. -/
def Plane.takeTimecode (x : Plane) (p : PlaneId) (tc : Fin 2) (t : Timecode) : Plane :=
  let y := { x with tc := upd x.tc tc fun _ => t }
  let y := if t.bad = 0 ∧ t.secOk = false ∧ x.grid.reg then y.count 18 else y
  y.judgeRef p (Fin.ofNat 4 tc.val)

theorem Plane.takeTimecode_tc (x : Plane) (p : PlaneId) (tc : Fin 2) (t : Timecode) : (x.takeTimecode p tc t).tc[tc.val] = t := by
  have J := Plane.judgeRef_judged (if t.bad = 0 ∧ t.secOk = false ∧ x.grid.reg then
    ({ x with tc := upd x.tc tc fun _ => t } : Plane).count 18 else { x with tc := upd x.tc tc fun _ => t }) p (Fin.ofNat 4 tc.val)
  unfold Plane.takeTimecode; dsimp only
  rw [J.tc]; split <;> exact upd_get_same _ _ _

theorem Plane.takeTimecode_cnt (x : Plane) (p : PlaneId) (tc : Fin 2) {t : Timecode} (good : t.bad = 0) :
    (x.takeTimecode p tc t).cnt[18].count = x.cnt[18].count + (if t.secOk = false ∧ x.grid.reg = true then 1 else 0) := by
  have J := Plane.judgeRef_judged (if t.bad = 0 ∧ t.secOk = false ∧ x.grid.reg then
    ({ x with tc := upd x.tc tc fun _ => t } : Plane).count 18 else { x with tc := upd x.tc tc fun _ => t }) p (Fin.ofNat 4 tc.val)
  have kept := congrArg Counter.count (J.cnt 18 (by decide) (by decide) (by decide))
  refine kept.trans ?_
  by_cases apart : t.secOk = false ∧ x.grid.reg = true
  · rw [if_pos ⟨good, apart⟩, if_pos apart]
    exact congrArg Counter.count (upd_get_same x.cnt 18 (·.add 1))
  · rw [if_neg fun k => apart k.2, if_neg apart]; exact (BitVec.add_zero _).symm

/-- A valid timecode's quality in force gives the HQL of its reference (R59). -/
theorem Plane.sourceHql_tc {x : Plane} {tc : Fin 2} {q : BitVec 4} (src : x.sect.refs[tc.val].qsrc = .tc)
    (valid : x.tc[tc.val].valid = true) (eff : x.tc[tc.val].qEff = some q) :
    x.sourceHql (Fin.ofNat 4 tc.val) = qHql x.sect.refs[tc.val].fixedHql q := by
  unfold Plane.sourceHql
  simp only [tcRef_val, src, tc.isLt, dite_true, valid, eff, if_true]

theorem Plane.sourceHql_esmc {x : Plane} (src : x.sect.refs[2].qsrc = .esmc) : x.sourceHql 2 = x.esmc.hql := by
  have src' : x.sect.refs[(2 : Fin 4).val].qsrc = .esmc := src
  unfold Plane.sourceHql; dsimp only; rw [src']

/-- ESMC reception e is put in force, and REF2 is judged by it. -/
theorem Plane.esmc_inForce (x : Plane) (p : PlaneId) (e : Esmc) :
    (({ x with esmc := e } : Plane).judgeRef p 2).esmc = e ∧
    (x.sect.refs[2].enabled = true → x.sect.refs[2].qsrc = .esmc → (({ x with esmc := e } : Plane).judgeRef p 2).ref[2].hql = e.hql) := by
  have J := Plane.judgeRef_judged { x with esmc := e } p 2
  exact ⟨J.esmc, fun on src => (J.hql on).trans (Plane.sourceHql_esmc src)⟩

end Sys2Proof.Machine
end

section
/-! THEOREM. Timecode validity and quality, ESMC quality and time-out. -/

open Sys2Proof Sys2Proof.Machine

theorem timecodeFrame_received (s : State) (p : PlaneId) (tc : Fin 2) (f : IrigFrame) (act : s.hub.active p = true) :
    Completes (.timecodeFrame p tc f) s fun h =>
      let x := s.hub.plane p
      let t := x.tc[tc.val]
      let u := (h.plane p).tc[tc.val]
      (x.tcHeard tc = false → (h.plane p).tc = x.tc ∧ (h.plane p).ref = x.ref) ∧
      (x.tcHeard tc = true → (f.markersOk && f.digitsOk && t.follows f) = true →
        u.valid = true ∧ u.bad = 0 ∧ u.qLast = some f.q ∧ u.qEff = t.qEff ∧
        u.qRun = (if t.qLast = some f.q then t.qRun + 1 else 1) ∧ u.lastTod = some (f.tod (t.yearOf f)) ∧
        u.cand = BitVec.ofInt 32 ((f.tod (t.yearOf f) : Int) -
          ((s.hub.udecl.epochDay * 86400 + s.hub.udecl.epochSec : Nat) : Int)) ∧
        u.secOk = (u.cand == x.markedSec) ∧
        (h.plane p).cnt[18].count = x.cnt[18].count + (if u.secOk = false ∧ x.grid.reg = true then 1 else 0)) ∧
      (x.tcHeard tc = true → (f.markersOk && f.digitsOk && t.follows f) = false →
        u.bad = t.bad + 1 ∧ u.lastTod = none ∧ u.qRun = 0 ∧
        (2 ≤ t.bad → u.valid = false ∧ u.qEff = none) ∧ (t.bad < 2 → u.valid = t.valid ∧ u.qEff = t.qEff)) := by
  refine completes_event (f := fun x => if !x.tcHeard tc then x else
    x.takeTimecode p tc (x.tc[tc.val].frame s.hub.udecl x.markedSec f)) act rfl ?_
  have cnt18 (g : Plane → Plane) : ((s.hub.onPlane p g).plane p).cnt[18] = (g (s.hub.plane p)).cnt[18] :=
    Hub.onPlane_cnt s.hub p g 18 (by decide)
  dsimp only
  rw [Hub.onPlane_plane_ref, Hub.onPlane_plane_tc, cnt18]
  generalize s.hub.plane p = x
  cases heard : x.tcHeard tc with
  | false => exact ⟨fun _ => ⟨rfl, rfl⟩, fun k => (nomatch k), fun k => (nomatch k)⟩
  | true =>
    rw [if_neg (by decide), Plane.takeTimecode_tc]
    refine ⟨fun k => (nomatch k), fun _ ok => ?_, fun _ bad => ?_⟩
    · obtain ⟨c, e, named⟩ := Timecode.frame_valid ok s.hub.udecl x.markedSec
      rw [Plane.takeTimecode_cnt x p tc (by rw [e]), e]
      exact ⟨rfl, rfl, rfl, rfl, rfl, rfl, named, rfl, rfl⟩
    · rw [Timecode.frame_invalid bad]; exact Timecode.badFrame_counts _

theorem timecodeFrameMissing_counts (s : State) (p : PlaneId) (tc : Fin 2) (act : s.hub.active p = true)
    (heard : (s.hub.plane p).tcHeard tc = true) :
    Completes (.timecodeFrameMissing p tc) s fun h =>
      let t := (s.hub.plane p).tc[tc.val]
      let u := (h.plane p).tc[tc.val]
      u.bad = t.bad + 1 ∧ u.lastTod = none ∧ u.qRun = 0 ∧
      (2 ≤ t.bad → u.valid = false ∧ u.qEff = none) ∧ (t.bad < 2 → u.valid = t.valid ∧ u.qEff = t.qEff) := by
  refine completes_event act rfl ?_
  dsimp only
  rw [Hub.onPlane_plane_tc, if_pos heard, (Plane.judgeRef_judged _ p _).tc, upd_get_same]
  exact Timecode.badFrame_counts _

theorem tcQualityEffect_applies (s : State) (p : PlaneId) (tc : Fin 2) (act : s.hub.active p = true) :
    Completes (.tcQualityEffect p tc) s fun h =>
      let x := s.hub.plane p
      let t := x.tc[tc.val]
      (t.valid = true → 3 ≤ t.qRun → (h.plane p).tc[tc.val] = { t with qEff := t.qLast } ∧
        (x.sect.refs[tc.val].enabled = true → x.sect.refs[tc.val].qsrc = .tc → ∀ q ∈ t.qLast,
          (h.plane p).ref[tc.val].hql = qHql x.sect.refs[tc.val].fixedHql q)) ∧
      ((t.valid = false ∨ t.qRun < 3) → (h.plane p).tc = x.tc ∧ (h.plane p).ref = x.ref) := by
  refine completes_event act rfl ?_
  dsimp only
  rw [Hub.onPlane_plane_ref, Hub.onPlane_plane_tc]
  generalize s.hub.plane p = x
  refine ⟨fun valid long => ?_, fun off => ?_⟩
  · have put : (upd x.tc tc fun t => { t with qEff := t.qLast })[tc.val] = { x.tc[tc.val] with qEff := x.tc[tc.val].qLast } :=
      upd_get_same _ _ _
    have J := Plane.judgeRef_judged { x with tc := upd x.tc tc fun t => { t with qEff := t.qLast } } p (Fin.ofNat 4 tc.val)
    rw [if_pos ⟨valid, long⟩, J.tc]
    refine ⟨put, fun on src q last => ?_⟩
    have hql := J.hql (by simpa only [tcRef_val] using on)
    simp only [tcRef_val] at hql
    rw [hql]
    exact Plane.sourceHql_tc src (by rw [put]; exact valid) (by rw [put]; exact last)
  · have short : ¬ (x.tc[tc.val].valid = true ∧ 3 ≤ x.tc[tc.val].qRun) := by
      rintro ⟨valid, long⟩
      rcases off with bad | few
      · exact absurd valid (by rw [bad]; decide)
      · omega
    rw [if_neg short]; exact ⟨rfl, rfl⟩

theorem esmcPduReceived_waits (s : State) (p : PlaneId) (f : EsmcFrame) (act : s.hub.active p = true) :
    Completes (.esmcPduReceived p f) s fun h =>
      let x := s.hub.plane p
      let y := h.plane p
      (x.sect.refs[2].enabled = false → y.esmc = x.esmc ∧ y.cnt[19].count = x.cnt[19].count) ∧
      (x.sect.refs[2].enabled = true → f.valid = true → y.esmc = { x.esmc with pend := some f.ssm, ms := 0 } ∧
        y.cnt[19].count = x.cnt[19].count + (if ssmKnown f.ssm = true then 0 else 1)) ∧
      (x.sect.refs[2].enabled = true → f.valid = false → y.esmc = x.esmc ∧ y.cnt[19].count = x.cnt[19].count + if f.slow = true then 1 else 0) := by
  refine completes_event act rfl ?_
  have cnt19 (g : Plane → Plane) : ((s.hub.onPlane p g).plane p).cnt[19] = (g (s.hub.plane p)).cnt[19] :=
    Hub.onPlane_cnt s.hub p g 19 (by decide)
  have counted (y : Plane) : (y.count 19).cnt[19].count = y.cnt[19].count + 1 :=
    congrArg Counter.count (upd_get_same y.cnt 19 (·.add 1))
  dsimp only
  rw [Hub.onPlane_plane_esmc, cnt19]
  generalize s.hub.plane p = x
  cases on : x.sect.refs[2].enabled with
  | false => exact ⟨fun _ => ⟨rfl, rfl⟩, fun k => (nomatch k), fun k => (nomatch k)⟩
  | true =>
    rw [if_neg (by decide)]
    cases valid : f.valid with
    | true =>
      rw [if_pos rfl]
      refine ⟨fun k => (nomatch k), fun _ _ => ?_, fun _ k => (nomatch k)⟩
      by_cases known : ssmKnown f.ssm = true
      · rw [if_pos known, if_pos known]; exact ⟨rfl, (BitVec.add_zero _).symm⟩
      · rw [if_neg known, if_neg known]; exact ⟨rfl, counted _⟩
    | false =>
      rw [if_neg (by decide)]
      refine ⟨fun k => (nomatch k), fun _ k => (nomatch k), fun _ _ => ?_⟩
      by_cases slow : f.slow = true
      · rw [if_pos slow, if_pos slow]; exact ⟨rfl, counted _⟩
      · rw [if_neg slow, if_neg slow]; exact ⟨rfl, (BitVec.add_zero _).symm⟩

theorem esmcQualityEffect_applies (s : State) (p : PlaneId) (c : BitVec 4) (act : s.hub.active p = true)
    (pend : (s.hub.plane p).esmc.pend = some c) :
    Completes (.esmcQualityEffect p) s fun h =>
      let x := s.hub.plane p
      (h.plane p).esmc = { x.esmc with hql := ssmHql c, pend := none } ∧
      (x.sect.refs[2].enabled = true → x.sect.refs[2].qsrc = .esmc → (h.plane p).ref[2].hql = ssmHql c) := by
  refine completes_event act rfl ?_
  dsimp only
  rw [Hub.onPlane_plane_esmc, Hub.onPlane_plane_ref, pend]
  exact Plane.esmc_inForce (s.hub.plane p) p { (s.hub.plane p).esmc with hql := ssmHql c, pend := none }

theorem esmcTimeout_fails (s : State) (p : PlaneId) (act : s.hub.active p = true) :
    Completes (.esmcTimeout p) s fun h =>
      let x := s.hub.plane p
      (h.plane p).esmc = { x.esmc with hql := 0, pend := none } ∧
      (x.sect.refs[2].enabled = true → x.sect.refs[2].qsrc = .esmc → (h.plane p).ref[2].hql = 0) := by
  refine completes_event act rfl ?_
  dsimp only
  rw [Hub.onPlane_plane_esmc, Hub.onPlane_plane_ref]
  exact Plane.esmc_inForce (s.hub.plane p) p { (s.hub.plane p).esmc with hql := 0, pend := none }

/-- Settles O23: a message sets its receiver, which judging the reference keeps, and the reference takes the HQL its receiver then gives. -/
theorem qualityFollowsItsMessages : Obligations.QualityFollowsItsMessages :=
  ⟨⟨timecodeFrame_received, timecodeFrameMissing_counts, tcQualityEffect_applies⟩,
    esmcPduReceived_waits, esmcQualityEffect_applies, esmcTimeout_fails⟩

end

section
/-! SUPPORT. What the selection tick, a change of the loop's state and a commit of the pending switch do. -/

namespace Sys2Proof.Machine

/-! ### The selection tick -/

/-- The mode, the loop and the oven gate let a switch start, and none is pending (R68, R69, R86, R450). -/
def Plane.mayStart (x : Plane) : Bool := x.sel.sw.isNone && !x.inHusk && !x.loop.forced && x.oven.gate && !x.reloading

/-- AUTO's choice r calls for a switch: there is no active reference, revertive operation leaves it for another, or it is no candidate or
a worse one (R66). -/
def Plane.calls (x : Plane) (r : Fin 4) : Bool :=
  match x.sel.active with
  | none => true
  | some a => if x.sel.revert then r != a else !x.ref[a.val].candidate || decide (x.ref[r.val].hql < x.ref[a.val].hql)

/-- The reference to which a selection tick that may start a switch starts one (R66, R68). -/
def Plane.tickTarget (x : Plane) : Option (Fin 4) :=
  match x.sel.mode with
  | .hold => none
  | .forced => if x.ref[x.sel.fref.val].usable && x.sel.active != some x.sel.fref then some x.sel.fref else none
  | .auto => x.best.filter fun r => x.calls r && !x.barred r
  | .soft => x.best.filter fun r => x.calls r && !x.barred r

/-- A switch to r at its start: its measurement takes 12,500 frames (R73). -/
def Switch.toward (r : Fin 4) : Switch := { target := r, left := 12500 }

/-- The selection tick notes AUTO's choice, and starts a switch to its target where one may start. -/
theorem Plane.tick_eq (x : Plane) : x.tick = { x with
    sel := { x.sel with auto := x.best, sw := if x.mayStart then x.tickTarget.map Switch.toward else x.sel.sw } } := by
  have gate : (x.sel.sw.isSome || x.inHusk || x.loop.forced || !x.oven.gate || x.reloading) = !x.mayStart := by
    unfold Plane.mayStart
    cases x.sel.sw <;> cases x.inHusk <;> cases x.loop.forced <;> cases x.oven.gate <;> cases x.reloading <;> rfl
  cases may : x.mayStart with
  | false => exact (if_pos (gate.trans (by rw [may]; rfl))).trans rfl
  | true =>
    have none : x.sel.sw = none := by
      cases sw : x.sel.sw with
      | none => rfl
      | some w => rw [Plane.mayStart, sw] at may; cases may
    refine (if_neg (ne_true_of_eq_false (gate.trans (by rw [may]; rfl)))).trans ?_
    unfold Plane.tickTarget
    dsimp only
    cases x.sel.mode
    case hold => dsimp only; rw [none]; rfl
    case forced =>
      dsimp only
      cases x.ref[x.sel.fref.val].usable && x.sel.active != some x.sel.fref
      · rw [none]; rfl
      · rfl
    all_goals
      cases x.best with
      | none => rw [none]; rfl
      | some r =>
        rw [Option.filter_some]
        show (if (x.calls r && !x.barred r) = true then _ else _) = _
        cases x.calls r && !x.barred r
        · rw [none]; rfl
        · rfl

theorem Plane.tick_held {x : Plane} (held : x.mayStart = false) : x.tick.sel.sw = x.sel.sw := by
  rw [Plane.tick_eq, held]; rfl

theorem Plane.tick_starts {x : Plane} (may : x.mayStart = true) : x.tick.sel.sw = x.tickTarget.map Switch.toward := by
  rw [Plane.tick_eq, may]; rfl

theorem Plane.tickTarget_hold {x : Plane} (mode : x.sel.mode = .hold) : x.tickTarget = none := by
  rw [Plane.tickTarget, mode]

theorem Plane.tickTarget_forced {x : Plane} (mode : x.sel.mode = .forced) :
    x.tickTarget = if x.ref[x.sel.fref.val].usable = true ∧ x.sel.active ≠ some x.sel.fref then some x.sel.fref else none := by
  rw [Plane.tickTarget, mode]
  simp only [Bool.and_eq_true, bne_iff_ne]

theorem Plane.tickTarget_auto {x : Plane} (mode : x.sel.mode = .auto ∨ x.sel.mode = .soft) {r : Fin 4} (choice : x.best = some r) :
    x.tickTarget = if x.calls r = true ∧ x.barred r = false then some r else none := by
  rw [Plane.tickTarget, choice]
  rcases mode with k | k <;> rw [k] <;>
    simp only [Option.filter_some, Bool.and_eq_true, Bool.not_eq_true']

theorem Plane.tickTarget_idle {x : Plane} (mode : x.sel.mode = .auto ∨ x.sel.mode = .soft) (idle : x.best = none) :
    x.tickTarget = none := by
  rw [Plane.tickTarget, idle]
  rcases mode with k | k <;> rw [k] <;> rfl

theorem Plane.calls_none {x : Plane} (alone : x.sel.active = none) (r : Fin 4) : x.calls r = true := by
  rw [Plane.calls, alone]

theorem Plane.calls_some {x : Plane} {a : Fin 4} (active : x.sel.active = some a) (r : Fin 4) :
    x.calls r = true ↔ (x.sel.revert = true ∧ r ≠ a) ∨
      (x.sel.revert = false ∧ (x.ref[a.val].candidate = false ∨ x.ref[r.val].hql < x.ref[a.val].hql)) := by
  rw [Plane.calls, active]
  cases x.sel.revert <;> simp

/-! ### A change of the loop's state -/

theorem bitAt_or {n : Nat} {h : BitVec n} {b : Nat} (k : BitVec n) (set : bitAt h b = true) : bitAt (h ||| k) b = true := by
  unfold bitAt at *; rw [BitVec.getLsbD_or, set, Bool.true_or]

theorem Plane.history_eq (x : Plane) (b : Nat) : x.history b = { x with
    phist := x.phist ||| (1#12 <<< b), phistNow := (x.history b).phistNow, raised := (x.history b).raised } := by
  obtain ⟨n, r, e⟩ := Plane.history_only x b
  rw [e]

theorem Plane.loopSources_src (x : Plane) (n : Fin 64) (a : n ≠ 9) (b : n ≠ 12) (c : n ≠ 15) :
    x.loopSources.flt.src[n.val] = x.flt.src[n.val] := by
  unfold Plane.loopSources; dsimp only
  rw [Plane.setDet_src_ne _ _ (Ne.symm c), Plane.setDet_src_ne _ _ (Ne.symm b), Plane.setDet_src_ne _ _ (Ne.symm a)]

/-- A change of the loop's state keeps the residual, the step and what steers the loop; it adds to the history, and judges sources 9, 12
and 15 (R82, R85, R102, R106). -/
theorem Plane.setLoop_only (x : Plane) (st : LoopState) :
    ∃ ev rl al ws la eb g h n r f, x.setLoop st = { x with
        loop := { x.loop with
          state := st, inLoop := st.inLoop, everIn := ev, lockRun := 0, unlockRun := 0, relock := rl, acqLate := al, wholeSec := ws
          lockAt := la, effbw := eb }
        grid := g, phist := h, phistNow := n, raised := r, flt := f } ∧
      (∀ b, bitAt x.phist b = true → bitAt h b = true) ∧
      ∀ n : Fin 64, n ≠ 9 → n ≠ 12 → n ≠ 15 → f.src[n.val] = x.flt.src[n.val] := by
  unfold Plane.setLoop; dsimp only
  by_cases opens : st = .locked ∧ x.grid.reg = false
  · rw [if_pos opens]
    by_cases same : x.loop.state = st
    · rw [if_pos same]
      exact ⟨_, _, _, _, _, _, _, _, _, _, _, rfl, fun _ k => k, fun n => Plane.loopSources_src _ n⟩
    · rw [if_neg same, Plane.history_eq]
      exact ⟨_, _, _, _, _, _, _, _, _, _, _, rfl, fun _ k => bitAt_or _ k, fun n => Plane.loopSources_src _ n⟩
  · rw [if_neg opens]
    by_cases same : x.loop.state = st
    · rw [if_pos same]
      exact ⟨_, _, _, _, _, _, _, _, _, _, _, rfl, fun _ k => k, fun n => Plane.loopSources_src _ n⟩
    · rw [if_neg same, Plane.history_eq]
      exact ⟨_, _, _, _, _, _, _, _, _, _, _, rfl, fun _ k => bitAt_or _ k, fun n => Plane.loopSources_src _ n⟩

/-- The state in which the commit of a switch leaves the loop, by the step's frequency difference in units of 1e-9 (R82, R94). -/
def LoopState.afterCommit (st : LoopState) (dfreq : Int) : LoopState :=
  match st with
  | .free => .acquire
  | .acquire => .acquire
  | .locked => if dfreq.natAbs ≤ 10 then .locked else .acquire
  | .ember => if dfreq.natAbs ≤ 10 then .locked else .acquire
  | .soft => .soft
  | .husk => .husk

/-- Plane y is x after a commit has acted on its loop: the step enters the residual outside SOFT, and the loop goes on (R82, R92). -/
structure Committed (x : Plane) (d dfreq : Int) (y : Plane) : Prop where
  frame : y = { x with
    loop := y.loop, grid := y.grid, phist := y.phist, phistNow := y.phistNow, raised := y.raised, flt := y.flt }
  state : y.loop.state = x.loop.state.afterCommit dfreq
  step : y.loop.step = x.loop.step
  resid : x.loop.state ≠ .soft → y.loop.resid = x.loop.resid + d
  phist : ∀ b, bitAt x.phist b = true → bitAt y.phist b = true
  src : ∀ n : Fin 64, n ≠ 9 → n ≠ 12 → n ≠ 15 → y.flt.src[n.val] = x.flt.src[n.val]

theorem Plane.commitLoop_committed (x : Plane) (step dfreq : Int) : Committed x step dfreq (x.commitLoop step dfreq) := by
  have moved (st : LoopState) (go : st = x.loop.state.afterCommit dfreq) : Committed x step dfreq
      (({ x with loop := { x.loop with resid := x.loop.resid + step } } : Plane).setLoop st) := by
    obtain ⟨ev, rl, al, ws, la, eb, g, h, n, r, f, e, hist, src⟩ :=
      Plane.setLoop_only { x with loop := { x.loop with resid := x.loop.resid + step } } st
    rw [e]; exact ⟨rfl, go, rfl, fun _ => rfl, hist, src⟩
  unfold Plane.commitLoop
  by_cases soft : x.loop.state = .soft
  · rw [if_pos soft]
    exact ⟨rfl, by rw [soft]; rfl, rfl, fun k => absurd soft k, fun _ k => k, fun _ _ _ _ => rfl⟩
  · rw [if_neg soft]
    have stays (husk : x.loop.state = .husk) : Committed x step dfreq { x with loop := { x.loop with resid := x.loop.resid + step } } :=
      ⟨rfl, by rw [husk]; rfl, rfl, fun _ => rfl, fun _ k => k, fun _ _ _ _ => rfl⟩
    have near (state : x.loop.state = .locked ∨ x.loop.state = .ember) :
        x.loop.state.afterCommit dfreq = if dfreq.natAbs ≤ 10 then .locked else .acquire := by
      rcases state with k | k <;> rw [k] <;> rfl
    dsimp only
    split
    next state => exact moved _ (by rw [state]; rfl)
    next state => exact moved _ (by rw [state]; rfl)
    next state =>
      rw [← apply_ite (Plane.setLoop _)]; exact moved _ (near (.inl state)).symm
    next state =>
      rw [← apply_ite (Plane.setLoop _)]; exact moved _ (near (.inr state)).symm
    next state => exact absurd state soft
    next state => exact stays state

/-! ### The commit -/

/-- What a commit notes before the loop goes on from it: the record, the count, the new active reference, the step, its history bit, and
source 13 where the step is beyond its tolerance (R75, R78, R85). -/
def Plane.noteCommit (x : Plane) (p : PlaneId) (target : Fin 4) (st : Int) : Plane :=
  let y := (x.switchRec p 0x02 target st).count 14
  let y := { y with
    sel := { y.sel with active := some target, sw := none }
    loop := { y.loop with step := some st } }
  let y := y.history 6
  if x.sect.stepTol < st.natAbs then y.fireEvent 13 else y

theorem Plane.fireEvent_eq (x : Plane) (n : Fin 64) : x.fireEvent n = { x with flt := (x.fireEvent n).flt } := by
  obtain ⟨c, f, e, -⟩ := Plane.fireEvent_only x n
  rw [e]

theorem Plane.fireEvent_live (x : Plane) (n : Fin 64) : (x.fireEvent n).flt.src[n.val].live = true := by
  obtain ⟨c, f, e, live⟩ := Plane.fireEvent_only x n
  rw [e]; simp [live]

theorem Plane.noteCommit_notes (x : Plane) (p : PlaneId) (target : Fin 4) (st : Int) :
    let y := x.noteCommit p target st
    y.sel = { x.sel with active := some target, sw := none } ∧ y.loop = { x.loop with step := some st } ∧
    bitAt y.phist 6 = true ∧ y.cnt[14].count = x.cnt[14].count + 1 ∧ (x.sect.stepTol < st.natAbs → y.flt.src[13].live = true) := by
  obtain ⟨o, c, rec, kept⟩ := Plane.switchRec_only x p 0x02 target st
  have counted : ((upd c 14 (·.add 1))[14]).count = x.cnt[14].count + 1 :=
    (congrArg Counter.count (upd_get_same c 14 (·.add 1))).trans (congrArg (fun k : Counter => k.count + 1) (kept 14 (by decide)))
  have marked (h : BitVec 12) : bitAt (h ||| (1#12 <<< 6)) 6 = true := by simp [bitAt]
  unfold Plane.noteCommit
  dsimp only
  rw [rec, Plane.history_eq]
  by_cases far : x.sect.stepTol < st.natAbs
  · rw [if_pos far, Plane.fireEvent_eq]
    exact ⟨rfl, rfl, marked _, counted, fun _ => Plane.fireEvent_live _ 13⟩
  · rw [if_neg far]
    exact ⟨rfl, rfl, marked _, counted, fun k => absurd k far⟩

/-- In the frame that ends its measurement a switch commits to a qualified target that is not held out (R75 to R78). -/
theorem Plane.commitSwitch_commits {x : Plane} {w : Switch} (pending : x.sel.sw = some w) (ended : w.left = 0)
    (free : x.paused = false) (good : x.ref[w.target.val].state = .qualified) (kept : x.ref[w.target.val].heldOut = false)
    (p : PlaneId) (step dfreq : Int) :
    let st := phaseOf (x.inputType w.target) step
    x.commitSwitch p step dfreq = ((x.noteCommit p w.target st).commitLoop st dfreq).refreshBw := by
  unfold Plane.commitSwitch
  rw [pending]; dsimp only
  rw [if_neg (not_not_intro ended), if_neg (by rw [free]; decide), if_pos ⟨good, kept⟩]
  rfl

/-- A hold defers the commit (R77). -/
theorem Plane.commitSwitch_defers {x : Plane} {w : Switch} (pending : x.sel.sw = some w) (ended : w.left = 0) (held : x.paused = true)
    (p : PlaneId) (step dfreq : Int) :
    x.commitSwitch p step dfreq = { x with sel := { x.sel with sw := some { w with deferred := true } } } := by
  unfold Plane.commitSwitch
  rw [pending]; dsimp only
  rw [if_neg (not_not_intro ended), if_pos held]

/-- A switch whose target is not qualified or is held out is abandoned (R76, R79). -/
theorem Plane.commitSwitch_abandons {x : Plane} {w : Switch} (pending : x.sel.sw = some w) (ended : w.left = 0)
    (free : x.paused = false) (bad : x.ref[w.target.val].state ≠ .qualified ∨ x.ref[w.target.val].heldOut = true)
    (p : PlaneId) (step dfreq : Int) : x.commitSwitch p step dfreq = x.abandonSwitch p := by
  unfold Plane.commitSwitch
  rw [pending]; dsimp only
  rw [if_neg (not_not_intro ended), if_neg (by rw [free]; decide), if_neg]
  rintro ⟨good, kept⟩
  exact bad.elim (fun k => k good) fun k => by rw [kept] at k; cases k

/-- No switch is pending in Husk, in mode HOLD or with Ember forced. -/
theorem Plane.running_of_pending {x : Plane} (fits : SwitchFits x) {w : Switch} (pending : x.sel.sw = some w) :
    x.loop.state ≠ .husk ∧ x.sel.mode ≠ .hold ∧ x.loop.forced = false := by
  have free : ¬ (x.loop.state = .husk ∨ x.sel.mode = .hold ∨ x.loop.forced = true ∨ x.reloading = true ∨ x.clocked = false) := fun k => by
    rw [fits k] at pending; cases pending
  simp only [not_or, Bool.not_eq_true] at free
  exact ⟨free.1, free.2.1, free.2.2.1⟩

theorem Hub.settleMove_plane (h : Hub) (p q : PlaneId) : (h.settleMove p).plane q = h.plane q := by
  unfold Hub.settleMove; split <;> rfl

end Sys2Proof.Machine
end

section
/-! THEOREM. The selection tick and the commit of a switch. -/

open Sys2Proof Sys2Proof.Machine

theorem selectionTick_starts (s : State) (p : PlaneId) (act : s.hub.active p = true) :
    Completes (.selectionTick p) s fun h =>
      let x := s.hub.plane p
      let y := h.plane p
      let may := x.sel.sw.isNone && !x.inHusk && !x.loop.forced && x.oven.gate && !x.reloading
      y.sel.auto = x.best ∧ y.sel.active = x.sel.active ∧ y.loop = x.loop ∧
      (may = false → y.sel.sw = x.sel.sw) ∧
      (may = true → x.sel.mode = .hold → y.sel.sw = none) ∧
      (may = true → x.sel.mode = .forced → y.sel.sw =
        if x.ref[x.sel.fref.val].usable = true ∧ x.sel.active ≠ some x.sel.fref then
          some { target := x.sel.fref, left := 12500 } else none) ∧
      (may = true → (x.sel.mode = .auto ∨ x.sel.mode = .soft) →
        (x.best = none → y.sel.sw = none) ∧
        ∀ r ∈ x.best,
          (x.sel.active = none → x.barred r = false → y.sel.sw = some { target := r, left := 12500 }) ∧
          (x.barred r = true → y.sel.sw = none) ∧
          ∀ a ∈ x.sel.active, x.barred r = false → y.sel.sw =
            if (x.sel.revert = true ∧ r ≠ a) ∨ (x.sel.revert = false ∧
              (x.ref[a.val].candidate = false ∨ x.ref[r.val].hql < x.ref[a.val].hql)) then
              some { target := r, left := 12500 } else none) := by
  refine completes_event act rfl ?_
  dsimp only
  rw [Hub.onPlane_plane_sel, Hub.onPlane_plane_loop]
  refine ⟨by rw [Plane.tick_eq], by rw [Plane.tick_eq], by rw [Plane.tick_eq], Plane.tick_held, fun may mode => ?_, fun may mode => ?_,
    fun may mode => ⟨fun idle => ?_, fun r choice => ⟨fun alone clear => ?_, fun bars => ?_, fun a active clear => ?_⟩⟩⟩
  all_goals refine (Plane.tick_starts may).trans ?_
  · rw [Plane.tickTarget_hold mode]; rfl
  · rw [Plane.tickTarget_forced mode, apply_ite (Option.map Switch.toward)]; rfl
  · rw [Plane.tickTarget_idle mode idle]; rfl
  · rw [Plane.tickTarget_auto mode choice, if_pos ⟨Plane.calls_none alone r, clear⟩]; rfl
  · rw [Plane.tickTarget_auto mode choice, if_neg fun k => by rw [bars] at k; cases k.2]; rfl
  · rw [Plane.tickTarget_auto mode choice, apply_ite (Option.map Switch.toward)]
    refine if_congr ?_ rfl rfl
    rw [← Plane.calls_some active]; exact and_iff_left clear

theorem completes_switchCommit {s : State} {p : PlaneId} {step dfreq : Int} {P : Hub → Prop} (act : s.hub.active p = true)
    (k : P ((s.hub.onPlane p fun x => x.commitSwitch p step dfreq).settleMove p)) : Completes (.switchCommit p step dfreq) s P :=
  ⟨_, rfl, by rwa [Hub.event_eq act]⟩

theorem switchCommit_commits (s : State) (p : PlaneId) (step dfreq : Int) (w : Switch) (act : s.hub.active p = true)
    (pending : (s.hub.plane p).sel.sw = some w) (ended : w.left = 0) (fits : SwitchFits (s.hub.plane p))
    (free : (s.hub.plane p).paused = false) (good : (s.hub.plane p).ref[w.target.val].state = .qualified)
    (kept : (s.hub.plane p).ref[w.target.val].heldOut = false) :
    Completes (.switchCommit p step dfreq) s fun h =>
      let x := s.hub.plane p
      let y := h.plane p
      let st := phaseOf (x.inputType w.target) step
      y.sel.active = some w.target ∧ y.sel.sw = none ∧ y.loop.step = some st ∧ bitAt y.phist 6 = true ∧
      y.cnt[14].count = x.cnt[14].count + 1 ∧
      (x.loop.state ≠ .soft → y.loop.resid = x.loop.resid + st) ∧
      (x.sect.stepTol < st.natAbs → y.flt.src[13].live = true) ∧
      x.loop.state ≠ .husk ∧ x.sel.mode ≠ .hold ∧ x.loop.forced = false ∧
      (x.loop.state = .free ∨ x.loop.state = .acquire → y.loop.state = .acquire) ∧
      (x.loop.state = .locked ∨ x.loop.state = .ember →
        y.loop.state = if dfreq.natAbs ≤ 10 then .locked else .acquire) ∧
      (x.loop.state = .soft → y.loop.state = .soft) := by
  refine completes_switchCommit act ?_
  have cnt14 (g : Plane → Plane) : ((s.hub.onPlane p g).plane p).cnt[14] = (g (s.hub.plane p)).cnt[14] :=
    Hub.onPlane_cnt s.hub p g 14 (by decide)
  dsimp only
  rw [Hub.settleMove_plane, Hub.onPlane_plane_sel, Hub.onPlane_plane_loop, Hub.onPlane_plane_phist, Hub.onPlane_plane_flt, cnt14]
  generalize s.hub.plane p = x at pending fits free good kept ⊢
  rw [Plane.commitSwitch_commits pending ended free good kept]
  generalize phaseOf (x.inputType w.target) step = st
  obtain ⟨sel, loop, noted, counted, fired⟩ := Plane.noteCommit_notes x p w.target st
  obtain ⟨frame, state, stepped, resid, hist, src⟩ := Plane.commitLoop_committed (x.noteCommit p w.target st) st dfreq
  rw [loop] at state stepped resid
  have sel' : ((x.noteCommit p w.target st).commitLoop st dfreq).sel = _ := (congrArg Plane.sel frame).trans sel
  have cnt' : ((x.noteCommit p w.target st).commitLoop st dfreq).cnt[14] = _ := congrArg (fun y : Plane => y.cnt[14]) frame
  obtain ⟨awake, released, free⟩ := Plane.running_of_pending fits pending
  refine ⟨congrArg Select.active sel', congrArg Select.sw sel', stepped, hist 6 noted, (congrArg Counter.count cnt').trans counted,
    resid, fun far => ?_, awake, released, free, fun k => ?_, fun k => ?_, fun k => ?_⟩
  · exact (congrArg Src.live (src 13 (by decide) (by decide) (by decide))).trans (fired far)
  · rcases k with k | k <;> exact state.trans (by rw [k]; rfl)
  · rcases k with k | k <;> exact state.trans (by rw [k]; rfl)
  · exact state.trans (by rw [k]; rfl)

theorem switchCommit_abandons (s : State) (p : PlaneId) (step dfreq : Int) (w : Switch) (act : s.hub.active p = true)
    (pending : (s.hub.plane p).sel.sw = some w) (ended : w.left = 0) (free : (s.hub.plane p).paused = false)
    (bad : (s.hub.plane p).ref[w.target.val].state ≠ .qualified ∨ (s.hub.plane p).ref[w.target.val].heldOut = true) :
    Completes (.switchCommit p step dfreq) s fun h =>
      (h.plane p).sel.sw = none ∧ (h.plane p).loop = (s.hub.plane p).loop ∧
      (h.plane p).sel.active = (s.hub.plane p).sel.active ∧
      (h.plane p).cnt[15].count = (s.hub.plane p).cnt[15].count + 1 := by
  refine completes_switchCommit act ?_
  have cnt15 (g : Plane → Plane) : ((s.hub.onPlane p g).plane p).cnt[15] = (g (s.hub.plane p)).cnt[15] :=
    Hub.onPlane_cnt s.hub p g 15 (by decide)
  obtain ⟨o, c, e, count, -⟩ := Plane.abandonSwitch_only pending p
  rw [Hub.settleMove_plane, Hub.onPlane_plane_sel, Hub.onPlane_plane_loop, cnt15,
    Plane.commitSwitch_abandons pending ended free bad, e]
  exact ⟨rfl, rfl, rfl, congrArg Counter.count count⟩

theorem switchCommit_defers (s : State) (p : PlaneId) (step dfreq : Int) (w : Switch) (act : s.hub.active p = true)
    (pending : (s.hub.plane p).sel.sw = some w) (ended : w.left = 0) (held : (s.hub.plane p).paused = true) :
    Completes (.switchCommit p step dfreq) s fun h =>
      (h.plane p).sel.sw = some { w with deferred := true } ∧ (h.plane p).loop = (s.hub.plane p).loop ∧
      (h.plane p).sel.active = (s.hub.plane p).sel.active := by
  refine completes_switchCommit act ?_
  rw [Hub.settleMove_plane, Hub.onPlane_plane_sel, Hub.onPlane_plane_loop, Plane.commitSwitch_defers pending ended held]
  exact ⟨rfl, rfl, rfl⟩

/-- Settles O24: the tick starts a switch to its target alone, and the commit of a pending one notes its step before the loop goes on, is
deferred by a hold, or gives way to an abandonment. -/
theorem switchesStartAndCommit : Obligations.SwitchesStartAndCommit :=
  ⟨selectionTick_starts, switchCommit_commits,
    fun s p step dfreq w act pending ended _ free bad => switchCommit_abandons s p step dfreq w act pending ended free bad,
    fun s p step dfreq w act pending ended _ held => switchCommit_defers s p step dfreq w act pending ended held⟩

end

section
/-! SUPPORT. What the operations of a frame, a second, a millisecond and the references leave of the loop: most keep it whole, and those
that move it keep its state in Husk. -/

namespace Sys2Proof.Machine

theorem Plane.foldl_loop {α : Type} {f : Plane → α → Plane} (keeps : ∀ z a, (f z a).loop = z.loop) (l : List α) (x : Plane) :
    (l.foldl f x).loop = x.loop :=
  List.foldlRecOn (motive := fun z : Plane => z.loop = x.loop) l f rfl fun z hz a _ => (keeps z a).trans hz

section
variable (x : Plane) (p : PlaneId)

/-! ### Operations that keep the loop -/

@[simp] theorem Plane.abandonSwitch_loop : (x.abandonSwitch p).loop = x.loop := by
  obtain ⟨w, o, c, e, -⟩ := SwitchOnly.abandonSwitch x p
  rw [e]

@[simp] theorem Plane.refsChanged_loop : (x.refsChanged p).loop = x.loop := by
  obtain ⟨m, d, w, f, o, c, e, -⟩ := Plane.refsChanged_only x p
  rw [e]

theorem Judged.loop {x y : Plane} {r : Fin 4} {cur : Ref} (h : Judged x r cur y) : y.loop = x.loop := (congrArg Plane.loop h.frame :)

@[simp] theorem Plane.judgeRef_loop (r : Fin 4) : (x.judgeRef p r).loop = x.loop := (Plane.judgeRef_judged x p r).loop
@[simp] theorem Plane.modRef_loop (r : Fin 4) (f : Ref → Ref) : (x.modRef p r f).loop = x.loop := Plane.judgeRef_loop _ p r

@[simp] theorem Plane.takeTimecode_loop (tc : Fin 2) (t : Timecode) : (x.takeTimecode p tc t).loop = x.loop := by
  unfold Plane.takeTimecode; dsimp only
  rw [Plane.judgeRef_loop]; split <;> rfl

@[simp] theorem Plane.tick_loop : x.tick.loop = x.loop := by rw [Plane.tick_eq]

@[simp] theorem Plane.followCross_loop (hql : Nat) : (x.followCross p hql).loop = x.loop := by
  unfold Plane.followCross; dsimp only
  split
  · split <;> simp
  · rfl

@[simp] theorem Plane.refSecond_loop (freq : Vector Int 4) : (x.refSecond p freq).loop = x.loop := by
  have pair (z : Plane) (q : Fin 4 × Fin 4) : (z.judgePair q).loop = z.loop := by
    unfold Plane.judgePair; dsimp only; (repeat' split) <;> rfl
  unfold Plane.refSecond; dsimp only
  rw [Plane.refsChanged_loop, Plane.foldl_loop pair]

@[simp] theorem Plane.noteRealign_loop : x.noteRealign.loop = x.loop := by unfold Plane.noteRealign; split <;> rfl
@[simp] theorem Plane.linkSources_loop : x.linkSources.loop = x.loop := rfl
@[simp] theorem Plane.loopSources_loop : x.loopSources.loop = x.loop := rfl
@[simp] theorem Plane.countVcob_loop (n : Nat) : (x.countVcob n).loop = x.loop := rfl
@[simp] theorem Plane.countSwitch_loop : x.countSwitch.loop = x.loop := rfl
@[simp] theorem Plane.startWaiting_loop : x.startWaiting.loop = x.loop := rfl
@[simp] theorem Plane.rateInterval_loop (second : Bool) : (x.rateInterval second).loop = x.loop := rfl
@[simp] theorem Plane.sendSlot0_loop (base : Nat) : (x.sendSlot0 base).loop = x.loop := by simp only [Plane.sendSlot0]
@[simp] theorem Plane.evalDamper_loop : x.evalDamper.loop = x.loop := by simp only [Plane.evalDamper]
@[simp] theorem Plane.latchGroup_loop : x.latchGroup.loop = x.loop := by simp only [Plane.latchGroup]
@[simp] theorem Plane.clearOvf_loop (cap : Plane) : (x.clearOvf cap).loop = x.loop := by simp only [Plane.clearOvf]
@[simp] theorem Plane.tails_loop : x.tails.loop = x.loop := by simp only [Plane.tails, Plane.setDet_loop]

@[simp] theorem Plane.enterLink_loop (l : Fin 32) (st : LinkState) : (x.enterLink l st).loop = x.loop := by
  unfold Plane.enterLink; dsimp only
  have requested (y : Plane) : ((List.finRange 32).foldl (fun (z : Plane) g =>
      if z.sect.groups[g.val].declared && z.sect.groups[g.val].autohold && bitAt z.sect.groups[g.val].links l.val && z.power == .run
      then z.requestHold g else z) y).loop = y.loop := Plane.foldl_loop (fun z g => by split <;> rfl) _ y
  split
  · rw [requested]; split <;> rfl
  · split <;> rfl

@[simp] theorem Plane.applyPending_loop : x.applyPending.loop = x.loop := by
  unfold Plane.applyPending; split
  · rfl
  · rw [Plane.linkSources_loop]
    exact Plane.foldl_loop (fun z l => by split <;> simp) _ x

@[simp] theorem Plane.isolateMore_loop : x.isolateMore.loop = x.loop := by
  have links (z : Plane) (n : Fin 3) : (z.isolateLinks n).loop = z.loop := by simp only [Plane.isolateLinks]
  have inputs (z : Plane) : z.disableInputs.loop = z.loop := rfl
  simp only [Plane.isolateMore, apply_ite Plane.loop, links, inputs, ite_self]

@[simp] theorem Plane.endEvents_loop : x.endEvents.loop = x.loop := by
  unfold Plane.endEvents
  exact Plane.foldl_loop (fun z n => by split <;> rfl) _ x

@[simp] theorem Plane.applyDelays_loop : x.applyDelays.loop = x.loop := by unfold Plane.applyDelays; split <;> rfl
@[simp] theorem Plane.fineMoves_loop : x.fineMoves.loop = x.loop := by unfold Plane.fineMoves; split <;> rfl
@[simp] theorem Plane.releaseEarly_loop : x.releaseEarly.loop = x.loop := by unfold Plane.releaseEarly; split <;> rfl

@[simp] theorem Plane.elapse_loop (k : Nat) : (x.elapse k).loop = x.loop := by
  obtain ⟨f, c, l, g, a, o, t, e, -, -⟩ := Plane.elapse_only x k
  rw [e]

@[simp] theorem Plane.resample_loop : x.resample.loop = x.loop := by
  unfold Plane.resample; dsimp only
  simp only [Plane.setDet_loop, Plane.linkSources_loop]
  rw [Plane.foldl_loop fun z n => by rfl]
  simp only [Plane.setDet_loop, Plane.loopSources_loop]
  exact Plane.foldl_loop (fun z i => by rfl) _ x

@[simp] theorem Plane.senseAll_loop (t : Vector TermSense 20) : (x.senseAll t).loop = x.loop := by
  have source (z : Plane) (n : Fin 64) (bad good : Nat) : (z.senseSource n bad good).loop = z.loop := by
    unfold Plane.senseSource; (repeat' split) <;> rfl
  unfold Plane.senseAll
  refine Plane.foldl_loop (fun z o => ?_) _ x
  unfold Plane.senseOut; dsimp only
  split
  · rfl
  · split <;> split <;> simp only [source]

@[simp] theorem Plane.linksMs_loop (rtt : Vector (Option Int) 32) : (x.linksMs rtt).loop = x.loop := by
  have reading (z : Plane) (l : Fin 32) (r : Option Int) : (z.rttReading l r).loop = z.loop := by
    unfold Plane.rttReading; dsimp only; (repeat' split) <;> rfl
  have read : ((List.finRange 32).foldl (fun (z : Plane) l => z.rttReading l rtt[l.val]) x).loop = x.loop :=
    Plane.foldl_loop (fun z l => reading z l _) _ x
  simp only [Plane.linksMs, Plane.linkSources_loop, read]

@[simp] theorem Plane.tiMs_loop (t : Vector TiSense 16) : (x.tiMs t).loop = x.loop := by
  have judged (z : Plane) (i : Fin 16) (s : TiSense) : (z.judgeTi i s).loop = z.loop := by
    unfold Plane.judgeTi; dsimp only; (repeat' split) <;> rfl
  unfold Plane.tiMs; dsimp only
  rw [Plane.setDet_loop]
  exact Plane.foldl_loop (fun z i => judged z i _) _ x

end

/-! ### Operations that keep the loop's state and its mark -/

/-- Plane x is in Husk, with no reference in the loop. -/
def Plane.Husked (x : Plane) : Prop := x.loop.state = .husk ∧ x.loop.inLoop = false

section
variable {x y : Plane} {p : PlaneId}

theorem Plane.Husked.of_loop (same : y.loop = x.loop) (h : x.Husked) : y.Husked := by
  unfold Plane.Husked; rw [same]; exact h

theorem Plane.Husked.noActive (h : x.Husked) : x.noActive.Husked := h

theorem Plane.Husked.steerHeld (h : x.Husked) : x.steerHeld.Husked := by
  unfold Plane.steerHeld; split <;> exact h

/-- Without a reference in the loop the slew stands (R93). -/
theorem Plane.Husked.slewFrame (h : x.Husked) : x.slewFrame.Husked := by
  have stands : (x.paused || !x.loop.inLoop) = true := by rw [h.2]; simp
  unfold Plane.slewFrame; rw [if_pos stands]; exact h

/-- An active reference that no longer serves is dropped; the loop stays in Husk, since that reference was not in it (R69, R82). -/
theorem Plane.Husked.dropActive (h : x.Husked) (v : Int) : (x.dropActive p v).Husked := by
  unfold Plane.dropActive; split
  · exact h
  · split
    · exact h
    · rw [h.2]; exact h.noActive

/-- SOFT resumes from EMBER and FREE alone (R82). -/
theorem Plane.Husked.resumeSoft (h : x.Husked) : (x.resumeSoft p).Husked := by
  have stays : ¬ (x.sel.mode = .soft ∧ (x.loop.state = .ember ∨ x.loop.state = .free) ∧ x.loop.forced = false ∧
      x.clocked = true ∧ x.reloading = false) := by
    rintro ⟨-, k | k, -⟩ <;> rw [h.1] at k <;> cases k
  unfold Plane.resumeSoft; rw [if_neg stays]; exact h

theorem Plane.Husked.loopSecond (h : x.Husked) (v : Int) : (x.loopSecond v).Husked := by
  unfold Plane.loopSecond; dsimp only; split
  · exact Plane.Husked.steerHeld h
  · exact h

theorem Plane.judgeLock_husk (husk : x.loop.state = .husk) (phase : Int) : x.judgeLock phase = x := by
  unfold Plane.judgeLock; dsimp only; rw [husk]

theorem Plane.Husked.phaseMs (h : x.Husked) (mean : Int) : (x.phaseMs mean).Husked := by
  unfold Plane.phaseMs; split
  · exact h
  · dsimp only
    rw [Plane.judgeLock_husk]
    · exact h
    · exact h.1

/-- A commit leaves a loop in Husk there (R82). -/
theorem Plane.commitSwitch_husk (husk : x.loop.state = .husk) (p : PlaneId) (step dfreq : Int) :
    (x.commitSwitch p step dfreq).loop.state = .husk := by
  cases pending : x.sel.sw with
  | none => unfold Plane.commitSwitch; rw [pending]; exact husk
  | some w =>
    by_cases ended : w.left = 0
    · cases held : x.paused with
      | true => rw [Plane.commitSwitch_defers pending ended held]; exact husk
      | false =>
        by_cases good : x.ref[w.target.val].state = .qualified ∧ x.ref[w.target.val].heldOut = false
        · rw [Plane.commitSwitch_commits pending ended held good.1 good.2]
          obtain ⟨-, loop, -⟩ := Plane.noteCommit_notes x p w.target (phaseOf (x.inputType w.target) step)
          refine (Plane.commitLoop_committed (x.noteCommit p w.target _) _ dfreq).state.trans ?_
          rw [loop]; dsimp only; rw [husk]; rfl
        · have bad : x.ref[w.target.val].state ≠ .qualified ∨ x.ref[w.target.val].heldOut = true := by
            rw [not_and_or, Bool.not_eq_false] at good; exact good
          rw [Plane.commitSwitch_abandons pending ended held bad, Plane.abandonSwitch_loop]; exact husk
    · unfold Plane.commitSwitch; rw [pending]; dsimp only; rw [if_pos ended]; exact husk

theorem Plane.Husked.openSecond (h : x.Husked) (v : Int) : (x.openSecond v).Husked := by
  refine Plane.Husked.of_loop (y := x.openSecond v) ?_ (h.loopSecond v)
  simp only [Plane.openSecond, Plane.startWaiting_loop, Plane.rateInterval_loop, Plane.releaseEarly_loop]

theorem Plane.Husked.msStep (h : x.Husked) (m : MsMeas) : (x.msStep m).Husked := by
  refine Plane.Husked.of_loop (y := x.msStep m) ?_ (h.phaseMs m.phase)
  simp only [Plane.msStep, Plane.tails_loop, Plane.rateInterval_loop, Plane.tiMs_loop, Plane.linksMs_loop, Plane.senseAll_loop]

/-- What a frame boundary does to the references and the loop leaves a loop in Husk there, when what it judges does not touch the loop. -/
theorem Plane.Husked.openLoop (h : x.Husked) (hql : Nat) (v : Int) {judge : Plane → Plane} (keeps : ∀ z, (judge z).loop = z.loop) :
    (x.openLoop p hql v judge).Husked := by
  have dropped : (x.countSwitch.dropActive p v).Husked :=
    Plane.Husked.dropActive (h.of_loop (Plane.countSwitch_loop x)) v
  have judged : (((judge (x.countSwitch.dropActive p v)).followCross p hql).refsChanged p).Husked :=
    dropped.of_loop (by rw [Plane.refsChanged_loop, Plane.followCross_loop, keeps])
  exact judged.resumeSoft.of_loop (Plane.noteRealign_loop _)

end

/-! ### A frame's end and start -/

section
variable (h : Hub) (p q : PlaneId)

theorem Hub.leaveZero_loop : ((h.leaveZero p).plane p).loop = (h.plane p).loop := by
  unfold Hub.leaveZero; split
  · dsimp only
    show (Hub.plane (Hub.setPlane _ p _) p).loop = _
    rw [Hub.setPlane_plane, Hub.modPlane_plane]
    split <;> simp
  · rfl

theorem Hub.latchDigest_planes : h.latchDigest.planes = h.planes := by unfold Hub.latchDigest; split <;> rfl

theorem Hub.clearOvf_loop : (h.clearOvf.plane q).loop = (h.plane q).loop := by
  cases q <;> exact Plane.clearOvf_loop _ _

theorem Hub.finishSnapshot_loop : (h.finishSnapshot.plane q).loop = (h.plane q).loop := by
  have captured : (PlaneId.all.foldl (fun (g : Hub) p => if g.snap.waits.get p then g.capturePlane p else g) h).planes = h.planes :=
    List.foldlRecOn (motive := fun g : Hub => g.planes = h.planes) _ _ rfl fun g same p _ => by split <;> exact same
  unfold Hub.finishSnapshot; split
  · rfl
  · split
    · rfl
    · dsimp only
      show (Tri.get (Hub.latchDigest _).planes q).loop = _
      rw [Hub.latchDigest_planes]
      split
      · exact (Hub.clearOvf_loop _ q).trans (by rw [Hub.plane]; dsimp only; rw [captured]; rfl)
      · dsimp only; rw [captured]; rfl

theorem Hub.endFrame_loop : ((h.endFrame p).plane p).loop = (h.plane p).loop := by
  unfold Hub.endFrame; dsimp only; split
  · exact Hub.finishSnapshot_loop _ p
  · rfl

theorem Hub.drainLane3_planes : (h.drainLane3 p).planes = h.planes := by unfold Hub.drainLane3; split <;> rfl

end

section
variable {h : Hub} {p : PlaneId}

theorem Hub.closeFrame_husked (husk : (h.plane p).Husked) : ((h.closeFrame p).plane p).Husked := by
  have left : ((h.leaveZero p).plane p).Husked := husk.of_loop (Hub.leaveZero_loop h p)
  unfold Hub.closeFrame
  generalize h.leaveZero p = g at left ⊢
  have slewed : (((g.plane p).elapse (40 - (g.plane p).time.cyc)).fineMoves.slewFrame).Husked :=
    (left.of_loop ((Plane.fineMoves_loop _).trans (Plane.elapse_loop _ _))).slewFrame
  rw [Hub.modPlane_plane]
  refine slewed.of_loop ?_
  show (Tri.get (Hub.drainLane3 _ p).planes p).loop = _
  rw [Hub.drainLane3_planes]
  refine (Hub.endFrame_loop _ p).trans ?_
  rw [Hub.modPlane_plane, Plane.evalDamper_loop]

theorem Hub.openFrame_husked (husk : (h.plane p).Husked) {judge : Plane → Plane} (keeps : ∀ z, (judge z).loop = z.loop) :
    ((h.openFrame p judge).plane p).Husked := by
  have published : ((h.modPlane p fun x => { x with bank := x.fill }).plane p).Husked := by rw [Hub.modPlane_plane]; exact husk
  unfold Hub.openFrame; dsimp only
  generalize h.modPlane p (fun x => { x with bank := x.fill }) = g at published ⊢
  have opened := (published.of_loop (Plane.endEvents_loop _)).openLoop (p := p) (h.crossHql p) g.fresh.1 keeps
  rw [Hub.modPlane_plane]
  refine opened.of_loop ?_
  rw [Plane.sendSlot0_loop]
  refine (Hub.onPlane_plane_loop ..).trans ?_
  rw [Plane.isolateMore_loop, Plane.applyPending_loop]; rfl

theorem Hub.ppsStep_husked (husk : (h.plane p).Husked) (m : Option PpsMeas) : ((h.ppsStep p m).plane p).Husked := by
  have closed : (((h.closeFrame p).modPlane p fun x => { x with time := x.time.nextSecond }).plane p).Husked := by
    rw [Hub.modPlane_plane]; exact Hub.closeFrame_husked husk
  unfold Hub.ppsStep; dsimp only
  refine Hub.openFrame_husked ((closed.openSecond _).of_loop (Hub.onPlane_plane_loop ..)) fun z => ?_
  cases m with
  | none => rfl
  | some m => exact (Plane.countVcob_loop _ _).trans (Plane.refSecond_loop _ _ _)

theorem Hub.frameStep_husked (husk : (h.plane p).Husked) : ((h.frameStep p).plane p).Husked := by
  unfold Hub.frameStep; split
  · refine Hub.openFrame_husked ?_ fun _ => rfl
    rw [Hub.modPlane_plane]; exact Hub.closeFrame_husked husk
  · exact Hub.ppsStep_husked husk none

theorem Hub.msBoundary_husked (husk : (h.plane p).Husked) (m : MsMeas) : ((h.msBoundary p m).plane p).Husked := by
  rw [Hub.msBoundary_plane]
  exact (husk.msStep m).of_loop (Hub.onPlane_plane_loop ..)

end

/-! ### A command that leaves Husk as its operation leaves it -/

section
variable {c : Instr} {s t : State} {p : PlaneId}

theorem Hub.ifActive_husk {h : Hub} {f : Hub → Hub} (husk : (h.plane p).loop.state = .husk)
    (acts : ((f h).plane p).loop.state = .husk) : ((h.ifActive p f).plane p).loop.state = .husk := by
  cases act : h.active p with
  | true => rw [Hub.ifActive_eq act]; exact acts
  | false => rw [Hub.ifActive_idle act]; exact husk

theorem Hub.event_husk {h : Hub} {f : Plane → Plane} (husk : (h.plane p).loop.state = .husk)
    (acts : (f (h.plane p)).loop.state = .husk) : ((h.event p f).plane p).loop.state = .husk :=
  Hub.ifActive_husk husk ((congrArg Loop.state (Hub.onPlane_plane_loop ..)).trans acts)

/-- A command that acts where the plane's word clock runs leaves Husk as what it does there leaves it. -/
theorem ifActive_husk {f : Hub → Hub} (husk : (s.hub.plane p).loop.state = .husk) (e : exec c s = s.answer (s.hub.ifActive p f))
    (acts : ((f s.hub).plane p).loop.state = .husk) : ∀ t, exec c s = .next t → (t.hub.plane p).loop.state = .husk := by
  intro t next
  obtain rfl : { s with hub := s.hub.ifActive p f } = t := Host.Outcome.next.inj (e.symm.trans next)
  exact Hub.ifActive_husk husk acts

/-- An event of a plane leaves Husk as its operation inside the plane leaves it. -/
theorem event_husk {f : Plane → Plane} (husk : (s.hub.plane p).loop.state = .husk) (e : exec c s = s.answer (s.hub.event p f))
    (acts : (f (s.hub.plane p)).loop.state = .husk) : ∀ t, exec c s = .next t → (t.hub.plane p).loop.state = .husk :=
  ifActive_husk husk e ((congrArg Loop.state (Hub.onPlane_plane_loop ..)).trans acts)

/-- An event that keeps the loop leaves Husk. -/
theorem event_keepsLoop_husk {f : Plane → Plane} (husk : (s.hub.plane p).loop.state = .husk)
    (e : exec c s = s.answer (s.hub.event p f)) (keeps : (f (s.hub.plane p)).loop = (s.hub.plane p).loop) :
    ∀ t, exec c s = .next t → (t.hub.plane p).loop.state = .husk :=
  event_husk husk e ((congrArg Loop.state keeps).trans husk)

end

end Sys2Proof.Machine
end

section
/-! THEOREM. Events that leave a plane in Husk. -/

open Sys2Proof Sys2Proof.Machine

/-- Settles O26: the references, their quality and the selection do not touch the loop; a second, a millisecond, a frame and a commit leave
its state in Husk. -/
theorem huskIgnoresLoopEvents : Obligations.HuskIgnoresLoopEvents := by
  intro s p c husk idle event
  have husked : (s.hub.plane p).Husked := ⟨husk, idle⟩
  rcases event with ⟨r, rfl⟩ | ⟨r, rfl⟩ | ⟨r, rfl⟩ | rfl | ⟨m, rfl⟩ | ⟨m, rfl⟩ | rfl | rfl | rfl | rfl | ⟨step, dfreq, rfl⟩ |
    ⟨r, v, rfl⟩ | ⟨r, m, rfl⟩ | ⟨tc, rfl⟩ | rfl | rfl | ⟨tc, f, rfl⟩ | ⟨tc, rfl⟩ | ⟨f, rfl⟩
  · -- refLossDeclared
    refine event_keepsLoop_husk husk rfl ?_
    exact Plane.modRef_loop _ p r _
  · -- refActiveAgain
    refine event_keepsLoop_husk husk rfl ?_
    split <;> simp
  · -- waitToRestoreExpiry
    refine event_keepsLoop_husk husk rfl ?_
    split <;> simp
  · -- selectionTick
    refine event_keepsLoop_husk husk rfl ?_
    exact Plane.tick_loop _
  · -- pps
    exact ifActive_husk husk rfl (Hub.ppsStep_husked husked _).1
  · -- millisecondBoundary
    exact ifActive_husk husk rfl (Hub.msBoundary_husked husked m).1
  · -- frameBoundary
    exact ifActive_husk husk rfl (Hub.frameStep_husked husked).1
  · -- acquireTimeout
    refine event_keepsLoop_husk husk rfl ?_
    dsimp only; rw [if_neg (by rw [husk]; decide)]
  · -- slewComplete
    refine event_husk husk rfl ?_
    dsimp only; split <;> exact husk
  · -- driftFitUpdate
    refine ifActive_husk husk rfl ?_
    refine (congrArg Loop.state (Hub.onPlane_plane_loop ..)).trans ?_
    have unlocked : ¬ (s.hub.plane p).loop.state = .locked := by rw [husk]; decide
    exact (congrArg (fun x : Plane => x.loop.state) (if_neg unlocked)).trans husk
  · -- switchCommit
    intro t next
    obtain rfl : { s with hub := (s.hub.event p fun x => x.commitSwitch p step dfreq).settleMove p } = t :=
      Host.Outcome.next.inj next
    rw [Hub.settleMove_plane]
    exact Hub.event_husk husk (Plane.commitSwitch_husk husk p step dfreq)
  · -- freqOffsetMeasurement
    refine event_keepsLoop_husk husk rfl ?_
    split <;> simp
  · -- phaseJumpMean
    refine event_keepsLoop_husk husk rfl ?_
    split <;> simp
  · -- tcQualityEffect
    refine event_keepsLoop_husk husk rfl ?_
    dsimp only; split <;> simp
  · -- esmcQualityEffect
    refine event_keepsLoop_husk husk rfl ?_
    split <;> simp
  · -- esmcTimeout
    refine event_keepsLoop_husk husk rfl ?_
    exact Plane.judgeRef_loop _ p 2
  · -- timecodeFrame
    refine event_keepsLoop_husk (f := fun x => if !x.tcHeard tc then x else
      x.takeTimecode p tc (x.tc[tc.val].frame s.hub.udecl x.markedSec f)) husk rfl ?_
    split <;> simp
  · -- timecodeFrameMissing
    refine event_keepsLoop_husk husk rfl ?_
    split <;> simp
  · -- esmcPduReceived
    refine event_keepsLoop_husk husk rfl ?_
    (repeat' split) <;> simp

end

section
/-! SUPPORT. What is right of a plane's loop and pending switch, and how each operation of a plane keeps it. -/

namespace Sys2Proof.Machine

/-- What is to be right of a plane's loop and pending switch: where `μ` holds, the in-loop mark is that of the loop's state (R81, R82); a
pending switch finds `ι` false and, where `σ` holds, a plane that runs or enters standby, out of Husk, of mode HOLD and of forced Ember
(R68, R69, R86, R303). -/
def LoopSound (μ σ ι : Prop) (st : LoopState) (inLoop forced : Bool) (mode : LoopMode) (sw : Option Switch) (k : Power) : Prop :=
  (μ → inLoop = st.inLoop) ∧
  (sw ≠ none → ¬ι ∧ (σ → st ≠ .husk ∧ mode ≠ .hold ∧ forced = false ∧ (k = .run ∨ k = .entering)))

/-- A plane's loop and pending switch are right. -/
@[reducible] def Plane.Sound (μ σ ι : Prop) (x : Plane) : Prop :=
  LoopSound μ σ ι x.loop.state x.loop.inLoop x.loop.forced x.sel.mode x.sel.sw x.power

theorem Plane.sound_mark (x : Plane) : x.Sound True False False ↔ x.loop.inLoop = x.loop.state.inLoop := by simp [LoopSound]

theorem Plane.sound_switch (x : Plane) : x.Sound False True False ↔ SwitchFits x := by
  simp only [Plane.Sound, LoopSound, SwitchFits, Plane.reloading, Plane.clocked]
  cases x.sel.sw <;> cases x.power <;> simp

section
variable {μ σ ι : Prop} {x y : Plane} {c : Prop} {d : Decidable c}

theorem Plane.Sound.ite (hx : x.Sound μ σ ι) (hy : y.Sound μ σ ι) : (if c then x else y).Sound μ σ ι := by
  split
  · exact hx
  · exact hy

theorem Plane.Sound.when (hx : x.Sound μ σ ι) (hy : x.Sound μ σ ι → y.Sound μ σ ι) : (if c then y else x).Sound μ σ ι := (hy hx).ite hx
theorem Plane.Sound.unless (hx : x.Sound μ σ ι) (hy : x.Sound μ σ ι → y.Sound μ σ ι) : (if c then x else y).Sound μ σ ι := hx.ite (hy hx)

theorem Plane.Sound.foldl {α : Type} {f : Plane → α → Plane} {l : List α}
    (hf : ∀ (z : Plane) (a : α), z.Sound μ σ ι → (f z a).Sound μ σ ι) (h : x.Sound μ σ ι) : (l.foldl f x).Sound μ σ ι :=
  List.foldlRecOn (motive := Plane.Sound μ σ ι) l f h fun z hz a _ => hf z a hz

/-- Without a pending switch nothing but the mark matters. -/
theorem Plane.Sound.of_mark (mark : μ → x.loop.inLoop = x.loop.state.inLoop) (none : x.sel.sw = none) : x.Sound μ σ True :=
  ⟨mark, fun some => absurd none some⟩

/-- Where `σ` asks that no switch be pending, nothing else matters of one. -/
theorem Plane.Sound.quiet (mark : μ → x.loop.inLoop = x.loop.state.inLoop) (none : x.sel.sw ≠ none → ¬σ) : x.Sound μ σ σ :=
  ⟨mark, fun some => ⟨none some, fun on => absurd on (none some)⟩⟩

theorem Plane.Sound.of_quiet (h : x.Sound μ σ σ) : x.Sound μ σ False := ⟨h.1, fun some => ⟨nofun, (h.2 some).2⟩⟩

/-- A plane in a reload has no switch pending. -/
theorem Plane.Sound.reloading (h : x.Sound μ σ ι) (keep : x.power = .reloadKeep) : x.Sound μ σ σ :=
  .quiet h.1 fun some on => by
    obtain ⟨-, -, -, run⟩ := (h.2 some).2 on
    simp [keep] at run

theorem Plane.Sound.weaken {τ : Prop} (h : x.Sound μ σ ι) (less : τ → σ) : x.Sound μ τ ι :=
  ⟨h.1, fun some => ⟨(h.2 some).1, fun on => (h.2 some).2 (less on)⟩⟩

theorem Plane.Sound.sw_none (h : x.Sound μ σ True) : x.sel.sw = none := by
  by_contra some; exact (h.2 some).1 trivial

theorem Plane.Sound.of_idle (h : x.Sound μ σ True) : x.Sound μ σ ι := ⟨h.1, fun some => absurd h.sw_none some⟩

end

section
variable {μ σ ι : Prop} {x : Plane} {p : PlaneId} {l : Fin 32} {n : Fin 64} {r : Fin 4} {v : Int}

/-! Ops -/
theorem Plane.Sound.send {o : OutRec} (h : x.Sound μ σ ι) : (x.send o).Sound μ σ ι := Plane.Sound.ite h (Plane.Sound.ite h h)
theorem Plane.Sound.log {t : Byte} {d : Vector Word 4} (h : x.Sound μ σ ι) : (x.log p t d).Sound μ σ ι := h.send
theorem Plane.Sound.history {b : Nat} (h : x.Sound μ σ ι) : (x.history b).Sound μ σ ι := Plane.Sound.ite h h
theorem Plane.Sound.spendChecks {k : Nat} (h : x.Sound μ σ ι) : (x.spendChecks k).Sound μ σ ι := Plane.Sound.ite h h
theorem Plane.Sound.elapse {k : Nat} (h : x.Sound μ σ ι) : (x.elapse k).Sound μ σ ι := by
  obtain ⟨f, c, l, g, a, o, t, e, -, -⟩ := Plane.elapse_only x k
  rw [e]; exact h
theorem Plane.Sound.fireEvent (h : x.Sound μ σ ι) : (x.fireEvent n).Sound μ σ ι := h
theorem Plane.Sound.count {n : Fin 32} (h : x.Sound μ σ ι) : (x.count n).Sound μ σ ι := h
theorem Plane.Sound.raise {bit : Nat} (h : x.Sound μ σ ι) : (x.raise bit).Sound μ σ ι := h
theorem Plane.Sound.modLink {f : Link → Link} (h : x.Sound μ σ ι) : (x.modLink l f).Sound μ σ ι := h
theorem Plane.Sound.linkSources (h : x.Sound μ σ ι) : x.linkSources.Sound μ σ ι := h
theorem Plane.Sound.loopSources (h : x.Sound μ σ ι) : x.loopSources.Sound μ σ ι := h
theorem Plane.Sound.setDet {b : Bool} (h : x.Sound μ σ ι) : (x.setDet n b).Sound μ σ ι := h
theorem Plane.Sound.judgeSource {seen : Nat} (h : x.Sound μ σ ι) : (x.judgeSource n seen).Sound μ σ ι := h
theorem Plane.Sound.advanceTo {c : Nat} (h : x.Sound μ σ ι) : (x.advanceTo c).Sound μ σ ι := h.when fun t => Plane.Sound.elapse (x := x) t

/-! Loop -/
theorem Plane.setLoop_fields (x : Plane) (st : LoopState) : (x.setLoop st).loop.state = st ∧ (x.setLoop st).loop.inLoop = st.inLoop ∧
    (x.setLoop st).loop.forced = x.loop.forced ∧ (x.setLoop st).sel = x.sel ∧ (x.setLoop st).power = x.power := by
  unfold Plane.setLoop; dsimp only
  (repeat' split) <;> simp [Plane.loopSources, Plane.refreshBw]

/-- A loop changes its state with its mark; it enters Husk without a switch only. -/
theorem Plane.Sound.setLoop {st : LoopState} (h : x.Sound μ σ ι) (e : st ≠ .husk ∨ ι) : (x.setLoop st).Sound μ σ ι := by
  obtain ⟨a, b, f, s, k⟩ := x.setLoop_fields st
  unfold Plane.Sound; rw [a, b, f, s, k]
  refine ⟨fun _ => rfl, fun some => ⟨(h.2 some).1, fun on => ⟨e.resolve_right (h.2 some).1, ((h.2 some).2 on).2⟩⟩⟩

theorem Plane.Sound.slewFrame (h : x.Sound μ σ ι) : x.slewFrame.Sound μ σ ι := Plane.Sound.ite h (Plane.Sound.ite h h)
theorem Plane.Sound.discardResid (h : x.Sound μ σ ι) : (x.discardResid p).Sound μ σ ι :=
  h.unless fun t => Plane.Sound.log (Plane.Sound.history t)
theorem Plane.Sound.holdSteer (h : x.Sound μ σ ι) : (x.holdSteer v).Sound μ σ ι := Plane.Sound.ite h h
theorem Plane.Sound.takeHoldover (h : x.Sound μ σ ι) : x.takeHoldover.Sound μ σ ι := by
  unfold Plane.takeHoldover; split <;> try exact h
  split <;> exact h
theorem Plane.Sound.steerHeld (h : x.Sound μ σ ι) : x.steerHeld.Sound μ σ ι := Plane.Sound.ite h h

theorem Plane.Sound.noActive (h : x.Sound μ σ ι) : x.noActive.Sound μ σ ι := h

/-- A loop that holds leaves Husk, or stays out of it. -/
theorem Plane.Sound.toEmber (h : x.Sound μ σ ι) : (x.toEmber p v).Sound μ σ ι := by
  unfold Plane.toEmber; dsimp only; split
  · exact Plane.Sound.log (Plane.Sound.steerHeld
      (h.holdSteer.takeHoldover.noActive.discardResid.setLoop (.inl nofun)))
  · exact h.holdSteer.takeHoldover.noActive.setLoop (.inl nofun)

theorem Plane.Sound.toSoft (h : x.Sound μ σ ι) : (x.toSoft p v).Sound μ σ ι :=
  Plane.Sound.setLoop (h.holdSteer.discardResid) (.inl nofun)

theorem Plane.Sound.resumeSoft (h : x.Sound μ σ ι) : (x.resumeSoft p).Sound μ σ ι :=
  h.when fun t => Plane.Sound.setLoop (Plane.Sound.discardResid t) (.inl nofun)

theorem Plane.Sound.switchRec {type : Byte} {new : Fin 4} {step : Int} (h : x.Sound μ σ ι) :
    (x.switchRec p type new step).Sound μ σ ι := h.log

/-- An abandonment leaves no switch, whatever it finds. -/
theorem Plane.abandonSwitch_sound (mark : μ → x.loop.inLoop = x.loop.state.inLoop) : (x.abandonSwitch p).Sound μ σ True := by
  unfold Plane.abandonSwitch; split
  · rename_i none
    exact .of_mark mark none
  · exact Plane.Sound.switchRec (x := Plane.count _ 15) (.of_mark mark rfl)

theorem Plane.Sound.abandonSwitch (h : x.Sound μ σ ι) : (x.abandonSwitch p).Sound μ σ True := Plane.abandonSwitch_sound h.1

theorem Plane.Sound.supersede {old new : Fin 4} (h : x.Sound μ σ ι) (some : x.sel.sw ≠ none) : (x.supersede p old new).Sound μ σ ι := by
  obtain ⟨mark, right⟩ := Plane.Sound.switchRec (x := x.count 16) (p := p) (type := 4) (new := old) (step := 0) h
  exact ⟨mark, fun _ => right (by simpa [Plane.switchRec] using some)⟩

/-- A review ends a pending switch or lets another reference supersede its target. -/
theorem Plane.Sound.review (h : x.Sound μ σ ι) : (x.review p).Sound μ σ ι := by
  unfold Plane.review; split
  · exact h
  · rename_i s pending
    have some : x.sel.sw ≠ none := by rw [pending]; nofun
    refine h.unless fun _ => ?_
    split
    · exact h.abandonSwitch.of_idle
    · exact h.abandonSwitch.of_idle.ite (h.ite (h.supersede some))
    · split
      · exact h.abandonSwitch.of_idle
      · exact h.abandonSwitch.of_idle.ite (h.ite (h.ite ((h.supersede some).ite h)))

theorem Plane.Sound.dropActive (h : x.Sound μ σ ι) : (x.dropActive p v).Sound μ σ ι := by
  unfold Plane.dropActive; split
  · exact h
  · exact h.ite (h.toEmber.ite h.noActive)

theorem Plane.Sound.forceEmber (h : x.Sound μ σ ι) : (x.forceEmber p v).Sound μ σ ι := by
  unfold Plane.forceEmber; split
  · exact h
  · have t : (Plane.abandonSwitch (Plane.history { x with loop := { x.loop with forced := true } } 8) p).Sound μ σ ι :=
      (Plane.abandonSwitch_sound (by simpa using h.1)).of_idle
    dsimp only
    split
    · exact t.toEmber
    · exact t.toEmber
    · exact t.toEmber
    · exact t
    · exact t
    · exact t

theorem Plane.Sound.endForced (h : x.Sound μ σ ι) : (x.endForced p).Sound μ σ ι :=
  h.when fun _ => Plane.Sound.resumeSoft ⟨h.1, fun some => ⟨(h.2 some).1, fun on => by
    obtain ⟨husk, hold, -, run⟩ := (h.2 some).2 on
    exact ⟨husk, hold, rfl, run⟩⟩⟩

theorem Plane.Sound.noteRealign (h : x.Sound μ σ ι) : x.noteRealign.Sound μ σ ι := h.when fun t => t
theorem Plane.Sound.requestRealign (h : x.Sound μ σ ι) : x.requestRealign.Sound μ σ ι := Plane.Sound.noteRealign h
theorem Plane.Sound.cancelRealign (h : x.Sound μ σ ι) : x.cancelRealign.Sound μ σ ι := h.when fun t => Plane.Sound.history t

theorem Plane.Sound.enterHusk {n : Nat} (h : x.Sound μ σ ι) : (x.enterHusk p v n).Sound μ σ ι := by
  refine h.unless fun _ => Plane.Sound.of_idle (Plane.Sound.log (Plane.Sound.steerHeld ?_))
  exact Plane.Sound.setLoop h.abandonSwitch.holdSteer.takeHoldover.discardResid.cancelRealign.noActive (.inr trivial)

theorem Plane.Sound.leaveHusk (h : x.Sound μ σ ι) : (x.leaveHusk p).Sound μ σ ι := h.when fun t => t.toEmber

theorem Plane.Sound.judgeLock {phase : Int} (h : x.Sound μ σ ι) : (x.judgeLock phase).Sound μ σ ι := by
  unfold Plane.judgeLock; split
  · exact Plane.Sound.ite (h.setLoop (.inl nofun)) h
  · exact Plane.Sound.ite (h.setLoop (.inl nofun)) h
  · exact h

theorem Plane.Sound.phaseMs {mean : Int} (h : x.Sound μ σ ι) : (x.phaseMs mean).Sound μ σ ι := by
  unfold Plane.phaseMs; split
  · exact h
  · exact Plane.Sound.judgeLock h

theorem Plane.Sound.loopSecond (h : x.Sound μ σ ι) : (x.loopSecond v).Sound μ σ ι :=
  Plane.Sound.when h fun t => Plane.Sound.steerHeld t

theorem Plane.Sound.setModeRef {q : LoopMode} (h : x.Sound μ σ ι) : (x.setModeRef p v q r).Sound μ σ ι := by
  have modes : (if q = .hold then Plane.abandonSwitch { x with sel := { x.sel with mode := q, fref := r } } p
      else Plane.review { x with sel := { x.sel with mode := q, fref := r } } p).Sound μ σ ι := by
    split
    · refine Plane.Sound.of_idle (Plane.abandonSwitch_sound ?_)
      exact h.1
    · rename_i other
      refine Plane.Sound.review ⟨h.1, fun some => ⟨(h.2 some).1, fun on => ?_⟩⟩
      obtain ⟨husk, -, rest⟩ := (h.2 some).2 on
      exact ⟨husk, other, rest⟩
  exact Plane.Sound.unless modes fun t => t.toEmber.ite (t.toSoft.ite t)

theorem Plane.Sound.setMode {q : LoopMode} (h : x.Sound μ σ ι) : (x.setMode p v q).Sound μ σ ι := h.unless fun t => t.setModeRef
theorem Plane.Sound.setFref (h : x.Sound μ σ ι) : (x.setFref p r).Sound μ σ ι := Plane.Sound.review h
theorem Plane.Sound.setBw {c : BitVec 4} (h : x.Sound μ σ ι) : (x.setBw c).Sound μ σ ι := h
theorem Plane.Sound.setFreq {q : Word} (h : x.Sound μ σ ι) : (x.setFreq q).Sound μ σ ι := h

/-! Queues -/

theorem Plane.Sound.gpush {g : Fin 32} {e : GEntry} (h : x.Sound μ σ ι) : (x.gpush g e).1.Sound μ σ ι := by
  unfold Plane.gpush; split <;> exact h

theorem Plane.Sound.pushStat {e : QEntry} (h : x.Sound μ σ ι) : (x.pushStat l e).Sound μ σ ι := Plane.Sound.ite h (Plane.Sound.ite h h)
theorem Plane.Sound.pushBulk {d : BitVec 64} (h : x.Sound μ σ ι) : (x.pushBulk l d).Sound μ σ ι := Plane.Sound.ite h (Plane.Sound.ite h h)
theorem Plane.Sound.enqCmd {d : BitVec 64} (h : x.Sound μ σ ι) : (x.enqCmd l d).Sound μ σ ι := Plane.Sound.ite h h
theorem Plane.Sound.enqBulk {d : BitVec 64} (h : x.Sound μ σ ι) : (x.enqBulk l d).Sound μ σ ι := Plane.Sound.ite h h
theorem Plane.Sound.sendHold {g : Fin 32} {st : BitVec 2} {k : Nat} (h : x.Sound μ σ ι) : (x.sendHold g st k).Sound μ σ ι := h.gpush
theorem Plane.Sound.expireHold {g : Fin 32} (h : x.Sound μ σ ι) : (x.expireHold g).Sound μ σ ι := Plane.Sound.ite h h

theorem Plane.Sound.judgeHold {g : Fin 32} (h : x.Sound μ σ ι) : (x.judgeHold g).Sound μ σ ι :=
  Plane.Sound.ite (Plane.Sound.ite h (Plane.Sound.ite h h)) h

theorem Plane.Sound.holdBoundary {g : Fin 32} (h : x.Sound μ σ ι) : (x.holdBoundary g).Sound μ σ ι := by
  unfold Plane.holdBoundary; split
  · exact h
  · exact h
  · exact Plane.Sound.raise (Plane.Sound.sendHold (h.when fun t => t.expireHold))
  · exact Plane.Sound.judgeHold (Plane.Sound.raise (Plane.Sound.count (Plane.Sound.sendHold h)))
  · exact Plane.Sound.judgeHold h

theorem Plane.Sound.dropHolds (h : x.Sound μ σ ι) : x.dropHolds.Sound μ σ ι := Plane.Sound.ite h h

/-! Links -/

theorem Plane.Sound.enterLink {st : LinkState} (h : x.Sound μ σ ι) : (x.enterLink l st).Sound μ σ ι :=
  Plane.Sound.when (Plane.Sound.ite h h) fun t => Plane.Sound.foldl (fun _ _ u => Plane.Sound.ite u u) t

theorem Plane.Sound.setLink {st : LinkState} (h : x.Sound μ σ ι) : (x.setLink l st).Sound μ σ ι := h.enterLink.linkSources

theorem Plane.Sound.applyPending (h : x.Sound μ σ ι) : x.applyPending.Sound μ σ ι := by
  unfold Plane.applyPending; split
  · exact h
  · refine Plane.Sound.linkSources (Plane.Sound.foldl (fun z l t => ?_) h)
    split
    · exact t.enterLink
    · exact t

theorem Plane.Sound.lightLinks (h : x.Sound μ σ ι) : x.lightLinks.Sound μ σ ι :=
  Plane.Sound.linkSources (Plane.Sound.foldl (fun _ _ t => t.when fun u => u.enterLink) h)

theorem Plane.Sound.injectSlot (h : x.Sound μ σ ι) : (x.injectSlot l).1.Sound μ σ ι := by
  unfold Plane.injectSlot; split
  · exact h.spendChecks
  · exact h

theorem Plane.Sound.receive {f : Plane → Plane} (h : x.Sound μ σ ι) (hf : ∀ z : Plane, z.Sound μ σ ι → (f z).Sound μ σ ι) :
    (x.receive l f).Sound μ σ ι :=
  h.ite (Plane.Sound.ite h.injectSlot (Plane.Sound.ite (hf _ h.injectSlot) h.injectSlot))

theorem Plane.Sound.timedUp {d : BitVec 64} {veto : Bool} (h : x.Sound μ σ ι) : (x.timedUp l d veto).Sound μ σ ι := by
  unfold Plane.timedUp; dsimp only; (repeat' split) <;> exact h

theorem Plane.Sound.trainUp {d : BitVec 64} (h : x.Sound μ σ ι) : (x.trainUp l d).Sound μ σ ι := by
  unfold Plane.trainUp; dsimp only; split
  · exact Plane.Sound.ite (Plane.Sound.pushStat h) h
  · exact h

theorem Plane.Sound.goodSlot0 {base : Nat} {d : BitVec 64} (h : x.Sound μ σ ι) : (x.goodSlot0 l base d).Sound μ σ ι :=
  Plane.Sound.ite h h

theorem Plane.Sound.anomaly (h : x.Sound μ σ ι) : x.anomaly.Sound μ σ ι := h
theorem Plane.Sound.badSlot (h : x.Sound μ σ ι) : (x.badSlot l).Sound μ σ ι := h
theorem Plane.Sound.badSlot0 (h : x.Sound μ σ ι) : (x.badSlot0 l).Sound μ σ ι := h

theorem Plane.Sound.takeSlot0 {base : Nat} {ok : Bool} {comma : Comma} {d : BitVec 64} (h : x.Sound μ σ ι) :
    (x.takeSlot0 l base ok comma d).Sound μ σ ι := by
  unfold Plane.takeSlot0; split
  · exact Plane.Sound.ite (y := x.badSlot0 l) h h
  · split
    · exact Plane.Sound.ite (Plane.Sound.goodSlot0 h) h
    · exact Plane.Sound.anomaly h.badSlot0.modLink
    · exact Plane.Sound.anomaly h.badSlot0.modLink

theorem Plane.Sound.upSlot0 {base : Nat} {rx : Slot0Rx} (h : x.Sound μ σ ι) : (x.upSlot0 l base rx).Sound μ σ ι :=
  h.ite h.injectSlot.takeSlot0

theorem Plane.Sound.rttReading {o : Option Int} (h : x.Sound μ σ ι) : (x.rttReading l o).Sound μ σ ι := by
  unfold Plane.rttReading; dsimp only; (repeat' split) <;> exact h

theorem Plane.Sound.linksMs {rtt : Vector (Option Int) 32} (h : x.Sound μ σ ι) : (x.linksMs rtt).Sound μ σ ι := by
  have t : ((List.finRange 32).foldl (fun (z : Plane) l => z.rttReading l rtt[l.val]) x).Sound μ σ ι :=
    Plane.Sound.foldl (fun _ _ t => t.rttReading) h
  simp only [Plane.linksMs]
  refine Plane.Sound.linkSources ?_
  simpa only [Plane.Sound] using t

theorem Plane.Sound.sendSlot0 {base : Nat} (h : x.Sound μ σ ι) : (x.sendSlot0 base).Sound μ σ ι := by
  simp only [Plane.sendSlot0, Plane.Sound]; exact h

theorem Plane.Sound.writeDamper {base : Nat} {d : BitVec 16} (h : x.Sound μ σ ι) : (x.writeDamper l base d).Sound μ σ ι := by
  simp only [Plane.writeDamper]
  exact h.modLink.when fun t => t.sendSlot0

/-! Fabric -/

theorem Plane.Sound.drive {s : Signal} {i : Fin 32} (h : x.Sound μ σ ι) : (x.drive s i).Sound μ σ ι := by
  unfold Plane.drive; dsimp only; (repeat' split) <;> exact h

theorem Plane.Sound.emit {s : Signal} (h : x.Sound μ σ ι) : (x.emit s).Sound μ σ ι := Plane.Sound.foldl (fun _ _ t => t.drive) h

theorem Plane.Sound.openerArrives {u : Fin 64} {s : Signal} (h : x.Sound μ σ ι) : (x.openerArrives u s).Sound μ σ ι := by
  unfold Plane.openerArrives; dsimp only; (repeat' split) <;> exact h

theorem Plane.Sound.openWindow {u : Fin 64} {ref : Nat} (h : x.Sound μ σ ι) : (x.openWindow u ref).Sound μ σ ι := by
  unfold Plane.openWindow; dsimp only; split
  · exact h
  · exact h.ite (Plane.Sound.foldl (fun _ _ t => t.openerArrives) h)

theorem Plane.Sound.evalWindow {u : Fin 64} {ref : Nat} (h : x.Sound μ σ ι) : (x.evalWindow u ref).1.Sound μ σ ι := by
  unfold Plane.evalWindow; dsimp only; (repeat' split) <;> exact h

theorem Plane.Sound.eccRead {mem : Fin 4} {word : Nat} {e : EccRead} (h : x.Sound μ σ ι) : (x.eccRead mem word e).1.Sound μ σ ι := by
  have t : (if x.flt.inj.chk == 3 && x.flt.inj.tgt.toNat == mem.val && x.flt.inj.left != 0 then x.spendChecks 1 else x).Sound μ σ ι :=
    h.when fun t => t.spendChecks
  simp only [Plane.eccRead]
  generalize (if x.flt.inj.chk == 3 && x.flt.inj.tgt.toNat == mem.val && x.flt.inj.left != 0 then x.spendChecks 1 else x) = y at t ⊢
  split
  · split <;> exact t
  · split
    · exact t.count.fireEvent.count
    · exact t.count.fireEvent
  · exact Plane.Sound.fireEvent (Plane.Sound.count (t.ite t))

theorem Plane.Sound.evalCoinc {u : Fin 256} {ref : Nat} {ecc : EccRead} (h : x.Sound μ σ ι) : (x.evalCoinc u ref ecc).1.Sound μ σ ι := by
  unfold Plane.evalCoinc; dsimp only; split
  · exact h
  · split
    · split <;> exact h
    · split <;> exact h.eccRead

theorem Plane.Sound.judgeTi {i : Fin 16} {t : TiSense} (h : x.Sound μ σ ι) : (x.judgeTi i t).Sound μ σ ι :=
  Plane.Sound.ite h (Plane.Sound.ite h h)

theorem Plane.Sound.tiMs {t : Vector TiSense 16} (h : x.Sound μ σ ι) : (x.tiMs t).Sound μ σ ι :=
  Plane.Sound.setDet (Plane.Sound.foldl (fun _ _ t => t.judgeTi) h)

/-! Outputs -/

theorem Plane.Sound.applyDelays (h : x.Sound μ σ ι) : x.applyDelays.Sound μ σ ι := Plane.Sound.ite h h
theorem Plane.Sound.writeDelay {n : Fin 16} {k : BitVec 17} {f : BitVec 10} (h : x.Sound μ σ ι) : (x.writeDelay n k f).Sound μ σ ι :=
  Plane.Sound.applyDelays (x := x.queueDelay n k f) h
theorem Plane.Sound.fineMoves (h : x.Sound μ σ ι) : x.fineMoves.Sound μ σ ι := Plane.Sound.ite h h
theorem Plane.Sound.releaseAll (h : x.Sound μ σ ι) : x.releaseAll.Sound μ σ ι := Plane.Sound.ite h h
theorem Plane.Sound.releaseEarly (h : x.Sound μ σ ι) : x.releaseEarly.Sound μ σ ι := Plane.Sound.ite h h

theorem Plane.Sound.haltOutputs (h : x.Sound μ σ ι) : x.haltOutputs.Sound μ σ ι := by
  simp only [Plane.haltOutputs]
  have t : ((List.finRange 16).foldl (fun (z : Plane) n => z.modCk n fun c => { c with halted := true }) x).Sound μ σ ι :=
    Plane.Sound.foldl (fun _ _ t => t) h
  simpa only [Plane.Sound] using t

theorem Plane.Sound.writePu {n : Fin 4} {v : PuSet} (h : x.Sound μ σ ι) : (x.writePu n v).Sound μ σ ι := Plane.Sound.ite h h
theorem Plane.Sound.writeTo {n : Fin 16} {f : Byte} (h : x.Sound μ σ ι) : (x.writeTo n f).Sound μ σ ι := Plane.Sound.ite h h

theorem Plane.Sound.writeGate {o : Fin 20} {on : Bool} (h : x.Sound μ σ ι) : (x.writeGate o on).Sound μ σ ι := by
  unfold Plane.writeGate; split <;> exact h

theorem Plane.Sound.isolateOut {o : Fin 20} {on : Bool} (h : x.Sound μ σ ι) : (x.isolateOut o on).Sound μ σ ι := by
  unfold Plane.isolateOut; split <;> exact h

theorem Plane.Sound.senseSource {bad good : Nat} (h : x.Sound μ σ ι) : (x.senseSource n bad good).Sound μ σ ι :=
  Plane.Sound.ite h (Plane.Sound.ite h h)

theorem Plane.Sound.senseOut {o : Fin 20} {t : TermSense} (h : x.Sound μ σ ι) : (x.senseOut o t).Sound μ σ ι := by
  unfold Plane.senseOut; dsimp only; split
  · exact h
  · split
    · exact Plane.Sound.ite (Plane.Sound.senseSource h) h
    · exact h.ite (Plane.Sound.senseSource h)

theorem Plane.Sound.senseAll {t : Vector TermSense 20} (h : x.Sound μ σ ι) : (x.senseAll t).Sound μ σ ι :=
  Plane.Sound.foldl (fun _ _ t => t.senseOut) h

/-! Registers -/

theorem Plane.Sound.resample (h : x.Sound μ σ ι) : x.resample.Sound μ σ ι := by
  simp only [Plane.resample]
  refine Plane.Sound.setDet (Plane.Sound.setDet (Plane.Sound.setDet (Plane.Sound.setDet (Plane.Sound.linkSources ?_))))
  refine Plane.Sound.foldl (fun _ _ t => t.setDet) (Plane.Sound.setDet (Plane.Sound.loopSources (Plane.Sound.setDet ?_)))
  exact Plane.Sound.foldl (fun _ _ t => t.setDet.setDet) h

/-! Gens -/

theorem Plane.Sound.modGen {g : Fin 8} {f : Gen → Gen} (h : x.Sound μ σ ι) : (x.modGen g f).Sound μ σ ι := h
theorem Plane.Sound.misscheduled {g : Fin 8} (h : x.Sound μ σ ι) : (x.misscheduled g).Sound μ σ ι := h
theorem Plane.Sound.pulseEvent {g : Fin 8} (h : x.Sound μ σ ι) : (x.pulseEvent g).Sound μ σ ι := h

theorem Plane.Sound.genSend {g : Fin 8} {e : GEntry} (h : x.Sound μ σ ι) : (x.genSend g e).Sound μ σ ι := by
  have t : ((List.finRange 32).foldl (fun (a : Plane × Bool) i =>
      if bitAt x.sect.gens[g.val].groups i.val then
        let b := a.1.gpush i e
        (b.1, a.2 && b.2)
      else a) (x, true)).1.Sound μ σ ι := by
    refine List.foldlRecOn (motive := fun a : Plane × Bool => a.1.Sound μ σ ι) _ _ h fun a ha i _ => ?_
    split
    · exact ha.gpush
    · exact ha
  exact t.ite t.misscheduled

theorem Plane.Sound.flushBeacons {g : Fin 8} {e : Nat} (h : x.Sound μ σ ι) : (x.flushBeacons g e).Sound μ σ ι := by
  simp only [Plane.flushBeacons]; split
  · exact h
  · exact h.ite (Plane.Sound.foldl (fun _ _ t => t.genSend) h.modGen)

theorem Plane.Sound.enqueueEvent {g : Fin 8} {e : Nat} (h : x.Sound μ σ ι) : (x.enqueueEvent g e).Sound μ σ ι := by
  simp only [Plane.enqueueEvent]; split
  · split
    · exact h.modGen.genSend
    · exact h.modGen.unless fun t => t.genSend
  · exact h.modGen.genSend

theorem Plane.Sound.genEnqueue {g : Fin 8} (h : x.Sound μ σ ι) : (x.genEnqueue g).Sound μ σ ι := by
  have t : (if isBeacon g then x.flushBeacons g (x.time.now + x.sect.gens[g.val].lead) else x).Sound μ σ ι :=
    h.when fun t => t.flushBeacons
  exact h.ite (t.enqueueEvent.ite t)

theorem Plane.Sound.unsent {g : Fin 8} (h : x.Sound μ σ ι) : (x.unsent g).Sound μ σ ι := Plane.Sound.ite h.count h.misscheduled

theorem Plane.Sound.beaconEvent {g : Fin 8} (h : x.Sound μ σ ι) : (x.beaconEvent g).Sound μ σ ι := by
  have sent {z : Plane} (t : z.Sound μ σ ι) : ((if (x.arrive g).2 then z else z.unsent g).pulseEvent g).Sound μ σ ι :=
    Plane.Sound.pulseEvent (t.unless fun t => t.unsent)
  have t : (x.arrive g).1.Sound μ σ ι := h
  simp only [Plane.beaconEvent]; split
  · exact sent t
  · exact Plane.Sound.ite t.modGen (sent (by exact t))

theorem Plane.Sound.genEvent {g : Fin 8} (h : x.Sound μ σ ι) : (x.genEvent g).Sound μ σ ι := by
  have t : (x.arrive g).1.Sound μ σ ι := h
  simp only [Plane.genEvent]
  exact h.ite (h.beaconEvent.ite (Plane.Sound.pulseEvent ((t.modGen.unless fun t => t.unsent).when fun t => t.count)))

theorem Plane.Sound.gapOpens {g : Fin 8} (h : x.Sound μ σ ι) : (x.gapOpens g).Sound μ σ ι := by
  simp only [Plane.gapOpens]; split
  · exact h
  · exact Plane.Sound.unless (h.modGen.when fun t => Plane.Sound.foldl (fun _ _ u => u.unsent) t) fun t => t.pulseEvent

theorem Plane.Sound.applyGen {g : Fin 8} {s : GenSet} (h : x.Sound μ σ ι) : (x.applyGen g s).Sound μ σ ι :=
  Plane.Sound.ite h (Plane.Sound.ite h h)

theorem Plane.Sound.writeGen {g : Fin 8} {f : GenSet → GenSet} (h : x.Sound μ σ ι) : (x.writeGen g f).Sound μ σ ι :=
  h.ite (Plane.Sound.ite h.modGen h.applyGen)

theorem Plane.Sound.writeEpd {a b : Word} (h : x.Sound μ σ ι) : (x.writeEpd l a b).Sound μ σ ι := Plane.Sound.ite h.modLink h.modLink

theorem Plane.Sound.resumeGen {g : Fin 8} (h : x.Sound μ σ ι) : (x.resumeGen g).Sound μ σ ι := by
  unfold Plane.resumeGen; split
  · exact h.applyGen
  · exact h

/-- A switch that was deferred is pending before and after. -/
theorem Plane.Sound.mapSwitch {f : Switch → Switch} (h : x.Sound μ σ ι) :
    Plane.Sound μ σ ι { x with sel := { x.sel with sw := x.sel.sw.map f } } :=
  ⟨h.1, fun some => h.2 fun none => some (by rw [none]; rfl)⟩

theorem Plane.Sound.resumeAll (h : x.Sound μ σ ι) : x.resumeAll.Sound μ σ ι := by
  have t : ((List.finRange 8).foldl Plane.resumeGen x.resumeOutputs).Sound μ σ ι := Plane.Sound.foldl (fun _ _ t => t.resumeGen) h
  simp only [Plane.resumeAll]
  generalize (List.finRange 8).foldl Plane.resumeGen x.resumeOutputs = y at t ⊢
  exact t.mapSwitch

/-! Select -/

theorem Plane.Sound.refsChanged (h : x.Sound μ σ ι) : (x.refsChanged p).Sound μ σ ι := Plane.Sound.review (x := x.sweepDisputes) h
theorem Plane.Sound.setPrio {revert : Bool} {prio : Vector (BitVec 4) 4} (h : x.Sound μ σ ι) :
    (x.setPrio p revert prio).Sound μ σ ι := Plane.Sound.refsChanged h

theorem Plane.Sound.judgeRef (h : x.Sound μ σ ι) : (x.judgeRef p r).Sound μ σ ι := by
  simp only [Plane.judgeRef]
  refine Plane.Sound.ite h (Plane.Sound.refsChanged (Plane.Sound.setDet (Plane.Sound.setDet ?_)))
  exact Plane.Sound.ite h (Plane.Sound.raise h)

theorem Plane.Sound.modRef {f : Ref → Ref} (h : x.Sound μ σ ι) : (x.modRef p r f).Sound μ σ ι := Plane.Sound.judgeRef h

theorem Plane.Sound.monitorStart {year : Nat} (h : x.Sound μ σ ι) : (x.monitorStart year).Sound μ σ ι := by
  simp only [Plane.monitorStart]; exact Plane.Sound.setDet (Plane.Sound.foldl (fun _ _ t => (Plane.Sound.setDet t).setDet) h)

theorem Plane.Sound.followCross {hql : Nat} (h : x.Sound μ σ ι) : (x.followCross p hql).Sound μ σ ι := by
  simp only [Plane.followCross]
  refine Plane.Sound.ite (Plane.Sound.ite (Plane.Sound.refsChanged h) ?_) h
  exact Plane.Sound.refsChanged (Plane.Sound.setDet (Plane.Sound.setDet (Plane.Sound.raise h)))

theorem Plane.Sound.judgePair {q : Fin 4 × Fin 4} (h : x.Sound μ σ ι) : (x.judgePair q).Sound μ σ ι :=
  Plane.Sound.ite (Plane.Sound.ite h (Plane.Sound.ite h h)) h

theorem Plane.Sound.refSecond {freq : Vector Int 4} (h : x.Sound μ σ ι) : (x.refSecond p freq).Sound μ σ ι := by
  simp only [Plane.refSecond]
  exact Plane.Sound.refsChanged (Plane.Sound.foldl (fun _ _ t => t.judgePair) h)

/-- The tick of a running plane starts a switch where none is pending and one may be. -/
theorem Plane.Sound.tick (h : x.Sound μ σ False) (on : x.clocked = true) : x.tick.Sound μ σ False := by
  rw [Plane.tick_eq]
  cases may : x.mayStart with
  | false => exact h
  | true =>
    simp only [Plane.mayStart, Bool.and_eq_true, Bool.not_eq_true', Plane.inHusk, Plane.reloading, Bool.or_eq_false_iff,
      beq_eq_false_iff_ne] at may
    obtain ⟨⟨⟨⟨-, husk⟩, free⟩, -⟩, keep, change⟩ := may
    refine ⟨h.1, fun some => ⟨id, fun _ => ⟨husk, fun hold => some ?_, free, ?_⟩⟩⟩
    · exact congrArg (Option.map _) (Plane.tickTarget_hold hold)
    · cases k : x.power <;> simp [Plane.clocked, k] at on keep change ⊢

theorem Plane.Sound.commitLoop {step dfreq : Int} (h : x.Sound μ σ ι) : (x.commitLoop step dfreq).Sound μ σ ι := by
  have t {st : LoopState} (e : st ≠ .husk) :
      (Plane.setLoop { x with loop := { x.loop with resid := x.loop.resid + step } } st).Sound μ σ ι :=
    Plane.Sound.setLoop h (.inl e)
  unfold Plane.commitLoop; split
  · exact h
  · dsimp only; split
    · exact t nofun
    · exact t nofun
    · split <;> exact t nofun
    · split <;> exact t nofun
    · exact h
    · exact h

theorem Plane.Sound.commitSwitch {step dfreq : Int} (h : x.Sound μ σ ι) : (x.commitSwitch p step dfreq).Sound μ σ ι := by
  simp only [Plane.commitSwitch]; split
  · exact h
  · rename_i s pending
    refine h.ite (Plane.Sound.ite ⟨h.1, fun _ => h.2 (by rw [pending]; nofun)⟩ (Plane.Sound.ite ?_ h.abandonSwitch.of_idle))
    refine Plane.Sound.commitLoop (Plane.Sound.when (Plane.Sound.history ?_) fun t => t.fireEvent)
    exact Plane.Sound.of_idle (.of_mark (by simpa [Plane.switchRec] using h.1) rfl)

/-! Faults -/

theorem Plane.Sound.modSrc {f : Src → Src} (h : x.Sound μ σ ι) : (x.modSrc n f).Sound μ σ ι := h
theorem Plane.Sound.holdRefs (h : x.Sound μ σ ι) : (x.holdRefs p).Sound μ σ ι := Plane.Sound.refsChanged h

theorem Plane.Sound.disableInputs (h : x.Sound μ σ ι) : x.disableInputs.Sound μ σ ι := by
  simp only [Plane.disableInputs, Plane.Sound]; exact h
theorem Plane.Sound.isolateLinks {k : Fin 3} (h : x.Sound μ σ ι) : (x.isolateLinks k).Sound μ σ ι := by
  simp only [Plane.isolateLinks, Plane.Sound]; exact h
theorem Plane.Sound.releaseLinks {k : Fin 3} (h : x.Sound μ σ ι) : (x.releaseLinks k).Sound μ σ ι := by
  simp only [Plane.releaseLinks, Plane.Sound]; exact h

theorem Plane.Sound.isolateElement (h : x.Sound μ σ ι) : (x.isolateElement p n).Sound μ σ ι := by
  unfold Plane.isolateElement
  exact h.holdRefs.ite (h.isolateOut.ite (h.disableInputs.ite (h.isolateLinks.ite (h.isolateLinks.ite (h.isolateLinks.ite h)))))

theorem Plane.Sound.liftElement (h : x.Sound μ σ ι) : (x.liftElement p n).Sound μ σ ι := by
  unfold Plane.liftElement
  exact h.holdRefs.ite (h.isolateOut.ite (Plane.Sound.ite h (h.releaseLinks.ite (h.releaseLinks.ite (h.releaseLinks.ite h)))))

theorem Plane.Sound.isolateMore (h : x.Sound μ σ ι) : x.isolateMore.Sound μ σ ι := by
  simp only [Plane.isolateMore]
  exact (((h.when fun t => t.disableInputs).when fun t => t.isolateLinks).when fun t => t.isolateLinks).when fun t => t.isolateLinks

theorem Plane.Sound.reactTo (h : x.Sound μ σ ι) : (x.reactTo p n).Sound μ σ ι := by
  have t {c : Prop} [Decidable c] : (if c then x else x.raise 12).Sound μ σ ι := h.unless fun t => t.raise
  simp only [Plane.reactTo]; split
  · exact h
  · split
    · exact t
    · exact t
    · exact t.ite (Plane.Sound.isolateElement (Plane.Sound.modSrc t))
    · exact Plane.Sound.modSrc t

theorem Plane.Sound.parityFault {g : Fin 8} {seen : Nat} (h : x.Sound μ σ ι) : (x.parityFault g seen).Sound μ σ ι := by
  simp only [Plane.parityFault, Plane.setDetAt, Plane.Sound]; exact h

theorem Plane.Sound.parityFaults (h : x.Sound μ σ ι) : x.parityFaults.Sound μ σ ι := by
  have t : ((x.flt.parity.filter fun e => x.dueSince e.2).foldl (fun (z : Plane) e => z.parityFault e.1 e.2) x).Sound μ σ ι :=
    Plane.Sound.foldl (fun _ _ t => t.parityFault) h
  simpa only [Plane.parityFaults, Plane.Sound] using t

theorem Plane.Sound.restartDetector (h : x.Sound μ σ ι) : (x.restartDetector n).Sound μ σ ι := by
  unfold Plane.restartDetector
  repeat' apply Plane.Sound.ite
  all_goals exact h

theorem Plane.Sound.clearSticky (h : x.Sound μ σ ι) : (x.clearSticky p n).Sound μ σ ι :=
  Plane.Sound.ite (Plane.Sound.liftElement h) (Plane.Sound.restartDetector (Plane.Sound.liftElement h))

theorem Plane.Sound.setWire {b : Bool} (h : x.Sound μ σ ι) : (x.setWire n b).Sound μ σ ι := by
  simp only [Plane.setWire]
  exact Plane.Sound.judgeSource (Plane.Sound.modSrc (Plane.Sound.when h fun t => t))

/-! Boundaries -/

theorem Plane.Sound.endEvents (h : x.Sound μ σ ι) : x.endEvents.Sound μ σ ι :=
  Plane.Sound.foldl (fun _ _ t => t.ite t.modSrc.setDet) h

theorem Plane.Sound.openLoop {hql : Nat} {judge : Plane → Plane} (h : x.Sound μ σ ι)
    (keeps : ∀ z : Plane, z.Sound μ σ ι → (judge z).Sound μ σ ι) : (x.openLoop p hql v judge).Sound μ σ ι :=
  Plane.Sound.noteRealign (Plane.Sound.resumeSoft (Plane.Sound.refsChanged (Plane.Sound.followCross
    (keeps _ (Plane.Sound.dropActive h.mapSwitch)))))

theorem Plane.Sound.startWaiting (h : x.Sound μ σ ι) : x.startWaiting.Sound μ σ ι := h
theorem Plane.Sound.rateInterval {second : Bool} (h : x.Sound μ σ ι) : (x.rateInterval second).Sound μ σ ι := h

theorem Plane.Sound.openSecond (h : x.Sound μ σ ι) : (x.openSecond v).Sound μ σ ι := by
  simp only [Plane.openSecond, Plane.Sound]
  exact Plane.Sound.startWaiting h.loopSecond.releaseEarly.rateInterval

theorem Plane.Sound.groupStep (h : x.Sound μ σ ι) : x.groupStep.Sound μ σ ι := by
  unfold Plane.groupStep; dsimp only
  generalize e : List.foldl _ _ _ = z
  have held : z.Sound μ σ ι := by
    rw [← e]
    refine Plane.Sound.foldl (fun _ _ t => t.holdBoundary) ?_
    simp only [Plane.turnSched, Plane.Sound]; exact h
  exact Plane.Sound.ite held held

theorem Plane.Sound.tails (h : x.Sound μ σ ι) : x.tails.Sound μ σ ι := Plane.Sound.setDet (Plane.Sound.setDet (Plane.Sound.setDet h))

theorem Plane.Sound.msStep {q : MsMeas} (h : x.Sound μ σ ι) : (x.msStep q).Sound μ σ ι := by
  simp only [Plane.msStep]
  refine Plane.Sound.tails ?_
  simp only [Plane.Sound]
  exact h.phaseMs.senseAll.linksMs.tiMs.rateInterval

/-! Grid -/

theorem Plane.Sound.capture {src : MarkerSrc} {before after : Nat} {ref3 : Word} (h : x.Sound μ σ ι) :
    (x.capture src before after ref3).Sound μ σ ι := by
  have t : ((if x.grid.reg then x.judgeD (wrapSecond (x.captured src before after + x.grid.goff)) else x).noteRealign).Sound μ σ ι :=
    Plane.Sound.noteRealign (Plane.Sound.ite h h)
  exact Plane.Sound.ite (Plane.Sound.ite t t) h

theorem Plane.Sound.setCount {sec : Word} (h : x.Sound μ σ ι) : (x.setCount sec).Sound μ σ ι := by
  unfold Plane.setCount; dsimp only; split <;> exact h

theorem Plane.Sound.genRestart {org : Nat} (h : x.Sound μ σ ι) : (x.genRestart org).Sound μ σ ι := h

theorem Plane.Sound.register {sec : Word} (h : x.Sound μ σ ι) : (x.register sec).Sound μ σ ι := by
  simp only [Plane.register]
  refine Plane.Sound.loopSources (Plane.Sound.history (Plane.Sound.genRestart (Plane.Sound.releaseAll ?_)))
  simp only [Plane.Sound]
  exact h.setCount

theorem Plane.Sound.moveGrid {sec : Word} (h : x.Sound μ σ ι) : (x.moveGrid sec).Sound μ σ ι := by
  simp only [Plane.moveGrid]
  refine Plane.Sound.genRestart (Plane.Sound.releaseAll ?_)
  simp only [Plane.Sound]
  exact Plane.Sound.setCount (x := x.discardFabric) h

/-! Tandem -/

theorem Plane.Sound.hold3 {b : Bool} (h : x.Sound μ σ ι) : (x.hold3 p b).Sound μ σ ι := h.when fun t => Plane.Sound.holdRefs t
theorem Plane.Sound.leave3 (h : x.Sound μ σ ι) : (x.leave3 p v).Sound μ σ ι := h.when fun t => t.toEmber.ite t.noActive
theorem Plane.Sound.takeRef3 (h : x.Sound μ σ ι) : (x.takeRef3 p v).Sound μ σ ι := h.hold3.setMode.setFref

theorem Plane.Sound.dropRef3 {q : LoopMode} (h : x.Sound μ σ ι) : (x.dropRef3 p v q r).Sound μ σ ι :=
  h.hold3.leave3.setMode.setFref

/-- A plane whose word clock stands has no switch to lose by another mode. -/
theorem Plane.Sound.modeStopped {out : Bool} {q : LoopMode} (h : x.Sound μ σ ι) (off : x.clocked = false) :
    (x.modeStopped out q r).Sound μ σ ι := by
  refine ⟨h.1, fun some => ⟨(h.2 some).1, fun on => ?_⟩⟩
  obtain ⟨-, -, -, run | entering⟩ := (h.2 some).2 on
  · simp [Plane.clocked, run] at off
  · simp [Plane.clocked, entering] at off

/-! Start -/

theorem Plane.Sound.imageCk {d : PlaneDecl} (h : x.Sound μ σ ι) : (x.imageCk d).Sound μ σ ι := Plane.Sound.foldl (fun _ _ t => t) h

/-- A section may bring any mode where no switch is pending. -/
theorem Plane.Sound.takeSection {d : PlaneDecl} (h : x.Sound μ σ σ) : (x.takeSection d).Sound μ σ σ := by
  have t : (x.imageCk d).Sound μ σ σ := h.imageCk
  simp only [Plane.takeSection]
  generalize x.imageCk d = y at t ⊢
  exact .quiet t.1 fun some => (t.2 some).1

theorem Plane.Sound.imageGens (h : x.Sound μ σ ι) : x.imageGens.Sound μ σ ι := h

/-- The end of a force harms no pending switch. -/
theorem Plane.Sound.forcedAnd {b : Bool} (h : x.Sound μ σ ι) :
    ({ x with loop := { x.loop with forced := x.loop.forced && b } } : Plane).Sound μ σ ι :=
  ⟨h.1, fun some => ⟨(h.2 some).1, fun on => by
    obtain ⟨husk, hold, free, run⟩ := (h.2 some).2 on
    exact ⟨husk, hold, by simp [free], run⟩⟩⟩

/-- A plane that starts has no reference in its loop and no switch pending, whatever went before. -/
theorem Plane.Sound.release {year : Nat} {released : Bool} : (x.release year released).Sound μ σ ι := by
  simp only [Plane.release]
  refine Plane.Sound.when (Plane.Sound.unless (Plane.Sound.monitorStart ?_) fun t => t.history) fun t => t.lightLinks
  simp only [Plane.startSched]
  refine ⟨fun _ => ?_, fun some => absurd rfl some⟩
  simp only [Loop.start]; split <;> rfl

/-! Standby -/

theorem Plane.Sound.stopInject (h : x.Sound μ σ ι) : x.stopInject.Sound μ σ ι := h
theorem Plane.Sound.emptyQueues (h : x.Sound μ σ ι) : x.emptyQueues.Sound μ σ ι := h
theorem Plane.Sound.darkenLinks (h : x.Sound μ σ ι) : x.darkenLinks.Sound μ σ ι := h
theorem Plane.Sound.fabricOff (h : x.Sound μ σ ι) : x.fabricOff.Sound μ σ ι := h

theorem Plane.Sound.enterStandby {b : Bool} (h : x.Sound μ σ ι) : (x.enterStandby p b).Sound μ σ ι := by
  have t : (x.abandonSwitch p).cancelRealign.dropHolds.stopInject.haltOutputs.Sound μ σ True :=
    Plane.Sound.haltOutputs h.abandonSwitch.cancelRealign.dropHolds.stopInject
  simp only [Plane.enterStandby]
  generalize (x.abandonSwitch p).cancelRealign.dropHolds.stopInject.haltOutputs = y at t ⊢
  exact Plane.Sound.of_idle (x := { y with power := .entering, withUnit := b }) (.of_mark t.1 t.sw_none)

theorem Plane.Sound.stopClocks (h : x.Sound μ σ True) : x.stopClocks.Sound μ σ True :=
  .of_mark h.1 h.sw_none

theorem Plane.Sound.leaveStandby (h : x.Sound μ σ ι) : x.leaveStandby.Sound μ σ ι := by
  unfold Plane.leaveStandby; split
  · exact ⟨h.1, fun some => ⟨(h.2 some).1, fun on => by
      obtain ⟨husk, hold, free, -⟩ := (h.2 some).2 on
      exact ⟨husk, hold, free, .inl rfl⟩⟩⟩
  · rename_i off
    exact ⟨h.1, fun some => ⟨(h.2 some).1, fun on => by
      obtain ⟨-, -, -, run⟩ := (h.2 some).2 on
      simp [off] at run⟩⟩
  all_goals exact h

/-- A plane that leaves standby has no switch pending, so its word clock may stop again. -/
theorem Plane.Sound.stopLeaving {b : Bool} (h : x.Sound μ σ ι) (leaving : x.power = .leaving) :
    ({ x with power := .stopped, withUnit := b } : Plane).Sound μ σ ι :=
  ⟨h.1, fun some => ⟨(h.2 some).1, fun on => by
    obtain ⟨-, -, -, run⟩ := (h.2 some).2 on
    simp [leaving] at run⟩⟩

/-! Images -/

theorem Plane.Sound.beginReload (h : x.Sound μ σ ι) : (x.beginReload p v).Sound μ σ True := by
  have t : (x.abandonSwitch p).cancelRealign.dropHolds.stopInject.fabricOff.Sound μ σ True :=
    Plane.Sound.fabricOff h.abandonSwitch.cancelRealign.dropHolds.stopInject
  simp only [Plane.beginReload]; split
  · exact t.toEmber
  · exact t.toEmber
  · exact t.toEmber
  · exact t
  · exact t
  · exact t

theorem Plane.Sound.atF0 {keep : Bool} (h : x.Sound μ σ ι) : (x.atF0 p v keep).Sound μ σ ι := by
  have t : (x.beginReload p v).Sound μ σ True := h.beginReload
  have u : (x.beginReload p v).haltOutputs.darkenLinks.emptyQueues.Sound μ σ True := h.beginReload.haltOutputs.darkenLinks.emptyQueues
  simp only [Plane.atF0]
  generalize x.beginReload p v = y at t u ⊢
  generalize y.haltOutputs.darkenLinks.emptyQueues = z at u ⊢
  refine Plane.Sound.of_idle (Plane.Sound.ite (.of_mark t.1 t.sw_none) (.of_mark u.1 u.sw_none))

theorem Plane.Sound.reloadGens {old : PlaneDecl} {same : Bool} (h : x.Sound μ σ ι) : (x.reloadGens old same).Sound μ σ ι :=
  h.ite (Plane.Sound.foldl (fun _ _ t => t.applyGen.ite t.modGen) h)

theorem Plane.Sound.relight (h : x.Sound μ σ ι) : x.relight.Sound μ σ ι :=
by
  simp only [Plane.relight]
  exact Plane.Sound.when (Plane.Sound.foldl (fun _ _ t => t.when fun u => u.setLink) h) fun t => t.lightLinks

/-- At F₁ the plane runs again, without a switch. -/
theorem Plane.Sound.atF1 {d : PlaneDecl} {same : Bool} {b000Year : Nat} {released : Bool} (h : x.Sound μ σ σ) :
    (x.atF1 d same b000Year released).Sound μ σ σ := by
  have t : ((if same then x else x.takeSection d).reloadGens x.sect same).Sound μ σ σ :=
    Plane.Sound.reloadGens (h.unless fun t => t.takeSection)
  simp only [Plane.atF1]
  generalize (if same then x else x.takeSection d).reloadGens x.sect same = y at t ⊢
  exact Plane.Sound.relight (Plane.Sound.monitorStart (.quiet t.1 fun some => (t.2 some).1))

theorem Plane.Sound.freshConfig (h : x.Sound μ σ ι) : x.freshConfig.Sound μ σ ι := h

/-! Records -/

theorem Plane.Sound.writeCk {o : Fin 20} {n : Fin 16} {ws : List Word} (h : x.Sound μ σ ι) : (x.writeCk o n ws).Sound μ σ ι :=
  Plane.Sound.ite h.writeGate h.writeGate

theorem Plane.Sound.writePuRecord {o : Fin 20} {n : Fin 4} {ws : List Word} (h : x.Sound μ σ ι) :
    (x.writePuRecord o n ws).Sound μ σ ι := Plane.Sound.unless h.writeGate fun t => t.writePu

theorem Plane.Sound.linkAct {op : Nat} {payload : BitVec 64} (h : x.Sound μ σ ι) : (x.linkAct l op payload).Sound μ σ ι := by
  unfold Plane.linkAct; split
  · exact h.enqCmd
  · exact h.enqBulk
  all_goals exact h

theorem Plane.Sound.writeLink {base : Nat} {ws : List Word} (h : x.Sound μ σ ι) : (x.writeLink l base ws).Sound μ σ ι := by
  simp only [Plane.writeLink]
  exact Plane.Sound.linkAct (Plane.Sound.unless (Plane.Sound.modLink (Plane.Sound.unless (h.unless fun t => t.writeDamper)
    fun t => t.modLink)) fun t => t.writeEpd)

/-! Slots -/

/-- A link's turn in a slot changes the links, the groups' queues and the counters. -/
theorem Plane.Sound.fillSlot {ready : List (Fin 32)} (h : x.Sound μ σ ι) : (x.fillSlot ready l).Sound μ σ ι := by
  have other : l ≠ l + 1 := by simp
  have frame := (Plane.Waits.fillSlot other x ready).frame
  generalize x.fillSlot ready l = z at frame ⊢
  rw [← frame] at h; exact h

theorem Plane.Sound.slotStart {k : Nat} (h : x.Sound μ σ ι) : (x.slotStart k).Sound μ σ ι := by
  simp only [Plane.slotStart, Plane.Sound]
  exact Plane.Sound.foldl (fun _ _ t => t.fillSlot) h

theorem Plane.Sound.crossing {i : Fin 16} {fine : BitVec 9} (h : x.Sound μ σ ι) : (x.crossing i fine).Sound μ σ ι := by
  simp only [Plane.crossing, Bool.cond_eq_ite]
  exact h.ite (h.count.ite (Plane.Sound.ite h (Plane.Sound.count h)))

/-! Words -/

theorem Plane.Sound.realignField {k : Nat} (h : x.Sound μ σ ι) : (x.realignField k).Sound μ σ ι :=
  h.requestRealign.ite (h.cancelRealign.ite h)

theorem Plane.Sound.latchGroup (h : x.Sound μ σ ι) : x.latchGroup.Sound μ σ ι := by
  simp only [Plane.latchGroup, Plane.Sound]; exact h

theorem Plane.Sound.evalDamper (h : x.Sound μ σ ι) : x.evalDamper.Sound μ σ ι := by
  simp only [Plane.evalDamper, Plane.Sound]; exact h

theorem Plane.Sound.clearOvf {k : Plane} (h : x.Sound μ σ ι) : (x.clearOvf k).Sound μ σ ι := by
  simp only [Plane.clearOvf, Plane.Sound]; exact h

theorem Plane.Sound.countVcob {k : Nat} (h : x.Sound μ σ ι) : (x.countVcob k).Sound μ σ ι := h

end
end Sys2Proof.Machine
end

section
/-! SUPPORT. How each operation of the hub keeps the loops and the pending switches of the planes right. -/

namespace Sys2Proof.Machine

/-- The planes of a hub have their loops and pending switches right, as `σ` asks of each, and, where `ω` holds, the hub has power. -/
def HubSound (μ : Prop) (σ : PlaneId → Prop) (ω : Prop) (on : Bool) (t : Tri Plane) : Prop :=
  (ω → on = true) ∧ ∀ p, (t.get p).Sound μ (σ p) False

/-- `HubSound` of a hub; only its planes and its power matter. -/
def Hub.Sound (μ : Prop) (σ : PlaneId → Prop) (ω : Prop) (h : Hub) : Prop := HubSound μ σ ω h.powered h.planes

section
variable {μ ω : Prop} {σ : PlaneId → Prop} {h g : Hub} {c : Prop} {d : Decidable c} {p : PlaneId} {q : PortId}

theorem Hub.Sound.ite (hh : h.Sound μ σ ω) (hg : g.Sound μ σ ω) : (if c then h else g).Sound μ σ ω := by
  split
  · exact hh
  · exact hg

theorem Hub.Sound.when (hh : h.Sound μ σ ω) (hg : h.Sound μ σ ω → g.Sound μ σ ω) : (if c then g else h).Sound μ σ ω := (hg hh).ite hh
theorem Hub.Sound.unless (hh : h.Sound μ σ ω) (hg : h.Sound μ σ ω → g.Sound μ σ ω) : (if c then h else g).Sound μ σ ω := hh.ite (hg hh)

theorem Hub.Sound.andThen (fit : h.Sound μ σ ω) (hg : h.Sound μ σ ω → g.Sound μ σ ω) : g.Sound μ σ ω := hg fit

theorem Hub.Sound.foldl {α : Type} {f : Hub → α → Hub} {l : List α} (hf : ∀ (k : Hub) (a : α), k.Sound μ σ ω → (f k a).Sound μ σ ω)
    (fit : h.Sound μ σ ω) : (l.foldl f h).Sound μ σ ω :=
  List.foldlRecOn (motive := Hub.Sound μ σ ω) l f fit fun k hk a _ => hf k a hk

theorem Hub.Sound.powered (fit : h.Sound μ σ True) : h.powered = true := fit.1 trivial
theorem Hub.Sound.on (fit : h.Sound μ σ ω) (on : h.powered = true) : h.Sound μ σ True := ⟨fun _ => on, fit.2⟩

/-- What happens under power only may use it. -/
theorem Hub.Sound.iteOn (fit : h.Sound μ σ ω) (on : c → h.powered = true) (hg : h.Sound μ σ True → g.Sound μ σ True) :
    (if c then g else h).Sound μ σ ω := by
  split
  · rename_i cond
    have t := hg (fit.on (on cond))
    exact ⟨fun _ => t.powered, t.2⟩
  · exact fit

theorem Hub.Sound.plane (fit : h.Sound μ σ ω) : (h.plane p).Sound μ (σ p) False := fit.2 p

theorem Hub.Sound.setPlane {x : Plane} (fit : h.Sound μ σ ω) (hx : x.Sound μ (σ p) False) : (h.setPlane p x).Sound μ σ ω :=
  ⟨fit.1, fun r => by
    show ((h.planes.set p x).get r).Sound μ (σ r) False
    rw [Tri.get_set]
    split
    · rename_i e
      rw [e]; exact hx
    · exact fit.2 r⟩

theorem Hub.Sound.modPlane {f : Plane → Plane} (fit : h.Sound μ σ ω)
    (hf : (h.plane p).Sound μ (σ p) False → (f (h.plane p)).Sound μ (σ p) False) :
    (h.modPlane p f).Sound μ σ ω :=
  fit.setPlane (hf fit.plane)

theorem Hub.Sound.allPlanes {f : PlaneId → Plane → Plane} (fit : h.Sound μ σ ω)
    (hf : ∀ (p : PlaneId) (z : Plane), z.Sound μ (σ p) False → (f p z).Sound μ (σ p) False) : (h.allPlanes f).Sound μ σ ω :=
  ⟨fit.1, fun r => by
    cases r with
    | a => exact hf .a _ (fit.2 .a)
    | b => exact hf .b _ (fit.2 .b)
    | c => exact hf .c _ (fit.2 .c)⟩

theorem Hub.Sound.withShots {x : Tri Plane} (fit : h.Sound μ σ ω) : ({ h with shots := x } : Hub).Sound μ σ ω := fit
theorem Hub.Sound.withSnap {x : Snapshot} (fit : h.Sound μ σ ω) : ({ h with snap := x } : Hub).Sound μ σ ω := fit
theorem Hub.Sound.withCmp {x : Vector Comparator 3} (fit : h.Sound μ σ ω) : ({ h with cmp := x } : Hub).Sound μ σ ω := fit
theorem Hub.Sound.withNv {x : Nv} (fit : h.Sound μ σ ω) : ({ h with nv := x } : Hub).Sound μ σ ω := fit
theorem Hub.Sound.withCfg {x : Cfg} (fit : h.Sound μ σ ω) : ({ h with cfg := x } : Hub).Sound μ σ ω := fit
theorem Hub.Sound.withUsrc {x : Vector Src 32} (fit : h.Sound μ σ ω) : ({ h with usrc := x } : Hub).Sound μ σ ω := fit
theorem Hub.Sound.withUcommits {x : List HeldWrite} (fit : h.Sound μ σ ω) : ({ h with ucommits := x } : Hub).Sound μ σ ω := fit
theorem Hub.Sound.withConv {x : Bool} (fit : h.Sound μ σ ω) : ({ h with conv := x } : Hub).Sound μ σ ω := fit
theorem Hub.Sound.withUstby {x : Bool} (fit : h.Sound μ σ ω) : ({ h with ustby := x } : Hub).Sound μ σ ω := fit
theorem Hub.Sound.withUpstate {x : UpState} (fit : h.Sound μ σ ω) : ({ h with upstate := x } : Hub).Sound μ σ ω := fit
theorem Hub.Sound.modUSrc {n : Fin 32} {f : Src → Src} (fit : h.Sound μ σ ω) : (h.modUSrc n f).Sound μ σ ω := fit
theorem Hub.Sound.modPort {f : Port → Port} (fit : h.Sound μ σ ω) : (h.modPort q f).Sound μ σ ω := fit
theorem Hub.Sound.allPorts {f : Port → Port} (fit : h.Sound μ σ ω) : (h.allPorts f).Sound μ σ ω := fit
theorem Hub.Sound.refuse {a : BitVec 7} {k : BitVec 5} {r : Reason} (fit : h.Sound μ σ ω) : (h.refuse q a k r).Sound μ σ ω := fit
theorem Hub.Sound.modChim {f : Chimney → Chimney} (fit : h.Sound μ σ ω) : (h.modChim f).Sound μ σ ω := fit
theorem Hub.Sound.modCfg {f : Cfg → Cfg} (fit : h.Sound μ σ ω) : (h.modCfg f).Sound μ σ ω := fit
theorem Hub.Sound.modSlot {i : Fin 2} {f : Slot → Slot} (fit : h.Sound μ σ ω) : (h.modSlot i f).Sound μ σ ω := fit
theorem Hub.Sound.ucount {u : Fin 32} (fit : h.Sound μ σ ω) : (h.ucount u).Sound μ σ ω := fit
theorem Hub.Sound.ucountN {u : Fin 32} {k : Nat} (fit : h.Sound μ σ ω) : (h.ucountN u k).Sound μ σ ω := fit
theorem Hub.Sound.ucause {bit : Nat} (fit : h.Sound μ σ ω) : (h.ucause bit).Sound μ σ ω := fit
theorem Hub.Sound.setFans (fit : h.Sound μ σ ω) : h.setFans.Sound μ σ ω := fit

/-- A judged write acts where there is power and nothing refuses it. -/
theorem Hub.Sound.judged {a : BitVec 7} {k : BitVec 5} {r : Reason} {f : Hub → Hub} (fit : h.Sound μ σ ω)
    (hf : h.Sound μ σ True → (f h).Sound μ σ True) : (h.judged q a k r f).Sound μ σ ω := by
  obtain ⟨on, -, j⟩ | ⟨-, -, j⟩ | ⟨-, j⟩ := Hub.judged_cases h q a k r f
  · rw [j]; exact ⟨fun _ => (hf (fit.on on)).powered, (hf (fit.on on)).2⟩
  · rw [j]; exact fit
  · rw [j]; exact fit

theorem Hub.Sound.hostWrite {k : BitVec 5} {a b e : Bool} {f : Hub → Hub} (fit : h.Sound μ σ ω)
    (hf : h.Sound μ σ True → (f h).Sound μ σ True) :
    (h.hostWrite q p k a b e f).Sound μ σ ω :=
  fit.judged hf

theorem Hub.Sound.unitWrite {k : BitVec 5} {r : Reason} {f : Hub → Hub} (fit : h.Sound μ σ ω)
    (hf : h.Sound μ σ True → (f h).Sound μ σ True) : (h.unitWrite q k r f).Sound μ σ ω :=
  fit.judged hf

theorem Hub.Sound.ifActive {f : Hub → Hub} (fit : h.Sound μ σ ω) (hf : h.active p = true → (f h).Sound μ σ ω) :
    (h.ifActive p f).Sound μ σ ω := by
  unfold Hub.ifActive; split
  · rename_i on
    exact hf on
  · exact fit

theorem Hub.Sound.cause {bit : Nat} (fit : h.Sound μ σ ω) : (h.cause p bit).Sound μ σ ω := by
  have sent : (h.modPlane p (·.send (.cause bit))).Sound μ σ ω := fit.modPlane fun t => t.send
  exact Hub.Sound.ite (Hub.Sound.ite sent sent) fit

theorem Hub.Sound.onPlane {f : Plane → Plane} (fit : h.Sound μ σ ω)
    (hf : (h.plane p).Sound μ (σ p) False → (f (h.plane p)).Sound μ (σ p) False) : (h.onPlane p f).Sound μ σ ω :=
  Hub.Sound.foldl (fun _ _ t => t.cause) (Hub.Sound.modPlane (fit.modPlane hf) fun t => by simpa using t)

theorem Hub.Sound.onPlaneFree {f : Int → Plane → Plane} (fit : h.Sound μ σ ω)
    (hf : ∀ v, (h.plane p).Sound μ (σ p) False → (f v (h.plane p)).Sound μ (σ p) False) : (h.onPlaneFree p f).Sound μ σ ω :=
  Hub.Sound.onPlane (h := h.fresh.2) fit (hf _)

theorem Hub.Sound.event {f : Plane → Plane} (fit : h.Sound μ σ ω)
    (hf : (h.plane p).Sound μ (σ p) False → (f (h.plane p)).Sound μ (σ p) False) : (h.event p f).Sound μ σ ω :=
  fit.ifActive fun _ => fit.onPlane hf

theorem Hub.Sound.eventFree {f : Int → Plane → Plane} (fit : h.Sound μ σ ω)
    (hf : ∀ v, (h.plane p).Sound μ (σ p) False → (f v (h.plane p)).Sound μ (σ p) False) : (h.eventFree p f).Sound μ σ ω :=
  fit.ifActive fun _ => fit.onPlaneFree hf

theorem Hub.Sound.setUDet {n : Fin 32} {b : Bool} (fit : h.Sound μ σ ω) : (h.setUDet n b).Sound μ σ ω := by
  obtain ⟨c, t, o, e⟩ := Hub.setUDet_only h n b
  rw [e]; exact fit

theorem Hub.Sound.fireUEvent {n : Fin 32} (fit : h.Sound μ σ ω) : (h.fireUEvent n).Sound μ σ ω := by
  obtain ⟨c, t, o, e⟩ := Hub.fireUEvent_only h n
  rw [e]; exact fit

theorem Hub.Sound.handFire {n : Nat} (fit : h.Sound μ σ ω) : (h.handFire n).Sound μ σ ω := by
  obtain ⟨t, e⟩ := Hub.handFire_only h n
  rw [e]; exact fit

theorem Hub.Sound.writeEntry {r : LogRec} (fit : h.Sound μ σ ω) : (h.writeEntry r).Sound μ σ ω := by
  obtain ⟨l, c, e, o, k, -⟩ := Hub.writeEntry_only h r
  rw [k]; exact fit

theorem Hub.Sound.ulog {type portn : Byte} {data : Vector Word 4} (fit : h.Sound μ σ ω) : (h.ulog type portn data).Sound μ σ ω := by
  obtain ⟨l, c, e, o, k, -⟩ := Hub.ulog_only h type portn data
  rw [k]; exact fit

/-! Fabric -/

theorem Hub.Sound.chimneyPort {s : Signal} {port : Fin 8} (fit : h.Sound μ σ ω) : (h.chimneyPort p s port).Sound μ σ ω := by
  simp only [Hub.chimneyPort, Bool.cond_eq_ite]
  exact Hub.Sound.ite (Hub.Sound.ite fit (fit.modPlane fun t => t)) fit

theorem Hub.Sound.emit {s : Signal} (fit : h.Sound μ σ ω) : (h.emit p s).Sound μ σ ω :=
  Hub.Sound.foldl (fun _ _ t => t.chimneyPort) (fit.onPlane fun t => t.emit)

theorem Hub.Sound.emitOpt {s : Option Signal} (fit : h.Sound μ σ ω) : (h.emitOpt p s).Sound μ σ ω := by
  cases s with
  | none => exact fit
  | some s => exact fit.emit

theorem Hub.Sound.releaseHeld (fit : h.Sound μ σ ω) : (h.releaseHeld p).Sound μ σ ω := by
  simp only [Hub.releaseHeld]; split
  · exact fit
  · exact Hub.Sound.ite (Hub.Sound.emit (fit.modPlane fun t => t)) (Hub.Sound.modPlane (fit.modPlane fun t => t) fun t => t)

theorem Hub.Sound.prescalePulse {u : Fin 32} {s : Signal} (fit : h.Sound μ σ ω) : (h.prescalePulse p u s).Sound μ σ ω := by
  simp only [Hub.prescalePulse, Bool.cond_eq_ite]
  exact Hub.Sound.ite (Hub.Sound.emit (fit.modPlane fun t => t)) (fit.modPlane fun t => t)

theorem Hub.Sound.prescale {u : Fin 32} {ref : Nat} (fit : h.Sound μ σ ω) : (h.prescale p u ref).Sound μ σ ω := by
  unfold Hub.prescale; split
  · exact fit
  · exact Hub.Sound.foldl (fun _ _ t => t.prescalePulse) (fit.modPlane fun t => t)

/-! Registers -/

theorem Hub.Sound.judgeOutliers (fit : h.Sound μ σ ω) : h.judgeOutliers.Sound μ σ ω :=
  Hub.Sound.allPlanes fit fun _ _ t => Plane.Sound.ite t.setDet t

theorem Hub.Sound.firstBank (fit : h.Sound μ σ ω) : (h.firstBank p).Sound μ σ ω := Hub.Sound.setPlane fit fit.plane

theorem Hub.Sound.leaveZero (fit : h.Sound μ σ ω) : (h.leaveZero p).Sound μ σ ω := by
  have t : (h.modPlane p Plane.applyDelays).Sound μ σ ω := fit.modPlane fun t => t.applyDelays
  simp only [Hub.leaveZero]
  refine Hub.Sound.when fit fun _ => Hub.Sound.withShots (t.setPlane ?_)
  exact Plane.Sound.ite (Plane.Sound.latchGroup (Plane.Sound.resample t.plane)) (Plane.Sound.resample t.plane)

theorem Hub.Sound.toCycle {k : Fin 40} (fit : h.Sound μ σ ω) : (h.toCycle p k).Sound μ σ ω :=
  Hub.Sound.ite (fit.leaveZero.modPlane fun t => t.advanceTo) fit

theorem Hub.Sound.eventAt {k : Fin 40} {f : Plane → Plane} (fit : h.Sound μ σ ω)
    (hf : ∀ z : Plane, z.Sound μ (σ p) False → (f z).Sound μ (σ p) False) : (h.eventAt p k f).Sound μ σ ω :=
  fit.ifActive fun _ => fit.toCycle.onPlane (hf _)

theorem Hub.Sound.releaseCrossed {port : Fin 8} {ref tau age : Nat} {suspect : Bool} (fit : h.Sound μ σ ω) :
    (h.releaseCrossed p port ref tau age suspect).Sound μ σ ω :=
  Hub.Sound.ite fit.toCycle.emit fit

/-! Select -/

theorem Hub.Sound.settleMove (fit : h.Sound μ σ ω) : (h.settleMove p).Sound μ σ ω := Hub.Sound.ite fit fit

/-! Faults -/

theorem Hub.Sound.reforce (fit : h.Sound μ σ ω) : (h.reforce p).Sound μ σ ω :=
  Hub.Sound.ite (fit.onPlaneFree fun _ t => t.forceEmber) (fit.onPlane fun t => t.endForced)

theorem Hub.Sound.takeForce {n : Fin 32} {on : Bool} (fit : h.Sound μ σ ω) : (h.takeForce p n on).Sound μ σ ω :=
  Hub.Sound.reforce (fit.modPlane fun t => t)

theorem Hub.Sound.handForce {n : Fin 32} {on : Bool} (fit : h.Sound μ σ ω) : (h.handForce n on).Sound μ σ ω :=
  Hub.Sound.foldl (fun _ _ t => Hub.Sound.ite t (Hub.Sound.ite t (t.modPlane fun t => t))) fit

theorem Hub.Sound.handChanged {before : BitVec 32} (fit : h.Sound μ σ ω) : (h.handChanged before).Sound μ σ ω :=
  Hub.Sound.foldl (fun _ _ t => Hub.Sound.ite t t.handForce) fit

theorem Hub.Sound.noteUnit {n : Nat} (fit : h.Sound μ σ ω) : (h.noteUnit n).Sound μ σ ω := by
  unfold Hub.noteUnit; dsimp only; (repeat' split) <;> exact fit

theorem Hub.Sound.unitReact {n : Nat} (fit : h.Sound μ σ ω) : (h.unitReact p n).Sound μ σ ω := by
  simp only [Hub.unitReact]; exact Hub.Sound.ite (fit.modPlane fun t => t) fit

theorem Hub.Sound.react (fit : h.Sound μ σ ω) : (h.react p).Sound μ σ ω := by
  simp only [Hub.react]
  refine Hub.Sound.when (Hub.Sound.foldl (fun _ _ t => t.unitReact) (Hub.Sound.foldl (fun _ _ t => t.noteUnit)
    (Hub.Sound.onPlane ?_ fun t => Plane.Sound.foldl (fun _ _ u => u.reactTo) t))) fun t => t.reforce
  have parity := Hub.Sound.modPlane (p := p) (f := Plane.parityFaults) fit fun t => t.parityFaults
  split
  · exact parity.modPlane fun t => t
  · exact (parity.modPlane fun t => t).onPlaneFree fun _ t => t.enterHusk

theorem Hub.Sound.clearPlaneSticky {n : Fin 64} (fit : h.Sound μ σ ω) : (h.clearPlaneSticky p n).Sound μ σ ω :=
  Hub.Sound.unless (Hub.Sound.when (fit.onPlane fun t => t.clearSticky) fun t => Hub.Sound.judgeOutliers t) fun t => t.reforce

theorem Hub.Sound.restartUnitDetector {n : Fin 32} (fit : h.Sound μ σ ω) : (h.restartUnitDetector n).Sound μ σ ω := by
  unfold Hub.restartUnitDetector; (repeat' split) <;> exact fit

theorem Hub.Sound.clearUnitSticky {n : Fin 32} (fit : h.Sound μ σ ω) : (h.clearUnitSticky n).Sound μ σ ω :=
  Hub.Sound.when (Hub.Sound.setFans (Hub.Sound.restartUnitDetector fit)) fun t => t.handForce

theorem Hub.Sound.setSev {n : Fin 64} {sev : Severity} (fit : h.Sound μ σ ω) : (h.setSev p n sev).Sound μ σ ω :=
  Hub.Sound.unless (Hub.Sound.when (fit.modPlane fun t => t.modSrc) fun t =>
    Hub.Sound.onPlane (Hub.Sound.when t fun t => t.onPlaneFree fun _ t => t.enterHusk) fun t => t.reactTo) fun t => t.reforce

theorem Hub.Sound.setUSev {n : Fin 32} {sev : Severity} (fit : h.Sound μ σ ω) : (h.setUSev n sev).Sound μ σ ω :=
  Hub.Sound.andThen (Hub.Sound.when (Hub.Sound.when fit.modUSrc fun t => t.ucause) fun t => t.handForce)
    fun t => Hub.Sound.ite t.modUSrc.handFire (Hub.Sound.ite t.modUSrc.handFire t)

theorem Hub.Sound.inject {chk : BitVec 3} {double : Bool} {tgt : BitVec 6} {nchk : BitVec 11} (fit : h.Sound μ σ ω) :
    (h.inject q p chk double tgt nchk).Sound μ σ ω :=
  fit.judged fun t => t.onPlane fun t => t

theorem Hub.Sound.setUWire {n : Fin 32} {b : Bool} (fit : h.Sound μ σ ω) : (h.setUWire n b).Sound μ σ ω :=
  Hub.Sound.setFans (Hub.Sound.setUDet (Hub.Sound.setUDet fit))

theorem Hub.Sound.pairEvent {src : Fin 224} {b : Bool} (fit : h.Sound μ σ ω) : (h.pairEvent src b).Sound μ σ ω :=
  Hub.Sound.ite fit <| Hub.Sound.ite (fit.event fun t => t.setWire) <| Hub.Sound.ite fit.setUWire fit

theorem Hub.Sound.unitParity {g : Fin 8} (fit : h.Sound μ σ ω) : (h.unitParity g).Sound μ σ ω :=
  Hub.Sound.handChanged (Hub.Sound.fireUEvent fit.withUsrc)

theorem Hub.Sound.clearHusk (fit : h.Sound μ σ ω) : (h.clearHusk p).Sound μ σ ω :=
  Hub.Sound.unless (fit.onPlane fun t => Plane.Sound.leaveHusk (x := { h.plane p with flt := _ }) t) fun t => t

/-! Snapshots -/

theorem Hub.Sound.clearOvf (fit : h.Sound μ σ ω) : h.clearOvf.Sound μ σ ω := by
  obtain ⟨on, planes⟩ := fit
  simp only [Hub.clearOvf]
  refine ⟨on, fun r => ?_⟩
  cases r with
  | a => exact (planes .a).clearOvf
  | b => exact (planes .b).clearOvf
  | c => exact (planes .c).clearOvf

theorem Hub.Sound.chimneyOverflow (fit : h.Sound μ σ ω) : h.chimneyOverflow.Sound μ σ ω :=
  Hub.Sound.foldl (fun _ _ t => t.event fun t => t.setDet) fit

theorem Hub.Sound.chimneyPush {i : Fin 16} {e : QEntry} (fit : h.Sound μ σ ω) : (h.chimneyPush i e).Sound μ σ ω :=
  Hub.Sound.ite (Hub.Sound.chimneyOverflow fit) fit

theorem Hub.Sound.laneAction {type : Byte} (fit : h.Sound μ σ ω) : (h.laneAction type).Sound μ σ ω := Hub.Sound.ite fit.chimneyPush fit

theorem Hub.Sound.requestSince {ovfclr : Bool} {ago : Nat} (fit : h.Sound μ σ ω) : (h.requestSince ovfclr ago).Sound μ σ ω :=
  Hub.Sound.ite fit (Hub.Sound.ite (Hub.Sound.laneAction fit) (Hub.Sound.foldl (fun _ _ t => Hub.Sound.ite t t) fit))

theorem Hub.Sound.latchDigest (fit : h.Sound μ σ ω) : h.latchDigest.Sound μ σ ω := Hub.Sound.ite fit fit

theorem Hub.Sound.capturePlane (fit : h.Sound μ σ ω) : (h.capturePlane p).Sound μ σ ω := fit

theorem Hub.Sound.finishSnapshot (fit : h.Sound μ σ ω) : h.finishSnapshot.Sound μ σ ω := by
  simp only [Hub.finishSnapshot]; split
  · exact fit
  · exact Hub.Sound.ite fit (Hub.Sound.ucause (Hub.Sound.latchDigest (Hub.Sound.when
      (Hub.Sound.withSnap (Hub.Sound.foldl (fun _ _ t => Hub.Sound.ite t.capturePlane t) fit)) fun t => t.clearOvf)))

theorem Hub.Sound.captureWith {sec low : Word} {here : PlaneId → Bool} (fit : h.Sound μ σ ω) : (h.captureWith sec low here).Sound μ σ ω :=
  Hub.Sound.finishSnapshot (Hub.Sound.foldl (fun _ _ t => Hub.Sound.ite t.capturePlane t) fit)

theorem Hub.Sound.takeSnapshot (fit : h.Sound μ σ ω) : h.takeSnapshot.Sound μ σ ω := by
  unfold Hub.takeSnapshot; split
  · exact fit
  · exact Hub.Sound.ite (Hub.Sound.captureWith fit) fit

theorem Hub.Sound.endFrame (fit : h.Sound μ σ ω) : (h.endFrame p).Sound μ σ ω :=
  Hub.Sound.ite (Hub.Sound.finishSnapshot (Hub.Sound.capturePlane fit)) fit

/-! Boundaries -/

theorem Hub.Sound.drainLane3 (fit : h.Sound μ σ ω) : (h.drainLane3 p).Sound μ σ ω := Hub.Sound.ite fit fit

theorem Hub.Sound.closeFrame (fit : h.Sound μ σ ω) : (h.closeFrame p).Sound μ σ ω :=
  Hub.Sound.modPlane (Hub.Sound.drainLane3 (Hub.Sound.endFrame
    (fit.leaveZero.modPlane fun t => t.elapse.fineMoves.slewFrame.evalDamper))) fun t => t

theorem Hub.Sound.checkCounters (fit : h.Sound μ σ ω) : (h.checkCounters p).Sound μ σ ω := fit

theorem Hub.Sound.openFrame {judge : Plane → Plane} (fit : h.Sound μ σ ω)
    (hj : ∀ z : Plane, z.Sound μ (σ p) False → (judge z).Sound μ (σ p) False) : (h.openFrame p judge).Sound μ σ ω :=
  Hub.Sound.modPlane (Hub.Sound.checkCounters (Hub.Sound.onPlaneFree (fit.modPlane fun t => t)
    fun _ t => (t.endEvents.openLoop hj).applyPending.isolateMore)) fun t => t.sendSlot0

theorem Hub.Sound.ppsStep {m : Option PpsMeas} (fit : h.Sound μ σ ω) : (h.ppsStep p m).Sound μ σ ω :=
  Hub.Sound.openFrame (Hub.Sound.onPlaneFree (fit.closeFrame.modPlane fun t => t) fun _ t => t.openSecond)
    fun _ t => by
      split
      · exact t
      · exact t.refSecond.countVcob

theorem Hub.Sound.frameStep (fit : h.Sound μ σ ω) : (h.frameStep p).Sound μ σ ω :=
  Hub.Sound.ite (Hub.Sound.openFrame (fit.closeFrame.modPlane fun t => t) fun _ t => t) fit.ppsStep

theorem Hub.Sound.takeMirror {b : Option PartnerBank} (fit : h.Sound μ σ ω) : (h.takeMirror p b).Sound μ σ ω := by
  unfold Hub.takeMirror; split
  · exact fit
  · exact Hub.Sound.ite (Hub.Sound.ite (Hub.Sound.modPlane fit fun t => t) fit) fit

theorem Hub.Sound.chimneyReading {ch : Fin 2} {r : Option Int} (fit : h.Sound μ σ ω) : (h.chimneyReading ch r).Sound μ σ ω := by
  unfold Hub.chimneyReading; split
  · exact fit
  · exact Hub.Sound.ite (Hub.Sound.ite fit fit) fit

theorem Hub.Sound.msBoundary {m : MsMeas} (fit : h.Sound μ σ ω) : (h.msBoundary p m).Sound μ σ ω := by
  have t : (h.onPlane p fun x => x.msStep m).Sound μ σ ω := fit.onPlane fun t => t.msStep
  simp only [Hub.msBoundary]; split
  · exact Hub.Sound.modChim (Hub.Sound.chimneyReading (Hub.Sound.chimneyReading t))
  · exact t

theorem Hub.Sound.sampleUnit (fit : h.Sound μ σ ω) : h.sampleUnit.Sound μ σ ω := by
  simp only [Hub.sampleUnit]
  exact Hub.Sound.setUDet (Hub.Sound.foldl (fun _ _ t => t.setUDet) (Hub.Sound.foldl (fun _ _ t => t.setUDet) fit.setUDet.setUDet))

theorem Hub.Sound.ageEvents (fit : h.Sound μ σ ω) : h.ageEvents.Sound μ σ ω :=
  Hub.Sound.foldl (fun _ _ t => Hub.Sound.ite t (Hub.Sound.ite (Hub.Sound.setUDet t) t)) fit

theorem Hub.Sound.carryCauses (fit : h.Sound μ σ ω) : h.carryCauses.Sound μ σ ω :=
  Hub.Sound.when (h := h.allPorts _) fit fun t => Hub.Sound.foldl (fun _ _ t => Hub.Sound.ite t.chimneyPush t) t

theorem Hub.Sound.hkTick (fit : h.Sound μ σ ω) : h.hkTick.Sound μ σ ω := by
  have t : h.ageEvents.sampleUnit.carryCauses.Sound μ σ ω := fit.ageEvents.sampleUnit.carryCauses
  simp only [Hub.hkTick]
  generalize h.ageEvents.sampleUnit.carryCauses = k at t ⊢
  exact t

theorem Hub.Sound.writeWaiting {n : Nat} (fit : h.Sound μ σ ω) : (Hub.writeWaiting n h).Sound μ σ ω := by
  induction n generalizing h with
  | zero => exact fit
  | succ n ih =>
    unfold Hub.writeWaiting; split
    · exact fit
    · exact Hub.Sound.ite fit (ih (Hub.Sound.writeEntry fit))

theorem Hub.Sound.takeRecord (fit : h.Sound μ σ ω) : (h.takeRecord p).Sound μ σ ω := by
  unfold Hub.takeRecord; split
  · exact fit
  · rename_i r rest _
    have t : (h.modPlane p fun x => { x with outq := rest }).Sound μ σ ω := fit.modPlane fun t => t
    split
    · exact Hub.Sound.ite t.chimneyPush t
    · exact Hub.Sound.ite fit t.writeEntry

theorem Hub.Sound.compare {i : Fin 3} {d : Int} (fit : h.Sound μ σ ω) : (h.compare i d).Sound μ σ ω :=
  Hub.Sound.ite fit (Hub.Sound.when (Hub.Sound.judgeOutliers (Hub.Sound.unless (Hub.Sound.withCmp fit) fun t => t.cause.cause))
    fun t => t.allPlanes fun _ _ t => Plane.Sound.ite t.count t)

theorem Hub.Sound.keepField {k : WriteKind} (fit : h.Sound μ σ ω) : (h.keepField p k).Sound μ σ ω := fit.modPlane fun t => t

theorem Hub.Sound.seeValue {v : Hand} (fit : h.Sound μ σ ω) : (h.seeValue p v).Sound μ σ ω := by
  cases v with
  | fire n => exact fit.modPlane fun t => t
  | snapshot => exact fit
  | standby b => exact fit.keepField
  | force n b => exact fit.keepField

/-! Environment -/

theorem Hub.Sound.judgeFeed {n : Fin 2} {mean : Int} (fit : h.Sound μ σ ω) : (h.judgeFeed n mean).Sound μ σ ω :=
  Hub.Sound.when (Hub.Sound.setUDet (Hub.Sound.setUDet (Hub.Sound.setUDet (Hub.Sound.setUDet fit)))) fun t => Hub.Sound.ucause t.ulog

theorem Hub.Sound.sampleEnv {m : EnvMeas} (fit : h.Sound μ σ ω) : (h.sampleEnv m).Sound μ σ ω :=
  Hub.Sound.setFans (Hub.Sound.foldl (fun _ _ t => Hub.Sound.event (t.modPlane fun t => t) fun t => t.setDet)
    (Hub.Sound.setUDet (Hub.Sound.setUDet (Hub.Sound.setUDet fit))))

/-! Grid -/

theorem Hub.Sound.moveCount {f : Plane → Plane} (fit : h.Sound μ σ ω)
    (hf : ∀ z : Plane, z.Sound μ (σ p) False → (f z).Sound μ (σ p) False) : (h.moveCount p f).Sound μ σ ω := by
  have t : ((h.modPlane p Plane.evalDamper).endFrame p).Sound μ σ ω := Hub.Sound.endFrame (fit.modPlane fun t => t.evalDamper)
  have moved {k : Hub} (hk : k.Sound μ σ ω) : (k.onPlane p f).Sound μ σ ω := hk.onPlane (hf _)
  rcases Bool.eq_false_or_eq_true ((h.plane p).time.cyc == 0) with e | e
  · simp only [Hub.moveCount, e, if_true]
    exact (moved fit).modPlane fun t => t.sendSlot0
  · simp only [Hub.moveCount, e, Bool.false_eq_true, if_false]
    exact Hub.Sound.openFrame (moved (t.modPlane fun t => t)) fun _ t => t

theorem Hub.Sound.realignTo {sec : Word} (fit : h.Sound μ σ ω) : (h.realignTo p sec).Sound μ σ ω :=
  Hub.Sound.ite (fit.moveCount fun _ t => Plane.Sound.history (Plane.Sound.register (x := Plane.discardFabric _) t))
    (Hub.Sound.ite (fit.onPlane fun t => Plane.Sound.history t)
      (fit.moveCount fun _ t => Plane.Sound.history (Plane.Sound.moveGrid t)))

theorem Hub.Sound.realign (fit : h.Sound μ σ ω) : (h.realign p).Sound μ σ ω := by
  simp only [Hub.realign]; split
  · split
    · exact fit
    · exact fit.realignTo
  · exact fit.realignTo

theorem Hub.Sound.announceRealign (fit : g.Sound μ σ ω) : (h.announceRealign p g).Sound μ σ ω := Hub.Sound.ite fit.laneAction fit

/-! Nv -/

theorem Hub.Sound.useStoreChecks {k : Nat} (fit : h.Sound μ σ ω) : (h.useStoreChecks k).Sound μ σ ω := by
  unfold Hub.useStoreChecks; split
  · exact fit
  · exact Hub.Sound.ucountN (fit.modPlane fun t => t.spendChecks)

theorem Hub.Sound.compact (fit : h.Sound μ σ ω) : h.compact.Sound μ σ ω :=
  Hub.Sound.ucount (Hub.Sound.ucountN (Hub.Sound.useStoreChecks fit))
theorem Hub.Sound.makeRoom (fit : h.Sound μ σ ω) : h.makeRoom.Sound μ σ ω := Hub.Sound.ite fit fit.compact

theorem Hub.Sound.append {page : BitVec 16} {data : List Byte} {ok : Bool} (fit : h.Sound μ σ ω) : (h.append page data ok).Sound μ σ ω :=
  Hub.Sound.withNv (Hub.Sound.ite fit fit)

theorem Hub.Sound.put {page : BitVec 16} {data : List Byte} {ok : Bool} (fit : h.Sound μ σ ω) : (h.put page data ok).Sound μ σ ω :=
  fit.makeRoom.append

theorem Hub.Sound.recordEffect {page : BitVec 16} {data : List Byte} (fit : h.Sound μ σ ω) : (h.recordEffect page data).Sound μ σ ω :=
  Hub.Sound.ite (Hub.Sound.allPorts fit) (Hub.Sound.ite (Hub.Sound.allPorts fit) fit)

theorem Hub.Sound.program {page : BitVec 16} {data : List Byte} {ok1 ok2 : Bool} (fit : h.Sound μ σ ω) :
    (h.program page data ok1 ok2).1.Sound μ σ ω := by
  simp only [Hub.program, apply_ite Prod.fst]
  exact Hub.Sound.andThen (Hub.Sound.unless fit.put fun t => t.put) fun t =>
    Hub.Sound.ite (Hub.Sound.recordEffect (Hub.Sound.ucount (Hub.Sound.withNv t))) (Hub.Sound.withNv t)

theorem Hub.Sound.startOp {op : NvOp} (fit : h.Sound μ σ ω) : (h.startOp op).Sound μ σ ω := Hub.Sound.withNv fit.makeRoom

theorem Hub.Sound.startWaiting (fit : h.Sound μ σ ω) : h.startWaiting.Sound μ σ ω := by
  unfold Hub.startWaiting; split
  · exact Hub.Sound.startOp fit
  · exact fit

theorem Hub.Sound.ownWrite {page : Fin 128} {data : List Byte} (fit : h.Sound μ σ ω) : (h.ownWrite page data).Sound μ σ ω := fit
theorem Hub.Sound.namePage {page : Fin 128} (fit : h.Sound μ σ ω) : (h.namePage q page).Sound μ σ ω := fit.modPort

theorem Hub.Sound.loadPage {page : Fin 128} (fit : h.Sound μ σ ω) : (h.loadPage q page).Sound μ σ ω :=
  Hub.Sound.ite (Hub.Sound.withNv (Hub.Sound.modPort (Hub.Sound.ite fit.useStoreChecks fit.ucount)))
    fit.modPort

theorem Hub.Sound.nvRead {addr : BitVec 7} {page : Fin 128} (fit : h.Sound μ σ ω) : (h.nvRead q addr page).Sound μ σ ω :=
  fit.judged fun t => t.loadPage

theorem Hub.Sound.nvWrite {addr : BitVec 7} {page : Fin 128} (fit : h.Sound μ σ ω) : (h.nvWrite q addr page).Sound μ σ ω :=
  fit.judged fun t => t.startOp

theorem Hub.Sound.lockOut (fit : h.Sound μ σ ω) : h.lockOut.Sound μ σ ω :=
  Hub.Sound.ulog (Hub.Sound.allPorts (Hub.Sound.setUDet fit))

theorem Hub.Sound.passwordFails {write : Bool} (fit : h.Sound μ σ ω) : (h.passwordFails q write).Sound μ σ ω :=
  Hub.Sound.when (Hub.Sound.ulog (Hub.Sound.ucount (Hub.Sound.withNv fit.modPort))) fun t => t.lockOut

theorem Hub.Sound.presentKey {write : Bool} (fit : h.Sound μ σ ω) : (h.presentKey q write).Sound μ σ ω :=
  Hub.Sound.ite (Hub.Sound.modPort fit.modPort)
    (Hub.Sound.passwordFails fit.modPort)

theorem Hub.Sound.keyRefused (fit : h.Sound μ σ ω) : h.keyRefused.Sound μ σ ω := Hub.Sound.ite fit.ucount fit

theorem Hub.Sound.nvKey {addr : BitVec 7} {write : Bool} (fit : h.Sound μ σ ω) : (h.nvKey q addr write).Sound μ σ ω :=
  fit.keyRefused.judged fun t => t.presentKey

theorem Hub.Sound.nvPassword {addr : BitVec 7} {write : Bool} (fit : h.Sound μ σ ω) : (h.nvPassword q addr write).Sound μ σ ω :=
  fit.keyRefused.judged fun t => Hub.Sound.modPort (Hub.Sound.startOp t)

theorem Hub.Sound.setKsel {k : BitVec 2} (fit : h.Sound μ σ ω) : (h.setKsel q k).Sound μ σ ω := fit.modPort

theorem Hub.Sound.endOp {op : NvOp} {ok1 ok2 : Bool} (fit : h.Sound μ σ ω) : (h.endOp op ok1 ok2).Sound μ σ ω := by
  simp only [Hub.endOp]
  refine Hub.Sound.startWaiting ?_
  split
  · exact Hub.Sound.withNv fit.program
  · exact Hub.Sound.modPort (Hub.Sound.withNv fit.program)

theorem Hub.Sound.hubPage {page : Fin 128} {hiIn loIn hiInt : Int} (fit : h.Sound μ σ ω) :
    (h.hubPage page hiIn loIn hiInt).Sound μ σ ω := by
  unfold Hub.hubPage; split
  · exact fit
  · exact Hub.Sound.ite fit (Hub.Sound.ite fit.ownWrite fit.ownWrite.startWaiting)

/-! Ownership -/

theorem Hub.Sound.causeIn {bit : Nat} (fit : h.Sound μ σ ω) : (h.causeIn q p bit).Sound μ σ ω := by
  have sent : (h.modPlane p (·.send (.cause bit))).Sound μ σ ω := fit.modPlane fun t => t.send
  exact Hub.Sound.ite (Hub.Sound.ite (sent.modPort) (sent.modPort)) fit.modPort

theorem Hub.Sound.logPort {type : Byte} {w4 : Word} (fit : h.Sound μ σ ω) : (h.logPort p type q w4).Sound μ σ ω :=
  fit.modPlane fun t => t.send

theorem Hub.Sound.endOwner {code : Nat} (fit : h.Sound μ σ ω) : (h.endOwner p code).Sound μ σ ω := by
  unfold Hub.endOwner; split
  · exact fit
  · exact Hub.Sound.foldl (fun _ _ t => Hub.Sound.ite t t.causeIn) (Hub.Sound.logPort (fit.modPlane fun t => t))

theorem Hub.Sound.causeAt {off : Fin 8} {bit : Nat} (fit : h.Sound μ σ ω) : (h.causeAt q off bit).Sound μ σ ω :=
  Hub.Sound.ite fit.causeIn fit.modPort

theorem Hub.Sound.schedLost {s : Sched} (fit : h.Sound μ σ ω) : (h.schedLost q p s).Sound μ σ ω :=
  Hub.Sound.causeAt (Hub.Sound.logPort fit.refuse)

theorem Hub.Sound.discardSchedsOf (fit : h.Sound μ σ ω) : (h.discardSchedsOf p q).Sound μ σ ω :=
  Hub.Sound.foldl (fun _ _ t => t.schedLost) fit.modPort

theorem Hub.Sound.discardScheds (fit : h.Sound μ σ ω) : (h.discardScheds p).Sound μ σ ω :=
  Hub.Sound.foldl (fun _ _ t => t.discardSchedsOf) fit

theorem Hub.Sound.discardFarScheds (fit : h.Sound μ σ ω) : h.discardFarScheds.Sound μ σ ω :=
  Hub.Sound.foldl (fun _ _ t => Hub.Sound.foldl (fun _ _ t => t.schedLost) t.modPort) fit

theorem Hub.Sound.release (fit : h.Sound μ σ ω) : (h.release q p).Sound μ σ ω := Hub.Sound.ite fit.endOwner fit

/-! Tandem -/

theorem Hub.Sound.tandemEvent {code : Nat} (fit : h.Sound μ σ ω) : (h.tandemEvent code).Sound μ σ ω :=
  Hub.Sound.unless fit.ulog fun t => Hub.Sound.foldl (fun _ _ t => t.cause) t

/-- Where the hub has power, a plane that no mode reaches through an event has its word clock stopped, so no switch is pending in it. -/
theorem Hub.Sound.modeAll {out : Bool} {m : PlaneId → LoopMode} {r : PlaneId → Fin 4} {f : PlaneId → Int → Plane → Plane}
    (fit : h.Sound μ σ True) (hf : ∀ (p : PlaneId) (v : Int) (z : Plane), z.Sound μ (σ p) False → (f p v z).Sound μ (σ p) False) :
    (h.modeAll out m r f).Sound μ σ True := by
  refine Hub.Sound.foldl (fun k i t => ?_) fit
  split
  · exact t.onPlaneFree fun v => hf i v _
  · rename_i stands
    have off : (k.plane i).clocked = false := by simpa [Hub.active, t.powered] using stands
    exact t.modPlane fun u => u.modeStopped off

theorem Hub.Sound.chimneyState {ch : Fin 2} {st : ChState} (fit : h.Sound μ σ ω) : (h.chimneyState ch st).Sound μ σ ω :=
  Hub.Sound.when fit.modChim fun t => t.ucount

theorem Hub.Sound.rejudgePorts (fit : h.Sound μ σ ω) : h.rejudgePorts.Sound μ σ ω := fit.chimneyState.chimneyState

theorem Hub.Sound.chimneySees {ch : Fin 2} {s : PortSight} (fit : h.Sound μ σ ω) : (h.chimneySees ch s).Sound μ σ ω :=
  Hub.Sound.rejudgePorts fit.modChim

theorem Hub.Sound.joinCmd {addr : BitVec 7} {r : PartnerReady} (fit : h.Sound μ σ ω) : (h.joinCmd q addr r).Sound μ σ ω :=
  Hub.Sound.andThen (Hub.Sound.when fit fun t => t.tandemEvent) fun t => t.judged fun u => Hub.Sound.rejudgePorts u.modChim

theorem Hub.Sound.announce (fit : h.Sound μ σ True) : h.announce.Sound μ σ True :=
  Hub.Sound.ite (Hub.Sound.ite (Hub.Sound.laneAction fit.modChim) fit)
    (Hub.Sound.ite (Hub.Sound.modeAll (Hub.Sound.rejudgePorts fit.modChim) fun _ _ _ t => t.takeRef3) fit)

theorem Hub.Sound.completeJoin {secs : Tri Word} (fit : h.Sound μ σ ω) : (h.completeJoin secs).Sound μ σ ω := by
  simp only [Hub.completeJoin]
  exact Hub.Sound.tandemEvent (Hub.Sound.rejudgePorts (Hub.Sound.modChim
    (Hub.Sound.when fit fun t => Hub.Sound.foldl (fun _ _ t => t.realignTo) t)))

theorem Hub.Sound.abandonJoin (fit : h.Sound μ σ True) : h.abandonJoin.Sound μ σ True :=
  Hub.Sound.ite (Hub.Sound.tandemEvent (Hub.Sound.when fit.modChim fun t => t.modeAll fun _ _ _ t => t.dropRef3)) fit

theorem Hub.Sound.loneSnapshot (fit : h.Sound μ σ ω) : h.loneSnapshot.Sound μ σ ω := Hub.Sound.ite fit fit.finishSnapshot

theorem Hub.Sound.separate {lost : Bool} (fit : h.Sound μ σ True) : (h.separate lost).Sound μ σ True :=
  Hub.Sound.tandemEvent (Hub.Sound.when (Hub.Sound.when (Hub.Sound.loneSnapshot (Hub.Sound.discardFarScheds
    (Hub.Sound.withUcommits (Hub.Sound.allPorts (Hub.Sound.allPlanes (Hub.Sound.ucountN (Hub.Sound.rejudgePorts fit.modChim))
      fun _ _ t => t)))))
    fun t => t.modeAll fun _ _ _ t => t.dropRef3) fun t => Hub.Sound.foldl (fun _ _ t => t.event fun t => t.setDet) t)

theorem Hub.Sound.switchOver {inFlight : Nat} (fit : h.Sound μ σ ω) : (h.switchOver inFlight).Sound μ σ ω :=
  Hub.Sound.ite (Hub.Sound.tandemEvent (Hub.Sound.when (Hub.Sound.ucountN (Hub.Sound.ucount (Hub.Sound.rejudgePorts
    fit.modChim))) fun t => Hub.Sound.foldl (fun _ _ t => t.eventFree fun _ t => t.leave3) t)) fit

theorem Hub.Sound.enterTunnel {off : Fin 8} {k : WriteKind} (fit : h.Sound μ σ ω) : (h.enterTunnel q off k).Sound μ σ ω :=
  Hub.Sound.unless fit.chimneyPush fun t => Hub.Sound.modPort t.modChim

theorem Hub.Sound.leaveCmd {addr : BitVec 7} (fit : h.Sound μ σ ω) : (h.leaveCmd q addr).Sound μ σ ω :=
  fit.judged fun t => Hub.Sound.laneAction t.modChim

/-! Start -/

theorem Hub.Sound.lateUnit (fit : h.Sound μ σ ω) : (h.lateUnit p).Sound μ σ ω := by
  unfold Hub.lateUnit; exact Hub.Sound.modPlane (h := { h with hand := _, snap := _ }) fit fun t => t

theorem Hub.Sound.restartComparators (fit : h.Sound μ σ ω) : (h.restartComparators p).Sound μ σ ω := Hub.Sound.judgeOutliers fit

/-- A plane that is right in itself may stand in a hub whose other planes are. -/
theorem Hub.Sound.setPlane_anew {τ : PlaneId → Prop} {x : Plane} (fit : h.Sound μ τ ω) (others : ∀ r, r ≠ p → σ r → τ r)
    (hx : x.Sound μ (σ p) False) : (h.setPlane p x).Sound μ σ ω :=
  ⟨fit.1, fun r => by
    show ((h.planes.set p x).get r).Sound μ (σ r) False
    rw [Tri.get_set]
    split
    · rename_i same
      rw [same]; exact hx
    · rename_i other
      obtain ⟨mark, right⟩ := fit.2 r
      exact ⟨mark, fun some => ⟨(right some).1, fun on => (right some).2 (others r other on)⟩⟩⟩

theorem Hub.Sound.onPlane_anew {τ : PlaneId → Prop} {f : Plane → Plane} (fit : h.Sound μ τ ω) (others : ∀ r, r ≠ p → σ r → τ r)
    (hf : (f (h.plane p)).Sound μ (σ p) False) : (h.onPlane p f).Sound μ σ ω :=
  Hub.Sound.foldl (fun _ _ t => t.cause) (Hub.Sound.modPlane (h := h.modPlane p f) (fit.setPlane_anew others hf)
    fun t => by simpa using t)

/-- A plane that starts is right whatever it was before. -/
theorem Hub.Sound.startPlane {τ : PlaneId → Prop} (fit : h.Sound μ τ ω) (others : ∀ r, r ≠ p → σ r → τ r) :
    (h.startPlane p).Sound μ σ ω := by
  have started : (h.onPlane p fun x => x.release h.udecl.b000Year h.ref3Free).Sound μ σ ω :=
    fit.onPlane_anew others Plane.Sound.release
  have late := Hub.Sound.restartComparators (p := p) (Hub.Sound.lateUnit (p := p) started)
  simp only [Hub.startPlane]
  generalize ((h.onPlane p fun x => x.release h.udecl.b000Year h.ref3Free).lateUnit p).restartComparators p = k at late ⊢
  exact Hub.Sound.firstBank (Hub.Sound.modPlane (late.modPlane fun t => t) fun t => Plane.Sound.forcedAnd t)

/-! Power -/

/-- Kindling starts every plane anew. -/
theorem Hub.Sound.fromFlash : h.fromFlash.Sound μ σ ω :=
  Hub.Sound.setFans (Hub.Sound.foldl (fun _ _ t => t.firstBank)
    ⟨fun _ => rfl, fun p => by cases p <;> exact ⟨fun _ => rfl, fun some => absurd rfl some⟩⟩)

theorem Hub.Sound.recordRecovery {ok : Bool} (fit : h.Sound μ σ ω) : (h.recordRecovery q ok).Sound μ σ ω := Hub.Sound.ucount fit.ulog

theorem Hub.Sound.kindleBus {sdaLow : Bool} (fit : h.Sound μ σ ω) : (h.kindleBus q sdaLow).Sound μ σ ω :=
  Hub.Sound.ite (Hub.Sound.recordRecovery fit) fit

theorem Hub.Sound.selfTest {ok : Bool} (fit : h.Sound μ σ ω) : (h.selfTest ok).Sound μ σ ω := Hub.Sound.ite fit (Hub.Sound.setUDet fit)

theorem Hub.Sound.resolved {n : Nat} (fit : h.Sound μ σ ω) : (h.resolved n).Sound μ σ ω :=
  Hub.Sound.ite fit (Hub.Sound.fireUEvent fit.ucountN)

theorem Hub.Sound.kindle {a : Vector Bool 3} {b : Bool} : (h.kindle a b).Sound μ σ ω :=
  Hub.Sound.kindleBus (Hub.Sound.kindleBus (Hub.Sound.kindleBus (Hub.Sound.startWaiting (Hub.Sound.ownWrite (Hub.Sound.ulog
    (Hub.Sound.resolved (Hub.Sound.ucountN Hub.Sound.fromFlash.selfTest)))))))

theorem Hub.Sound.losePower {markDone headerOk : Bool} (fit : h.Sound μ σ ω) : (h.losePower markDone headerOk).Sound μ σ False := by
  cases e : h.nv.op with
  | none => simp only [Hub.losePower, e]; exact ⟨nofun, fit.2⟩
  | some op => simp only [Hub.losePower, e]; exact ⟨nofun, (Hub.Sound.append (page := op.page) (data := op.data) (ok := markDone) fit).2⟩

theorem Hub.Sound.rejectImage {slot : Fin 2} {code : Nat} (fit : h.Sound μ σ ω) : (h.rejectImage slot code).Sound μ σ ω :=
  Hub.Sound.unless fit.ulog fun t => t.ucount

theorem Hub.Sound.imageCond {n : Fin 32} {b : Bool} (fit : h.Sound μ σ ω) : (h.imageCond n b).Sound μ σ ω := Hub.Sound.setUDet fit.modUSrc
theorem Hub.Sound.acceptImage (fit : h.Sound μ σ ω) : h.acceptImage.Sound μ σ ω := fit.imageCond.imageCond

theorem Hub.Sound.takeUnit {f : ImageFile} (fit : h.Sound μ σ ω) : (h.takeUnit f).Sound μ σ ω :=
  Hub.Sound.unless fit fun t => Hub.Sound.handChanged t

theorem Hub.Sound.takeDigests {f : ImageFile} {slot : Fin 2} (fit : h.Sound μ σ ω) : (h.takeDigests p f slot).Sound μ σ ω :=
  Hub.Sound.withCfg (fit.modPlane fun t => t)

theorem Hub.Sound.logImage {type : Byte} {slot : Fin 2} {f : ImageFile} (fit : h.Sound μ σ ω) : (h.logImage type slot f).Sound μ σ ω :=
  fit.ulog

theorem Hub.Sound.checkRun (fit : h.Sound μ σ ω) : h.checkRun.Sound μ σ ω := Hub.Sound.ite fit fit

/-- The planes of an image, each in its turn, are right from their start on. -/
theorem Hub.Sound.startAll (fit : h.Sound μ (fun _ => False) ω) : (PlaneId.all.foldl Hub.startPlane h).Sound μ σ ω := by
  have a : (h.startPlane .a).Sound μ (fun r => σ r ∧ r = .a) ω := fit.startPlane fun _ other on => other on.2
  have b : ((h.startPlane .a).startPlane .b).Sound μ (fun r => σ r ∧ r ≠ .c) ω := a.startPlane fun r other on => by
    cases r with
    | a => exact ⟨on.1, rfl⟩
    | b => exact absurd rfl other
    | c => exact absurd rfl on.2
  exact b.startPlane fun _ other on => ⟨on, other⟩

theorem Hub.Sound.mark (fit : h.Sound μ σ ω) : h.Sound μ (fun _ => False) ω :=
  ⟨fit.1, fun p => ⟨(fit.2 p).1, fun _ => ⟨nofun, nofun⟩⟩⟩

theorem Hub.Sound.applyImage {slot : Fin 2} {f : ImageFile} {fallback : Bool} (fit : h.Sound μ σ ω) :
    (h.applyImage slot f fallback).Sound μ σ ω :=
  Hub.Sound.checkRun (Hub.Sound.logImage (Hub.Sound.ucount (Hub.Sound.rejudgePorts (Hub.Sound.startAll (Hub.Sound.foldl
    (fun _ _ t => t.takeDigests.modPlane fun t => Plane.Sound.imageGens (Plane.Sound.takeSection t)) fit.acceptImage.takeUnit.mark)))))

theorem Hub.Sound.failRead {slot : Fin 2} {code : Nat} (fit : h.Sound μ σ ω) : (h.failRead slot code).Sound μ σ ω :=
  fit.rejectImage.imageCond

theorem Hub.Sound.tryRead {slot : Fin 2} {r : SlotRead} {fallback : Bool} (fit : h.Sound μ σ ω) :
    (h.tryRead slot r fallback).1.Sound μ σ ω := by
  simp only [Hub.tryRead]; split
  · exact fit.failRead
  · split
    · exact fit.applyImage.modSlot
    · exact fit.failRead

theorem Hub.Sound.bootImage {reads : Vector SlotRead 2} (fit : h.Sound μ σ ω) : (h.bootImage reads).Sound μ σ ω :=
  Hub.Sound.ite fit.tryRead (Hub.Sound.ite (Hub.Sound.tryRead fit.tryRead) (Hub.Sound.withUpstate (Hub.Sound.tryRead fit.tryRead)))

theorem Hub.Sound.openGate {f : Plane → Plane} (fit : h.Sound μ σ ω) (hf : ∀ z : Plane, z.Sound μ (σ p) False → (f z).Sound μ (σ p) False) :
    (h.openGate p f).Sound μ σ ω :=
  Hub.Sound.checkRun (Hub.Sound.when (fit.modPlane fun t => hf _ t) fun t => t.onPlane fun t => t.lightLinks)

/-! Standby -/

theorem Hub.Sound.standbyEnter (fit : h.Sound μ σ ω) : (h.standbyEnter p).Sound μ σ ω := fit.onPlane fun t => t.enterStandby
theorem Hub.Sound.checkStandby (fit : h.Sound μ σ ω) : h.checkStandby.Sound μ σ ω :=
  Hub.Sound.ite (Hub.Sound.ucause (Hub.Sound.ulog fit)) fit

theorem Hub.Sound.reachStandby (fit : h.Sound μ σ ω) : (h.reachStandby p).Sound μ σ ω :=
  Hub.Sound.checkStandby (Hub.Sound.judgeOutliers (Hub.Sound.discardScheds (fit.onPlane fun t => t.abandonSwitch.stopClocks.of_idle)))

theorem Hub.Sound.standbyLeave (fit : h.Sound μ σ ω) : (h.standbyLeave p).Sound μ σ ω := fit.modPlane fun t => t.leaveStandby

theorem Hub.Sound.standbyWithUnit (fit : h.Sound μ σ ω) : (h.standbyWithUnit p).Sound μ σ ω := by
  refine Hub.Sound.ite (fit.onPlane fun t => t.enterStandby) ?_
  split
  · rename_i leaving
    exact fit.modPlane fun t => t.stopLeaving leaving
  · exact fit

theorem Hub.Sound.leaveWithUnit (fit : h.Sound μ σ ω) : (h.leaveWithUnit p).Sound μ σ ω := Hub.Sound.ite fit.standbyLeave fit

theorem Hub.Sound.handStandby {b : Bool} (fit : h.Sound μ σ ω) : (h.handStandby b p).Sound μ σ ω :=
  Hub.Sound.ite fit (Hub.Sound.ite fit.standbyWithUnit fit.leaveWithUnit)

theorem Hub.Sound.unitEnter (fit : h.Sound μ σ True) : h.unitEnter.Sound μ σ True :=
  Hub.Sound.checkStandby (Hub.Sound.setFans (Hub.Sound.foldl (fun _ _ t => t.handStandby) (Hub.Sound.withUstby (Hub.Sound.modChim
    (Hub.Sound.when fit.allPorts fun t => t.separate)))))

theorem Hub.Sound.unitLeave (fit : h.Sound μ σ ω) : h.unitLeave.Sound μ σ ω :=
  Hub.Sound.ucause (Hub.Sound.ulog (Hub.Sound.setFans (Hub.Sound.foldl (fun _ _ t => t.handStandby)
    (Hub.Sound.rejudgePorts (Hub.Sound.allPorts fit)))))

/-! Images -/

theorem Hub.Sound.begins {cmd : BitVec 4} (fit : h.Sound μ σ ω) : (h.begins cmd).Sound μ σ ω := fit
theorem Hub.Sound.ends {code : Nat} (fit : h.Sound μ σ ω) : (h.ends code).Sound μ σ ω := Hub.Sound.ucause fit.modCfg

theorem Hub.Sound.startErase {i : Fin 2} (fit : h.Sound μ σ ω) : (h.startErase i).Sound μ σ ω :=
  Hub.Sound.modCfg (Hub.Sound.modSlot fit.begins)

theorem Hub.Sound.endErase (fit : h.Sound μ σ ω) : h.endErase.Sound μ σ ω := by
  unfold Hub.endErase; split
  · exact fit
  · exact Hub.Sound.ends (Hub.Sound.modSlot fit.modCfg)

theorem Hub.Sound.openSlot {i : Fin 2} (fit : h.Sound μ σ ω) : (h.openSlot q i).Sound μ σ ω := Hub.Sound.ends (Hub.Sound.modCfg fit.begins)

theorem Hub.Sound.closeSlot (fit : h.Sound μ σ ω) : (h.closeSlot q).Sound μ σ ω := by
  unfold Hub.closeSlot; split
  · exact fit
  · exact Hub.Sound.modCfg fit.begins

theorem Hub.Sound.bootSlot {i : Fin 2} (fit : h.Sound μ σ ω) : (h.bootSlot i).Sound μ σ ω := by
  simp only [Hub.bootSlot]
  refine Hub.Sound.ends ?_
  split
  · exact fit.begins.modCfg
  · exact Hub.Sound.ownWrite fit.begins.modCfg

theorem Hub.Sound.orderLoad {i : Fin 2} {ps : List PlaneId} (fit : h.Sound μ σ ω) : (h.orderLoad q i ps).Sound μ σ ω :=
  Hub.Sound.foldl (fun _ _ t => t.modPlane fun t => t) fit

theorem Hub.Sound.cfgEffect {c : CfgCmd} (fit : h.Sound μ σ ω) : (h.cfgEffect q c).Sound μ σ ω := by
  cases c with
  | erase i => exact fit.startErase
  | openSlot i => exact fit.openSlot
  | close => exact fit.closeSlot
  | boot i => exact fit.bootSlot
  | load i => exact Hub.Sound.orderLoad (Hub.Sound.modCfg fit.begins)
  | reload i w => exact fit.begins.orderLoad

theorem Hub.Sound.cfgCommand {addr : BitVec 7} {c : CfgCmd} (fit : h.Sound μ σ ω) : (h.cfgCommand q addr c).Sound μ σ ω :=
  fit.judged fun t => t.cfgEffect

theorem Hub.Sound.bufferBlock {b : Nat} {data : List Byte} (fit : h.Sound μ σ ω) : (h.bufferBlock q b data).Sound μ σ ω := by
  unfold Hub.bufferBlock; split <;> exact fit

theorem Hub.Sound.programBlock (fit : h.Sound μ σ ω) : (h.programBlock q).Sound μ σ ω := by
  unfold Hub.programBlock; split <;> exact fit

theorem Hub.Sound.endVerify {r : SlotRead} (fit : h.Sound μ σ ω) : (h.endVerify r).Sound μ σ ω := by
  simp only [Hub.endVerify]; split
  · exact fit
  · split
    · exact Hub.Sound.ends (Hub.Sound.rejectImage fit.modCfg)
    · exact Hub.Sound.ite (Hub.Sound.ends (Hub.Sound.acceptImage (Hub.Sound.modSlot fit.modCfg)))
        (Hub.Sound.ends (Hub.Sound.rejectImage (Hub.Sound.modSlot fit.modCfg)))

theorem Hub.Sound.abandonLoad (fit : h.Sound μ σ ω) : (h.abandonLoad p q).Sound μ σ ω :=
  Hub.Sound.when (Hub.Sound.when (Hub.Sound.allPlanes fit.refuse fun _ _ t => Plane.Sound.ite t t) fun t => t.modCfg)
    fun t => t.modCfg

theorem Hub.Sound.reachF0 (fit : h.Sound μ σ ω) : (h.reachF0 p).Sound μ σ ω := by
  simp only [Hub.reachF0]; split
  · exact fit
  · exact Hub.Sound.ite fit (Hub.Sound.ite fit.abandonLoad
      (Hub.Sound.judgeOutliers (Hub.Sound.discardScheds (fit.onPlaneFree fun _ t => t.atF0))))

theorem Hub.Sound.loadUnit {f : ImageFile} {i : Fin 2} (fit : h.Sound μ σ ω) : (h.loadUnit f i).Sound μ σ ω :=
  Hub.Sound.ite (Hub.Sound.foldl (fun _ _ t => t.endOwner) (Hub.Sound.modCfg fit.takeUnit)) fit

theorem Hub.Sound.holdOut (fit : h.Sound μ σ ω) : (h.holdOut p).Sound μ σ ω := fit.onPlane fun t => t.holdRefs
theorem Hub.Sound.resetEn (fit : h.Sound μ σ ω) : (h.resetEn p).Sound μ σ ω := fit

/-- A plane that stands takes its section and starts. -/
theorem Hub.Sound.startWith {s : PlaneDecl} (fit : h.Sound μ σ ω) :
    ((h.modPlane p fun x => (x.takeSection s).imageGens).startPlane p).Sound μ σ ω := by
  have quiet : (h.plane p).Sound μ False False := fit.plane.weaken False.elim
  have kept : (((h.plane p).takeSection s).imageGens).Sound μ (σ p ∧ p ≠ p) False :=
    Plane.Sound.weaken (Plane.Sound.imageGens quiet.takeSection) fun on => on.2 rfl
  have taken : (h.modPlane p fun x => (x.takeSection s).imageGens).Sound μ (fun r => σ r ∧ r ≠ p) ω :=
    fit.setPlane_anew (fun _ _ on => on.1) kept
  exact taken.startPlane fun _ other on => ⟨on, other⟩

/-- A plane that holds through a reload has no switch pending at F₁; one that stands starts anew. -/
theorem Hub.Sound.takePlane {i : Fin 2} {f : ImageFile} (fit : h.Sound μ σ ω) : (h.takePlane p i f).Sound μ σ ω := by
  have own : (if (h.plane p).sdig = f.sdig.get p then h else h.resetEn p).Sound μ σ ω := Hub.Sound.unless fit fun t => t.resetEn
  have same : (if (h.plane p).sdig = f.sdig.get p then h else h.resetEn p).plane p = h.plane p := by split <;> rfl
  simp only [Hub.takePlane]
  generalize (if (h.plane p).sdig = f.sdig.get p then h else h.resetEn p) = k at own same ⊢
  have taken : ((k.takeDigests p f i).modPlane p fun x => { x with next := none }).Sound μ σ ω := own.takeDigests.modPlane fun t => t
  have power : (((k.takeDigests p f i).modPlane p fun x => { x with next := none }).plane p).power = (h.plane p).power := by
    rw [← same]; simp [Hub.takeDigests, Hub.plane, Hub.modPlane, Hub.setPlane]
  generalize ((k.takeDigests p f i).modPlane p fun x => { x with next := none }) = g at taken power ⊢
  refine Hub.Sound.ucount (Hub.Sound.onPlane ?_ fun t => Plane.Sound.log (Plane.Sound.raise (Plane.Sound.freshConfig t)))
  split
  · rename_i keep
    have kept : (g.plane p).power = .reloadKeep := power.trans (by simpa using keep)
    exact Hub.Sound.reforce (Hub.Sound.holdOut (taken.onPlane fun t => (t.reloading kept).atF1.of_quiet))
  · exact taken.startWith

theorem Hub.Sound.finishLoads {f : ImageFile} {i : Fin 2} (fit : h.Sound μ σ ω) : (h.finishLoads f i).Sound μ σ ω :=
  Hub.Sound.ite (Hub.Sound.ends (Hub.Sound.when fit fun t =>
    Hub.Sound.logImage (Hub.Sound.ucount (Hub.Sound.withNv (Hub.Sound.ite (Hub.Sound.withUpstate t.modCfg) t.modCfg))))) fit

theorem Hub.Sound.reachF1 (fit : h.Sound μ σ ω) : (h.reachF1 p).Sound μ σ ω := by
  simp only [Hub.reachF1]; split
  · exact fit
  · split
    · exact fit
    · exact Hub.Sound.ite fit.loadUnit.takePlane.finishLoads.rejudgePorts.judgeOutliers fit

/-! Windows -/

theorem Hub.Sound.noteRead {space : BitVec 4} {index : BitVec 20} (fit : h.Sound μ σ ω) : (h.noteRead q space index).Sound μ σ ω := by
  unfold Hub.noteRead; split
  · split <;> exact fit
  · exact fit

/-! Records -/

theorem Hub.Sound.writeSource {n : Fin 64} {ws : List Word} (fit : h.Sound μ σ ω) : (h.writeSource p n ws).Sound μ σ ω :=
  Hub.Sound.unless (Hub.Sound.when fit fun t => t.clearPlaneSticky) fun t => t.setSev

theorem Hub.Sound.writeUnitSource {n : Fin 32} {ws : List Word} (fit : h.Sound μ σ ω) : (h.writeUnitSource n ws).Sound μ σ ω :=
  Hub.Sound.unless (Hub.Sound.when fit fun t => t.clearUnitSticky) fun t => t.setUSev

theorem Hub.Sound.setThreshold {i : Item} {n : BitVec 3} (fit : h.Sound μ σ ω) : (h.setThreshold i n).Sound μ σ ω := by
  unfold Hub.setThreshold; split
  · exact fit.modPlane fun t => t
  · exact fit.modPlane fun t => t
  · exact fit.modChim
  · exact fit

theorem Hub.Sound.recordAct {i : Item} {ws : List Word} (fit : h.Sound μ σ ω) :
    (h.recordAct q i ws).Sound μ σ ω := by
  cases i with
  | out p o =>
    refine fit.onPlane fun t => ?_
    split
    · exact t.writeCk
    · exact t.writePuRecord
  | link p l => exact fit.onPlane fun t => t.writeLink
  | source p n => exact fit.writeSource
  | unitSource n => exact fit.writeUnitSource
  | trigOut p n => exact fit.onPlane fun t => Plane.Sound.ite t t.writeTo
  | gen p g => exact fit.onPlane fun t => t.writeGen
  | grid p => exact fit.onPlane fun t => Plane.Sound.ite t t
  | cell p c => exact fit.onPlane fun t => t
  | auth k => exact Hub.Sound.ite fit fit
  | block b => exact fit.bufferBlock
  | linkQueue p l k => exact fit.setThreshold
  | groupQueue p g => exact fit.setThreshold
  | chimneyQueue k => exact fit.setThreshold
  | counter n => exact fit
  | ti p k => exact fit
  | cert k => exact fit
  | log k => exact fit
  | rate p m => exact fit
  | rtt p l => exact fit

theorem Hub.Sound.writeRecord {off : Fin 8} {space : BitVec 4} {index : BitVec 20} {ws : List Word} (fit : h.Sound μ σ ω) :
    (h.writeRecord q off space index ws).Sound μ σ ω := by
  refine fit.judged fun t => ?_
  split
  · exact t
  · exact t.recordAct

/-! Ports -/

theorem Hub.Sound.start (fit : h.Sound μ σ ω) : (h.start q).Sound μ σ ω := Hub.Sound.ite fit.modPort fit

theorem Hub.Sound.voidTx {addr : BitVec 7} {reg : BitVec 5} (fit : h.Sound μ σ ω) : (h.voidTx q addr reg).Sound μ σ ω :=
  fit.modPort

theorem Hub.Sound.loseMessage (fit : h.Sound μ σ ω) : (h.loseMessage q).Sound μ σ ω :=
  Hub.Sound.ucount (Hub.Sound.setUDet fit.modPort)

theorem Hub.Sound.attemptFails (fit : h.Sound μ σ ω) : (h.attemptFails q).Sound μ σ ω := by
  unfold Hub.attemptFails; split
  · exact fit
  · exact Hub.Sound.ite fit.loseMessage fit.modPort

theorem Hub.Sound.sendAttempt (fit : h.Sound μ σ ω) : (h.sendAttempt q).Sound μ σ ω := by
  unfold Hub.sendAttempt; split
  · exact fit
  · exact fit.modPort

theorem Hub.Sound.attempt {out : AttnEnd} (fit : h.Sound μ σ ω) : (h.attempt q out).Sound μ σ ω := by
  unfold Hub.attempt; split
  · cases out with
    | acked => exact Hub.Sound.ucount (fit.sendAttempt.modPort)
    | nacked => exact fit.sendAttempt.attemptFails
    | lostArb => exact fit.sendAttempt
  · exact fit

theorem Hub.Sound.setStuck {line : BusLine} {b : Bool} (fit : h.Sound μ σ ω) : (h.setStuck q line b).Sound μ σ ω := by
  cases line with
  | scl => exact Hub.Sound.setUDet fit.modPort
  | sda => exact Hub.Sound.setUDet fit.modPort

theorem Hub.Sound.voidTarget (fit : h.Sound μ σ ω) : (h.voidTarget q).Sound μ σ ω := Hub.Sound.ite fit.voidTx fit

theorem Hub.Sound.recover {lines : BusLines} (fit : h.Sound μ σ ω) : (h.recover q lines).Sound μ σ ω := by
  cases lines with
  | bothHigh => exact fit.recordRecovery
  | sclHeld => exact fit.voidTarget.recordRecovery
  | freed _ => exact fit.voidTarget.recordRecovery
  | stuck => exact fit.voidTarget.recordRecovery

theorem Hub.Sound.testPort {lines : BusLines} (fit : h.Sound μ σ ω) : (h.testPort q lines).Sound μ σ ω :=
  Hub.Sound.modPort (Hub.Sound.unless fit fun t => t.recover)

theorem Hub.Sound.localWrite {addr : BitVec 7} {reg : BitVec 5} {range : Bool} {f : Fin 8 → Port → Port} (fit : h.Sound μ σ ω) :
    (h.localWrite q addr reg range f).Sound μ σ ω := by
  unfold Hub.localWrite; (repeat' split) <;> exact fit

theorem Hub.Sound.releaseDrive (fit : h.Sound μ σ ω) : (h.releaseDrive q).Sound μ σ ω := Hub.Sound.ite fit.voidTarget fit.attempt

/-! Words -/

theorem Hub.Sound.pctlEffect {f : Pctl} (fit : h.Sound μ σ ω) : (h.pctlEffect q p f).Sound μ σ ω := by
  simp only [Hub.pctlEffect]
  have mode : (if f.mode = (h.plane p).sel.mode ∧ f.fref = (h.plane p).sel.fref then h
      else h.onPlaneFree p fun v x => x.setModeRef p v f.mode f.fref).Sound μ σ ω :=
    Hub.Sound.unless fit fun t => t.onPlaneFree fun _ t => t.setModeRef
  have align {k : Hub} (hk : k.Sound μ σ ω) : (if f.realign = 0 then k else k.onPlane p fun x => x.realignField f.realign).Sound μ σ ω :=
    Hub.Sound.unless hk fun t => t.onPlane fun t => t.realignField
  have standby {k : Hub} (hk : k.Sound μ σ ω) :
      (if f.stby = 1 then k.standbyEnter p else if f.stby = 2 then k.standbyLeave p else k).Sound μ σ ω :=
    Hub.Sound.ite hk.standbyEnter (Hub.Sound.ite hk.standbyLeave hk)
  have husk {k : Hub} (hk : k.Sound μ σ ω) : (if f.huskclr then k.clearHusk p else k).Sound μ σ ω := Hub.Sound.when hk fun t => t.clearHusk
  have own {k : Hub} (hk : k.Sound μ σ ω) :
      (if f.own = 1 then k.modPlane p fun x => { x with owner := some q } else if f.own = 2 then k.release q p else k).Sound μ σ ω :=
    Hub.Sound.ite (hk.modPlane fun t => t) (Hub.Sound.ite hk.release hk)
  have last := own (husk (standby (align mode)))
  exact Hub.Sound.ite (Hub.Sound.ite (last.onPlane fun t => t) last)
    (Hub.Sound.ite (last.onPlane fun t => t) last)

theorem Hub.Sound.tandemWord {addr : BitVec 7} {w : Word} (fit : h.Sound μ σ ω) : (h.tandemWord q addr w).Sound μ σ ω := by
  unfold Hub.tandemWord; split
  · exact fit.judged fun t => t
  · exact fit.joinCmd
  · exact fit.leaveCmd
  · exact fit.judged fun t => t

theorem Hub.Sound.finjWord {addr : BitVec 7} {w : Word} (fit : h.Sound μ σ ω) : (h.finjWord q addr p w).Sound μ σ ω :=
  fit.judged fun t => t.onPlane fun t => t

theorem Hub.Sound.planeWord {addr : BitVec 7} {r : BitVec 5} {w : Word} (fit : h.Sound μ σ ω) :
    (h.planeWord q addr p r w).Sound μ σ ω := by
  simp only [Hub.planeWord]; split
  · exact fit.judged fun t => t.modPlane fun t => t
  · exact fit.judged fun t => t.pctlEffect
  · exact fit.judged fun t => t.onPlane fun t => t.setPrio
  · exact fit.judged fun t => t.onPlane fun t => t.setBw
  · exact fit.judged fun t => t.onPlane fun t => t.setFreq
  · exact fit.finjWord
  · exact fit.tandemWord
  · exact fit.judged fun t => t

theorem Hub.Sound.signEndsErr (fit : h.Sound μ σ ω) : h.signEndsErr.Sound μ σ ω := Hub.Sound.ucause fit
theorem Hub.Sound.signFails (fit : h.Sound μ σ ω) : h.signFails.Sound μ σ ω := Hub.Sound.signEndsErr fit.setUDet

theorem Hub.Sound.startSigning {selfTestOk : Bool} (fit : h.Sound μ σ ω) : (h.startSigning selfTestOk).Sound μ σ ω :=
  Hub.Sound.requestSince fit

theorem Hub.Sound.writeResponse (fit : h.Sound μ σ ω) : h.writeResponse.Sound μ σ ω := Hub.Sound.ucause fit

theorem Hub.Sound.endSigning (fit : h.Sound μ σ ω) : h.endSigning.Sound μ σ ω :=
  Hub.Sound.ite fit.signFails (Hub.Sound.ite fit.signEndsErr fit.writeResponse)

theorem Hub.Sound.uctlEffect {w : Word} (fit : h.Sound μ σ True) : (h.uctlEffect w).Sound μ σ True :=
  Hub.Sound.when (Hub.Sound.when (Hub.Sound.ite fit.unitEnter (Hub.Sound.ite fit.unitLeave fit))
    fun t => Hub.Sound.recover t) fun t => Hub.Sound.testPort t

theorem Hub.Sound.snapWord {addr : BitVec 7} {w : Word} (fit : h.Sound μ σ ω) : (h.snapWord q addr w).Sound μ σ ω :=
  fit.judged fun t => Hub.Sound.ite (Hub.Sound.requestSince t) t

theorem Hub.Sound.cfgWord {before : Hub} {addr : BitVec 7} {w : Word} (fit : h.Sound μ σ ω) : (h.cfgWord before q addr w).Sound μ σ ω :=
  fit.judged fun t => by
    split
    · exact t
    · exact t.cfgEffect

theorem Hub.Sound.nvWord {addr : BitVec 7} {w : Word} (fit : h.Sound μ σ ω) : (h.nvWord q addr w).Sound μ σ ω := by
  simp only [Hub.nvWord]; split
  · exact fit.nvRead
  · exact fit.nvWrite
  · exact Hub.Sound.ite fit.nvKey fit.nvPassword
  · exact fit

theorem Hub.Sound.authWord {addr : BitVec 7} {w : Word} (fit : h.Sound μ σ ω) : (h.authWord q addr w).Sound μ σ ω := by
  simp only [Hub.authWord]
  exact fit.judged fun t => Hub.Sound.ite (Hub.Sound.startSigning (h := h.fresh.2) t) t

theorem Hub.Sound.unitWord {before : Hub} {addr : BitVec 7} {r : BitVec 5} {w : Word} (fit : h.Sound μ σ ω) :
    (h.unitWord before q addr r w).Sound μ σ ω := by
  unfold Hub.unitWord; split
  · exact fit.judged fun t => t.uctlEffect
  · exact fit.snapWord
  · exact fit.nvWord
  · exact fit.cfgWord
  · exact fit.authWord
  · exact fit.judged fun t => t

/-! Transactions -/

theorem Hub.Sound.under {cfg : PortDecl} {f : Hub → Hub} (fit : h.Sound μ σ ω) (hf : ∀ k : Hub, k.Sound μ σ ω → (f k).Sound μ σ ω) :
    (h.under q cfg f).Sound μ σ ω :=
  Hub.Sound.modPort (hf _ fit)

theorem Hub.Sound.commit {before : Hub} {w : HeldWrite} (fit : h.Sound μ σ ω) : (h.commit before w).Sound μ σ ω := by
  unfold Hub.commit; split
  · exact Hub.Sound.ite fit.planeWord fit.unitWord
  · exact fit.writeRecord
  · exact Hub.Sound.ite fit.standbyWithUnit fit.leaveWithUnit
  · exact fit.takeForce

theorem Hub.Sound.place {now unit : Bool} {w : HeldWrite} (fit : h.Sound μ σ ω) : (h.place now unit w).Sound μ σ ω :=
  Hub.Sound.ite fit.commit (Hub.Sound.ite fit (Hub.Sound.ite fit (fit.modPlane fun t => t)))

theorem Hub.Sound.localWord {off : Fin 8} {r : BitVec 5} {w : Word} (fit : h.Sound μ σ ω) : (h.localWord q off r w).Sound μ σ ω :=
  Hub.Sound.ite fit.localWrite (Hub.Sound.ite fit.localWrite fit.localWrite)

theorem Hub.Sound.nvctlWord {now : Bool} {hw : HeldWrite} {w : Word} (fit : h.Sound μ σ ω) : (h.nvctlWord now hw w).Sound μ σ ω :=
  Hub.Sound.ite (fit.judged fun t => t) (Hub.Sound.andThen fit.modPort fun t => Hub.Sound.ite t t.place)

theorem Hub.Sound.unitRegWord {now : Bool} {hw : HeldWrite} {r : BitVec 5} {w : Word} (fit : h.Sound μ σ ω) :
    (h.unitRegWord now hw r w).Sound μ σ ω :=
  Hub.Sound.ite (fit.judged fun t => t.modPort) <| Hub.Sound.ite fit.nvctlWord <|
    Hub.Sound.ite fit.modPort <| Hub.Sound.ite fit.modPort fit.place

theorem Hub.Sound.ownWord {now : Bool} {hw : HeldWrite} {r : BitVec 5} {w : Word} (fit : h.Sound μ σ ω) :
    (h.ownWord now hw r w).Sound μ σ ω :=
  Hub.Sound.ite (fit.judged fun t => t) <| Hub.Sound.ite fit.unitRegWord <| Hub.Sound.ite fit.localWord <|
    Hub.Sound.ite (fit.judged fun t => t) fit.place

theorem Hub.Sound.ownRecord {now : Bool} {hw : HeldWrite} {space : BitVec 4} {index : BitVec 20} {ws : List Word}
    (fit : h.Sound μ σ ω) :
    (h.ownRecord now hw space index ws).Sound μ σ ω := by
  simp only [Hub.ownRecord]; split
  · exact fit.judged fun t => t
  · split
    · exact Hub.Sound.ite fit.writeRecord.modPort fit.writeRecord
    · refine Hub.Sound.ite (fit.judged fun t => t) ?_
      split
      · exact fit.place
      · exact fit.place

theorem Hub.Sound.followerWord {hw : HeldWrite} {r : BitVec 5} {w : Word} (fit : h.Sound μ σ ω) : (h.followerWord hw r w).Sound μ σ ω :=
  Hub.Sound.ite (fit.judged fun t => t) <| Hub.Sound.ite fit.localWord <| Hub.Sound.ite (fit.judged fun t => t) <|
    fit.judged fun t => t.enterTunnel

theorem Hub.Sound.followerRecord {hw : HeldWrite} {space : BitVec 4} {index : BitVec 20} {ws : List Word} (fit : h.Sound μ σ ω) :
    (h.followerRecord hw space index ws).Sound μ σ ω :=
  fit.judged fun t => t.enterTunnel

theorem Hub.Sound.applyOp {now : Bool} {cfg : PortDecl} {off : Fin 8} {op : TxOp} (fit : h.Sound μ σ ω) :
    (h.applyOp now q cfg off op).Sound μ σ ω := by
  unfold Hub.applyOp; split
  · exact Hub.Sound.ite fit.ownWord fit.followerWord
  · exact Hub.Sound.ite fit.ownRecord fit.followerRecord
  · exact fit.judged fun t => t
  · exact fit.modPort

theorem Hub.Sound.cancelScheds {off : Fin 8} (fit : h.Sound μ σ ω) : (h.cancelScheds q off).Sound μ σ ω :=
  fit.modPort

theorem Hub.Sound.cancelWord {off : Fin 8} (fit : h.Sound μ σ ω) : (h.cancelWord q off).Sound μ σ ω := fit.judged fun t => t.cancelScheds

theorem Hub.Sound.addSched {off : Fin 8} {w : Word} {ws : List HeldWrite} (fit : h.Sound μ σ ω) : (h.addSched q off w ws).Sound μ σ ω :=
  Hub.Sound.ite fit fit

theorem Hub.Sound.schedule {now : Bool} {cfg : PortDecl} {off : Fin 8} {w : Word} {rest : List (Fin 8 × TxOp)}
    (fit : h.Sound μ σ ω) : (h.schedule now q cfg off w rest).Sound μ σ ω :=
  Hub.Sound.ite fit.cancelWord (fit.judged fun t =>
    Hub.Sound.when (Hub.Sound.addSched (Hub.Sound.foldl (fun _ _ u => u.applyOp) t)) fun t => t.laneAction)

theorem Hub.Sound.applyAll {cfg : PortDecl} {sched : Bool} {ops : List (Fin 8 × TxOp)} (fit : h.Sound μ σ ω) :
    (h.applyAll q cfg sched ops).Sound μ σ ω := by
  have reads {k : Hub} (hk : k.Sound μ σ ω) (l : List (Fin 8 × TxOp)) :
      (l.foldl (fun (g : Hub) e => g.applyOp false q cfg e.1 e.2) k).Sound μ σ ω := Hub.Sound.foldl (fun _ _ t => t.applyOp) hk
  simp only [Hub.applyAll]; split
  · exact (reads fit _).schedule
  · exact reads (reads fit _) _

theorem Hub.Sound.completeTx {l : Latch} {s : Scan} (fit : h.Sound μ σ ω) : (h.completeTx q l s).Sound μ σ ω :=
  Hub.Sound.modPort (Hub.Sound.applyAll (Hub.Sound.foldl (fun _ _ t => t.noteRead) fit.modPort))

theorem Hub.Sound.endTx {segs : List TxSeg} (fit : h.Sound μ σ ω) : (h.endTx q segs).Sound μ σ ω := by
  simp only [Hub.endTx]
  have t : (if (h.port q).latch.isSome then h else h.start q).Sound μ σ ω := Hub.Sound.unless fit fun t => t.start
  split
  · exact t
  · refine t.under fun k u => Hub.Sound.ite u.modPort (Hub.Sound.ite u.modPort ?_)
    split
    · exact Hub.Sound.voidTx u.modPort
    · exact u.completeTx

theorem Hub.Sound.tunnelled {f : Hub → Hub} (fit : h.Sound μ σ ω) (hf : ∀ k : Hub, k.Sound μ σ ω → (f k).Sound μ σ ω) :
    (h.tunnelled q f).Sound μ σ ω :=
  Hub.Sound.modPort (hf _ fit)

theorem Hub.Sound.tunnelEffect {off : Fin 8} {k : WriteKind} (fit : h.Sound μ σ ω) : (h.tunnelEffect q off k).Sound μ σ ω := by
  refine fit.tunnelled fun _ t => ?_
  split
  · exact t.applyOp
  · exact t.applyOp
  · exact t
  · exact t

theorem Hub.Sound.commitTunnel {w : HeldWrite} (fit : h.Sound μ σ ω) : (h.commitTunnel w).Sound μ σ ω :=
  Hub.Sound.chimneyPush fit.tunnelEffect.modChim

theorem Hub.Sound.tunnelArrive {num : Nat} {w : TunnelWrite} (fit : h.Sound μ σ ω) : (h.tunnelArrive q num w).Sound μ σ ω := by
  refine Hub.Sound.ite fit (Hub.Sound.ite (Hub.Sound.chimneyOverflow fit.modChim) (Hub.Sound.ite ?_ fit))
  exact Hub.Sound.modPlane (Hub.Sound.modChim fit.modChim) fun t => t

theorem Hub.Sound.commitHeld {before : Hub} {w : HeldWrite} (fit : h.Sound μ σ ω) : (Hub.commitHeld before h w).Sound μ σ ω :=
  Hub.Sound.ite fit.commitTunnel (fit.under fun _ t => t.commit)

theorem Hub.Sound.writeNow {off : Fin 8} {r : BitVec 5} {w : Word} (fit : h.Sound μ σ ω) :
    (h.writeNow q off r w).Sound μ σ ω :=
  Hub.Sound.ite (Hub.Sound.ite fit.applyOp fit.applyOp) (Hub.Sound.ite fit.schedule fit.applyOp)

theorem Hub.Sound.judgeFar {w : HeldWrite} (fit : h.Sound μ σ ω) : (h.judgeFar w).Sound μ σ ω := fit.judged fun t => t

theorem Hub.Sound.applySched {idx : Nat} (fit : h.Sound μ σ ω) : (h.applySched p q idx).Sound μ σ ω := by
  unfold Hub.applySched; split
  · exact fit
  · exact Hub.Sound.ite (Hub.Sound.causeAt (Hub.Sound.foldl (fun _ _ t => t.judgeFar)
      (Hub.Sound.foldl (fun _ _ t => t.commit) fit.modPort))) fit

theorem Hub.Sound.commitPlane (fit : h.Sound μ σ ω) : (h.commitPlane p).Sound μ σ ω :=
  Hub.Sound.foldl (fun _ _ t => Hub.Sound.commitHeld t) (fit.modPlane fun t => t)

theorem Hub.Sound.commitUnit (fit : h.Sound μ σ ω) : h.commitUnit.Sound μ σ ω :=
  Hub.Sound.startWaiting (Hub.Sound.foldl (fun _ _ t => Hub.Sound.commitHeld t) (Hub.Sound.withUcommits fit))

theorem Hub.Sound.lane3 {act : Lane3Act} (fit : h.Sound μ σ ω) : (h.lane3 act).Sound μ σ ω := by
  cases act with
  | announce p n => exact fit.ifActive fun _ => fit.modPlane fun t => t
  | realign p sec => exact fit.ifActive fun _ => fit.realignTo
  | snapshot ovfclr sec frame => exact Hub.Sound.ite (Hub.Sound.captureWith (Hub.Sound.withSnap fit)) fit
  | ask ovfclr ago => exact Hub.Sound.ite fit fit.requestSince
  | captured pst => exact Hub.Sound.ite fit (Hub.Sound.finishSnapshot (Hub.Sound.withSnap fit))
  | leave => exact Hub.Sound.ite fit.modChim fit
  | write w q => exact fit.tunnelEffect

/-! ### The commands -/

/-- A command answers a hub whose loops and pending switches are right. -/
def Sounds (μ : Prop) (σ : PlaneId → Prop) (s : State) (o : Host.Outcome State Fault Refusal) : Prop :=
  ∃ h : Hub, o = .next { s with hub := h } ∧ h.Sound μ σ False

theorem sound_answer {s : State} (fit : h.Sound μ σ False) : Sounds μ σ s (s.answer h) := ⟨h, rfl, fit⟩

section
variable {s : State} {port : PortId}

theorem execGridRegistration_sound (fit : s.hub.Sound μ σ False) :
    Sounds μ σ s (execGridRegistration p s) := by
  refine sound_answer (fit.ifActive fun _ => ?_)
  dsimp only; split
  · split
    · exact fit
    · exact fit.moveCount fun _ t => t.register
  · exact fit

theorem execCrossPlaneCapture_sound {src dst : PlaneId} {port : Fin 64} {ref : Nat} (fit : s.hub.Sound μ σ False) :
    Sounds μ σ s (execCrossPlaneCapture src dst port ref s) := by
  unfold execCrossPlaneCapture; split
  · dsimp only; split
    · exact sound_answer fit
    · exact sound_answer (Hub.Sound.foldl (fun _ _ t => t.emit) fit)
  · exact sound_answer fit

theorem execCfgdataBlockWrite_sound {block : Fin 32768} {data : List Byte} (fit : s.hub.Sound μ σ False) :
    Sounds μ σ s (execCfgdataBlockWrite port block data s) := by
  unfold execCfgdataBlockWrite; split
  · exact sound_answer (fit.judged fun t => t.bufferBlock.modPort)
  · exact sound_answer (Hub.Sound.ite fit.refuse fit)

theorem execHostRegisterWrite_sound {addr : BitVec 7} {reg : BitVec 5} {word : Word} (fit : s.hub.Sound μ σ False) :
    Sounds μ σ s (execHostRegisterWrite port addr reg word s) := by
  unfold execHostRegisterWrite; split
  · split
    · exact sound_answer fit
    · exact sound_answer (Hub.Sound.ite fit.modPort (Hub.Sound.ite fit.writeNow fit.refuse))
  · exact sound_answer fit

theorem execQueueThresholdWrite_sound {q : Fin 512} {n : BitVec 3} (fit : s.hub.Sound μ σ False) :
    Sounds μ σ s (execQueueThresholdWrite port q n s) := by
  unfold execQueueThresholdWrite; split
  · exact sound_answer (fit.hostWrite fun t => t.setThreshold)
  · exact sound_answer (fit.unitWrite fun t => t.setThreshold)

theorem execCollectorParityFault_sound {coll : Option PlaneId} {g : Fin 8} (fit : s.hub.Sound μ σ False) :
    Sounds μ σ s (execCollectorParityFault coll g s) := by
  cases coll with
  | none => exact sound_answer (Hub.Sound.ite fit.unitParity fit)
  | some p =>
    refine sound_answer (fit.ifActive fun _ => Hub.Sound.when (fit.onPlaneFree fun v t => ?_) fun t => t.reforce)
    have husk : (((s.hub.plane p).parityFault g (s.hub.plane p).time.clk).enterHusk p v 46).Sound μ (σ p) False := t.parityFault.enterHusk
    dsimp only
    generalize ((s.hub.plane p).parityFault g (s.hub.plane p).time.clk).enterHusk p v 46 = y at husk ⊢
    exact Plane.Sound.reactTo husk

theorem execNvProgramComplete_sound {ok1 ok2 : Bool} (fit : s.hub.Sound μ σ False) :
    Sounds μ σ s (execNvProgramComplete ok1 ok2 s) := by
  unfold execNvProgramComplete; split
  · exact sound_answer fit
  · exact sound_answer (Hub.Sound.ite fit.endOp fit)

theorem execSnapshotCapture_sound (fit : s.hub.Sound μ σ False) :
    Sounds μ σ s (execSnapshotCapture s) := by
  unfold execSnapshotCapture; split
  · exact sound_answer fit
  · exact sound_answer (Hub.Sound.ite fit.takeSnapshot fit)

theorem execShortBrokenRun_sound {coll : Option PlaneId} (fit : s.hub.Sound μ σ False) :
    Sounds μ σ s (execShortBrokenRun coll s) := by
  cases coll with
  | none => exact sound_answer (Hub.Sound.ite fit fit)
  | some p => exact sound_answer (fit.event fun t => t.count)

theorem execEsmcQualityEffect_sound (fit : s.hub.Sound μ σ False) :
    Sounds μ σ s (execEsmcQualityEffect p s) := by
  refine sound_answer (fit.event fun t => ?_)
  split
  · exact t
  · exact Plane.Sound.judgeRef t

theorem execTimecodeFrame_sound {tc : Fin 2} {f : IrigFrame} (fit : s.hub.Sound μ σ False) :
    Sounds μ σ s (execTimecodeFrame p tc f s) :=
  sound_answer (fit.event fun t => Plane.Sound.ite t (Plane.Sound.judgeRef (Plane.Sound.ite (Plane.Sound.count t) t)))

theorem execEsmcPduReceived_sound {f : EsmcFrame} (fit : s.hub.Sound μ σ False) :
    Sounds μ σ s (execEsmcPduReceived p f s) :=
  sound_answer (fit.event fun t =>
    Plane.Sound.ite t (Plane.Sound.ite (Plane.Sound.ite t (Plane.Sound.count t)) (Plane.Sound.ite t.count t)))

theorem execSlotCheckFailure_sound {l : Fin 32} {bad : BadSlot} (fit : s.hub.Sound μ σ False) :
    Sounds μ σ s (execSlotCheckFailure p l bad s) :=
  sound_answer (fit.event fun t => Plane.Sound.ite t (Plane.Sound.ite t.injectSlot.takeSlot0 t.injectSlot.badSlot))

theorem execStickyClear_sound {src : Fin 224} (fit : s.hub.Sound μ σ False) :
    Sounds μ σ s (execStickyClear port src s) :=
  sound_answer (Hub.Sound.ite (fit.hostWrite fun t => t.clearPlaneSticky) (fit.unitWrite fun t => t.clearUnitSticky))

theorem execSeverityWrite_sound {src : Fin 224} {sev : Severity} (fit : s.hub.Sound μ σ False) :
    Sounds μ σ s (execSeverityWrite port src sev s) :=
  sound_answer (Hub.Sound.ite (fit.hostWrite fun t => t.setSev) (fit.unitWrite fun t => t.setUSev))

theorem execOvenSettled_sound (fit : s.hub.Sound μ σ False) :
    Sounds μ σ s (execOvenSettled p s) :=
  sound_answer (Hub.Sound.ite (Hub.Sound.event (fit.openGate fun _ t => Plane.Sound.modSrc t) fun t => t.setDet) fit)

theorem execOvenGateTimeout_sound (fit : s.hub.Sound μ σ False) :
    Sounds μ σ s (execOvenGateTimeout p s) :=
  sound_answer (Hub.Sound.ite (Hub.Sound.event (fit.openGate fun _ t => t.modSrc) fun t => t.setDet) fit)

theorem execWindowEvaluation_sound {u : Fin 64} {ref : Nat} (fit : s.hub.Sound μ σ False) :
    Sounds μ σ s (execWindowEvaluation p u ref s) :=
  sound_answer (Hub.Sound.ite (Hub.Sound.emitOpt (fit.setPlane fit.plane.evalWindow)) fit)

theorem execCoincidenceEvaluation_sound {u : Fin 256} {ref : Nat} {ecc : EccRead} (fit : s.hub.Sound μ σ False) :
    Sounds μ σ s (execCoincidenceEvaluation p u ref ecc s) :=
  sound_answer (Hub.Sound.ite (Hub.Sound.emitOpt (fit.setPlane fit.plane.evalCoinc)) fit)

theorem execSelectionTick_sound (fit : s.hub.Sound μ σ False) :
    Sounds μ σ s (execSelectionTick p s) := by
  refine sound_answer (fit.ifActive fun on => fit.onPlane fun t => t.tick ?_)
  simp only [Hub.active, Bool.and_eq_true] at on
  exact on.2

end

/-- Every command leaves the loops and the pending switches right. -/
theorem exec_sound (i : Instr) {s : State} (fit : s.hub.Sound μ σ False) : Sounds μ σ s (exec i s) := by
  cases i with
  | kindling _ _ => exact sound_answer (Hub.Sound.ite fit Hub.Sound.kindle)
  | powerGoodLoss _ => exact sound_answer (Hub.Sound.withConv (Hub.Sound.ite fit.losePower fit))
  | converterStart => exact sound_answer fit
  | imageApply _ => exact sound_answer (Hub.Sound.ite fit.bootImage fit)
  | ovenSettled _ => exact execOvenSettled_sound fit
  | ovenGateTimeout _ => exact execOvenGateTimeout_sound fit
  | frameBoundary _ => exact sound_answer (fit.ifActive fun _ => fit.frameStep)
  | pps _ _ => exact sound_answer (fit.ifActive fun _ => fit.ppsStep)
  | groupBoundary _ _ => exact sound_answer (fit.ifActive fun _ => fit.takeMirror.onPlane fun t => t.groupStep)
  | millisecondBoundary _ _ => exact sound_answer (fit.ifActive fun _ => fit.msBoundary)
  | housekeepingTick => exact sound_answer (Hub.Sound.ite fit.hkTick fit)
  | comparatorReading _ _ => exact sound_answer (Hub.Sound.ite fit.compare fit)
  | planeWriteCommit _ => exact sound_answer (Hub.Sound.ite fit.commitPlane fit)
  | unitWriteCommit => exact sound_answer (Hub.Sound.ite fit.commitUnit fit)
  | unitValueHandover _ => exact sound_answer (fit.ifActive fun _ => Hub.Sound.foldl (fun _ _ t => t.seeValue) fit)
  | housekeepingRecordTake _ => exact sound_answer (Hub.Sound.ite fit.takeRecord fit)
  | logEraseComplete => exact sound_answer (Hub.Sound.ite (Hub.Sound.writeWaiting fit) fit)
  | refLossDeclared _ _ => exact sound_answer (fit.event fun t => t.modRef)
  | refActiveAgain _ _ => exact sound_answer (fit.event fun t => Plane.Sound.ite t.modRef t)
  | timecodeFrame _ _ _ => exact execTimecodeFrame_sound fit
  | tcQualityEffect _ _ => exact sound_answer (fit.event fun t => Plane.Sound.ite (Plane.Sound.judgeRef t) t)
  | timeMarkerCapture _ _ _ _ _ => exact sound_answer (Hub.Sound.announceRealign (fit.eventAt fun _ t => t.capture))
  | esmcPduReceived _ _ => exact execEsmcPduReceived_sound fit
  | esmcQualityEffect _ => exact execEsmcQualityEffect_sound fit
  | esmcTimeout _ => exact sound_answer (fit.event fun t => Plane.Sound.judgeRef t)
  | freqOffsetMeasurement _ _ _ => exact sound_answer (fit.event fun t => Plane.Sound.ite t.modRef t)
  | phaseJumpMean _ _ _ => exact sound_answer (fit.event fun t => Plane.Sound.ite t.modRef t)
  | waitToRestoreExpiry _ _ => exact sound_answer (fit.event fun t => Plane.Sound.ite (Plane.Sound.refsChanged (Plane.Sound.raise t)) t)
  | selectionTick _ => exact execSelectionTick_sound fit
  | switchCommit _ _ _ => exact sound_answer (Hub.Sound.settleMove (fit.event fun t => t.commitSwitch))
  | acquireTimeout _ => exact sound_answer (fit.event fun t => Plane.Sound.ite (Plane.Sound.loopSources t) t)
  | slewComplete _ => exact sound_answer (fit.event fun t => Plane.Sound.ite t t)
  | driftFitUpdate _ => exact sound_answer (fit.eventFree fun _ t => Plane.Sound.ite t t)
  | gridRegistration _ => exact execGridRegistration_sound fit
  | realignExecute _ => exact sound_answer (fit.ifActive fun _ => Hub.Sound.ite fit.realign fit)
  | vcobUnlock _ _ => exact sound_answer (fit.event fun t => Plane.Sound.setDet t)
  | outputDrainComplete _ _ => exact sound_answer (fit.event fun t => t)
  | outputStart _ _ => exact sound_answer (fit.event fun t => Plane.Sound.ite t t)
  | fineMoveComplete _ _ => exact sound_answer (fit.event fun t => Plane.Sound.ite t t)
  | puPulseStart _ _ => exact sound_answer (fit.event fun t => t)
  | puAssignmentEffect _ _ _ => exact sound_answer (fit.eventAt fun _ t => t)
  | toPulseStart _ _ => exact sound_answer (fit.event fun t => t)
  | upstreamTimeSlot _ _ _ _ => exact sound_answer (fit.eventAt fun _ t => t.upSlot0)
  | slotCheckFailure _ _ _ => exact execSlotCheckFailure_sound fit
  | linkSignalLoss _ _ => exact sound_answer (fit.event fun t => Plane.Sound.ite t t.setLink)
  | linkSignalPresent _ _ => exact sound_answer (fit.event fun t => Plane.Sound.ite t.setLink t)
  | linkMonitorGraceExpiry _ _ => exact sound_answer (fit.event fun t => Plane.Sound.linkSources (t.modLink))
  | primitiveReceived _ _ _ _ => exact sound_answer (fit.eventAt fun _ t => t.receive fun _ u => u.timedUp)
  | upstreamVetoReceived _ _ _ _ => exact sound_answer (fit.eventAt fun _ t => t.receive fun _ u => u.timedUp)
  | statusReceived _ _ _ _ => exact sound_answer (fit.eventAt fun _ t => t.receive fun _ u => u.pushStat)
  | cmdAckReceived _ _ _ _ => exact sound_answer (fit.eventAt fun _ t => t.receive fun _ u => u.pushStat)
  | upstreamBulkReceived _ _ _ _ => exact sound_answer (fit.eventAt fun _ t => t.receive fun _ u => u.pushBulk)
  | trainHoldCompleteReceived _ _ _ _ => exact sound_answer (fit.eventAt fun _ t => t.receive fun _ u => u.trainUp)
  | reservedMessageReceived _ _ _ _ _ => exact sound_answer (fit.eventAt fun _ t => t.receive fun _ u => Plane.Sound.ite u.anomaly u)
  | damperTimeout _ _ => exact sound_answer (fit.event fun t => t.modLink)
  | trafficSlotStart _ _ => exact sound_answer (fit.eventAt fun _ t => t.slotStart)
  | tiRisingCrossing _ _ _ _ => exact sound_answer (fit.eventAt fun _ t => t.crossing)
  | fabricEventRelease _ => exact sound_answer (Hub.Sound.ite fit.releaseHeld fit)
  | windowOpen _ _ _ => exact sound_answer (Hub.Sound.ite (fit.onPlane fun t => t.openWindow) fit)
  | windowEvaluation _ _ _ => exact execWindowEvaluation_sound fit
  | coincidenceEvaluation _ _ _ _ => exact execCoincidenceEvaluation_sound fit
  | lookupScrub _ _ _ _ => exact sound_answer (Hub.Sound.ite (fit.onPlane fun t => t.eccRead) fit)
  | prescalerPulse _ _ _ => exact sound_answer (Hub.Sound.ite fit.prescale fit)
  | crossPlaneCapture _ _ _ _ => exact execCrossPlaneCapture_sound fit
  | chimneyCrossingRelease _ _ _ _ _ => exact sound_answer (Hub.Sound.ite fit.releaseCrossed fit)
  | generatorEvent _ _ _ => exact sound_answer (fit.eventAt fun _ t => t.genEvent)
  | generatorEnqueue _ _ _ => exact sound_answer (fit.eventAt fun _ t => t.genEnqueue)
  | readoutGapStart _ => exact sound_answer (fit.event fun t => t.gapOpens.gapOpens)
  | holdLimitExpiry _ _ => exact sound_answer (fit.event fun t => Plane.Sound.ite t.expireHold t)
  | deferredActionsResume _ => exact sound_answer (fit.event fun t => Plane.Sound.ite t t.resumeAll)
  | joinCommand _ _ => exact sound_answer fit.joinCmd
  | joinAnnounce => exact sound_answer (Hub.Sound.iteOn fit id fun t => t.announce)
  | joinComplete _ => exact sound_answer (Hub.Sound.ite fit.completeJoin fit)
  | joinAbandon => exact sound_answer (Hub.Sound.iteOn fit id fun t => t.abandonJoin)
  | leaveCommand _ => exact sound_answer fit.leaveCmd
  | leaveEffect => exact sound_answer (Hub.Sound.iteOn fit And.left fun t => t.separate)
  | chimneyPortState _ _ => exact sound_answer (Hub.Sound.ite fit.chimneySees fit)
  | chimneySwitchOver _ => exact sound_answer (Hub.Sound.ite fit.switchOver fit)
  | chimneyLoss => exact sound_answer (Hub.Sound.iteOn fit And.left fun t => t.separate)
  | followerRecordFetch _ _ => exact sound_answer (Hub.Sound.ite fit.modPort fit)
  | tunnelWriteApply _ _ => exact sound_answer (Hub.Sound.ite fit.tunnelArrive fit)
  | tunnelAck _ => exact sound_answer (Hub.Sound.modPort fit.modChim)
  | lane3ScheduledAction _ _ => exact sound_answer (Hub.Sound.ite (Hub.Sound.lane3 (Hub.Sound.ite fit.ucount fit)) fit)
  | imageErase _ _ => exact sound_answer fit.cfgCommand
  | eraseComplete => exact sound_answer (Hub.Sound.ite fit.endErase fit)
  | imageOpen _ _ => exact sound_answer fit.cfgCommand
  | cfgdataBlockWrite _ _ _ => exact execCfgdataBlockWrite_sound fit
  | blockProgramComplete _ => exact sound_answer (Hub.Sound.ite fit.programBlock fit)
  | imageClose _ => exact sound_answer fit.cfgCommand
  | verificationComplete _ => exact sound_answer (Hub.Sound.ite fit.endVerify fit)
  | imageBoot _ _ => exact sound_answer (fit.cfgCommand.startWaiting)
  | imageLoad _ _ => exact sound_answer fit.cfgCommand
  | imageReload _ _ _ => exact sound_answer fit.cfgCommand
  | reloadF0 _ => exact sound_answer (Hub.Sound.ite fit.reachF0 fit)
  | reloadF1 _ => exact sound_answer (Hub.Sound.ite fit.reachF1 fit)
  | configCrcCheck _ _ => exact sound_answer (fit.event fun t => Plane.Sound.ite t t.modSrc.setDet)
  | transactionStart _ => exact sound_answer fit.start
  | transactionComplete _ _ => exact sound_answer (Hub.Sound.ite (Hub.Sound.endTx fit.modPort) fit)
  | transactionVoid _ _ _ => exact sound_answer (Hub.Sound.ite fit.voidTx fit)
  | hostRegisterWrite _ _ _ _ => exact execHostRegisterWrite_sound fit
  | windowSelectWrite _ _ _ => exact sound_answer fit.localWrite
  | scheduledTransaction _ _ _ _ => exact sound_answer (Hub.Sound.ite fit.schedule fit)
  | schedApply _ _ _ => exact sound_answer (Hub.Sound.ite fit.applySched fit)
  | schedCancel _ _ => exact sound_answer fit.cancelWord
  | portSleep _ => exact sound_answer (Hub.Sound.ite fit.modPort fit)
  | portWake _ _ => exact sound_answer (Hub.Sound.ite fit.modPort fit)
  | refusalClear _ => exact sound_answer (Hub.Sound.ite fit.modPort fit)
  | pecEnableWrite _ _ => exact sound_answer (Hub.Sound.ite fit.modPort fit)
  | attentionConfigWrite _ _ _ => exact sound_answer fit.localWrite
  | attentionCauseClear _ _ _ => exact sound_answer fit.localWrite
  | unitCauseClear _ _ => exact sound_answer (Hub.Sound.ite fit.modPort fit)
  | historyClear _ _ _ => exact sound_answer (fit.hostWrite fun t => t.modPlane fun t => t)
  | attentionAttempt _ _ => exact sound_answer fit.attempt
  | attentionRetry _ _ => exact sound_answer (Hub.Sound.ite fit.attempt fit)
  | attentionHoldTimeout _ => exact sound_answer fit.attempt
  | lineStuckDetect _ _ => exact sound_answer (Hub.Sound.ite (Hub.Sound.when fit.setStuck fun t => t.releaseDrive) fit)
  | lineStuckClear _ _ => exact sound_answer (Hub.Sound.ite fit.setStuck fit)
  | busRecover _ _ _ => exact sound_answer (fit.unitWrite fun t => t.recover)
  | portTest _ _ _ => exact sound_answer (fit.unitWrite fun t => t.testPort)
  | ownershipClaim _ _ => exact sound_answer (fit.hostWrite fun t => t.modPlane fun t => t)
  | ownershipRelease _ _ => exact sound_answer (fit.hostWrite fun t => t.release)
  | ownershipTimeout _ => exact sound_answer (Hub.Sound.ite fit.endOwner fit)
  | loopModeWrite _ _ _ => exact sound_answer (fit.hostWrite fun t => t.onPlaneFree fun _ t => t.setMode)
  | forcedRefWrite _ _ _ => exact sound_answer (fit.hostWrite fun t => t.onPlane fun t => t.setFref)
  | realignRequest _ _ => exact sound_answer (fit.hostWrite fun t => t.onPlane fun t => t.requestRealign)
  | realignCancel _ _ => exact sound_answer (fit.hostWrite fun t => t.onPlane fun t => t.cancelRealign)
  | huskClear _ _ => exact sound_answer (fit.hostWrite fun t => t.clearHusk)
  | trainingHoldRequest _ _ _ => exact sound_answer (fit.hostWrite fun t => t.onPlane fun t => t)
  | trainingHoldHostEnd _ _ _ => exact sound_answer (fit.hostWrite fun t => t.onPlane fun t => t)
  | referencePriorityWrite _ _ _ _ => exact sound_answer (fit.hostWrite fun t => t.onPlane fun t => t.setPrio)
  | bandwidthCodeWrite _ _ _ => exact sound_answer (fit.hostWrite fun t => t.onPlane fun t => t.setBw)
  | freqWrite _ _ _ => exact sound_answer (fit.hostWrite fun t => t.onPlane fun t => t.setFreq)
  | gridOffsetWrite _ _ _ => exact sound_answer (fit.hostWrite fun t => t.onPlane fun t => t)
  | outputGateWrite _ _ _ _ => exact sound_answer (fit.hostWrite fun t => t.onPlane fun t => t.writeGate)
  | outputDelayWrite _ _ _ _ _ => exact sound_answer (fit.hostWrite fun t => t.onPlane fun t => t.writeDelay)
  | puSettingsWrite _ _ _ _ _ _ _ => exact sound_answer (fit.hostWrite fun t => t.onPlane fun t => t.writePu)
  | toFineDelayWrite _ _ _ _ => exact sound_answer (fit.hostWrite fun t => t.onPlane fun t => t.writeTo)
  | enqueueCmd _ _ _ _ => exact sound_answer (fit.hostWrite fun t => t.onPlane fun t => t.enqCmd)
  | enqueueBulk _ _ _ _ => exact sound_answer (fit.hostWrite fun t => t.onPlane fun t => t.enqBulk)
  | popUqStat _ _ _ => exact sound_answer (fit.hostWrite fun t => t.onPlane fun t => t.modLink)
  | popUqBulk _ _ _ => exact sound_answer (fit.hostWrite fun t => t.onPlane fun t => t.modLink)
  | injectTestAccept _ _ _ _ => exact sound_answer (fit.hostWrite fun t => t.onPlane fun t => t)
  | linkDelayWrite _ _ _ _ _ => exact sound_answer (fit.hostWrite fun t => t.onPlane fun t => t)
  | hostDamperWrite _ _ _ _ => exact sound_answer (fit.hostWrite fun t => t.onPlane fun t => t.writeDamper)
  | queueThresholdWrite _ _ _ => exact execQueueThresholdWrite_sound fit
  | parameterCellWrite _ _ _ _ => exact sound_answer (fit.hostWrite fun t => t.onPlane fun t => t)
  | generatorEnableWrite _ _ _ _ => exact sound_answer (fit.hostWrite fun t => t.onPlane fun t => t.writeGen)
  | bintWrite _ _ _ _ => exact sound_answer (fit.hostWrite fun t => t.onPlane fun t => t.writeGen)
  | userGeneratorWrite _ _ _ _ _ _ => exact sound_answer (fit.hostWrite fun t => t.onPlane fun t => t.writeGen)
  | epochPhaseDelayWrite _ _ _ _ _ => exact sound_answer (fit.hostWrite fun t => t.onPlane fun t => t.writeEpd)
  | faultReaction _ => exact sound_answer (fit.ifActive fun _ => fit.react)
  | pairBroken _ => exact sound_answer fit.pairEvent
  | pairWhole _ => exact sound_answer fit.pairEvent
  | collectorParityFault _ _ => exact execCollectorParityFault_sound fit
  | stickyClear _ _ => exact execStickyClear_sound fit
  | severityWrite _ _ _ => exact execSeverityWrite_sound fit
  | faultInjectStart _ _ _ _ _ _ => exact sound_answer fit.inject
  | faultInjectStop _ _ => exact sound_answer fit.inject
  | ovenFault _ _ => exact sound_answer (fit.event fun t => t.modSrc.setDet)
  | planeSupplyFault _ => exact sound_answer (fit.event fun t => t.modSrc.setDet)
  | snapshotRequest _ _ => exact sound_answer (fit.unitWrite fun t => t.requestSince)
  | snapshotCapture => exact execSnapshotCapture_sound fit
  | nvRead _ _ => exact sound_answer (Hub.Sound.nvRead (Hub.Sound.namePage (Hub.Sound.ite fit (Hub.Sound.withNv fit))))
  | nvWrite _ _ => exact sound_answer (fit.namePage.nvWrite)
  | nvProgramComplete _ _ => exact execNvProgramComplete_sound fit
  | nvKey _ _ => exact sound_answer (fit.setKsel.nvKey)
  | nvPasswordChange _ _ => exact sound_answer (fit.setKsel.nvPassword)
  | nvKeyShift _ _ => exact sound_answer fit.modPort
  | nvDataWrite _ _ => exact sound_answer fit.modPort
  | pageReload _ => exact sound_answer (Hub.Sound.ite fit fit)
  | hubPageWrite _ _ _ _ => exact sound_answer (Hub.Sound.ite fit.hubPage fit)
  | authNonceWrite _ _ => exact sound_answer (fit.judged fun t => t)
  | authStart _ _ => exact sound_answer (fit.unitWrite fun t => t.startSigning)
  | signingComplete => exact sound_answer (Hub.Sound.ite fit.endSigning fit)
  | planeStandbyEnter _ _ => exact sound_answer (fit.hostWrite fun t => t.standbyEnter)
  | standbyDrainComplete _ => exact sound_answer (fit.ifActive fun _ => Hub.Sound.ite fit.reachStandby fit)
  | planeStandbyLeave _ _ => exact sound_answer (fit.judged fun t => t.standbyLeave)
  | planeClockRestart _ => exact sound_answer (Hub.Sound.ite (fit.startPlane fun _ _ on => on) fit)
  | unitStandbyEnter _ => exact sound_answer (fit.unitWrite fun t => t.unitEnter)
  | unitStandbyLeave _ => exact sound_answer (fit.unitWrite fun t => Hub.Sound.ite t.unitLeave t)
  | feedJudgement _ _ => exact sound_answer (Hub.Sound.ite fit.judgeFeed fit)
  | feedOvervoltageDisconnect _ => exact sound_answer fit
  | feedReconnect _ => exact sound_answer fit
  | fanSpeedCheck _ _ _ => exact sound_answer (Hub.Sound.ite (Hub.Sound.setFans (Hub.Sound.setUDet fit)) fit)
  | environmentSample _ => exact sound_answer (Hub.Sound.ite fit.sampleEnv fit)
  | timecodeFrameMissing _ _ => exact sound_answer (fit.event fun t => Plane.Sound.ite (Plane.Sound.judgeRef t) t)
  | puPulseEnd _ _ => exact sound_answer (fit.eventAt fun _ t => t)
  | toPulseEnd _ _ => exact sound_answer (fit.eventAt fun _ t => t)
  | planeSupplyRestored _ => exact sound_answer (fit.event fun t => t.modSrc.setDet)
  | securityElementTimeout => exact sound_answer (Hub.Sound.ite fit (Hub.Sound.ite fit.signFails (Hub.Sound.setUDet fit)))
  | followerAttentionReceived _ _ => exact sound_answer (Hub.Sound.ite fit.allPorts fit)
  | shortBrokenRun _ => exact execShortBrokenRun_sound fit

theorem step_sound {s t : State} (next : step s = .next t) (fit : s.hub.Sound μ σ False) : t.hub.Sound μ σ False := by
  cases e : s.pending with
  | nil =>
    simp only [step, e] at next
    injection next with next
    rw [← next]; exact fit
  | cons c rest =>
    simp only [step, e] at next
    obtain ⟨k, hk, kfit⟩ := exec_sound c (s := { s with pending := rest }) fit
    rw [hk] at next
    injection next with next
    rw [← next]; exact kfit

end
end Sys2Proof.Machine
end

section
/-! THEOREM. Every step keeps the in-loop mark right and a switch pending only where one may be. -/

open Sys2Proof Sys2Proof.Machine

/-- Settles O8: a loop changes its state together with its mark, and whatever makes a plane unfit for a pending switch abandons it. -/
theorem everyStepKeepsTheLoopMarkRight : Obligations.EveryStepKeepsTheLoopMarkRight := by
  refine ⟨fun s t next marks p => ?_, fun s t next fits p => ?_⟩
  · have right : s.hub.Sound True (fun _ => False) False := ⟨nofun, fun r => (Plane.sound_mark _).2 (marks r)⟩
    exact (Plane.sound_mark _).1 ((step_sound next right).2 p)
  · have right : s.hub.Sound False (fun _ => True) False := ⟨nofun, fun r => (Plane.sound_switch _).2 (fits r)⟩
    exact (Plane.sound_switch _).1 ((step_sound next right).2 p)

end

section
/-! SUPPORT. What the events and the settings of a loop change in it. -/

namespace Sys2Proof

open Machine

/-- An event that draws the loop output, of a plane whose word clock runs, completes with what it does there. -/
theorem completes_eventFree {c : Instr} {s : State} {p : PlaneId} {f : Int → Plane → Plane} {P : Hub → Prop}
    (act : s.hub.active p = true) (e : exec c s = s.answer (s.hub.eventFree p f))
    (k : P (s.hub.fresh.2.onPlane p (f s.hub.fresh.1))) : Completes c s P :=
  ⟨_, e, by rwa [Hub.eventFree_eq act]⟩

/-- A host write that nothing refuses completes with what it does. -/
theorem completes_hostWrite {c : Instr} {s : State} {q : PortId} {p : PlaneId} {g : BitVec 5} {range structural state : Bool}
    {f : Hub → Hub} {P : Hub → Prop} (may : HostMay s.hub q p)
    (e : exec c s = s.answer (s.hub.hostWrite q p g range structural state f)) (inside : range = false)
    (allowed : (structural && (s.hub.plane p).inHusk) = false) (free : state = false) (k : P (f s.hub)) : Completes c s P :=
  ⟨_, e, by rwa [Hub.hostWrite_accept may g f inside allowed free]⟩

end Sys2Proof

namespace Sys2Proof.Machine

section
variable (x : Plane) (p : PlaneId) (v : Int)

theorem Hub.fresh_plane (h : Hub) : h.fresh.2.plane p = h.plane p := rfl

/-- A change of the loop's state keeps what steers the loop and what is selected. -/
theorem Plane.setLoop_keeps (st : LoopState) : (x.setLoop st).loop.state = st ∧ (x.setLoop st).loop.hval = x.loop.hval ∧
    (x.setLoop st).loop.freq = x.loop.freq ∧ (x.setLoop st).loop.steer = x.loop.steer ∧ (x.setLoop st).sel = x.sel := by
  obtain ⟨ev, rl, al, ws, la, eb, g, h, n, r, f, e, -, -⟩ := Plane.setLoop_only x st
  rw [e]; exact ⟨rfl, rfl, rfl, rfl, rfl⟩

theorem Plane.steerHeld_keeps : x.steerHeld.loop.state = x.loop.state ∧ x.steerHeld.loop.hval = x.loop.hval ∧
    x.steerHeld.sel = x.sel := by
  unfold Plane.steerHeld; split <;> exact ⟨rfl, rfl, rfl⟩

/-- What remains of a slew is discarded with its history bit and log entry (R93). -/
theorem Plane.discardResid_keeps : (x.discardResid p).loop.state = x.loop.state ∧ (x.discardResid p).loop.hval = x.loop.hval ∧
    (x.discardResid p).loop.steer = x.loop.steer ∧ (x.discardResid p).sel = x.sel := by
  unfold Plane.discardResid; dsimp only; split
  · exact ⟨rfl, rfl, rfl, rfl⟩
  · simp

theorem Plane.holdSteer_keeps : (x.holdSteer v).loop.state = x.loop.state ∧ (x.holdSteer v).loop.freq = x.loop.freq ∧
    (x.holdSteer v).sel = x.sel := by
  unfold Plane.holdSteer; split <;> exact ⟨rfl, rfl, rfl⟩

/-- A loop that leaves SOFT holds the last FREQ (R83). -/
theorem Plane.takeHoldover_soft {x : Plane} (soft : x.loop.state = .soft) :
    x.takeHoldover.loop.hvalid = true ∧ x.takeHoldover.loop.hval = x.loop.freq.toInt ∧ x.takeHoldover.sel = x.sel := by
  unfold Plane.takeHoldover; rw [soft]; exact ⟨rfl, rfl, rfl⟩

/-- Leaving SOFT enters EMBER at the last FREQ, with no reference active (R83; log entry 25). -/
theorem Plane.toEmber_soft {x : Plane} (soft : x.loop.state = .soft) :
    (x.toEmber p v).loop.state = .ember ∧ (x.toEmber p v).loop.hval = x.loop.freq.toInt ∧
      (x.toEmber p v).sel = { x.sel with active := none } := by
  obtain ⟨state, freq, sel⟩ := x.holdSteer_keeps v
  obtain ⟨valid, hval, kept⟩ := Plane.takeHoldover_soft (state.trans soft)
  unfold Plane.toEmber; dsimp only
  rw [if_pos valid]
  generalize (x.holdSteer v).takeHoldover = y at valid hval kept
  obtain ⟨-, dval, -, dsel⟩ := y.noActive.discardResid_keeps p
  obtain ⟨cstate, cval, -, -, csel⟩ := (y.noActive.discardResid p).setLoop_keeps .ember
  obtain ⟨hstate, hhval, hsel⟩ := ((y.noActive.discardResid p).setLoop .ember).steerHeld_keeps
  rw [Plane.log_loop, Plane.log_sel]
  refine ⟨hstate.trans cstate, (hhval.trans (cval.trans dval)).trans (hval.trans (by rw [freq])), hsel.trans (csel.trans (dsel.trans ?_))⟩
  show { y.sel with active := none } = _
  rw [kept, sel]

/-- SOFT is entered with the steering value in force as FREQ (R99). -/
theorem Plane.toSoft_steers : (x.toSoft p v).loop.state = .soft ∧
    (x.toSoft p v).loop.freq = BitVec.ofInt 32 (x.toSoft p v).loop.steer ∧ (x.toSoft p v).sel = x.sel := by
  obtain ⟨-, -, sel⟩ := x.holdSteer_keeps v
  obtain ⟨-, -, dsteer, dsel⟩ := (x.holdSteer v).discardResid_keeps p
  unfold Plane.toSoft; dsimp only
  obtain ⟨state, -, freq, steer, csel⟩ := Plane.setLoop_keeps { (x.holdSteer v).discardResid p with
    loop := { ((x.holdSteer v).discardResid p).loop with freq := BitVec.ofInt 32 ((x.holdSteer v).discardResid p).loop.steer } } .soft
  exact ⟨state, by rw [freq, steer], csel.trans (dsel.trans sel)⟩

theorem Plane.abandonSwitch_sw : (x.abandonSwitch p).sel.sw = none := by
  cases pending : x.sel.sw with
  | none => unfold Plane.abandonSwitch; rw [pending]; exact pending
  | some w =>
    obtain ⟨o, c, e, -⟩ := Plane.abandonSwitch_only pending p
    rw [e]

/-- The committed mode written again changes nothing (R342). -/
theorem Plane.setMode_same : x.setMode p v x.sel.mode = x := if_pos rfl

/-- Another mode reviews the pending switch, or abandons it in HOLD, and leaves SOFT or enters it with the loop (R68, R74, R82, R99). -/
theorem Plane.setMode_changed {x : Plane} {m : LoopMode} (ne : m ≠ x.sel.mode) :
    ∃ w o c, (m = .hold → w = none) ∧ x.setMode p v m =
      let y := { x with sel := { x.sel with mode := m, sw := w }, outq := o, cnt := c }
      if x.loop.state = .soft then y.toEmber p v
      else if m = .soft ∧ x.loop.forced = false ∧ x.loop.state ≠ .husk then y.toSoft p v
      else y := by
  unfold Plane.setMode Plane.setModeRef; dsimp only
  rw [if_neg ne, if_neg ne]
  by_cases hold : m = .hold
  · rw [if_pos hold]
    have gone := Plane.abandonSwitch_sw { x with sel := { x.sel with mode := m } } p
    obtain ⟨w, o, c, e, -⟩ := SwitchOnly.abandonSwitch { x with sel := { x.sel with mode := m } } p
    rw [e] at gone ⊢
    exact ⟨w, o, c, fun _ => gone, rfl⟩
  · rw [if_neg hold]
    obtain ⟨w, o, c, e, -⟩ := SwitchOnly.review { x with sel := { x.sel with mode := m } } p
    rw [e]
    exact ⟨w, o, c, fun k => absurd k hold, rfl⟩

/-- ACQUIRE too long makes source 9 live (R85). -/
theorem Plane.loopSources_late (late : x.loop.acqLate = true) : x.loopSources.flt.src[9].live = true := by
  unfold Plane.loopSources; dsimp only
  have other {z : Plane} {n : Fin 64} {b : Bool} (ne : n ≠ 9) : (z.setDet n b).flt.src[9] = z.flt.src[9] := Plane.setDet_src_ne z b ne
  rw [other (by decide), other (by decide), late, Bool.or_true]
  exact Plane.setDet_live x 9

end

end Sys2Proof.Machine
end

section
/-! THEOREM. Loop events and loop settings take effect. -/

open Sys2Proof Sys2Proof.Machine

theorem acquireTimeout_late (s : State) (p : PlaneId) (act : s.hub.active p = true) :
    Completes (.acquireTimeout p) s fun h =>
      let x := s.hub.plane p
      (x.loop.state = .acquire → (h.plane p).loop = { x.loop with acqLate := true } ∧ (h.plane p).flt.src[9].live = true) ∧
      (x.loop.state ≠ .acquire → (h.plane p).loop = x.loop) := by
  refine completes_event act rfl ?_
  dsimp only
  rw [Hub.onPlane_plane_loop, Hub.onPlane_plane_flt]
  refine ⟨fun acquiring => ?_, fun other => ?_⟩
  · rw [if_pos acquiring]
    exact ⟨rfl, Plane.loopSources_late _ rfl⟩
  · rw [if_neg other]

theorem slewComplete_ends (s : State) (p : PlaneId) (act : s.hub.active p = true) :
    Completes (.slewComplete p) s fun h =>
      let x := s.hub.plane p
      (x.paused = false → (h.plane p).loop = { x.loop with resid := 0, slewAcc := 0 }) ∧
      (x.paused = true → (h.plane p).loop = x.loop) := by
  refine completes_event act rfl ?_
  dsimp only
  rw [Hub.onPlane_plane_loop]
  refine ⟨fun moves => ?_, fun stands => ?_⟩
  · rw [if_neg (by rw [moves]; decide)]
  · rw [if_pos stands]

theorem driftFitUpdate_records (s : State) (p : PlaneId) (act : s.hub.active p = true) :
    Completes (.driftFitUpdate p) s fun h =>
      let x := s.hub.plane p
      let y := h.plane p
      (x.loop.state = .locked →
        y.loop.mins.length = min (x.loop.mins.length + 1) 1440 ∧ y.loop.mins.drop 1 = x.loop.mins.take 1439 ∧
        y.loop.slope = Config.fitSlope y.loop.mins) ∧
      (x.loop.state ≠ .locked → y.loop = x.loop) := by
  refine completes_eventFree act rfl ?_
  dsimp only
  rw [Hub.onPlane_plane_loop, Hub.fresh_plane]
  generalize s.hub.plane p = x
  refine ⟨fun locked => ?_, fun other => ?_⟩
  · rw [if_pos locked]
    refine ⟨?_, rfl, rfl⟩
    exact List.length_take.trans (Nat.min_comm _ _)
  · rw [if_neg other]

theorem loopModeWrite_changes (s : State) (q : PortId) (p : PlaneId) (may : HostMay s.hub q p) (m : LoopMode)
    (free : (s.hub.plane p).reloading = false) (own : s.hub.following = false) :
    Completes (.loopModeWrite q p m) s fun h =>
      let x := s.hub.plane p
      let y := h.plane p
      y.sel.mode = m ∧ (m = x.sel.mode → y.loop = x.loop ∧ y.sel = x.sel) ∧
      (m ≠ x.sel.mode → m = .hold → y.sel.sw = none) ∧
      (m ≠ x.sel.mode → m = .soft → x.loop.state ≠ .soft → x.loop.forced = false → x.loop.state ≠ .husk →
        y.loop.state = .soft ∧ y.loop.freq = BitVec.ofInt 32 y.loop.steer) ∧
      (m ≠ x.sel.mode → x.loop.state = .soft →
        y.loop.state = .ember ∧ y.loop.hval = x.loop.freq.toInt ∧ y.sel.active = none) := by
  refine completes_hostWrite may rfl rfl rfl (by rw [free, own]; rfl) ?_
  dsimp only [Hub.onPlaneFree]
  rw [Hub.onPlane_plane_loop, Hub.onPlane_plane_sel, Hub.fresh_plane]
  generalize s.hub.plane p = x
  generalize s.hub.fresh.1 = v
  by_cases same : m = x.sel.mode
  · rw [same, Plane.setMode_same]
    exact ⟨rfl, fun _ => ⟨rfl, rfl⟩, fun k => absurd rfl k, fun k => absurd rfl k, fun k => absurd rfl k⟩
  obtain ⟨w, o, c, held, e⟩ := Plane.setMode_changed p v same
  rw [e]
  generalize ez : ({ x with sel := { x.sel with mode := m, sw := w }, outq := o, cnt := c } : Plane) = z
  have sel : z.sel = { x.sel with mode := m, sw := w } := by rw [← ez]
  have loop : z.loop = x.loop := by rw [← ez]
  dsimp only
  by_cases soft : x.loop.state = .soft
  · obtain ⟨state, hval, gone⟩ := Plane.toEmber_soft p v (x := z) (by rw [loop]; exact soft)
    rw [if_pos soft, gone, sel, state, hval, loop]
    exact ⟨rfl, fun k => absurd k same, fun _ hold => held hold, fun _ _ k => absurd soft k, fun _ _ => ⟨rfl, rfl, rfl⟩⟩
  rw [if_neg soft]
  by_cases enters : m = .soft ∧ x.loop.forced = false ∧ x.loop.state ≠ .husk
  · obtain ⟨state, steers, kept⟩ := z.toSoft_steers p v
    rw [if_pos enters, kept, sel]
    exact ⟨rfl, fun k => absurd k same, fun _ hold => held hold, fun _ _ _ _ _ => ⟨state, steers⟩, fun _ k => absurd k soft⟩
  · rw [if_neg enters, sel]
    exact ⟨rfl, fun k => absurd k same, fun _ hold => held hold, fun _ asks _ free awake => absurd ⟨asks, free, awake⟩ enters,
      fun _ k => absurd k soft⟩

theorem forcedRefWrite_names (s : State) (q : PortId) (p : PlaneId) (may : HostMay s.hub q p) (r : Fin 4)
    (free : (s.hub.plane p).reloading = false) (own : s.hub.following = false) :
    Completes (.forcedRefWrite q p r) s fun h =>
      (h.plane p).sel.fref = r ∧ (h.plane p).sel.mode = (s.hub.plane p).sel.mode ∧
      (h.plane p).sel.active = (s.hub.plane p).sel.active ∧ (h.plane p).loop = (s.hub.plane p).loop := by
  refine completes_hostWrite may rfl rfl rfl (by rw [free, own]; rfl) ?_
  obtain ⟨w, o, c, e, -⟩ := SwitchOnly.review { s.hub.plane p with sel := { (s.hub.plane p).sel with fref := r } } p
  rw [Hub.onPlane_plane_loop, Hub.onPlane_plane_sel, Plane.setFref, e]
  exact ⟨rfl, rfl, rfl, rfl⟩

theorem referencePriorityWrite_commits (s : State) (q : PortId) (p : PlaneId) (may : HostMay s.hub q p) (v : Bool)
    (prio : Vector (BitVec 4) 4) (free : (s.hub.plane p).reloading = false) :
    Completes (.referencePriorityWrite q p v prio) s fun h =>
      (h.plane p).sel.revert = v ∧ (h.plane p).sel.prio = prio ∧
      (h.plane p).sel.active = (s.hub.plane p).sel.active ∧ (h.plane p).loop = (s.hub.plane p).loop := by
  refine completes_hostWrite may rfl rfl rfl free ?_
  obtain ⟨m, d, w, f, o, c, e, -⟩ :=
    Plane.refsChanged_only { s.hub.plane p with sel := { (s.hub.plane p).sel with revert := v, prio := prio } } p
  rw [Hub.onPlane_plane_loop, Hub.onPlane_plane_sel, Plane.setPrio, e]
  exact ⟨rfl, rfl, rfl, rfl⟩

theorem bandwidthCodeWrite_commits (s : State) (q : PortId) (p : PlaneId) (may : HostMay s.hub q p) (c : BitVec 4)
    (free : (s.hub.plane p).reloading = false) :
    Completes (.bandwidthCodeWrite q p c) s fun h =>
      let x := s.hub.plane p
      (h.plane p).loop.bw = c ∧ (h.plane p).loop.state = x.loop.state ∧
      ∀ a ∈ x.sel.active, x.loop.state = .locked → (h.plane p).loop.effbw = lockedCode (x.inputType a) c := by
  refine completes_hostWrite may rfl rfl rfl free ?_
  dsimp only
  rw [Hub.onPlane_plane_loop]
  generalize s.hub.plane p = x
  refine ⟨rfl, rfl, fun a active locked => ?_⟩
  show Plane.effective { x with loop := { x.loop with bw := c } } = _
  unfold Plane.effective; dsimp only
  rw [locked, active]; rfl

theorem freqWrite_steers (s : State) (q : PortId) (p : PlaneId) (may : HostMay s.hub q p) (w : Word) :
    Completes (.freqWrite q p w) s fun h =>
      (h.plane p).loop = { (s.hub.plane p).loop with
        freq := w
        steer := if (s.hub.plane p).loop.state = .soft then w.toInt else (s.hub.plane p).loop.steer } := by
  refine completes_hostWrite may rfl rfl rfl rfl ?_
  rw [Hub.onPlane_plane_loop]; rfl

/-- Settles O25: a setting that a host may write commits, and a mode leaves SOFT or enters it with the loop. -/
theorem loopCommandsComplete : Obligations.LoopCommandsComplete :=
  ⟨⟨acquireTimeout_late, slewComplete_ends, driftFitUpdate_records⟩, fun s q p may =>
    ⟨loopModeWrite_changes s q p may, forcedRefWrite_names s q p may, referencePriorityWrite_commits s q p may,
      bandwidthCodeWrite_commits s q p may, freqWrite_steers s q p may⟩⟩

end

section
/-! SUPPORT. What a marker finds in its cycle, and what a count that is set keeps through the frame it opens. -/

namespace Sys2Proof.Machine

/-! ### A marker in its cycle -/

/-- Plane y takes a marker as x does: its section, its references and their timecode, its selection and its grid are those of x, but for
the mark that the grid was moved. -/
@[reducible] def MarksAs (x y : Plane) : Prop :=
  y.sect = x.sect ∧ y.sel = x.sel ∧ y.tc = x.tc ∧ y.ref = x.ref ∧ y.grid = { x.grid with moved := y.grid.moved }

theorem MarksAs.refl (x : Plane) : MarksAs x x := ⟨rfl, rfl, rfl, rfl, rfl⟩

section
variable {a x : Plane}

theorem MarksAs.setDet {n : Fin 64} {b : Bool} (h : MarksAs a x) : MarksAs a (x.setDet n b) := h

theorem MarksAs.foldl {α : Type} {f : Plane → α → Plane} {l : List α} (hf : ∀ z i, MarksAs a z → MarksAs a (f z i)) (h : MarksAs a x) :
    MarksAs a (l.foldl f x) :=
  List.foldlRecOn (motive := MarksAs a) l f h fun z hz i _ => hf z i hz

theorem MarksAs.loopSources (h : MarksAs a x) : MarksAs a x.loopSources := h
theorem MarksAs.linkSources (h : MarksAs a x) : MarksAs a x.linkSources := h

theorem MarksAs.resample (h : MarksAs a x) : MarksAs a x.resample := by
  simp only [Plane.resample]
  refine MarksAs.setDet (MarksAs.setDet (MarksAs.setDet (MarksAs.setDet (MarksAs.linkSources ?_))))
  refine MarksAs.foldl (fun z n t => t.setDet) (MarksAs.setDet (MarksAs.loopSources (MarksAs.setDet ?_)))
  exact MarksAs.foldl (fun z i t => t.setDet.setDet) h

theorem MarksAs.latchGroup (h : MarksAs a x) : MarksAs a x.latchGroup := by
  obtain ⟨sect, sel, tc, ref, grid⟩ := h
  simp only [Plane.latchGroup]
  exact ⟨sect, sel, tc, ref, by rw [grid]⟩

theorem MarksAs.applyDelays (h : MarksAs a x) : MarksAs a x.applyDelays := by
  unfold Plane.applyDelays; split <;> exact h

theorem MarksAs.advanceTo {c : Nat} (h : MarksAs a x) : MarksAs a (x.advanceTo c) := by
  unfold Plane.advanceTo; dsimp only; split
  · obtain ⟨f, n, l, g, v, o, t, e, -, -⟩ := Plane.elapse_only x (c - x.time.cyc)
    rw [e]; exact h
  · exact h

end

/-- What cycle 0 leaves behind takes no marker from the plane. -/
theorem Hub.leaveZero_marks (h : Hub) (p : PlaneId) : MarksAs (h.plane p) ((h.leaveZero p).plane p) := by
  have delayed : MarksAs (h.plane p) { (h.plane p).applyDelays with fill := (h.modPlane p Plane.applyDelays).gather p } :=
    (MarksAs.refl (h.plane p)).applyDelays
  unfold Hub.leaveZero; split
  · dsimp only
    show MarksAs _ (Hub.plane (Hub.setPlane _ p _) p)
    rw [Hub.setPlane_plane, Hub.modPlane_plane]
    split
    · exact delayed.resample.latchGroup
    · exact delayed.resample
  · exact MarksAs.refl _

theorem Hub.toCycle_marks (h : Hub) (p : PlaneId) (c : Fin 40) : MarksAs (h.plane p) ((h.toCycle p c).plane p) := by
  unfold Hub.toCycle; split
  · rw [Hub.modPlane_plane]
    exact (h.leaveZero_marks p).advanceTo
  · exact MarksAs.refl _

/-- An event in the cycle where the plane stands finds it as it is. -/
theorem Hub.toCycle_here {h : Hub} {p : PlaneId} {c : Fin 40} (here : (h.plane p).time.cyc = c.val) : h.toCycle p c = h :=
  if_neg (by rw [here]; exact lt_irrefl _)

theorem Hub.chimneyOverflow_grid (h : Hub) (p : PlaneId) : (h.chimneyOverflow.plane p).grid = (h.plane p).grid := by
  refine List.foldlRecOn (motive := fun k : Hub => (k.plane p).grid = (h.plane p).grid) _ _ rfl fun k same i _ => ?_
  unfold Hub.event Hub.ifActive; split
  · by_cases e : p = i
    · rw [e, Hub.onPlane_plane_grid, Plane.setDet_grid, ← e]; exact same
    · rw [Hub.onPlane_plane_ne _ _ e]; exact same
  · exact same

/-- What a leader announces of its REALIGN changes no grid. -/
theorem Hub.announceRealign_grid (h g : Hub) (p : PlaneId) : ((h.announceRealign p g).plane p).grid = (g.plane p).grid := by
  unfold Hub.announceRealign Hub.laneAction Hub.chimneyPush; dsimp only
  split
  · split
    · split
      · exact Hub.chimneyOverflow_grid _ p
      · rfl
    · rfl
  · rfl

theorem Plane.noteRealign_registered {x : Plane} (reg : x.grid.reg = true) : x.noteRealign = x :=
  if_neg (by simp [reg])

/-- A registration that is due lets no REALIGN come first. -/
theorem Plane.noteRealign_due {x : Plane} (due : x.mayRegister = true) : x.noteRealign = x := by
  have seen : x.grid.seenLock = true := by
    simp only [Plane.mayRegister, Bool.and_eq_true] at due; exact due.1.2
  exact if_neg (by simp [seen])

/-- A valid marker of the registration source renews D on a registered grid (R106). -/
theorem Plane.capture_registered {x : Plane} {src : MarkerSrc} (before after : Nat) (ref3 : Word) (counts : x.markerCounts src = true)
    (valid : x.markerValid src = true) (reg : x.grid.reg = true) :
    let y := x.capture src before after ref3
    y.grid.dValid = true ∧ y.grid.dAge = 0 ∧ y.grid.d = wrapSecond (x.captured src before after + x.grid.goff) := by
  unfold Plane.capture; dsimp only
  rw [counts, valid, Bool.and_self, if_pos rfl, if_pos reg]
  rw [Plane.noteRealign_registered (x := x.judgeD _) reg]
  split <;> exact ⟨rfl, rfl, rfl⟩

/-- A valid marker of the registration source gives its lattice to a registration that waits (R104). -/
theorem Plane.capture_waiting {x : Plane} {src : MarkerSrc} (before after : Nat) (ref3 : Word) (counts : x.markerCounts src = true)
    (valid : x.markerValid src = true) (due : x.mayRegister = true) :
    let y := x.capture src before after ref3
    y.grid.cap.isSome = true ∧ (x.grid.cap = none →
      y.grid.cap = some (latticeOf (x.captured src before after) x.grid.goff x.time.now (x.markedSecond src ref3))) := by
  have waits : x.grid.reg = false := by
    simp only [Plane.mayRegister, Bool.and_eq_true, Bool.not_eq_true'] at due; exact due.1.1
  unfold Plane.capture; dsimp only
  have same : (if x.grid.reg = true then x.judgeD (wrapSecond (x.captured src before after + x.grid.goff)) else x) = x :=
    if_neg (by rw [waits]; decide)
  rw [counts, valid, Bool.and_self, if_pos rfl, same, Plane.noteRealign_due due, due, Bool.true_or, Bool.true_and]
  cases cap : x.grid.cap with
  | none => exact ⟨rfl, fun _ => rfl⟩
  | some l => exact ⟨congrArg Option.isSome cap, nofun⟩

/-! ### A count that is set

A set of the count settles the grid and marks the history; the frame it opens changes neither. -/

/-- Plane x has a registered grid where no REALIGN is pending and no lattice waits, and bit b of its history is set. -/
@[reducible] def Plane.Settled (b : Nat) (x : Plane) : Prop :=
  x.grid.reg = true ∧ x.grid.rlgnPend = false ∧ x.grid.cap = none ∧ bitAt x.phist b = true

section
variable {b : Nat} {x y : Plane} {c : Prop} {d : Decidable c}

theorem Plane.Settled.of_same (grid : y.grid = x.grid) (phist : y.phist = x.phist) (h : x.Settled b) : y.Settled b := by
  unfold Plane.Settled; rw [grid, phist]; exact h

theorem Plane.Settled.ite (hx : x.Settled b) (hy : y.Settled b) : (if c then x else y).Settled b := by
  split
  · exact hx
  · exact hy

theorem Plane.Settled.foldl {α : Type} {f : Plane → α → Plane} {l : List α} (h : x.Settled b)
    (hf : ∀ z a, Plane.Settled b z → (f z a).Settled b) : (l.foldl f x).Settled b :=
  List.foldlRecOn (motive := Plane.Settled b) l f h fun z hz a _ => hf z a hz

end

section
variable {b : Nat} {x : Plane} {p : PlaneId} {v : Int}

theorem Plane.Settled.history {n : Nat} (h : x.Settled b) : (x.history n).Settled b := by
  obtain ⟨reg, pend, cap, set⟩ := h
  rw [Plane.history_eq]; exact ⟨reg, pend, cap, bitAt_or _ set⟩

theorem Plane.Settled.log {type : Byte} {data : Vector Word 4} (h : x.Settled b) : (x.log p type data).Settled b := by
  obtain ⟨o, c, e, -⟩ := Plane.log_only x p type data
  rw [e]; exact h

/-- Of the grid a change of the loop's state touches only the mark that lock was seen (R106). -/
theorem Plane.setLoop_grid (x : Plane) (st : LoopState) : ∃ s, (x.setLoop st).grid = { x.grid with seenLock := s } := by
  unfold Plane.setLoop; dsimp only
  by_cases opens : st = .locked ∧ x.grid.reg = false
  · rw [if_pos opens]
    by_cases same : x.loop.state = st
    · rw [if_pos same]; exact ⟨_, rfl⟩
    · rw [if_neg same, Plane.history_eq]; exact ⟨_, rfl⟩
  · rw [if_neg opens]
    by_cases same : x.loop.state = st
    · rw [if_pos same]; exact ⟨_, rfl⟩
    · rw [if_neg same, Plane.history_eq]; exact ⟨_, rfl⟩

theorem Plane.Settled.setLoop {st : LoopState} (h : x.Settled b) : (x.setLoop st).Settled b := by
  obtain ⟨reg, pend, cap, set⟩ := h
  obtain ⟨ev, rl, al, ws, la, eb, g, hist, n, r, f, e, adds, -⟩ := Plane.setLoop_only x st
  obtain ⟨s, grid⟩ := Plane.setLoop_grid x st
  refine ⟨by rw [grid]; exact reg, by rw [grid]; exact pend, by rw [grid]; exact cap, ?_⟩
  rw [e]; exact adds b set

theorem Plane.Settled.discardResid (h : x.Settled b) : (x.discardResid p).Settled b := by
  have none : Plane.Settled b { x with loop := { x.loop with resid := 0, slewAcc := 0 } } := h
  unfold Plane.discardResid; split
  · exact h
  · exact none.history.log

theorem Plane.Settled.holdSteer (h : x.Settled b) : (x.holdSteer v).Settled b := by unfold Plane.holdSteer; split <;> exact h
theorem Plane.Settled.steerHeld (h : x.Settled b) : x.steerHeld.Settled b := by unfold Plane.steerHeld; split <;> exact h

theorem Plane.Settled.takeHoldover (h : x.Settled b) : x.takeHoldover.Settled b := by
  unfold Plane.takeHoldover; dsimp only; (repeat' split) <;> exact h

theorem Plane.Settled.noActive (h : x.Settled b) : x.noActive.Settled b := h

theorem Plane.Settled.toEmber (h : x.Settled b) : (x.toEmber p v).Settled b := by
  simp only [Plane.toEmber]; split
  · exact (h.holdSteer.takeHoldover.noActive.discardResid.setLoop).steerHeld.log
  · exact h.holdSteer.takeHoldover.noActive.setLoop

theorem Plane.Settled.dropActive (h : x.Settled b) : (x.dropActive p v).Settled b := by
  unfold Plane.dropActive; split
  · exact h
  · exact h.ite (h.toEmber.ite h.noActive)

theorem Plane.Settled.resumeSoft (h : x.Settled b) : (x.resumeSoft p).Settled b := by
  have steered : Plane.Settled b { x with loop := { x.loop with steer := x.loop.freq.toInt } } := h
  unfold Plane.resumeSoft; split
  · exact steered.discardResid.setLoop
  · exact h

theorem Plane.Settled.refsChanged (h : x.Settled b) : (x.refsChanged p).Settled b := by
  obtain ⟨m, d, w, f, o, c, e, -⟩ := Plane.refsChanged_only x p
  rw [e]; exact h

theorem Plane.Settled.followCross {hql : Nat} (h : x.Settled b) : (x.followCross p hql).Settled b := by
  unfold Plane.followCross; dsimp only; split
  · split <;> exact Plane.Settled.refsChanged h
  · exact h

theorem Plane.Settled.openLoop {hql : Nat} (h : x.Settled b) : (x.openLoop p hql v id).Settled b := by
  have counted : x.countSwitch.Settled b := h
  have reviewed := (counted.dropActive (p := p) (v := v)).followCross (p := p) (hql := hql).refsChanged (p := p).resumeSoft (p := p)
  have same : x.openLoop p hql v id = ((((x.countSwitch.dropActive p v).followCross p hql).refsChanged p).resumeSoft p) :=
    Plane.noteRealign_registered reviewed.1
  rw [same]; exact reviewed

theorem Plane.Settled.modLink {l : Fin 32} {f : Link → Link} (h : x.Settled b) : (x.modLink l f).Settled b := h
theorem Plane.Settled.setDet {n : Fin 64} {on : Bool} (h : x.Settled b) : (x.setDet n on).Settled b := h
theorem Plane.Settled.modSrc {n : Fin 64} {f : Src → Src} (h : x.Settled b) : (x.modSrc n f).Settled b := h
theorem Plane.Settled.requestHold {g : Fin 32} (h : x.Settled b) : (x.requestHold g).Settled b := h
theorem Plane.Settled.linkSources (h : x.Settled b) : x.linkSources.Settled b := h

theorem Plane.Settled.endEvents (h : x.Settled b) : x.endEvents.Settled b := by
  simp only [Plane.endEvents]
  exact h.foldl fun z n hz => hz.ite hz.modSrc.setDet

theorem Plane.Settled.enterLink {l : Fin 32} {st : LinkState} (h : x.Settled b) : (x.enterLink l st).Settled b := by
  have entered {f g : Link → Link} {c : Prop} {d : Decidable c} :
      (if c then (x.modLink l f).modLink l g else x.modLink l f).Settled b := h.modLink.modLink.ite h.modLink
  simp only [Plane.enterLink]
  exact (entered.foldl fun z g hz => hz.requestHold.ite hz).ite entered

theorem Plane.Settled.applyPending (h : x.Settled b) : x.applyPending.Settled b := by
  unfold Plane.applyPending; split
  · exact h
  · refine (Plane.Settled.foldl h fun z l hz => ?_).linkSources
    split
    · exact hz.enterLink
    · exact hz

theorem Plane.Settled.isolateLinks {n : Fin 3} (h : x.Settled b) : (x.isolateLinks n).Settled b := by
  simp only [Plane.isolateLinks, Plane.Settled]; exact h

theorem Plane.Settled.disableInputs (h : x.Settled b) : x.disableInputs.Settled b := h

theorem Plane.Settled.isolateMore (h : x.Settled b) : x.isolateMore.Settled b := by
  simp only [Plane.isolateMore]
  have inputs {c : Prop} {d : Decidable c} : (if c then x.disableInputs else x).Settled b := h.disableInputs.ite h
  have more {z : Plane} {n : Fin 3} {c : Prop} {d : Decidable c} (hz : z.Settled b) : (if c then z.isolateLinks n else z).Settled b :=
    hz.isolateLinks.ite hz
  exact more (more (more inputs))

theorem Plane.Settled.sendSlot0 {base : Nat} (h : x.Settled b) : (x.sendSlot0 base).Settled b := by
  simp only [Plane.sendSlot0, Plane.Settled]; exact h

end

/-! ### The frame that a set of the count ends, and the one it opens -/

/-- Of a plane a finished snapshot changes what clearing overflow bits changes, and nothing else. -/
theorem Hub.finishSnapshot_keeps {α : Type} (part : Plane → α) (keeps : ∀ x cap, part (x.clearOvf cap) = part x) (h : Hub)
    (q : PlaneId) : part (h.finishSnapshot.plane q) = part (h.plane q) := by
  have captured : (PlaneId.all.foldl (fun (g : Hub) p => if g.snap.waits.get p then g.capturePlane p else g) h).planes = h.planes :=
    List.foldlRecOn (motive := fun g : Hub => g.planes = h.planes) _ _ rfl fun g same p _ => by split <;> exact same
  have cleared (g : Hub) : part (g.clearOvf.plane q) = part (g.plane q) := by cases q <;> exact keeps _ _
  unfold Hub.finishSnapshot; split
  · rfl
  · split
    · rfl
    · dsimp only
      show part (Tri.get (Hub.latchDigest _).planes q) = _
      rw [Hub.latchDigest_planes]
      split
      · exact (cleared _).trans (by rw [Hub.plane]; dsimp only; rw [captured]; rfl)
      · dsimp only; rw [captured]; rfl

theorem Hub.endFrame_grid (h : Hub) (p : PlaneId) : ((h.endFrame p).plane p).grid = (h.plane p).grid := by
  unfold Hub.endFrame; dsimp only; split
  · exact Hub.finishSnapshot_keeps Plane.grid (fun x cap => by simp only [Plane.clearOvf]) _ p
  · rfl

theorem Hub.openFrame_settled {h : Hub} {p : PlaneId} {b : Nat} (set : (h.plane p).Settled b) :
    ((h.openFrame p id).plane p).Settled b := by
  have published : ((h.modPlane p fun x => { x with bank := x.fill }).plane p).Settled b := by rw [Hub.modPlane_plane]; exact set
  unfold Hub.openFrame; dsimp only
  generalize h.modPlane p (fun x => { x with bank := x.fill }) = g at published ⊢
  rw [Hub.modPlane_plane]
  refine Plane.Settled.sendSlot0 ?_
  refine Plane.Settled.of_same (Hub.onPlane_plane_grid ..) (Hub.onPlane_plane_phist ..) ?_
  exact published.endEvents.openLoop.applyPending.isolateMore

theorem Hub.openFrame_time (h : Hub) (p : PlaneId) : ((h.openFrame p id).plane p).time = (h.plane p).time := by
  have same : ClockAt { h.plane p with bank := (h.plane p).fill } p (h.openFrame p id) := ClockAt.openFrame fun z e => e
  exact same.1

/-- A set of the count acts on the plane's grid as it stands; what it settles, and the count it sets, stay through the frame that follows.
-/
theorem Hub.moveCount_plane (h : Hub) (p : PlaneId) (f : Plane → Plane) :
    ∃ z, z.grid = (h.plane p).grid ∧ ((h.moveCount p f).plane p).time = (f z).time ∧
      ∀ b, (f z).Settled b → ((h.moveCount p f).plane p).Settled b := by
  cases whole : (h.plane p).time.cyc == 0 with
  | true =>
    refine ⟨h.plane p, rfl, ?_⟩
    unfold Hub.moveCount; dsimp only
    rw [whole, if_pos rfl, if_pos rfl, Hub.modPlane_plane]
    have time : (((h.onPlane p f).plane p).sendSlot0 (Hub.linkBase (h.onPlane p f) p)).time = ((h.onPlane p f).plane p).time := by
      simp only [Plane.sendSlot0]
    exact ⟨time.trans (Hub.onPlane_plane_time ..), fun b set =>
      Plane.Settled.sendSlot0 (set.of_same (Hub.onPlane_plane_grid ..) (Hub.onPlane_plane_phist ..))⟩
  | false =>
    have ends : ((((h.modPlane p Plane.evalDamper).endFrame p).modPlane p fun x => { x with phistNow := 0 }).plane p).grid =
        (h.plane p).grid := by
      rw [Hub.modPlane_plane]
      refine (Hub.endFrame_grid _ p).trans ?_
      rw [Hub.modPlane_plane]; simp only [Plane.evalDamper]
    refine ⟨_, ends, ?_⟩
    unfold Hub.moveCount; dsimp only
    rw [whole, if_neg Bool.false_ne_true, if_neg Bool.false_ne_true]
    exact ⟨(Hub.openFrame_time _ p).trans (Hub.onPlane_plane_time ..), fun b set =>
      Hub.openFrame_settled (set.of_same (Hub.onPlane_plane_grid ..) (Hub.onPlane_plane_phist ..))⟩

/-! ### What sets the count -/

/-- The count of plane x is at FRAME 0 of second sec. -/
@[reducible] def Plane.AtSecond (sec : Word) (x : Plane) : Prop := x.time.sec = sec ∧ x.time.frame = 0 ∧ x.time.cyc = 0

/-- A set of the count keeps the grid, but for a move that waited, and the history. -/
theorem Plane.setCount_sets (x : Plane) (sec : Word) :
    (x.setCount sec).AtSecond sec ∧ (x.setCount sec).grid = { x.grid with toMove := none } ∧ (x.setCount sec).phist = x.phist := by
  unfold Plane.setCount; dsimp only
  refine ⟨⟨rfl, rfl, rfl⟩, rfl, ?_⟩
  split <;> rfl

/-- The outputs that end their holds and the generators that restart touch neither count, grid nor history. -/
theorem Plane.restart_keeps (x : Plane) (org : Nat) : (x.releaseAll.genRestart org).time = x.time ∧
    (x.releaseAll.genRestart org).grid = x.grid ∧ (x.releaseAll.genRestart org).phist = x.phist := by
  have delays : x.applyDelays.time = x.time ∧ x.applyDelays.grid = x.grid ∧ x.applyDelays.phist = x.phist := by
    unfold Plane.applyDelays; split <;> exact ⟨rfl, rfl, rfl⟩
  simp only [Plane.genRestart, Plane.releaseAll, Plane.clearRatio, Plane.countN_time, Plane.countN_grid, Plane.countN_phist]
  exact delays

theorem Plane.history_sets {x : Plane} {b : Nat} (inside : b < 12) : bitAt (x.history b).phist b = true := by
  rw [Plane.history_eq]; unfold bitAt
  simp [inside]

theorem Plane.discardFabric_keeps (x : Plane) : x.discardFabric.time = x.time ∧ x.discardFabric.grid = x.grid ∧
    x.discardFabric.phist = x.phist := by
  simp only [Plane.discardFabric, Plane.countN_time, Plane.countN_grid, Plane.countN_phist, and_self]

/-- Registration settles the grid at FRAME 0 of its second (R103, R104). -/
theorem Plane.register_settles (x : Plane) (sec : Word) : (x.register sec).AtSecond sec ∧ (x.register sec).Settled 9 := by
  have sources (z : Plane) : z.loopSources.time = z.time ∧ z.loopSources.grid = z.grid ∧ z.loopSources.phist = z.phist := ⟨rfl, rfl, rfl⟩
  obtain ⟨starts, -, -⟩ := x.setCount_sets sec
  unfold Plane.register; dsimp only
  generalize x.setCount sec = y at starts ⊢
  obtain ⟨time, grid, -⟩ := Plane.restart_keeps { y with grid := { y.grid with
    reg := true, cap := none, rlgnPend := false, rlgnFirst := false, org := y.time.now } } y.time.now
  generalize Plane.genRestart _ _ = r at time grid ⊢
  obtain ⟨stime, sgrid, shist⟩ := sources (r.history 9)
  unfold Plane.AtSecond Plane.Settled
  rw [stime, sgrid, shist, Plane.history_time, Plane.history_grid, time, grid]
  exact ⟨starts, rfl, rfl, rfl, Plane.history_sets (by decide)⟩

/-- A set of a registered grid's count marks that the grid moved, and keeps what else settles it. -/
theorem Plane.moveGrid_moves (x : Plane) (sec : Word) : (x.moveGrid sec).AtSecond sec ∧
    ∃ o, (x.moveGrid sec).grid = { x.grid with toMove := none, moved := true, org := o } := by
  obtain ⟨-, kept, -⟩ := x.discardFabric_keeps
  obtain ⟨starts, set, -⟩ := x.discardFabric.setCount_sets sec
  obtain ⟨time, grid, -⟩ := Plane.restart_keeps { x.discardFabric.setCount sec with
    grid := { (x.discardFabric.setCount sec).grid with moved := true, org := (x.discardFabric.setCount sec).time.now } }
    (x.discardFabric.setCount sec).time.now
  refine ⟨?_, (x.discardFabric.setCount sec).time.now, ?_⟩
  · unfold Plane.AtSecond Plane.moveGrid; dsimp only
    rw [time]; exact starts
  · exact grid.trans (by dsimp only; rw [set, kept])

/-- Plane x after a REALIGN that no longer waits: neither for its place nor for its marker. -/
def Plane.realignEnds (x : Plane) : Plane :=
  { x with grid := { x.grid with rlgnPend := false, rlgnFirst := false, cap := none, toMove := none } }

/-- A REALIGN whose place the count has reached settles a registered grid where it stands. -/
theorem Plane.realignEnds_settles {x : Plane} (reg : x.grid.reg = true) :
    (x.realignEnds.history 10).time = x.time ∧ (x.realignEnds.history 10).Settled 10 := by
  refine ⟨Plane.history_time .., ?_⟩
  unfold Plane.Settled
  rw [Plane.history_grid]
  exact ⟨reg, rfl, rfl, Plane.history_sets (by decide)⟩

/-- A REALIGN that moves a registered grid settles it at FRAME 0 of its second (R107, R108). -/
theorem Plane.realignMoves_settles {x : Plane} (reg : x.grid.reg = true) (sec : Word) :
    ((x.realignEnds.moveGrid sec).history 10).AtSecond sec ∧ ((x.realignEnds.moveGrid sec).history 10).Settled 10 := by
  obtain ⟨starts, o, grid⟩ := x.realignEnds.moveGrid_moves sec
  unfold Plane.AtSecond Plane.Settled
  rw [Plane.history_time, Plane.history_grid, grid]
  exact ⟨starts, reg, rfl, rfl, Plane.history_sets (by decide)⟩

/-- A REALIGN on a grid that is not registered registers it (R105). -/
theorem Plane.realignRegisters_settles (x : Plane) (sec : Word) :
    ((x.discardFabric.register sec).history 10).AtSecond sec ∧ ((x.discardFabric.register sec).history 10).Settled 10 := by
  obtain ⟨starts, reg, pend, cap, -⟩ := x.discardFabric.register_settles sec
  unfold Plane.AtSecond Plane.Settled
  rw [Plane.history_time, Plane.history_grid]
  exact ⟨starts, reg, pend, cap, Plane.history_sets (by decide)⟩

/-! ### The REALIGN -/

/-- A count that already stands at the start of the second nearest to it is at FRAME 0 of that second. -/
theorem Time.nearestSec_here {t : Time} (frames : t.frame < 12500000) (cycles : t.cyc < 40)
    (here : t.nearestSec.toNat * Config.cycPerSec = t.now) : t.sec = t.nearestSec ∧ t.frame = 0 ∧ t.cyc = 0 := by
  unfold Time.nearestSec at *
  unfold Time.now at here
  rw [show Config.cycPerSec = 500000000 from rfl, show Config.cycPerFrame = 40 from rfl] at here
  split at here
  next near =>
    rw [if_pos near]
    exact ⟨rfl, by omega, by omega⟩
  next far =>
    have wraps : (t.sec + 1).toNat = (t.sec.toNat + 1) % 2 ^ 32 := by rw [BitVec.toNat_add]; rfl
    have := t.sec.isLt
    omega

theorem Hub.realignTo_waiting {h : Hub} {p : PlaneId} (waits : (h.plane p).grid.reg = false) (sec : Word) :
    h.realignTo p sec = h.moveCount p fun x => (x.discardFabric.register sec).history 10 := by
  unfold Hub.realignTo; dsimp only; rw [waits, Bool.not_false, if_pos rfl]

theorem Hub.realignTo_registered {h : Hub} {p : PlaneId} (reg : (h.plane p).grid.reg = true) (sec : Word) :
    h.realignTo p sec = if sec.toNat * Config.cycPerSec = (h.plane p).time.now then h.onPlane p fun x => x.realignEnds.history 10
      else h.moveCount p fun x => (x.realignEnds.moveGrid sec).history 10 := by
  unfold Hub.realignTo; dsimp only; rw [reg, Bool.not_true, if_neg Bool.false_ne_true]; simp only [Plane.realignEnds]

/-- A REALIGN takes the count to its second, or leaves it where it already stands there (R107, R108). -/
theorem Hub.realignTo_plane (h : Hub) (p : PlaneId) (sec : Word) : ((h.realignTo p sec).plane p).Settled 10 ∧
    (((h.realignTo p sec).plane p).AtSecond sec ∨ (h.plane p).grid.reg = true ∧ sec.toNat * Config.cycPerSec = (h.plane p).time.now ∧
      ((h.realignTo p sec).plane p).time = (h.plane p).time) := by
  have moved {f : Plane → Plane} (hf : ∀ z, z.grid = (h.plane p).grid → (f z).AtSecond sec ∧ (f z).Settled 10) :
      ((h.moveCount p f).plane p).Settled 10 ∧ ((h.moveCount p f).plane p).AtSecond sec := by
    obtain ⟨z, grid, time, settled⟩ := h.moveCount_plane p f
    obtain ⟨starts, set⟩ := hf z grid
    exact ⟨settled 10 set, by unfold Plane.AtSecond; rw [time]; exact starts⟩
  cases reg : (h.plane p).grid.reg with
  | false =>
    rw [Hub.realignTo_waiting reg]
    obtain ⟨settled, starts⟩ := moved fun z _ => z.realignRegisters_settles sec
    exact ⟨settled, .inl starts⟩
  | true =>
    rw [Hub.realignTo_registered reg]
    by_cases here : sec.toNat * Config.cycPerSec = (h.plane p).time.now
    · rw [if_pos here]
      obtain ⟨time, settled⟩ := Plane.realignEnds_settles reg
      exact ⟨settled.of_same (Hub.onPlane_plane_grid ..) (Hub.onPlane_plane_phist ..),
        .inr ⟨rfl, here, (Hub.onPlane_plane_time ..).trans time⟩⟩
    · rw [if_neg here]
      obtain ⟨settled, starts⟩ := moved fun z grid => Plane.realignMoves_settles (x := z) (by rw [grid, reg]) sec
      exact ⟨settled, .inl starts⟩

/-- A REALIGN that may execute has a registration source (R107). -/
theorem Plane.regSrc_of_ownsRealign {x : Plane} (owns : x.ownsRealign = true) : x.sect.regSrc ≠ .none := by
  simp only [Plane.ownsRealign, Plane.mayRealign, Bool.and_eq_true, bne_iff_ne] at owns
  exact owns.1.2

/-- A lattice that has been taken gives the second that a registration sets. -/
theorem Plane.firstSec_marked {x : Plane} (marked : x.sect.regSrc ≠ .none) (cap : x.grid.cap.isSome = true) :
    ∃ sec, x.firstSec = some sec := by
  obtain ⟨l, taken⟩ := Option.isSome_iff_exists.mp cap
  exact ⟨x.latticeSec l, by unfold Plane.firstSec; rw [if_neg marked, taken]; rfl⟩

/-- A request makes a REALIGN pending; it comes first only where the grid waits and lock was not seen (R106). -/
theorem Plane.requestRealign_grid (x : Plane) :
    x.requestRealign.grid = { x.grid with rlgnPend := true, rlgnFirst := x.requestRealign.grid.rlgnFirst } ∧
      (x.grid.reg = true ∨ x.grid.seenLock = true → x.requestRealign.grid.rlgnFirst = x.grid.rlgnFirst) := by
  unfold Plane.requestRealign Plane.noteRealign; split
  · next first =>
    simp only [Bool.and_eq_true, Bool.not_eq_true'] at first
    obtain ⟨⟨-, waits⟩, unseen⟩ := first
    refine ⟨rfl, fun k => ?_⟩
    rw [waits, unseen] at k
    simp at k
  · exact ⟨rfl, fun _ => rfl⟩

end Sys2Proof.Machine

end

section
/-! THEOREM. Markers, registration, REALIGN and the grid offset. -/
open Sys2Proof Sys2Proof.Machine

theorem timeMarkerCapture_takes (s : State) (p : PlaneId) (src : MarkerSrc) (cyc : Fin 40) (before after : Nat)
    (act : s.hub.active p = true) (counts : (s.hub.plane p).markerCounts src = true) (valid : (s.hub.plane p).markerValid src = true) :
    Completes (.timeMarkerCapture p src cyc before after) s fun h =>
      let x := s.hub.plane p
      let y := h.plane p
      (x.grid.reg = true → y.grid.dValid = true ∧ y.grid.dAge = 0 ∧
        (x.time.cyc = cyc.val → y.grid.d = wrapSecond (x.captured src before after + x.grid.goff))) ∧
      (x.mayRegister = true → y.grid.cap.isSome = true ∧
        (x.time.cyc = cyc.val → x.grid.cap = none → y.grid.cap = some (latticeOf (x.captured src before after)
          x.grid.goff x.time.now (x.markedSecond src (s.hub.ref3Sec p))))) := by
  refine ⟨_, rfl, ?_⟩
  dsimp only
  rw [Hub.announceRealign_grid, Hub.eventAt, Hub.ifActive_eq act, Hub.onPlane_plane_grid]
  obtain ⟨sect, sel, tc, ref, grid⟩ := s.hub.toCycle_marks p cyc
  have here : (s.hub.plane p).time.cyc = cyc.val → (s.hub.toCycle p cyc).plane p = s.hub.plane p := fun k => by rw [Hub.toCycle_here k]
  generalize (s.hub.toCycle p cyc).plane p = x at sect sel tc ref grid here ⊢
  have counts' : x.markerCounts src = true := by rw [← counts]; unfold Plane.markerCounts; rw [sect, sel]
  have valid' : x.markerValid src = true := by rw [← valid]; cases src <;> simp only [Plane.markerValid, tc, ref]
  refine ⟨fun reg => ?_, fun due => ?_⟩
  · obtain ⟨valid, age, d⟩ := Plane.capture_registered before after (s.hub.ref3Sec p) counts' valid' (by rw [grid]; exact reg)
    exact ⟨valid, age, fun k => by rw [← here k]; exact d⟩
  · obtain ⟨some, cap⟩ := Plane.capture_waiting before after (s.hub.ref3Sec p) counts' valid'
      (by rw [← due]; unfold Plane.mayRegister; rw [grid])
    exact ⟨some, fun k none => by rw [← here k] at none ⊢; exact cap none⟩

theorem gridRegistration_registers (s : State) (p : PlaneId) (sec : Word) (act : s.hub.active p = true)
    (may : (s.hub.plane p).mayRegister = true) (first : (s.hub.plane p).firstSec = some sec) :
    Completes (.gridRegistration p) s fun h =>
      let y := h.plane p
      y.grid.reg = true ∧ y.time.sec = sec ∧ y.time.frame = 0 ∧ y.time.cyc = 0 ∧ y.grid.cap = none ∧ y.grid.rlgnPend = false ∧
      bitAt y.phist 9 = true := by
  refine ⟨_, rfl, ?_⟩
  dsimp only
  rw [Hub.ifActive_eq act, if_pos may, first]
  obtain ⟨z, -, time, settled⟩ := s.hub.moveCount_plane p fun x => x.register sec
  obtain ⟨⟨zsec, zframe, zcyc⟩, set⟩ := z.register_settles sec
  obtain ⟨reg, pend, cap, hist⟩ := settled 9 set
  dsimp only
  rw [time]
  exact ⟨reg, zsec, zframe, zcyc, cap, pend, hist⟩

theorem realignExecute_realigns (s : State) (p : PlaneId) (act : s.hub.active p = true) (owns : (s.hub.plane p).ownsRealign = true)
    (cap : (s.hub.plane p).grid.cap.isSome = true) :
    Completes (.realignExecute p) s fun h =>
      let x := s.hub.plane p
      let y := h.plane p
      y.grid.reg = true ∧ y.grid.rlgnPend = false ∧ y.grid.cap = none ∧ bitAt y.phist 10 = true ∧
      (x.grid.reg = true → x.time.frame < 12500000 → x.time.cyc < 40 →
        y.time.sec = x.time.nearestSec ∧ y.time.frame = 0 ∧ y.time.cyc = 0) ∧
      (x.grid.reg = false → ∀ sec ∈ x.firstSec, y.time.sec = sec ∧ y.time.frame = 0 ∧ y.time.cyc = 0) := by
  have goes : s.hub.ifActive p (fun h => if ((h.plane p).ownsRealign && (h.plane p).grid.cap.isSome) = true then h.realign p else h) =
      s.hub.realign p := by rw [Hub.ifActive_eq act, owns, cap, Bool.and_self, if_pos rfl]
  refine ⟨_, rfl, ?_⟩
  rw [goes]
  dsimp only
  cases reg : (s.hub.plane p).grid.reg with
  | false =>
    obtain ⟨sec, first⟩ := Plane.firstSec_marked (Plane.regSrc_of_ownsRealign owns) cap
    have e : s.hub.realign p = s.hub.realignTo p sec := by
      unfold Hub.realign; dsimp only; rw [reg, Bool.not_false, if_pos rfl, first]
    obtain ⟨⟨now, pend, none, hist⟩, takes⟩ := s.hub.realignTo_plane p sec
    rw [e]
    refine ⟨now, pend, none, hist, nofun, fun _ sec' k => ?_⟩
    obtain rfl : sec = sec' := Option.some.inj (first.symm.trans k)
    exact takes.resolve_right fun k => by rw [reg] at k; cases k.1
  | true =>
    have e : s.hub.realign p = s.hub.realignTo p (s.hub.plane p).time.nearestSec := by
      unfold Hub.realign; dsimp only; rw [reg, Bool.not_true, if_neg Bool.false_ne_true]
    obtain ⟨⟨now, pend, none, hist⟩, takes⟩ := s.hub.realignTo_plane p (s.hub.plane p).time.nearestSec
    rw [e]
    refine ⟨now, pend, none, hist, fun _ frames cycles => ?_, nofun⟩
    rcases takes with starts | ⟨-, here, stays⟩
    · exact starts
    · rw [stays]; exact Time.nearestSec_here frames cycles here

theorem realignRequest_pends (s : State) (q : PortId) (p : PlaneId) (may : HostMay s.hub q p)
    (awake : (s.hub.plane p).inHusk = false) (marked : (s.hub.plane p).sect.regSrc ≠ .none) (own : s.hub.following = false) :
    Completes (.realignRequest q p) s fun h =>
      let g := (s.hub.plane p).grid
      let k := (h.plane p).grid
      k = { g with rlgnPend := true, rlgnFirst := k.rlgnFirst } ∧ (g.reg = true ∨ g.seenLock = true → k.rlgnFirst = g.rlgnFirst) := by
  refine completes_hostWrite may rfl rfl (by rw [awake]; rfl) (by rw [own, beq_false_of_ne marked]; rfl) ?_
  dsimp only
  rw [Hub.onPlane_plane_grid]
  exact Plane.requestRealign_grid _

theorem realignCancel_ends (s : State) (q : PortId) (p : PlaneId) (may : HostMay s.hub q p)
    (awake : (s.hub.plane p).inHusk = false) (own : s.hub.following = false) :
    Completes (.realignCancel q p) s fun h =>
      (h.plane p).grid = (if (s.hub.plane p).grid.rlgnPend then
        { (s.hub.plane p).grid with
          rlgnPend := false, rlgnFirst := false, cap := if (s.hub.plane p).mayRegister then (s.hub.plane p).grid.cap else none }
        else (s.hub.plane p).grid) ∧
      ((s.hub.plane p).grid.rlgnPend = true → bitAt (h.plane p).phist 11 = true) := by
  refine completes_hostWrite may rfl rfl (by rw [awake]; rfl) own ?_
  rw [Hub.onPlane_plane_grid, Hub.onPlane_plane_phist]
  unfold Plane.cancelRealign
  split
  · exact ⟨Plane.history_grid .., fun _ => Plane.history_sets (by decide)⟩
  · next idle => exact ⟨rfl, fun pend => absurd pend idle⟩

theorem gridOffsetWrite_commits (s : State) (q : PortId) (p : PlaneId) (may : HostMay s.hub q p)
    (awake : (s.hub.plane p).inHusk = false) (v : Int) (low : -250000000 ≤ v) (high : v ≤ 249999999) :
    Completes (.gridOffsetWrite q p v) s fun h =>
      let g := (s.hub.plane p).grid
      (h.plane p).grid = { g with goff := v, d := if g.dValid then wrapSecond (g.d + v - g.goff) else g.d } ∧
      (h.plane p).time = (s.hub.plane p).time := by
  have inside : goffRange v = false := decide_eq_false (by omega)
  refine completes_hostWrite may rfl inside (by rw [awake]; rfl) rfl ?_
  dsimp only
  rw [Hub.onPlane_plane_grid, Hub.onPlane_plane_time]
  exact ⟨rfl, rfl⟩

/-- Settles O27: each command by what it does to the grid; a registration and a REALIGN by what a set of the count keeps through the frame
it opens. -/
theorem gridIsRegisteredAndRealigned : Obligations.GridIsRegisteredAndRealigned := by
  unfold Obligations.GridIsRegisteredAndRealigned
  exact ⟨⟨timeMarkerCapture_takes, gridRegistration_registers⟩, realignExecute_realigns, fun s q p may awake =>
    ⟨realignRequest_pends s q p may awake, realignCancel_ends s q p may awake, gridOffsetWrite_commits s q p may awake⟩⟩

end

section
/-! SUPPORT. What a change of one output leaves of the outputs of its plane, and what a plane that moves on to a later cycle of its
frame keeps of them. -/

namespace Sys2Proof

open Machine

/-- A change of one of several items is seen in that item alone. -/
theorem upd_only {α : Type} {n : Nat} {v : Vector α n} {i : Fin n} {f : α → α} {a : α} (e : f v[i.val] = a) :
    (upd v i f)[i.val] = a ∧ ∀ j : Fin n, j ≠ i → (upd v i f)[j.val] = v[j.val] :=
  ⟨(upd_get_same v i f).trans e, fun j ne => upd_get_ne v i j f ne.symm⟩

/-- An event in a cycle, of a plane whose word clock runs, completes with what it does once the plane has come there. -/
theorem completes_eventAt {c : Instr} {s : State} {p : PlaneId} {k : Fin 40} {f : Plane → Plane} {P : Hub → Prop}
    (act : s.hub.active p = true) (e : exec c s = s.answer (s.hub.eventAt p k f))
    (done : P ((s.hub.toCycle p k).onPlane p f)) : Completes c s P :=
  ⟨_, e, by rwa [Hub.eventAt, Hub.ifActive_eq act]⟩

end Sys2Proof

namespace Sys2Proof.Machine

theorem Plane.setDet_det (x : Plane) (n : Fin 64) (b : Bool) : (x.setDet n b).flt.src[n.val].det = b := by
  obtain ⟨t, f, e, -⟩ := Plane.setDet_only x n b
  rw [e]; simp

/-! ### On to a later cycle -/

/-- Plane y has the pulse outputs and the trigger outputs of plane x, as they stand. -/
@[reducible] def PulsesAs (x y : Plane) : Prop := y.pu = x.pu ∧ y.trigOut = x.trigOut

section
variable {a x : Plane}

theorem PulsesAs.setDet {n : Fin 64} {b : Bool} (h : PulsesAs a x) : PulsesAs a (x.setDet n b) := h

theorem PulsesAs.foldl {α : Type} {f : Plane → α → Plane} {l : List α} (hf : ∀ z i, PulsesAs a z → PulsesAs a (f z i))
    (h : PulsesAs a x) : PulsesAs a (l.foldl f x) :=
  List.foldlRecOn (motive := PulsesAs a) l f h fun z hz i _ => hf z i hz

theorem PulsesAs.loopSources (h : PulsesAs a x) : PulsesAs a x.loopSources := h
theorem PulsesAs.linkSources (h : PulsesAs a x) : PulsesAs a x.linkSources := h

theorem PulsesAs.resample (h : PulsesAs a x) : PulsesAs a x.resample := by
  simp only [Plane.resample]
  refine PulsesAs.setDet (PulsesAs.setDet (PulsesAs.setDet (PulsesAs.setDet (PulsesAs.linkSources ?_))))
  refine PulsesAs.foldl (fun z n t => t.setDet) (PulsesAs.setDet (PulsesAs.loopSources (PulsesAs.setDet ?_)))
  exact PulsesAs.foldl (fun z i t => t.setDet.setDet) h

theorem PulsesAs.latchGroup (h : PulsesAs a x) : PulsesAs a x.latchGroup := by
  simp only [Plane.latchGroup]; exact h

theorem PulsesAs.applyDelays (h : PulsesAs a x) : PulsesAs a x.applyDelays := by
  unfold Plane.applyDelays; split <;> exact h

theorem PulsesAs.elapse {k : Nat} (h : PulsesAs a x) : PulsesAs a (x.elapse k) := by
  obtain ⟨f, n, l, g, v, o, t, e, -, -⟩ := Plane.elapse_only x k
  rw [e]; exact h

end

theorem Plane.elapse_clk (x : Plane) (k : Nat) : (x.elapse k).time.clk = x.time.clk + k := by
  unfold Plane.elapse; split
  · next still => rw [still]; rfl
  · split
    · rfl
    · obtain ⟨f, n, e⟩ := Plane.injectCycles_only x x.time.cyc k
      rw [e]; rfl

theorem Hub.leaveZero_pulses (h : Hub) (p : PlaneId) : PulsesAs (h.plane p) ((h.leaveZero p).plane p) := by
  have delayed : PulsesAs (h.plane p) { (h.plane p).applyDelays with fill := (h.modPlane p Plane.applyDelays).gather p } :=
    PulsesAs.applyDelays ⟨rfl, rfl⟩
  unfold Hub.leaveZero; split
  · dsimp only
    show PulsesAs _ (Hub.plane (Hub.setPlane _ p _) p)
    rw [Hub.setPlane_plane, Hub.modPlane_plane]
    split
    · exact delayed.resample.latchGroup
    · exact delayed.resample
  · exact ⟨rfl, rfl⟩

/-- A plane that moves on to a cycle of its frame keeps its pulse and trigger outputs while its clock counts the cycles; a cycle it has
passed leaves it where it stands. -/
theorem Hub.toCycle_pulses (h : Hub) (p : PlaneId) (c : Fin 40) :
    PulsesAs (h.plane p) ((h.toCycle p c).plane p) ∧
      ((h.toCycle p c).plane p).time.clk = (h.plane p).time.clk + (c.val - (h.plane p).time.cyc) := by
  unfold Hub.toCycle; split
  · next later =>
    obtain ⟨time, -⟩ := h.leaveZero_time p
    rw [Hub.modPlane_plane, Plane.advanceTo, if_pos (by rw [time]; exact later)]
    refine ⟨PulsesAs.elapse (h.leaveZero_pulses p), ?_⟩
    dsimp only
    rw [Plane.elapse_clk, time]
  · next passed => exact ⟨⟨rfl, rfl⟩, by omega⟩

/-! ### Pulses -/

/-- The oldest pulse of the generator in force starts, or extends the high state, unless the output emits nothing (R133, R134). -/
theorem Pu.pulse_due {u : Pu} {at_ : Nat} {rest : List (Fin 8 × Nat)} (enabled : Bool)
    (first : takeDue u.set.gen u.due = some (at_, rest)) :
    u.pulse enabled = if u.gate = true ∧ enabled = true then
      { u with due := rest, high := true, endAt := highUntil u.high u.endAt at_ (512 * u.set.width.toNat) }
      else { u with due := rest } := by
  unfold Pu.pulse; rw [first]
  simp only [Bool.and_eq_true]

/-- An assignment that finds its output low takes it (R134). -/
theorem Pu.assign_low {u : Pu} {g : Fin 8} (clk n : Nat) (new : u.newGen = some g) (low : u.high = false) :
    u.assign clk n = { u with
      set := { u.set with gen := g }, newGen := none
      due := u.due.filter fun e => e.1 == g && decide (512 * clk ≤ e.2)
      omitted := BitVec.ofNat 16 (satNat 16 (u.omitted.toNat + n)) } := by
  unfold Pu.assign; rw [new]
  exact if_neg (by rw [low]; decide)

/-- An output that is high keeps its assignment waiting, and one with none waiting is left as it is (R134). -/
theorem Pu.assign_waits {u : Pu} (clk n : Nat) (waits : u.newGen = none ∨ u.high = true) : u.assign clk n = u := by
  unfold Pu.assign; split
  · next g new => exact if_pos (waits.resolve_left (by rw [new]; nofun))
  · rfl

/-! ### Gates -/

/-- A gate write ends the emission of a clock output exactly where it closes the gate of one that runs (R128). -/
theorem Ck.gate_closes (c : Ck) (on : Bool) :
    (c.gate && !({ c with hgate := on } : Ck).gate && c.run == .running) = true ↔
      c.run = .running ∧ c.gate = true ∧ on = false := by
  cases on with
  | true => simp +contextual [Ck.gate]
  | false => simp [Ck.gate, and_comm]

theorem Plane.writeGate_ck (x : Plane) (o : Fin 16) (on : Bool) :
    let c := x.ck[o.val]
    let y := x.writeGate ⟨o.val, by omega⟩ on
    y.ck[o.val] = { c with hgate := on, run := if c.run = .running ∧ c.gate = true ∧ on = false then .draining else c.run } ∧
      ∀ i : Fin 16, i ≠ o → y.ck[i.val] = x.ck[i.val] := by
  dsimp only
  rw [Plane.writeGate, dif_pos o.isLt]
  refine upd_only ?_
  by_cases closes : x.ck[o.val].run = .running ∧ x.ck[o.val].gate = true ∧ on = false
  · rw [if_pos closes]; exact if_pos ((Ck.gate_closes _ on).mpr closes)
  · rw [if_neg closes]; exact if_neg fun k => closes ((Ck.gate_closes _ on).mp k)

theorem Plane.writeGate_pu (x : Plane) (u : Fin 4) (on : Bool) :
    let y := x.writeGate ⟨u.val + 16, by omega⟩ on
    y.pu[u.val] = { x.pu[u.val] with hgate := on } ∧ y.ck = x.ck := by
  have named : Fin.ofNat 4 (u.val + 16 - 16) = u := Fin.ext (by simp [Fin.ofNat])
  dsimp only
  rw [Plane.writeGate, dif_neg (show ¬ u.val + 16 < 16 by omega), named]
  exact ⟨upd_get_same .., rfl⟩

/-! ### Delays and pulse settings -/

/-- A delay is written in both parts; it is in force at once unless a running output moves its fine part to it, and a running output whose
coarse part changes drains (R124). -/
theorem Ck.setDelay_writes (c : Ck) (k : BitVec 17) (f : BitVec 10) :
    let d := c.setDelay k f
    d.k = k ∧ d.f = f ∧ d.wait = c.wait ∧ (c.run ≠ .running → d.fnow = f ∧ d.run = c.run) ∧
      (c.run = .running → c.k = k → d.run = .running ∧ d.fnow = c.fnow ∧ d.moving = (c.fnow != f)) ∧
      (c.run = .running → c.k ≠ k → d.run = .draining ∧ d.fnow = f) := by
  unfold Ck.setDelay
  by_cases runs : c.run = .running
  · by_cases same : c.k = k
    · rw [if_pos runs, if_pos same]
      exact ⟨same, rfl, rfl, fun e => absurd runs e, fun _ _ => ⟨runs, rfl, rfl⟩, fun _ e => absurd same e⟩
    · rw [if_pos runs, if_neg same]
      exact ⟨rfl, rfl, rfl, fun e => absurd runs e, fun _ e => absurd e same, fun _ _ => ⟨rfl, rfl⟩⟩
  · rw [if_neg runs]
    exact ⟨rfl, rfl, rfl, fun _ => ⟨rfl, rfl⟩, fun e => absurd e runs, fun e => absurd e runs⟩

section
variable {x : Plane}

/-- A delay write that no hold and no earlier write defers is applied at its boundary (R124, R125). -/
theorem Plane.writeDelay_free {n : Fin 16} (k : BitVec 17) (f : BitVec 10) (free : x.covered = false)
    (first : x.ck[n.val].wait = []) (unheld : x.ck[n.val].held = false) :
    (x.writeDelay n k f).ck[n.val] = x.ck[n.val].setDelay k f := by
  have free' : ¬ (x.queueDelay n k f).covered = true := by show ¬ x.covered = true; rw [free]; decide
  rw [Plane.writeDelay, Plane.applyDelays, if_neg free']
  dsimp only
  rw [Vector.getElem_map, Plane.queueDelay, upd_get_same, free, unheld, first]
  refine (if_neg Bool.false_ne_true).trans ?_
  show Ck.setDelay { x.ck[n.val] with wait := [], held := false } k f = _
  rw [← first, ← unheld]

/-- A delay write under a training hold waits behind those that wait, and leaves the output as it is (R125). -/
theorem Plane.writeDelay_covered (n : Fin 16) (k : BitVec 17) (f : BitVec 10) (covered : x.covered = true) :
    (x.writeDelay n k f).ck[n.val] = { x.ck[n.val] with wait := x.ck[n.val].wait ++ [(k, f)], held := true } := by
  rw [Plane.writeDelay, Plane.applyDelays, if_pos (show (x.queueDelay n k f).covered = true from covered)]
  rw [Plane.queueDelay, upd_get_same, covered, Bool.or_true]

theorem Plane.writePu_free {n : Fin 4} (v : PuSet) (free : x.covered = false) (first : x.pu[n.val].wait = none) :
    (x.writePu n v).pu[n.val] = x.pu[n.val].setAll v := by
  rw [Plane.writePu, free, first, if_neg (by decide)]
  exact upd_get_same ..

theorem Plane.writePu_covered (n : Fin 4) (v : PuSet) (covered : x.covered = true) :
    (x.writePu n v).pu[n.val] = { x.pu[n.val] with wait := some v } := by
  rw [Plane.writePu, covered, Bool.true_or, if_pos rfl]
  exact upd_get_same ..

theorem Plane.writeTo_free {n : Fin 16} (f : Byte) (free : x.covered = false) (first : x.trigOut[n.val].wait = none) :
    (x.writeTo n f).trigOut[n.val] = { x.trigOut[n.val] with fine := f } := by
  rw [Plane.writeTo, free, first, if_neg (by decide)]
  exact upd_get_same ..

theorem Plane.writeTo_covered (n : Fin 16) (f : Byte) (covered : x.covered = true) :
    (x.writeTo n f).trigOut[n.val] = { x.trigOut[n.val] with wait := some f } := by
  rw [Plane.writeTo, covered, Bool.true_or, if_pos rfl]
  exact upd_get_same ..

end

end Sys2Proof.Machine
end

section
/-! THEOREM. Clock output events. -/

open Sys2Proof Sys2Proof.Machine

theorem vcobUnlock_judges (s : State) (p : PlaneId) (u : Bool) (act : s.hub.active p = true) :
    Completes (.vcobUnlock p u) s fun h =>
      (h.plane p).vcobOut = u ∧ (h.plane p).vcobLock = !u ∧ (h.plane p).flt.src[10].det = (u || (s.hub.plane p).vcobBad) ∧
      (u = true → (h.plane p).flt.src[10].live = true) := by
  refine completes_event act rfl ?_
  rw [Hub.onPlane_plane_vcobOut, Hub.onPlane_plane_vcobLock, Hub.onPlane_plane_flt]
  refine ⟨rfl, rfl, Plane.setDet_det _ 10 _, fun unlocked => ?_⟩
  subst unlocked
  exact Plane.setDet_live _ 10

theorem outputDrainComplete_stops (s : State) (p : PlaneId) (o : Fin 16) (act : s.hub.active p = true)
    (drains : (s.hub.plane p).ck[o.val].run = .draining) :
    Completes (.outputDrainComplete p o) s fun h =>
      (h.plane p).ck[o.val] = { (s.hub.plane p).ck[o.val] with run := .stopped } ∧
      ∀ i : Fin 16, i ≠ o → (h.plane p).ck[i.val] = (s.hub.plane p).ck[i.val] := by
  refine completes_event act rfl ?_
  rw [Hub.onPlane_plane_ck]
  exact upd_only (if_pos drains)

theorem outputStart_runs (s : State) (p : PlaneId) (o : Fin 16) (act : s.hub.active p = true)
    (enabled : (s.hub.plane p).sect.ck[o.val].enabled = true) (stopped : (s.hub.plane p).ck[o.val].run = .stopped)
    (gate : (s.hub.plane p).ck[o.val].gate = true) (released : (s.hub.plane p).ck[o.val].released = true) :
    Completes (.outputStart p o) s fun h =>
      (h.plane p).ck[o.val] =
        { (s.hub.plane p).ck[o.val] with run := .running, fnow := (s.hub.plane p).ck[o.val].f, moving := false } ∧
      ∀ i : Fin 16, i ≠ o → (h.plane p).ck[i.val] = (s.hub.plane p).ck[i.val] := by
  refine completes_event act rfl ?_
  rw [Hub.onPlane_plane_ck, if_pos enabled]
  exact upd_only (if_pos ⟨stopped, gate, released⟩)

theorem fineMoveComplete_arrives (s : State) (p : PlaneId) (o : Fin 16) (act : s.hub.active p = true)
    (goes : (s.hub.plane p).paused = false) (moving : (s.hub.plane p).ck[o.val].moving = true) :
    Completes (.fineMoveComplete p o) s fun h =>
      (h.plane p).ck[o.val] =
        { (s.hub.plane p).ck[o.val] with fnow := (s.hub.plane p).ck[o.val].f, moving := false } ∧
      ∀ i : Fin 16, i ≠ o → (h.plane p).ck[i.val] = (s.hub.plane p).ck[i.val] := by
  refine completes_event act rfl ?_
  rw [Hub.onPlane_plane_ck, if_neg (by rw [goes]; decide)]
  exact upd_only (by rw [if_pos moving])

/-- Settles O28: each event changes its one output where its condition holds there; the lock detector judges source 10. -/
theorem clockOutputEventsComplete : Obligations.ClockOutputEventsComplete :=
  ⟨vcobUnlock_judges, outputDrainComplete_stops, outputStart_runs, fineMoveComplete_arrives⟩

end

section
/-! THEOREM. Pulse and trigger output events. -/

open Sys2Proof Sys2Proof.Machine

theorem puPulseStart_starts (s : State) (p : PlaneId) (u : Fin 4) (at_ : Nat) (rest : List (Fin 8 × Nat))
    (act : s.hub.active p = true)
    (first : takeDue (s.hub.plane p).pu[u.val].set.gen (s.hub.plane p).pu[u.val].due = some (at_, rest)) :
    Completes (.puPulseStart p u) s fun h =>
      let v := (s.hub.plane p).pu[u.val]
      let w := 512 * v.set.width.toNat
      (h.plane p).pu[u.val] =
        (if v.gate = true ∧ (s.hub.plane p).sect.pu[u.val].enabled = true then
          { v with due := rest, high := true, endAt := if v.high then max v.endAt (at_ + w) else at_ + w }
        else { v with due := rest }) ∧
      ∀ i : Fin 4, i ≠ u → (h.plane p).pu[i.val] = (s.hub.plane p).pu[i.val] := by
  refine completes_event act rfl ?_
  dsimp only
  rw [Hub.onPlane_plane_pu]
  exact upd_only (Pu.pulse_due _ first)

theorem puPulseEnd_ends (s : State) (p : PlaneId) (u : Fin 4) (c : Fin 40) (act : s.hub.active p = true) :
    Completes (.puPulseEnd p ⟨u, c⟩) s fun h =>
      let v := (s.hub.plane p).pu[u.val]
      let now := (s.hub.plane p).time.clk + (c.val - (s.hub.plane p).time.cyc)
      (h.plane p).pu[u.val] = { v with high := v.high && decide (now < v.endAt / 512) } := by
  refine completes_eventAt act rfl ?_
  obtain ⟨⟨pu, -⟩, clk⟩ := s.hub.toCycle_pulses p c
  dsimp only
  rw [Hub.onPlane_plane_pu, upd_get_same, clk, pu]

theorem puAssignmentEffect_takes (s : State) (p : PlaneId) (u : Fin 4) (c : Fin 40) (n : Nat) (act : s.hub.active p = true) :
    Completes (.puAssignmentEffect p u ⟨c, n⟩) s fun h =>
      let v := (s.hub.plane p).pu[u.val]
      let now := (s.hub.plane p).time.clk + (c.val - (s.hub.plane p).time.cyc)
      (∀ g ∈ v.newGen, v.high = false → (h.plane p).pu[u.val] = { v with
        set := { v.set with gen := g }, newGen := none
        due := v.due.filter fun e => e.1 == g && decide (512 * now ≤ e.2)
        omitted := BitVec.ofNat 16 (min (v.omitted.toNat + n) 65535) }) ∧
      (v.newGen = none ∨ v.high = true → (h.plane p).pu[u.val] = v) := by
  refine completes_eventAt act rfl ?_
  obtain ⟨⟨pu, -⟩, clk⟩ := s.hub.toCycle_pulses p c
  dsimp only
  rw [Hub.onPlane_plane_pu, upd_get_same, clk, pu]
  exact ⟨fun g new low => Pu.assign_low _ n new low, Pu.assign_waits _ n⟩

theorem toPulseStart_starts (s : State) (p : PlaneId) (o : Fin 16) (at_ : Nat) (f : Byte) (rest : List (Nat × Byte))
    (act : s.hub.active p = true) (first : (s.hub.plane p).trigOut[o.val].due = (at_, f) :: rest) :
    Completes (.toPulseStart p o) s fun h =>
      let t := (s.hub.plane p).trigOut[o.val]
      let w := (s.hub.plane p).sect.trigOut[o.val].width.toNat
      (h.plane p).trigOut[o.val] = if t.halted then { t with due := rest } else
        { t with high := true, edge := f, due := rest, endAt := if t.high then max t.endAt (at_ + w) else at_ + w } := by
  refine completes_event act rfl ?_
  dsimp only
  rw [Hub.onPlane_plane_trigOut, upd_get_same, first]
  rfl

theorem toPulseEnd_ends (s : State) (p : PlaneId) (o : Fin 16) (c : Fin 40) (act : s.hub.active p = true) :
    Completes (.toPulseEnd p ⟨o, c⟩) s fun h =>
      let t := (s.hub.plane p).trigOut[o.val]
      let now := (s.hub.plane p).time.clk + (c.val - (s.hub.plane p).time.cyc)
      (h.plane p).trigOut[o.val] = { t with high := t.high && decide (now < t.endAt) } := by
  refine completes_eventAt act rfl ?_
  obtain ⟨⟨-, trigOut⟩, clk⟩ := s.hub.toCycle_pulses p c
  dsimp only
  rw [Hub.onPlane_plane_trigOut, upd_get_same, clk, trigOut]

/-- Settles O29: a pulse starts by what its output has due; what ends or is assigned in a cycle finds the outputs as they stood and the
clock there. -/
theorem pulseEventsComplete : Obligations.PulseEventsComplete :=
  ⟨puPulseStart_starts, puPulseEnd_ends, puAssignmentEffect_takes, toPulseStart_starts, toPulseEnd_ends⟩

end

section
/-! THEOREM. Output writes. -/

open Sys2Proof Sys2Proof.Machine

section
variable (s : State) (q : PortId) (p : PlaneId) (may : HostMay s.hub q p)
include may

/-! ### Gates -/

theorem outputGateWrite_clock (o : Fin 16) (on : Bool) :
    Completes (.outputGateWrite q p ⟨o.val, by omega⟩ on) s fun h =>
      let c := (s.hub.plane p).ck[o.val]
      (h.plane p).ck[o.val] = { c with
        hgate := on, run := if c.run = .running ∧ c.gate = true ∧ on = false then .draining else c.run } ∧
      ∀ i : Fin 16, i ≠ o → (h.plane p).ck[i.val] = (s.hub.plane p).ck[i.val] := by
  refine completes_hostWrite may rfl rfl rfl rfl ?_
  dsimp only
  rw [Hub.onPlane_plane_ck]
  exact Plane.writeGate_ck _ o on

theorem outputGateWrite_pulse (u : Fin 4) (on : Bool) :
    Completes (.outputGateWrite q p ⟨u.val + 16, by omega⟩ on) s fun h =>
      (h.plane p).pu[u.val] = { (s.hub.plane p).pu[u.val] with hgate := on } ∧ (h.plane p).ck = (s.hub.plane p).ck := by
  refine completes_hostWrite may rfl rfl rfl rfl ?_
  rw [Hub.onPlane_plane_pu, Hub.onPlane_plane_ck]
  exact Plane.writeGate_pu _ u on

variable (awake : (s.hub.plane p).inHusk = false)
include awake

/-! ### Structural writes that nothing refuses -/

theorem completes_outputDelayWrite {o : Fin 16} {k : BitVec 17} {f : BitVec 10} {P : Hub → Prop} (inside : f.toNat ≤ 799)
    (done : P (s.hub.onPlane p fun x => x.writeDelay o k f)) : Completes (.outputDelayWrite q p o k f) s P :=
  completes_hostWrite may rfl (decide_eq_false (by omega)) (by rw [awake]; rfl) rfl done

theorem completes_puSettingsWrite {u : Fin 4} {v : PuSet} {P : Hub → Prop} (inside : v.width ≠ 0)
    (done : P (s.hub.onPlane p fun x => x.writePu u v)) : Completes (.puSettingsWrite q p u v.gen v.coarse v.fine v.width) s P :=
  completes_hostWrite may rfl (beq_false_of_ne inside) (by rw [awake]; rfl) rfl done

theorem completes_toFineDelayWrite {o : Fin 16} {f : Byte} {P : Hub → Prop}
    (done : P (s.hub.onPlane p fun x => x.writeTo o f)) : Completes (.toFineDelayWrite q p o f) s P :=
  completes_hostWrite may rfl rfl (by rw [awake]; rfl) rfl done

end

section
variable (s : State) (q : PortId) (p : PlaneId) (may : HostMay s.hub q p) (awake : (s.hub.plane p).inHusk = false)
include may awake

/-! ### Without a hold -/

section
variable (free : (s.hub.plane p).covered = false)
include free

theorem outputDelayWrite_commits (o : Fin 16) (k : BitVec 17) (f : BitVec 10) (inside : f.toNat ≤ 799)
    (first : (s.hub.plane p).ck[o.val].wait = []) (unheld : (s.hub.plane p).ck[o.val].held = false) :
    Completes (.outputDelayWrite q p o k f) s fun h =>
      let c := (s.hub.plane p).ck[o.val]
      let d := (h.plane p).ck[o.val]
      d.k = k ∧ d.f = f ∧ d.wait = [] ∧ (c.run ≠ .running → d.fnow = f ∧ d.run = c.run) ∧
      (c.run = .running → c.k = k → d.run = .running ∧ d.fnow = c.fnow ∧ d.moving = (c.fnow != f)) ∧
      (c.run = .running → c.k ≠ k → d.run = .draining ∧ d.fnow = f) := by
  refine completes_outputDelayWrite s q p may awake inside ?_
  dsimp only
  rw [Hub.onPlane_plane_ck, Plane.writeDelay_free k f free first unheld, ← first]
  exact Ck.setDelay_writes _ k f

theorem puSettingsWrite_commits (u : Fin 4) (g : Fin 8) (coarse : BitVec 16) (fine : Byte) (width : BitVec 24) (inside : width ≠ 0)
    (first : (s.hub.plane p).pu[u.val].wait = none) :
    Completes (.puSettingsWrite q p u g coarse fine width) s fun h =>
      let v := (s.hub.plane p).pu[u.val]
      (h.plane p).pu[u.val] = { v with
        set := ⟨v.set.gen, coarse, fine, width⟩, newGen := if g = v.set.gen then none else some g } := by
  refine completes_puSettingsWrite s q p may awake (v := ⟨g, coarse, fine, width⟩) inside ?_
  dsimp only
  rw [Hub.onPlane_plane_pu, Plane.writePu_free _ free first]
  rfl

theorem toFineDelayWrite_commits (o : Fin 16) (f : Byte) (first : (s.hub.plane p).trigOut[o.val].wait = none) :
    Completes (.toFineDelayWrite q p o f) s fun h =>
      (h.plane p).trigOut[o.val] = { (s.hub.plane p).trigOut[o.val] with fine := f } := by
  refine completes_toFineDelayWrite s q p may awake ?_
  rw [Hub.onPlane_plane_trigOut]
  exact Plane.writeTo_free f free first

end

/-! ### Under a hold -/

section
variable (covered : (s.hub.plane p).covered = true)
include covered

theorem outputDelayWrite_waits (o : Fin 16) (k : BitVec 17) (f : BitVec 10) (inside : f.toNat ≤ 799) :
    Completes (.outputDelayWrite q p o k f) s fun h =>
      (h.plane p).ck[o.val] =
        { (s.hub.plane p).ck[o.val] with wait := (s.hub.plane p).ck[o.val].wait ++ [(k, f)], held := true } := by
  refine completes_outputDelayWrite s q p may awake inside ?_
  rw [Hub.onPlane_plane_ck]
  exact Plane.writeDelay_covered o k f covered

theorem puSettingsWrite_waits (u : Fin 4) (v : PuSet) (inside : v.width ≠ 0) :
    Completes (.puSettingsWrite q p u v.gen v.coarse v.fine v.width) s fun h =>
      (h.plane p).pu[u.val] = { (s.hub.plane p).pu[u.val] with wait := some v } := by
  refine completes_puSettingsWrite s q p may awake inside ?_
  rw [Hub.onPlane_plane_pu]
  exact Plane.writePu_covered u v covered

theorem toFineDelayWrite_waits (o : Fin 16) (f : Byte) :
    Completes (.toFineDelayWrite q p o f) s fun h =>
      (h.plane p).trigOut[o.val] = { (s.hub.plane p).trigOut[o.val] with wait := some f } := by
  refine completes_toFineDelayWrite s q p may awake ?_
  rw [Hub.onPlane_plane_trigOut]
  exact Plane.writeTo_covered o f covered

end

end

/-- Settles O30: a gate closes a running output by draining it; the structural writes are taken at once where nothing defers them, and
under a hold they wait in their output, which keeps its settings. -/
theorem outputWritesCommitOrWait : Obligations.OutputWritesCommitOrWait :=
  ⟨fun s q p may => ⟨outputGateWrite_clock s q p may, outputGateWrite_pulse s q p may, fun awake free =>
      ⟨outputDelayWrite_commits s q p may awake free, puSettingsWrite_commits s q p may awake free,
        toFineDelayWrite_commits s q p may awake free⟩⟩,
    fun s q p may awake covered => ⟨outputDelayWrite_waits s q p may awake covered, puSettingsWrite_waits s q p may awake covered,
      toFineDelayWrite_waits s q p may awake covered⟩⟩

end

section
/-! SUPPORT. What an operation of the receiver leaves in its link, and what it leaves of the other links. -/

namespace Sys2Proof.Machine

/-! ### A link that changes its state -/

/-- Link l is in state st in plane y, and every other link is as in plane x. -/
def Plane.Enters (x : Plane) (l : Fin 32) (st : LinkState) (y : Plane) : Prop :=
  y.link[l.val].state = st ∧ ∀ m : Fin 32, m ≠ l → y.link[m.val] = x.link[m.val]

section
variable {x y z : Plane} {l : Fin 32} {st : LinkState}

theorem Plane.Enters.stays (e : x.link[l.val].state = st) : x.Enters l st x := ⟨e, fun _ _ => rfl⟩

theorem Plane.Enters.modLink {f : Link → Link} (keeps : ∀ k, (f k).state = k.state) (h : x.Enters l st y) :
    x.Enters l st (y.modLink l f) := by
  obtain ⟨state, others⟩ := h
  exact ⟨by rw [Plane.modLink_same, keeps, state], fun m ne => (Plane.modLink_ne y f ne.symm).trans (others m ne)⟩

theorem Plane.Enters.requestHold (g : Fin 32) (h : x.Enters l st y) : x.Enters l st (y.requestHold g) := by
  obtain ⟨state, others⟩ := h
  exact ⟨state, others⟩

theorem Plane.Enters.linkSources (h : x.Enters l st y) : x.Enters l st y.linkSources := by
  obtain ⟨state, others⟩ := h
  exact ⟨state, others⟩

theorem Plane.Enters.ite {c : Prop} [Decidable c] (hy : x.Enters l st y) (hz : x.Enters l st z) :
    x.Enters l st (if c then y else z) := by
  split
  · exact hy
  · exact hz

end

theorem Link.enter_state (k : Link) (st : LinkState) : (k.enter st).state = st := by
  unfold Link.enter; dsimp only
  split <;> split <;> rfl

/-- A link that changes its state restarts its sequence where it leaves OFF, and requests holds where it enters UP; neither touches its
state or another link (R175, R260). -/
theorem Plane.enterLink_enters (x : Plane) (l : Fin 32) (st : LinkState) : x.Enters l st (x.enterLink l st) := by
  have entered : x.Enters l st (x.modLink l fun k => k.enter st) :=
    ⟨by rw [Plane.modLink_same, Link.enter_state], fun m ne => Plane.modLink_ne x _ ne.symm⟩
  have restarted := entered.modLink (f := fun k => { k with seq := 0, grace := true }) fun _ => rfl
  unfold Plane.enterLink; dsimp only
  refine Plane.Enters.ite ?_ (restarted.ite entered)
  exact List.foldlRecOn (motive := x.Enters l st) _ _ (restarted.ite entered) fun z hz g _ => (hz.requestHold g).ite hz

theorem Plane.setLink_enters (x : Plane) (l : Fin 32) (st : LinkState) : x.Enters l st (x.setLink l st) :=
  (x.enterLink_enters l st).linkSources

/-! ### The check of a slot -/

section
variable (x : Plane) (l : Fin 32)

/-- An injected check changes the injection in the collector and its count. -/
theorem Plane.injectSlot_only : ∃ f c, (x.injectSlot l).1 = { x with flt := f, cnt := c } := by
  unfold Plane.injectSlot; split
  · exact Plane.spendChecks_only x 1
  · exact ⟨_, _, rfl⟩

@[simp] theorem Plane.injectSlot_link : (x.injectSlot l).1.link = x.link := by
  obtain ⟨f, c, e⟩ := x.injectSlot_only l
  rw [e]

@[simp] theorem Plane.injectSlot_time : (x.injectSlot l).1.time = x.time := by
  obtain ⟨f, c, e⟩ := x.injectSlot_only l
  rw [e]

theorem Plane.badSlot_link : (x.badSlot l).link[l.val] =
    { x.link[l.val].count 5 with msErr := x.link[l.val].msErr + 1, err8 := x.link[l.val].err8 + 1 } :=
  Plane.modLink_same ..

theorem Plane.badSlot0_link : (x.badSlot0 l).link[l.val] =
    { x.link[l.val].count 5 with
      msErr := x.link[l.val].msErr + 1, err8 := x.link[l.val].err8 + 1
      rxD := 0xFFFF, rxPend := none, al := { x.link[l.val].al with slots := 0 } } := by
  rw [Plane.badSlot0, Plane.modLink_same, Plane.badSlot_link]; rfl

end

theorem Plane.noSlots_seek {x : Plane} {l : Fin 32} (seek : x.link[l.val].state = .seek) : x.noSlots l = false := by
  rw [Plane.noSlots, seek]; rfl

/-! ### Slot 0 -/

/-- Link j is link k after a slot 0 that failed its check: counted, with the Damper closed, in the state it was in (R151, R191). -/
structure Link.Failed (k j : Link) : Prop where
  msErr : j.msErr = k.msErr + 1
  err8 : j.err8 = k.err8 + 1
  state : j.state = k.state
  rxD : j.rxD = 0xFFFF
  rxPend : j.rxPend = none

theorem Link.misplaced_only (k : Link) (at_ : Option (Fin 800)) :
    ∃ a v c, k.misplaced at_ = { k with al := a, pendSt := v, cnt := c } := by
  unfold Link.misplaced; dsimp only
  split_ifs <;> exact ⟨_, _, _, rfl⟩

/-- A comma out of its place leaves what the check of its slot 0 counted and the Damper it closed (R176). -/
theorem Link.Failed.misplaced {k j : Link} (h : k.Failed j) (at_ : Option (Fin 800)) : k.Failed (j.misplaced at_) := by
  obtain ⟨msErr, err8, state, rxD, rxPend⟩ := h
  obtain ⟨a, v, c, e⟩ := j.misplaced_only at_
  rw [e]; exact ⟨msErr, err8, state, rxD, rxPend⟩

/-- A frame without a comma counts toward the loss of alignment, which the 4th in a row brings (R176). -/
theorem Link.misplaced_none (k : Link) : (k.misplaced none).al.absent = k.al.absent + 1 ∧
    (3 ≤ k.al.absent → (k.misplaced none).pendSt = some .seek) := by
  unfold Link.misplaced; dsimp only
  rw [if_neg (by simp)]
  exact ⟨rfl, fun third => if_pos (by omega)⟩

/-- In SEEK the 4th good comma in a row calls for ALIGNED (R175). -/
theorem Link.verdict_seek {k : Link} (seek : k.state = .seek) (fourth : 4 ≤ k.al.commas) : k.verdict = some .aligned := by
  unfold Link.verdict; dsimp only
  rw [seek]; exact if_pos fourth

/-- A link in SEEK after a slot 0 that passed its check, or failed it: the good commas in a row, and what they call for (R175). -/
def Link.searched (k : Link) (ok : Bool) : Link :=
  let k := { k with al := { k.al with commas := if ok then k.al.commas + 1 else 0 } }
  { k with pendSt := k.verdict }

/-- An aligned link that finds the comma of a frame in its place (R176). -/
def Link.inPlace (k : Link) : Link := { k with al := { k.al with absent := 0, moved := 0, movedAt := none } }

theorem Plane.anomaly_link (x : Plane) : x.anomaly.link = x.link := rfl

section
variable {x : Plane} {l : Fin 32} (base : Nat) (ok : Bool) (payload : BitVec 64)

theorem Plane.takeSlot0_seek (comma : Comma) (seek : x.link[l.val].state = .seek) : x.takeSlot0 l base ok comma payload =
    (if ok then x else x.badSlot0 l).modLink l fun k => k.searched ok := if_pos seek

variable (aligned : x.link[l.val].state ≠ .seek)
include aligned

theorem Plane.takeSlot0_expected : x.takeSlot0 l base ok .expected payload =
    let y := x.modLink l Link.inPlace
    if ok then y.goodSlot0 l base payload else y.badSlot0 l := if_neg aligned

theorem Plane.takeSlot0_absent : x.takeSlot0 l base ok .absent payload =
    ((x.badSlot0 l).modLink l fun k => k.misplaced none).anomaly := if_neg aligned

theorem Plane.takeSlot0_moved (b : Fin 800) : x.takeSlot0 l base ok (.moved b) payload =
    ((x.badSlot0 l).modLink l fun k => k.misplaced (some b)).anomaly := if_neg aligned

end

section
variable (x : Plane) (l : Fin 32) (base : Nat) (payload : BitVec 64)

theorem Plane.badSlot0_failed : x.link[l.val].Failed (x.badSlot0 l).link[l.val] := by
  rw [Plane.badSlot0_link]; exact ⟨rfl, rfl, rfl, rfl, rfl⟩

/-- A slot 0 that fails its check is counted and closes the Damper, whatever its comma does for alignment (R151, R191). -/
theorem Plane.takeSlot0_failed (comma : Comma) :
    x.link[l.val].Failed (x.takeSlot0 l base false comma payload).link[l.val] := by
  have failed := x.badSlot0_failed l
  by_cases seek : x.link[l.val].state = .seek
  · rw [Plane.takeSlot0_seek base false payload comma seek, if_neg Bool.false_ne_true, Plane.modLink_same]
    obtain ⟨msErr, err8, state, rxD, rxPend⟩ := failed
    exact ⟨msErr, err8, state, rxD, rxPend⟩
  · cases comma with
    | expected =>
      rw [Plane.takeSlot0_expected base false payload seek]
      obtain ⟨msErr, err8, state, rxD, rxPend⟩ := Plane.badSlot0_failed (x.modLink l Link.inPlace) l
      rw [Plane.modLink_same] at msErr err8 state
      exact ⟨msErr, err8, state, rxD, rxPend⟩
    | absent =>
      rw [Plane.takeSlot0_absent base false payload seek, Plane.anomaly_link, Plane.modLink_same]
      exact failed.misplaced none
    | moved b =>
      rw [Plane.takeSlot0_moved base false payload seek, Plane.anomaly_link, Plane.modLink_same]
      exact failed.misplaced (some b)

/-- The Damper of a checked slot 0 is received, to be in force from the 10th cycle on (R191, R193). -/
theorem Plane.goodSlot0_damper : let j := (x.goodSlot0 l base payload).link[l.val]
    j.rxPend = some (BitVec.ofNat 16 (bits payload 63 48), x.time.clk + 10) ∧ j.msErr = x.link[l.val].msErr := by
  dsimp only
  unfold Plane.goodSlot0; dsimp only
  by_cases whole : bits payload 47 24 % 16 = bits payload 19 16
  · rw [if_pos whole, Plane.modLink_same, Plane.modLink_same, Plane.modLink_same]; exact ⟨rfl, rfl⟩
  · rw [if_neg whole, Plane.anomaly_link, Plane.modLink_same, Plane.modLink_same]; exact ⟨rfl, rfl⟩

variable {x l}

/-- In SEEK a slot 0 that passes counts toward alignment, and one that fails starts the count anew (R175). -/
theorem Plane.takeSlot0_counts (ok : Bool) (comma : Comma) (seek : x.link[l.val].state = .seek) :
    let k := x.link[l.val]
    let j := (x.takeSlot0 l base ok comma payload).link[l.val]
    j.al.commas = (if ok then k.al.commas + 1 else 0) ∧ (ok = true → 3 ≤ k.al.commas → j.pendSt = some .aligned) := by
  dsimp only
  rw [Plane.takeSlot0_seek base ok payload comma seek, Plane.modLink_same]
  cases ok with
  | true => exact ⟨rfl, fun _ third => Link.verdict_seek seek (Nat.succ_le_succ third)⟩
  | false => exact ⟨rfl, nofun⟩

variable (aligned : x.link[l.val].state ≠ .seek)
include aligned

/-- A slot 0 that fails its check with its comma in place starts the count of missing commas anew (R176). -/
theorem Plane.takeSlot0_fails_inPlace :
    let j := (x.takeSlot0 l base false .expected payload).link[l.val]
    j.al.absent = 0 ∧ j.pendSt = x.link[l.val].pendSt := by
  dsimp only
  rw [Plane.takeSlot0_expected base false payload aligned, if_neg Bool.false_ne_true, Plane.badSlot0_link, Plane.modLink_same]
  exact ⟨rfl, rfl⟩

/-- A slot 0 without its comma counts toward the loss of alignment (R176). -/
theorem Plane.takeSlot0_misses :
    let k := x.link[l.val]
    let j := (x.takeSlot0 l base false .absent payload).link[l.val]
    j.al.absent = k.al.absent + 1 ∧ (3 ≤ k.al.absent → j.pendSt = some .seek) := by
  dsimp only
  rw [Plane.takeSlot0_absent base false payload aligned, Plane.anomaly_link, Plane.modLink_same, Plane.badSlot0_link]
  exact Link.misplaced_none _

/-- A slot 0 that passes its check brings its Damper to an aligned link, and no error (R151, R191). -/
theorem Plane.takeSlot0_passes :
    let j := (x.takeSlot0 l base true .expected payload).link[l.val]
    j.rxPend = some (BitVec.ofNat 16 (bits payload 63 48), x.time.clk + 10) ∧ j.msErr = x.link[l.val].msErr := by
  obtain ⟨rxPend, msErr⟩ := (x.modLink l Link.inPlace).goodSlot0_damper l base payload
  rw [Plane.modLink_same] at msErr
  dsimp only
  rw [Plane.takeSlot0_expected base true payload aligned, if_pos rfl]
  exact ⟨rxPend, msErr⟩

end

theorem Slot0Rx.passes_comma {rx : Slot0Rx} (passes : rx.passes = true) : rx.comma = .expected := by
  simp only [Slot0Rx.passes, Bool.and_eq_true, beq_iff_eq] at passes
  exact passes.2

/-- A link that receives slots takes a slot 0 by its check, which an injection may fail (R151, R401). -/
theorem Plane.upSlot0_takes {x : Plane} {l : Fin 32} (base : Nat) (rx : Slot0Rx) (receives : x.noSlots l = false) :
    x.upSlot0 l base rx = (x.injectSlot l).1.takeSlot0 l base (rx.passes && !(x.injectSlot l).2) rx.comma rx.payload :=
  if_neg (by rw [receives]; decide)

/-! ### The host's Damper bits -/

/-- The slot 0 of a frame carries the automatic Damper bits and the host's (R192). -/
theorem Plane.sendSlot0_damper (x : Plane) (base : Nat) (l : Fin 32) : let j := (x.sendSlot0 base).link[l.val]
    j.damph = x.link[l.val].damph ∧ j.sentD = x.link[l.val].autoD ||| x.link[l.val].damph := by
  dsimp only
  simp only [Plane.sendSlot0, Vector.getElem_ofFn, Vector.getElem_map]
  split <;> exact ⟨rfl, rfl⟩

end Sys2Proof.Machine
end

section
/-! THEOREM. Link signals, bad slots, the Damper and upstream slot 0. -/

open Sys2Proof Sys2Proof.Machine

section
variable (s : State) (p : PlaneId) (l : Fin 32)

theorem linkSignalLoss_darkens (act : s.hub.active p = true) :
    Completes (.linkSignalLoss p l) s fun h =>
      (h.plane p).link[l.val].state = (if (s.hub.plane p).link[l.val].state = .off then .off else .down) ∧
      ∀ m : Fin 32, m ≠ l → (h.plane p).link[m.val] = (s.hub.plane p).link[m.val] := by
  refine completes_event act rfl ?_
  rw [Hub.onPlane_plane_link]
  by_cases off : (s.hub.plane p).link[l.val].state = .off
  · rw [if_pos off, if_pos off]; exact Plane.Enters.stays off
  · rw [if_neg off, if_neg off]; exact Plane.setLink_enters _ l .down

theorem linkSignalPresent_seeks (act : s.hub.active p = true) :
    Completes (.linkSignalPresent p l) s fun h =>
      (h.plane p).link[l.val].state = (if (s.hub.plane p).link[l.val].state = .down then .seek
        else (s.hub.plane p).link[l.val].state) ∧
      ∀ m : Fin 32, m ≠ l → (h.plane p).link[m.val] = (s.hub.plane p).link[m.val] := by
  refine completes_event act rfl ?_
  rw [Hub.onPlane_plane_link]
  by_cases down : (s.hub.plane p).link[l.val].state = .down
  · rw [if_pos down, if_pos down]; exact Plane.setLink_enters _ l .seek
  · rw [if_neg down, if_neg down]; exact Plane.Enters.stays rfl

theorem linkMonitorGraceExpiry_ends (act : s.hub.active p = true) :
    Completes (.linkMonitorGraceExpiry p l) s fun h =>
      (h.plane p).link[l.val] = { (s.hub.plane p).link[l.val] with grace := false } ∧
      ∀ m : Fin 32, m ≠ l → (h.plane p).link[m.val] = (s.hub.plane p).link[m.val] := by
  refine completes_event act rfl ?_
  rw [Hub.onPlane_plane_link]
  exact upd_only rfl

theorem slotCheckFailure_counts (n : Fin 8) (c : Comma) (act : s.hub.active p = true) :
    Completes (.slotCheckFailure p l ⟨n, c⟩) s fun h =>
      let x := s.hub.plane p
      let k := x.link[l.val]
      let j := (h.plane p).link[l.val]
      (x.noSlots l = true → j = k) ∧
      (x.noSlots l = false → j.msErr = k.msErr + 1 ∧ j.err8 = k.err8 + 1 ∧ j.state = k.state ∧
        (n = 0 → j.rxD = 0xFFFF ∧ j.rxPend = none ∧ (k.state = .seek → j.al.commas = 0) ∧
          (k.state ≠ .seek → c = .expected → j.al.absent = 0 ∧ j.pendSt = k.pendSt) ∧
          (k.state ≠ .seek → c = .absent → j.al.absent = k.al.absent + 1 ∧ (3 ≤ k.al.absent → j.pendSt = some .seek))) ∧
        (n ≠ 0 → j.rxD = k.rxD ∧ j.rxPend = k.rxPend ∧ j.al = k.al)) := by
  refine completes_event act rfl ?_
  dsimp only
  rw [Hub.onPlane_plane_link]
  generalize s.hub.plane p = x
  refine ⟨fun deaf => by rw [if_pos deaf], fun receives => ?_⟩
  rw [if_neg (by rw [receives]; decide), ← x.injectSlot_link l]
  generalize (x.injectSlot l).1 = y
  by_cases first : n = 0
  · rw [if_pos first]
    obtain ⟨msErr, err8, state, rxD, rxPend⟩ := y.takeSlot0_failed l 0 0 c
    refine ⟨msErr, err8, state, fun _ => ⟨rxD, rxPend, fun seek => ?_, fun aligned e => ?_, fun aligned e => ?_⟩,
      fun k => absurd first k⟩
    · exact (Plane.takeSlot0_counts 0 0 false c seek).1
    · subst e; exact Plane.takeSlot0_fails_inPlace 0 0 aligned
    · subst e; exact Plane.takeSlot0_misses 0 0 aligned
  · rw [if_neg first, Plane.badSlot_link]
    exact ⟨rfl, rfl, rfl, fun k => absurd k first, fun _ => ⟨rfl, rfl, rfl⟩⟩

theorem damperTimeout_closes (act : s.hub.active p = true) :
    Completes (.damperTimeout p l) s fun h =>
      (h.plane p).link[l.val] = { (s.hub.plane p).link[l.val] with rxD := 0xFFFF, rxPend := none } := by
  refine completes_event act rfl ?_
  rw [Hub.onPlane_plane_link]
  exact Plane.modLink_same ..

theorem upstreamTimeSlot_aligns (c : Fin 40) (rx : Slot0Rx) (act : s.hub.active p = true) :
    Completes (.upstreamTimeSlot p l c rx) s fun h =>
      let x := (s.hub.toCycle p c).plane p
      let k := x.link[l.val]
      let j := (h.plane p).link[l.val]
      let ok := rx.passes && !(x.injectSlot l).2
      (x.noSlots l = true → j = k) ∧
      (k.state = .seek → j.al.commas = (if ok then k.al.commas + 1 else 0) ∧ (ok = true → 3 ≤ k.al.commas → j.pendSt = some .aligned)) ∧
      (x.noSlots l = false → k.state ≠ .seek → ok = true →
        j.rxPend = some (BitVec.ofNat 16 (bits rx.payload 63 48), x.time.clk + 10) ∧ j.msErr = k.msErr) ∧
      (x.noSlots l = false → ok = false → j.rxD = 0xFFFF ∧ j.rxPend = none ∧ j.msErr = k.msErr + 1) := by
  refine completes_eventAt act rfl ?_
  dsimp only
  rw [Hub.onPlane_plane_link]
  generalize (s.hub.toCycle p c).plane p = x
  generalize s.hub.linkBase p = base
  refine ⟨fun deaf => by rw [Plane.upSlot0, if_pos deaf], fun seek => ?_, fun receives aligned ok => ?_, fun receives ok => ?_⟩
  · rw [Plane.upSlot0_takes base rx (Plane.noSlots_seek seek)]
    rw [← x.injectSlot_link l] at seek ⊢
    exact Plane.takeSlot0_counts base rx.payload _ rx.comma seek
  · rw [Plane.upSlot0_takes base rx receives, ok, Slot0Rx.passes_comma (Bool.and_eq_true_iff.mp ok).1]
    rw [← x.injectSlot_link l] at aligned ⊢
    rw [← x.injectSlot_time l]
    exact Plane.takeSlot0_passes base rx.payload aligned
  · rw [Plane.upSlot0_takes base rx receives, ok, ← x.injectSlot_link l]
    obtain ⟨msErr, -, -, rxD, rxPend⟩ := (x.injectSlot l).1.takeSlot0_failed l base rx.payload rx.comma
    exact ⟨rxD, rxPend, msErr⟩

end

/-- Settles O33: a change of state touches its link alone, and what a slot 0 does for alignment leaves what its check counted and the
Damper it closed. -/
theorem linkEventsComplete : Obligations.LinkEventsComplete :=
  ⟨⟨linkSignalLoss_darkens, linkSignalPresent_seeks, linkMonitorGraceExpiry_ends⟩, ⟨slotCheckFailure_counts, damperTimeout_closes⟩,
    upstreamTimeSlot_aligns⟩

end

section
/-! THEOREM. Link delays, host Damper bits and epoch phase delays. -/

open Sys2Proof Sys2Proof.Machine

section
variable (s : State) (q : PortId) (p : PlaneId) (l : Fin 32) (may : HostMay s.hub q p)
include may

theorem linkDelayWrite_waits (d t : Word) (awake : (s.hub.plane p).inHusk = false)
    (near : d.toNat ≤ (s.hub.plane p).sect.links[l.val].dmax.toNat) (quick : t.toNat ≤ 1000000) :
    Completes (.linkDelayWrite q p l d t) s fun h =>
      let k := (s.hub.plane p).link[l.val]
      (h.plane p).link[l.val] = { k with
        wait := some (d, t), waitHeld := (s.hub.plane p).covered || (k.waitHeld && k.wait.isSome) } := by
  have inside : (decide ((s.hub.plane p).sect.links[l.val].dmax.toNat < d.toNat) || decide (1000000 < t.toNat)) = false := by
    rw [decide_eq_false (Nat.not_lt.mpr near), decide_eq_false (Nat.not_lt.mpr quick)]; rfl
  refine completes_hostWrite may rfl inside (by rw [awake]; rfl) rfl ?_
  rw [Hub.onPlane_plane_link]
  exact Plane.modLink_same ..

theorem hostDamperWrite_commits (w : BitVec 16) (layout : w &&& 0x7C00 = 0) :
    Completes (.hostDamperWrite q p l w) s fun h =>
      let k := (s.hub.plane p).link[l.val]
      (h.plane p).link[l.val].damph = w ∧
      ((s.hub.plane p).time.cyc = 0 → (h.plane p).link[l.val].sentD = k.autoD ||| w) ∧
      ((s.hub.plane p).time.cyc ≠ 0 → (h.plane p).link[l.val] = { k with damph := w }) := by
  refine completes_hostWrite may rfl (by rw [layout]; rfl) rfl rfl ?_
  dsimp only
  rw [Hub.onPlane_plane_link, Plane.writeDamper, Plane.modLink_time]
  by_cases opens : (s.hub.plane p).time.cyc = 0
  · obtain ⟨damph, sentD⟩ := Plane.sendSlot0_damper
      ((s.hub.plane p).modLink l fun k => { k with damph := w }) (s.hub.linkBase p) l
    rw [Plane.modLink_same] at damph sentD
    rw [if_pos opens]
    exact ⟨damph, fun _ => sentD, fun k => absurd opens k⟩
  · rw [if_neg opens, Plane.modLink_same]
    exact ⟨rfl, fun k => absurd k opens, fun _ => rfl⟩

theorem epochPhaseDelayWrite_commits (a b : Word) (awake : (s.hub.plane p).inHusk = false) (ra : bits a 10 0 = 0)
    (rb : bits b 10 0 = 0) :
    Completes (.epochPhaseDelayWrite q p l a b) s fun h =>
      let k := (s.hub.plane p).link[l.val]
      (h.plane p).link[l.val] = if (s.hub.plane p).covered = true ∨ k.epdWait.isSome = true then { k with epdWait := some (a, b) }
        else { k with epd2 := a, epd3 := b } := by
  refine completes_hostWrite may rfl (by rw [ra, rb]; rfl) (by rw [awake]; rfl) rfl ?_
  dsimp only
  rw [Hub.onPlane_plane_link]
  simp only [Plane.writeEpd, Bool.or_eq_true]
  split <;> exact Plane.modLink_same ..

end

/-- Settles O34: nothing refuses these writes, so each leaves in the link what its operation does; at a boundary the slot 0 of the frame
that opens is sent with the host's bits. -/
theorem linkWritesCommit : Obligations.LinkWritesCommit := fun s q p l may =>
  ⟨linkDelayWrite_waits s q p l may, hostDamperWrite_commits s q p l may, epochPhaseDelayWrite_commits s q p l may⟩

end

section
/-! SUPPORT. What a traffic slot does to the counters of a link: moving on to its cycle keeps them, and filling it counts the slot in one
of the four categories. -/

namespace Sys2Proof.Machine

/-! ### On to the slot's cycle -/

@[simp] theorem Plane.applyDelays_link (x : Plane) : x.applyDelays.link = x.link := by unfold Plane.applyDelays; split <;> rfl

theorem SameLinks.resample {a x : Plane} (h : SameLinks a x) : SameLinks a x.resample := by
  simp only [Plane.resample]
  refine SameLinks.setDet (SameLinks.setDet (SameLinks.setDet (SameLinks.setDet (SameLinks.linkSources ?_))))
  refine SameLinks.foldl (fun z n t => t.setDet) (SameLinks.setDet (SameLinks.loopSources (SameLinks.setDet ?_)))
  exact SameLinks.foldl (fun z i t => t.setDet.setDet) h

/-- The links of plane y have counted what those of plane x have. -/
def LinksCountAs (x y : Plane) : Prop := ∀ l : Fin 32, y.link[l.val].cnt = x.link[l.val].cnt

namespace LinksCountAs

variable {a x : Plane}

theorem of_sameLinks (h : SameLinks a x) : LinksCountAs a x := fun l => congrArg (fun v : Vector Link 32 => v[l.val].cnt) h

theorem latchGroup (h : LinksCountAs a x) : LinksCountAs a x.latchGroup := fun l => by
  rw [← h l]; simp only [Plane.latchGroup, Vector.getElem_ofFn]

theorem advanceTo {c : Nat} (h : LinksCountAs a x) : LinksCountAs a (x.advanceTo c) := by
  unfold Plane.advanceTo; dsimp only; split
  · obtain ⟨_, _, k, _, _, _, _, e, rfl | rfl, -⟩ := x.elapse_only (c - x.time.cyc)
    · rw [e]; exact h
    · rw [e]; exact fun l => (congrArg Link.cnt (Vector.getElem_map ..)).trans (h l)
  · exact h

theorem leaveZero (h : Hub) (p : PlaneId) : LinksCountAs (h.plane p) ((h.leaveZero p).plane p) := by
  have resampled (b : Bank) : SameLinks (h.plane p) ({ (h.plane p).applyDelays with fill := b } : Plane).resample :=
    SameLinks.resample (h.plane p).applyDelays_link
  unfold Hub.leaveZero; split
  · dsimp only
    show LinksCountAs _ (Hub.plane (Hub.setPlane _ p _) p)
    rw [Hub.setPlane_plane, Hub.modPlane_plane]
    split
    · exact (of_sameLinks (resampled _)).latchGroup
    · exact of_sameLinks (resampled _)
  · exact of_sameLinks rfl

theorem toCycle (h : Hub) (p : PlaneId) (c : Fin 40) : LinksCountAs (h.plane p) ((h.toCycle p c).plane p) := by
  unfold Hub.toCycle; split
  · rw [Hub.modPlane_plane]
    exact (leaveZero h p).advanceTo
  · exact of_sameLinks rfl

end LinksCountAs

/-! ### One category for each slot -/

/-- The counters b of a link have one slot more than the counters a: in one of 0 to 3, the categories of R202. -/
def CountsOnce (a b : Vector Counter 8) : Prop :=
  ∃ c : Fin 4, ∀ d : Fin 4, (b[d.val]).count = (a[d.val]).count + if d = c then 1 else 0

namespace CountsOnce

/-- A count in one of the categories counts the slot once. -/
theorem category (a : Vector Counter 8) {n : Fin 8} (lt : n.val < 4) : CountsOnce a (upd a n (·.add 1)) := by
  refine ⟨n.castLT lt, fun d => ?_⟩
  by_cases same : d = n.castLT lt
  · subst same
    rw [if_pos rfl]
    exact congrArg Counter.count (upd_get_same a n (·.add 1))
  · have ne : n ≠ d.castLE (by decide) := fun e => same (Fin.ext (congrArg Fin.val e).symm)
    rw [if_neg same]
    exact (congrArg Counter.count (upd_get_ne a n _ (·.add 1) ne)).trans (BitVec.add_zero _).symm

/-- A count in another counter of the link is no category of the slot. -/
theorem other {a b : Vector Counter 8} (once : CountsOnce a b) {n : Fin 8} (ge : 4 ≤ n.val) : CountsOnce a (upd b n (·.add 1)) := by
  obtain ⟨c, once⟩ := once
  refine ⟨c, fun d => Eq.trans (congrArg Counter.count ?_) (once d)⟩
  exact upd_get_ne b n (d.castLE (by decide)) (·.add 1) fun e =>
    absurd (congrArg Fin.val e) (by rw [Fin.val_castLE]; omega)

variable {k j : Link}

/-- A slot with a message is retired or wasted. -/
theorem sent (wasted : Bool) (counts : j.cnt = (k.count (if wasted then 1 else 0)).cnt) : CountsOnce k.cnt j.cnt :=
  counts ▸ category k.cnt (n := if wasted then 1 else 0) (by cases wasted <;> decide)

/-- An IDLE slot is starved-back or starved-front. -/
theorem idle (back : Bool) (counts : j.cnt = (k.count (if back then 3 else 2)).cnt) : CountsOnce k.cnt j.cnt :=
  counts ▸ category k.cnt (n := if back then 3 else 2) (by cases back <;> decide)

/-- A slot with a direct-lane message is retired, and the message counted beside it. -/
theorem direct (counts : j.cnt = ((k.count 0).count 4).cnt) : CountsOnce k.cnt j.cnt :=
  counts ▸ (category k.cnt (n := 0) (by decide)).other (n := 4) (Nat.le_refl 4)

end CountsOnce

/-- Plane y has counted for link l one slot more than plane x. -/
def Plane.CountsSlot (l : Fin 32) (x y : Plane) : Prop := CountsOnce x.link[l.val].cnt y.link[l.val].cnt

namespace Plane.CountsSlot

variable {x y : Plane} {l : Fin 32}

theorem modLink {f : Link → Link} (same : SameLinks x y) (once : CountsOnce x.link[l.val].cnt (f x.link[l.val]).cnt) :
    CountsSlot l x (y.modLink l f) := by
  unfold CountsSlot
  rwa [Plane.modLink_same, same]

variable (x l)

theorem sendGroup (g : Fin 32) (e : GEntry) : CountsSlot l x (x.sendGroup l g e) :=
  modLink rfl (.sent _ rfl)

theorem fillQueued : CountsSlot l x (x.fillQueued l) := by
  unfold Plane.fillQueued; dsimp only
  split
  · exact sendGroup x l _ _
  · split
    · split
      · split
        · split
          · exact modLink rfl (.idle _ rfl)
          · exact modLink rfl (.sent false rfl)
        · exact modLink rfl (.idle _ rfl)
      · exact modLink rfl (.sent false rfl)
    · split
      · exact modLink rfl (.idle _ rfl)
      · exact modLink rfl (.sent false rfl)
    · exact modLink rfl (.idle _ rfl)

/-- Whatever fills the slot of a link, the slot is counted once (R187, R188, R202, R203). -/
theorem fillSlot (ready : List (Fin 32)) : CountsSlot l x (x.fillSlot ready l) := by
  unfold Plane.fillSlot; dsimp only
  split
  · have skipped : SameLinks x (if x.fab.online then x.skipLink l else x) := SameLinks.ite (x.skipLink_link l) rfl
    exact modLink skipped (.idle _ rfl)
  · split
    · exact modLink rfl (.idle _ rfl)
    · split
      · split
        · exact modLink rfl (.direct rfl)
        · exact fillQueued x l
      · split
        case h_1 w rest _ =>
          split
          · exact modLink rfl (.direct rfl)
          · have once := fillQueued ((x.modLink l fun k => { k with tests := rest }).count 23) l
            unfold CountsSlot at once
            rw [Plane.count_link, Plane.modLink_same] at once
            exact once
        case h_2 => exact fillQueued x l

/-- Every link's slot is counted once in a slot of the plane: the link's own turn counts it, and the other turns leave the link. -/
theorem slotStart (n : Nat) : CountsSlot l x (x.slotStart n) := by
  obtain ⟨z, turn, link, -⟩ := x.slotStart_turn n l
  obtain ⟨d, w, taken⟩ := Link.takeDamper_eq x.link[l.val] x.time.clk
  have once := fillSlot z l (x.slotReady n)
  unfold CountsSlot at once
  rw [turn.link, taken, ← link] at once
  exact once

end Plane.CountsSlot

end Sys2Proof.Machine
end

section
/-! THEOREM. The categories of a traffic slot. -/

open Sys2Proof Sys2Proof.Machine

/-- Settles O38: the plane comes to the slot's cycle with its links' counts as they stood, and the slot counts each link once. -/
theorem everySlotIsCountedOnce : Obligations.EverySlotIsCountedOnce := by
  refine fun s p n act => trafficSlotStart_completes act _ fun h links _ _ l => ?_
  show CountsOnce (s.hub.plane p).link[l.val].cnt (h.plane p).link[l.val].cnt
  rw [links, ← LinksCountAs.toCycle s.hub p (Fin.ofNat 40 (5 * (n.val + 1))) l]
  exact Plane.CountsSlot.slotStart ..

end

section
/-! SUPPORT. What a traffic slot that passes its check leaves of the plane when its message is discarded. -/

namespace Sys2Proof.Machine

section
variable {x : Plane} {l : Fin 32}

theorem Plane.count_cnt (x : Plane) (n : Fin 32) : ((x.count n).cnt[n.val]).count = (x.cnt[n.val]).count + 1 :=
  congrArg Counter.count (upd_get_same x.cnt n (·.add 1))

theorem Plane.noSlots_of_delivers (delivers : x.delivers l = true) : x.noSlots l = false := by
  have up : x.link[l.val].state = .up := by
    rw [Plane.delivers, Bool.and_eq_true, Bool.and_eq_true] at delivers
    exact eq_of_beq delivers.1.1
  rw [Plane.noSlots, up]; rfl

theorem Plane.injectSlot_idle (idle : x.flt.inj.chk ≠ 2) : x.injectSlot l = (x, false) :=
  if_neg fun running => idle running.1

/-- A link that delivers, with no check of its injected, has the message of its slot acted upon. -/
theorem Plane.receive_delivered (delivers : x.delivers l = true) (idle : x.flt.inj.chk ≠ 2) (f : Plane → Plane) :
    x.receive l f = f x := by
  rw [Plane.receive, Plane.noSlots_of_delivers delivers, Plane.injectSlot_idle idle]
  exact if_pos delivers

/-- A BULK that repeats the SEQ of its stream is only counted (R199). -/
theorem Plane.pushBulk_repeated {w : BitVec 64} (again : (msgNum w, BitVec.ofNat 8 (bits w 55 48)) ∈ x.link[l.val].bulkSeq) :
    x.pushBulk l w = x.count 22 := by
  rw [Plane.pushBulk]
  exact if_pos (List.any_eq_true.mpr ⟨_, again, by rw [beq_self_eq_true, beq_self_eq_true]; rfl⟩)

/-- A timed message past its deadline is only counted: as late, or as an anomaly where it is a VETO of no length (R173). -/
theorem Plane.timedUp_late {w : BitVec 64} {t : Nat} (names : msgCycle x.time.now w = some t)
    (late : t + x.sect.links[l.val].p.toNat < x.time.now) (veto : Bool) :
    x.timedUp l w veto = x.count (if veto && vetoLen w == 0 then 21 else 24) := by
  unfold Plane.timedUp
  rw [names]; dsimp only
  by_cases void : (veto && vetoLen w == 0) = true
  · rw [if_pos void, if_pos void]; rfl
  · rw [if_neg void, if_neg void, if_pos late]

end

/-- A message that a link delivers at once and that is only counted leaves the links and the fabric as they stand. -/
theorem completes_receive_counted {cmd : Instr} {s : State} {p : PlaneId} {l : Fin 32} {c : Fin 40} {f : Plane → Plane} {n : Fin 32}
    (act : s.hub.active p = true) (here : (s.hub.plane p).time.cyc = c.val) (delivers : (s.hub.plane p).delivers l = true)
    (idle : (s.hub.plane p).flt.inj.chk ≠ 2) (e : exec cmd s = s.answer (s.hub.eventAt p c fun x => x.receive l f)) (ne : n ≠ 20)
    (discarded : f (s.hub.plane p) = (s.hub.plane p).count n) :
    Completes cmd s fun h =>
      (h.plane p).link = (s.hub.plane p).link ∧ (h.plane p).fab = (s.hub.plane p).fab ∧
      ((h.plane p).cnt[n.val]).count = ((s.hub.plane p).cnt[n.val]).count + 1 := by
  refine completes_eventAt act e ?_
  rw [Hub.toCycle_here here, Hub.onPlane_plane_link, Hub.onPlane_plane_fab, Hub.onPlane_cnt _ _ _ _ ne]
  rw [Plane.receive_delivered delivers idle, discarded]
  exact ⟨Plane.count_link .., Plane.count_fab .., Plane.count_cnt ..⟩

end Sys2Proof.Machine
end

section
/-! THEOREM. Repeated BULK and stale timed messages. -/

open Sys2Proof Sys2Proof.Machine

/-- Settles O14: the link delivers the message in the cycle where the plane stands, and what is repeated or late there is only counted. -/
theorem duplicateAndStaleMessagesAreDiscarded : Obligations.DuplicateAndStaleMessagesAreDiscarded := by
  intro s p l c w act here delivers idle
  refine ⟨fun again => ?_, fun t names late => ⟨?_, ?_⟩⟩
  · obtain ⟨h, e, link, -, cnt⟩ := completes_receive_counted (cmd := .upstreamBulkReceived p l c w)
      (f := fun x => x.pushBulk l w) (n := 22) act here delivers idle rfl (by decide) (Plane.pushBulk_repeated again)
    exact ⟨h, e, link, cnt⟩
  · obtain ⟨h, e, -, fab, cnt⟩ := completes_receive_counted (cmd := .primitiveReceived p l c w)
      (f := fun x => x.timedUp l w false) (n := 24) act here delivers idle rfl (by decide) (Plane.timedUp_late names late false)
    exact ⟨h, e, fab, cnt⟩
  · obtain ⟨h, e, -, fab, -⟩ := completes_receive_counted (cmd := .upstreamVetoReceived p l c w)
      (f := fun x => x.timedUp l w true) act here delivers idle rfl (by split <;> decide) (Plane.timedUp_late names late true)
    exact ⟨h, e, fab⟩

end

section
/-! SUPPORT. What the windows of the fabric hold, what an opener inside a window does, and what a read of a lookup memory leaves. -/

namespace Sys2Proof

open Machine

/-- An event of a fabric at work completes with what it does in its plane. -/
theorem completes_fabric {c : Instr} {s : State} {p : PlaneId} {f : Plane → Plane} {P : Hub → Prop}
    (runs : s.hub.fabricRuns p = true)
    (e : exec c s = s.answer (if s.hub.fabricRuns p then s.hub.onPlane p f else s.hub)) (done : P (s.hub.onPlane p f)) :
    Completes c s P :=
  ⟨_, e, by rwa [if_pos runs]⟩

end Sys2Proof

namespace Sys2Proof.Machine

/-! ### Windows -/

/-- The members of an interval are the signals of the declared sources from its first instant on and before its last (R216, R217). -/
theorem Plane.mem_membersIn {x : Plane} {d : WinDecl} {lo hi : Int} {s : Signal} :
    s ∈ x.membersIn d lo hi ↔ s.src ∈ d.members ∧ s ∈ x.fab.sigs ∧ lo ≤ (s.tau : Int) ∧ (s.tau : Int) < hi := by
  simp only [Plane.membersIn, List.mem_flatMap, List.mem_filter, Bool.and_eq_true, beq_iff_eq, decide_eq_true_eq]
  constructor
  · rintro ⟨m, declared, appears, rfl, within⟩
    exact ⟨declared, appears, within⟩
  · rintro ⟨declared, appears, within⟩
    exact ⟨_, declared, appears, rfl, within⟩

section
variable {x : Plane} {u : Fin 64}

/-- An instant lies inside a window that the unit has opened (R218). -/
def Plane.InsideWindow (x : Plane) (u : Fin 64) (tau : Nat) : Prop :=
  ∃ w ∈ x.fab.wins[u.val], w.lo ≤ (tau : Int) ∧ (tau : Int) < w.hi

/-- An opener inside a window of its unit is only counted (R218). -/
theorem Plane.openerArrives_inside {g : Signal} (inside : x.InsideWindow u g.tau) : x.openerArrives u g = x.count 25 := by
  obtain ⟨w, opened, within⟩ := inside
  exact if_pos (List.any_eq_true.mpr ⟨w, opened, decide_eq_true within⟩)

/-- Openers that all lie inside windows of their unit leave the fabric, and are counted one by one. -/
theorem Plane.openersArrive_inside (gs : List Signal) (inside : ∀ g ∈ gs, x.InsideWindow u g.tau) :
    let y := gs.foldl (fun z g => z.openerArrives u g) x
    y.fab = x.fab ∧ y.cnt[25].count = x.cnt[25].count + BitVec.ofNat 48 gs.length := by
  induction gs generalizing x with
  | nil => exact ⟨rfl, (BitVec.add_zero _).symm⟩
  | cons g rest ih =>
    obtain ⟨here, others⟩ := List.forall_mem_cons.mp inside
    obtain ⟨fab, cnt⟩ := ih (x := x.count 25) others
    have counted : (x.count 25).cnt[25].count = x.cnt[25].count + 1 := Plane.count_cnt x 25
    simp only [List.foldl_cons, List.length_cons, Plane.openerArrives_inside here]
    refine ⟨fab, cnt.trans ?_⟩
    rw [counted, BitVec.add_assoc, Nat.add_comm rest.length, BitVec.ofNat_add]
    rfl

/-- The openers of a cycle arrive at an EVENT unit in use one after another, once its evaluation is pending no more. -/
theorem Plane.openWindow_event {o : Sig} {ref : Nat} (used : x.sect.fabric.wins[u.val].used = true)
    (event : x.sect.fabric.wins[u.val].grid = false) (opener : x.sect.fabric.wins[u.val].opener = some o) :
    x.openWindow u ref = (x.pulses o ref).foldl (fun z g => z.openerArrives u g) (x.evaluated (.win u) ref) := by
  rw [Plane.openWindow, opener, used, event]
  rfl

/-- Where all openers of a cycle lie inside windows of their EVENT unit, they leave the fabric but for the evaluation that has taken
place, and are counted (R218). -/
theorem Plane.openWindow_inside {o : Sig} {ref : Nat} (used : x.sect.fabric.wins[u.val].used = true)
    (event : x.sect.fabric.wins[u.val].grid = false) (opener : x.sect.fabric.wins[u.val].opener = some o)
    (inside : ∀ g ∈ x.pulses o ref, x.InsideWindow u g.tau) :
    let y := x.openWindow u ref
    y.fab = (x.evaluated (.win u) ref).fab ∧ y.cnt[25].count = x.cnt[25].count + BitVec.ofNat 48 (x.pulses o ref).length := by
  rw [Plane.openWindow_event used event opener]
  exact Plane.openersArrive_inside _ inside

/-! ### Lookup memories -/

variable {m : Fin 4} {w : Nat}

/-- Without an injection into the lookup memories, a clean word is counted where it is marked bad, and nothing else (R224). -/
theorem Plane.eccRead_clean (idle : x.flt.inj.chk ≠ 3) :
    (x.eccRead m w .clean).1 = if x.fab.bad.contains (m.val, w) then x.count 27 else x := by
  simp only [Plane.eccRead, beq_eq_false_iff_ne.mpr idle, Bool.false_and, Bool.false_eq_true, if_false]
  split <;> rfl

/-- A single-bit error is counted and raises source 37; a word marked bad is counted besides (R224). -/
theorem Plane.eccRead_single (idle : x.flt.inj.chk ≠ 3) :
    (x.eccRead m w .single).1 =
      if x.fab.bad.contains (m.val, w) then ((x.count 26).fireEvent 37).count 27 else (x.count 26).fireEvent 37 := by
  simp only [Plane.eccRead, beq_eq_false_iff_ne.mpr idle, Bool.false_and, Bool.false_eq_true, if_false]
  split <;> rfl

/-- A double-bit error marks its word bad, is counted, and raises source 38 (R224). -/
theorem Plane.eccRead_double (idle : x.flt.inj.chk ≠ 3) :
    (x.eccRead m w .double).1 =
      ((if x.fab.bad.contains (m.val, w) then x
        else { x with fab := { x.fab with bad := x.fab.bad ++ [(m.val, w)] } }).count 27).fireEvent 38 := by
  simp only [Plane.eccRead, beq_eq_false_iff_ne.mpr idle, Bool.false_and, Bool.false_eq_true, if_false]

/-- A count that is made where a condition holds changes that counter alone. -/
theorem Plane.count_where (x : Plane) (b : Bool) (n : Fin 32) :
    let y := if b then x.count n else x
    (y.cnt[n.val]).count = (x.cnt[n.val]).count + (if b then 1 else 0) ∧
    (∀ k : Fin 32, k ≠ n → y.cnt[k.val] = x.cnt[k.val]) ∧ y.flt = x.flt ∧ y.fab = x.fab := by
  cases b with
  | false => exact ⟨(BitVec.add_zero _).symm, fun _ _ => rfl, rfl, rfl⟩
  | true => exact ⟨Plane.count_cnt x n, fun k ne => upd_get_ne _ _ _ _ ne.symm, rfl, rfl⟩

theorem Plane.eccRead_clean_leaves (idle : x.flt.inj.chk ≠ 3) :
    let y := (x.eccRead m w .clean).1
    y.cnt[27].count = x.cnt[27].count + (if x.fab.bad.contains (m.val, w) then 1 else 0) ∧ y.fab = x.fab := by
  rw [Plane.eccRead_clean idle]
  obtain ⟨counted, -, -, fab⟩ := Plane.count_where x (x.fab.bad.contains (m.val, w)) 27
  exact ⟨counted, fab⟩

theorem Plane.eccRead_single_leaves (idle : x.flt.inj.chk ≠ 3) :
    let y := (x.eccRead m w .single).1
    y.flt.src[37].live = true ∧ y.cnt[26].count = x.cnt[26].count + 1 ∧
    y.cnt[27].count = x.cnt[27].count + (if x.fab.bad.contains (m.val, w) then 1 else 0) ∧ y.fab = x.fab := by
  rw [Plane.eccRead_single idle]
  obtain ⟨counted, others, flt, fab⟩ := Plane.count_where ((x.count 26).fireEvent 37) (x.fab.bad.contains (m.val, w)) 27
  have kept : ((x.count 26).fireEvent 37).cnt[27] = x.cnt[27] := upd_get_ne x.cnt 26 27 _ (by decide)
  dsimp only
  rw [flt, fab]
  exact ⟨Plane.fireEvent_live _ 37, (congrArg Counter.count (others 26 (by decide))).trans (Plane.count_cnt x 26),
    counted.trans (congrArg (·.count + _) kept), rfl⟩

theorem Plane.eccRead_double_leaves (idle : x.flt.inj.chk ≠ 3) :
    let y := (x.eccRead m w .double).1
    y.flt.src[38].live = true ∧ y.cnt[27].count = x.cnt[27].count + 1 ∧
    y.fab.bad = if x.fab.bad.contains (m.val, w) then x.fab.bad else x.fab.bad ++ [(m.val, w)] := by
  rw [Plane.eccRead_double idle]
  split <;> exact ⟨Plane.fireEvent_live _ 38, Plane.count_cnt _ 27, rfl⟩

end

/-- What a scrub's read leaves of the sources, of the two counters of the lookup memories and of the fabric is seen once it
completes. -/
theorem completes_lookupScrub {s : State} {p : PlaneId} (m : Fin 4) (a : Fin 1024) (ecc : EccRead)
    (runs : s.hub.fabricRuns p = true) :
    Completes (.lookupScrub p m a ecc) s fun h =>
      let y := ((s.hub.plane p).eccRead m a.val ecc).1
      (h.plane p).flt = y.flt ∧ (h.plane p).cnt[26] = y.cnt[26] ∧ (h.plane p).cnt[27] = y.cnt[27] ∧ (h.plane p).fab = y.fab :=
  completes_fabric runs rfl ⟨Hub.onPlane_plane_flt .., Hub.onPlane_cnt _ _ _ 26 (by decide), Hub.onPlane_cnt _ _ _ 27 (by decide),
    Hub.onPlane_plane_fab ..⟩

end Sys2Proof.Machine
end

section
/-! THEOREM. Windows are half open, and an opener inside a window is ignored. -/

open Sys2Proof Sys2Proof.Machine

/-- Settles O15: each of the openers is only counted, so the unit's windows stay, and delivery counts nothing of its own there. -/
theorem openerInsideAWindowIsIgnored : Obligations.OpenerInsideAWindowIsIgnored := by
  rintro s p u ref o gs runs used event opener rfl inside
  obtain ⟨fab, cnt⟩ := Plane.openWindow_inside used event opener inside
  refine completes_fabric runs rfl ⟨?_, ?_⟩
  · rw [Hub.onPlane_plane_fab, fab]; rfl
  · exact (congrArg Counter.count (Hub.onPlane_cnt _ _ _ 25 (by decide))).trans cnt

/-- Settles O16: a closing instant is past its window, and is the opening instant of the next one. -/
theorem windowsAreHalfOpen : Obligations.WindowsAreHalfOpen := by
  intro x d a b c s appears declared ab bc
  have member {lo hi : Int} : s ∈ x.membersIn d lo hi ↔ lo ≤ (s.tau : Int) ∧ (s.tau : Int) < hi := by
    rw [Plane.mem_membersIn, and_iff_right declared, and_iff_right appears]
  refine ⟨member, fun opens => member.mpr ?_, fun closes => ⟨fun inside => ?_, member.mpr ?_⟩⟩
  · exact ⟨opens.ge, opens.trans_lt ab⟩
  · exact (member.mp inside).2.ne closes
  · exact ⟨closes.ge, closes.trans_lt bc⟩

end

section
/-! THEOREM. Parameter cells and lookup memories. -/

open Sys2Proof Sys2Proof.Machine

/-- Settles O41: a write that nothing refuses sets its cell alone, and a scrub leaves what its read of the word leaves. -/
theorem fabricMemoriesAreWrittenAndScrubbed : Obligations.FabricMemoriesAreWrittenAndScrubbed := by
  refine ⟨fun s q p c v may online accepts => ?_, fun s p m a runs idle => ⟨?single, ?double, ?clean⟩⟩
  · refine completes_hostWrite may rfl (by rw [accepts]; rfl) rfl (by rw [online]; rfl) ?_
    rw [Hub.onPlane_plane_fab]
    exact upd_only rfl
  case single =>
    obtain ⟨h, e, flt, ones, twos, fab⟩ := completes_lookupScrub m a .single runs
    refine ⟨h, e, ?_⟩
    dsimp only
    rw [flt, ones, twos, fab]
    exact Plane.eccRead_single_leaves idle
  case double =>
    obtain ⟨h, e, flt, -, twos, fab⟩ := completes_lookupScrub m a .double runs
    refine ⟨h, e, ?_⟩
    dsimp only
    rw [flt, twos, fab]
    exact Plane.eccRead_double_leaves idle
  case clean =>
    obtain ⟨h, e, -, -, twos, fab⟩ := completes_lookupScrub m a .clean runs
    refine ⟨h, e, ?_⟩
    dsimp only
    rw [twos, fab]
    exact Plane.eccRead_clean_leaves idle

end

section
/-! SUPPORT. What the messages, the events and the gaps of a generator change in its plane, and what a write leaves of its settings. -/

namespace Sys2Proof.Machine

section
variable {x y z : Plane} {g : Fin 8}

/-! ### Messages -/

/-- Plane y differs from x at most in what sending a message, or missing it, touches: the group queues, the counters and the faults. -/
def Plane.SendsOnly (x y : Plane) : Prop := ∃ q c t, y = { x with gq := q, cnt := c, flt := t }

theorem Plane.SendsOnly.refl (x : Plane) : x.SendsOnly x := ⟨_, _, _, rfl⟩

theorem Plane.SendsOnly.trans (h : x.SendsOnly y) (k : y.SendsOnly z) : x.SendsOnly z := by
  obtain ⟨_, _, _, rfl⟩ := h
  obtain ⟨_, _, _, rfl⟩ := k
  exact ⟨_, _, _, rfl⟩

theorem Plane.SendsOnly.ite {c : Prop} [Decidable c] (hy : x.SendsOnly y) (hz : x.SendsOnly z) :
    x.SendsOnly (if c then y else z) := by
  split
  · exact hy
  · exact hz

theorem Plane.SendsOnly.foldl {α : Type} {f : Plane → α → Plane} (hf : ∀ (z : Plane) a, z.SendsOnly (f z a)) (l : List α)
    (x : Plane) : x.SendsOnly (l.foldl f x) :=
  List.foldlRecOn (motive := x.SendsOnly) l f (.refl x) fun z hz a _ => hz.trans (hf z a)

theorem Plane.SendsOnly.sect (h : x.SendsOnly y) : y.sect = x.sect := by obtain ⟨_, _, _, rfl⟩ := h; rfl
theorem Plane.SendsOnly.gen (h : x.SendsOnly y) : y.gen = x.gen := by obtain ⟨_, _, _, rfl⟩ := h; rfl

theorem Plane.count_sends (x : Plane) (n : Fin 32) : x.SendsOnly (x.count n) := ⟨_, _, _, rfl⟩
theorem Plane.misscheduled_sends (x : Plane) (g : Fin 8) : x.SendsOnly (x.misscheduled g) := ⟨_, _, _, rfl⟩
theorem Plane.unsent_sends (x : Plane) (g : Fin 8) : x.SendsOnly (x.unsent g) := .ite (x.count_sends 8) (x.misscheduled_sends g)
theorem Plane.gpush_sends (x : Plane) (i : Fin 32) (e : GEntry) : x.SendsOnly (x.gpush i e).1 := by
  unfold Plane.gpush; split <;> exact ⟨_, _, _, rfl⟩

theorem Plane.gpush_ne (x : Plane) {i j : Fin 32} (e : GEntry) (ne : j ≠ i) : (x.gpush j e).1.gq[i.val] = x.gq[i.val] := by
  unfold Plane.gpush; split <;> exact upd_get_ne _ _ _ _ ne

/-- An entry that finds room joins its queue, which drops what every member link has passed (R183, R200). -/
theorem Plane.gpush_room {i : Fin 32} (e : GEntry) (room : x.gq[i.val].q.length < 8) : (x.gpush i e).1.gq[i.val].q =
    (x.gq[i.val].q ++ [e]).filter fun t => t.passed &&& x.sect.groups[i.val].links != x.sect.groups[i.val].links := by
  rw [Plane.gpush, if_pos (show _ < Config.queueDepth from room)]
  exact congrArg GQueue.q (upd_get_same ..)

/-- A group's turn in the sending of an event's message, with whether all groups served so far had room. -/
def Plane.sendTurn (served : BitVec 32) (e : GEntry) (a : Plane × Bool) (i : Fin 32) : Plane × Bool :=
  if bitAt served i.val then ((a.1.gpush i e).1, a.2 && (a.1.gpush i e).2) else a

/-- A message is sent by the turns of the groups; one that a full queue has discarded is misscheduled (R245, R247). -/
theorem Plane.genSend_turns (x : Plane) (g : Fin 8) (e : GEntry) : x.genSend g e =
    let r := (List.finRange 32).foldl (Plane.sendTurn x.sect.gens[g.val].groups e) (x, true)
    if r.2 then r.1 else r.1.misscheduled g := rfl

theorem Plane.sendTurn_sends (served : BitVec 32) (e : GEntry) (a : Plane × Bool) (i : Fin 32) :
    a.1.SendsOnly (Plane.sendTurn served e a i).1 := by
  unfold Plane.sendTurn; split
  · exact a.1.gpush_sends i e
  · exact .refl _

theorem Plane.sendTurns_sends (served : BitVec 32) (e : GEntry) (l : List (Fin 32)) (a : Plane × Bool) :
    a.1.SendsOnly (l.foldl (Plane.sendTurn served e) a).1 :=
  List.foldlRecOn (motive := fun b => a.1.SendsOnly b.1) l _ (.refl a.1) fun b hb i _ =>
    hb.trans (Plane.sendTurn_sends served e b i)

/-- The turns of other groups leave a group's queue as it is. -/
theorem Plane.sendTurns_others (served : BitVec 32) (e : GEntry) {i : Fin 32} {l : List (Fin 32)} (others : i ∉ l)
    (a : Plane × Bool) : (l.foldl (Plane.sendTurn served e) a).1.gq[i.val] = a.1.gq[i.val] := by
  refine List.foldlRecOn (motive := fun b : Plane × Bool => b.1.gq[i.val] = a.1.gq[i.val]) l _ rfl fun b hb j mem => Eq.trans ?_ hb
  unfold Plane.sendTurn; split
  · exact b.1.gpush_ne e (ne_of_mem_of_not_mem mem others)
  · rfl

theorem Plane.genSend_sends (x : Plane) (g : Fin 8) (e : GEntry) : x.SendsOnly (x.genSend g e) := by
  rw [Plane.genSend_turns]
  have turns := Plane.sendTurns_sends x.sect.gens[g.val].groups e (List.finRange 32) (x, true)
  exact .ite turns (turns.trans (Plane.misscheduled_sends _ g))

/-- A group that the generator serves, and whose queue has room, gets the message: its turn comes once. -/
theorem Plane.genSend_queues {i : Fin 32} (e : GEntry) (served : bitAt x.sect.gens[g.val].groups i.val = true)
    (room : x.gq[i.val].q.length < 8) : (x.genSend g e).gq[i.val].q =
    (x.gq[i.val].q ++ [e]).filter fun t => t.passed &&& x.sect.groups[i.val].links != x.sect.groups[i.val].links := by
  obtain ⟨before, after, turns⟩ := List.append_of_mem (List.mem_finRange i)
  have once : i ∉ before ++ after :=
    (List.nodup_cons.mp (List.nodup_middle.mp (turns ▸ List.nodup_finRange 32))).1
  obtain ⟨notBefore, notAfter⟩ := not_or.mp fun h => once (List.mem_append.mpr h)
  have noted (r : Plane × Bool) : (if r.2 then r.1 else r.1.misscheduled g).gq = r.1.gq := by split <;> rfl
  have waits := Plane.sendTurns_others x.sect.gens[g.val].groups e notBefore (x, true)
  have sect := (Plane.sendTurns_sends x.sect.gens[g.val].groups e before (x, true)).sect
  rw [Plane.genSend_turns]
  dsimp only at waits sect ⊢
  rw [noted, turns, List.foldl_append, List.foldl_cons, Plane.sendTurns_others _ e notAfter, Plane.sendTurn, if_pos served]
  dsimp only
  rw [Plane.gpush_room e (by rwa [waits]), waits, sect]

/-! ### Enqueue cycles -/

theorem Plane.modGen_same (x : Plane) (g : Fin 8) (f : Gen → Gen) : (x.modGen g f).gen[g.val] = f x.gen[g.val] :=
  upd_get_same ..

theorem Plane.flushBeacons_noGap {e : Nat} (noGap : x.gapAt e = none) : x.flushBeacons g e = x := by
  have : (if x.sect.gens[g.val].defers then x.gapAt e else none) = none := by rw [noGap, ite_self]
  rw [Plane.flushBeacons, this]

/-- No deferred beacons go ahead of an event where there is no gap. -/
theorem Plane.unflushed_of {e : Nat} (free : isBeacon g = false ∨ x.gapAt e = none) :
    (if isBeacon g then x.flushBeacons g e else x) = x := by
  rcases free with plain | noGap
  · rw [plain]; rfl
  · rw [Plane.flushBeacons_noGap noGap, ite_self]

/-- Deferred beacons that are enqueued for a gap are noted apart from the events that have come into being. -/
theorem Plane.flushBeacons_enq (e : Nat) : (x.flushBeacons g e).gen[g.val].enq = x.gen[g.val].enq := by
  unfold Plane.flushBeacons; split
  · rfl
  · dsimp only; split
    · rfl
    · refine (congrArg (fun v : Vector Gen 8 => v[g.val].enq)
        (Plane.SendsOnly.foldl (fun z _ => z.genSend_sends g _) _ _).gen).trans ?_
      rw [Plane.modGen_same]

theorem Plane.enqueueEvent_sends (x : Plane) (g : Fin 8) (e : Nat) :
    (x.modGen g fun n => { n with enq := n.enq ++ [e] }).SendsOnly (x.enqueueEvent g e) := by
  unfold Plane.enqueueEvent; dsimp only
  refine .ite ?_ (Plane.genSend_sends ..)
  split
  · exact Plane.genSend_sends ..
  · exact .ite (.refl _) (Plane.genSend_sends ..)

/-- The event of a generator that no deferral meets is sent with its message (R245, R257). -/
theorem Plane.enqueueEvent_undeferred {e : Nat} (free : isBeacon g = false ∨ x.meets g e = none) :
    x.enqueueEvent g e = (x.modGen g fun n => { n with enq := n.enq ++ [e] }).genSend g
      (if isBeacon g then x.beaconEntry g e false 0 else x.genEntry g e (x.genCount g e)) := by
  unfold Plane.enqueueEvent
  by_cases beacon : isBeacon g = true
  · rw [if_pos beacon, if_pos beacon, free.resolve_left (by rw [beacon]; decide)]
    rfl
  · rw [if_neg beacon, if_neg beacon]

/-- The event of instant e comes into being at its enqueue cycle: the generator works and sends, the fabric is online, and it is an
instant whose event has not come into being yet (R245). -/
def Plane.comesDue (x : Plane) (g : Fin 8) (e : Nat) : Bool :=
  x.genRuns g && genSends x.sect.gens[g.val] && x.fab.online && x.isInstant g e && !(x.gen[g.val].enq.contains e)

section
variable {e : Nat} (lead : x.time.now + x.sect.gens[g.val].lead = e)
include lead

/-- At its enqueue cycle an event comes into being, behind the deferred beacons of its gap (R245, R258). -/
theorem Plane.genEnqueue_due (due : x.comesDue g e = true) :
    x.genEnqueue g = (if isBeacon g then x.flushBeacons g e else x).enqueueEvent g e := by
  subst lead
  simp only [Plane.comesDue, Bool.and_eq_true] at due
  obtain ⟨⟨⟨⟨runs, sends⟩, online⟩, instant⟩, first⟩ := due
  simp only [Plane.genEnqueue, runs, sends, online, instant, first, Bool.and_self, Bool.not_true, Bool.false_eq_true, if_false,
    if_true]

/-- What comes into being at its enqueue cycle is noted there, once (R245). -/
theorem Plane.genEnqueue_enq (due : x.comesDue g e = true) :
    (x.genEnqueue g).gen[g.val].enq = x.gen[g.val].enq ++ [e] := by
  rw [Plane.genEnqueue_due lead due]
  have flushed : (if isBeacon g then x.flushBeacons g e else x).gen[g.val].enq = x.gen[g.val].enq := by
    split
    · exact Plane.flushBeacons_enq e
    · rfl
  refine (congrArg (fun v : Vector Gen 8 => v[g.val].enq) (Plane.enqueueEvent_sends _ g e).gen).trans ?_
  rw [Plane.modGen_same, flushed]

/-- An event that no deferral meets, at an enqueue cycle of no gap, reaches the groups with room (R245). -/
theorem Plane.genEnqueue_queues (due : x.comesDue g e = true)
    (free : isBeacon g = false ∨ (x.gapAt e = none ∧ x.meets g e = none)) {i : Fin 32}
    (served : bitAt x.sect.gens[g.val].groups i.val = true) (room : x.gq[i.val].q.length < 8) :
    (x.genEnqueue g).gq[i.val].q =
      (x.gq[i.val].q ++ [if isBeacon g then x.beaconEntry g e false 0 else x.genEntry g e (x.genCount g e)]).filter
        fun t => t.passed &&& x.sect.groups[i.val].links != x.sect.groups[i.val].links := by
  have unflushed : (if isBeacon g then x.flushBeacons g e else x) = x :=
    Plane.unflushed_of (free.imp_right And.left)
  rw [Plane.genEnqueue_due lead due, unflushed, Plane.enqueueEvent_undeferred (free.imp_right And.right)]
  exact Plane.genSend_queues _ served room

/-- An enqueue cycle of no event, at which no gap has beacons to send, changes nothing. -/
theorem Plane.genEnqueue_notDue (idle : x.comesDue g e = false) (free : isBeacon g = false ∨ x.gapAt e = none) :
    x.genEnqueue g = x := by
  subst lead
  unfold Plane.genEnqueue
  by_cases works : (x.genRuns g && genSends x.sect.gens[g.val] && x.fab.online) = true
  · rw [Plane.comesDue, works, Bool.true_and] at idle
    rw [works, if_neg (by decide)]
    dsimp only
    rw [Plane.unflushed_of free, idle, if_neg Bool.false_ne_true]
  · rw [Bool.eq_false_of_not_eq_true works]; rfl

end

/-! ### Event instants -/

/-- The generator's event of the present cycle has entered the delay of every pulse output. -/
def Plane.Fires (x : Plane) (g : Fin 8) (y : Plane) : Prop :=
  ∀ u : Fin 4, y.pu[u.val] = x.pu[u.val].event g x.time.clk (x.eventFine g)

/-- An event drives the pulse outputs as its plane stood, whatever became of its message and of what its generator counts. -/
theorem Plane.pulseEvent_fires {f : Gen → Gen} (keeps : ∀ n, (f n).set = n.set) (h : (x.modGen g f).SendsOnly z) :
    x.Fires g (z.pulseEvent g) ∧ (z.pulseEvent g).gen[g.val] = f x.gen[g.val] := by
  obtain ⟨_, _, _, rfl⟩ := h
  have fine : (x.modGen g f).eventFine g = x.eventFine g := by
    unfold Plane.eventFine; split
    · next user =>
      subst user
      exact congrArg (fun s : GenSet => s.ufine.toNat) ((congrArg Gen.set (x.modGen_same 7 f)).trans (keeps _))
    · rfl
  refine ⟨fun u => ?_, x.modGen_same g f⟩
  refine (Vector.getElem_map ..).trans ?_
  exact congrArg (Pu.event _ g _) fine

theorem Plane.unsent_cnt {n : Fin 32} (ne8 : n ≠ 8) (neOwn : n ≠ Fin.ofNat 32 g.val) :
    (x.unsent g).cnt[n.val] = x.cnt[n.val] := by
  unfold Plane.unsent; split
  · exact upd_get_ne _ _ _ _ ne8.symm
  · exact upd_get_ne _ _ _ _ neOwn.symm

/-- The counters of the beacon generators' misscheduled events are not the one of FORCED beacons (R410). -/
theorem forcedCounter_ne_own : ∀ {g : Fin 8}, isBeacon g = true → (11 : Fin 32) ≠ Fin.ofNat 32 g.val := by decide

/-- A cycle off the lattice is no event (R243). -/
theorem Plane.genEvent_off (off : (x.genRuns g && x.isInstant g x.time.now) = false) : x.genEvent g = x := by
  rw [Plane.genEvent, off]; rfl

theorem Plane.genEvent_beacon (on : (x.genRuns g && x.isInstant g x.time.now) = true) (beacon : isBeacon g = true) :
    x.genEvent g = x.beaconEvent g := by
  rw [Plane.genEvent, on, if_neg (by decide), if_pos beacon]

/-- What an instant leaves in its generator: of the events that have come into being, those to come. -/
def Gen.arrived (n : Gen) (now : Nat) : Gen := { n with enq := n.enq.filter fun e => decide (now < e) }

/-- What the instant of an epoch or a readout frame leaves in its generator, with its COUNT or NUM (R248). -/
def Gen.counted (n : Gen) (now : Nat) (c : BitVec 15) : Gen := { n.arrived now with count := c }

/-- The instant of an epoch or a readout frame drives the outputs and is counted (R243, R248). -/
theorem Plane.genEvent_fires (on : (x.genRuns g && x.isInstant g x.time.now) = true) (plain : isBeacon g = false) :
    x.Fires g (x.genEvent g) ∧
      (x.genEvent g).gen[g.val] = x.gen[g.val].counted x.time.now (x.genCount g x.time.now) := by
  have twice : ((x.arrive g).1.modGen g fun m => { m with count := x.genCount g x.time.now }) =
      x.modGen g (·.counted x.time.now (x.genCount g x.time.now)) := by
    simp [Plane.arrive, Plane.modGen, upd, Gen.counted, Gen.arrived]
  rw [Plane.genEvent, on, if_neg (by decide), plain, if_neg Bool.false_ne_true]
  dsimp only
  rw [twice]
  have sent := Plane.SendsOnly.ite (c := (x.arrive g).2 = true) (.refl _)
    (Plane.unsent_sends (x.modGen g (·.counted x.time.now (x.genCount g x.time.now))) g)
  exact Plane.pulseEvent_fires (f := (·.counted x.time.now (x.genCount g x.time.now))) (fun _ => rfl)
    (.ite (sent.trans (Plane.count_sends _ _)) sent)

/-- A beacon that no readout frame meets is sent with its pulse (R258). -/
theorem Plane.beaconEvent_free (free : x.meets g x.time.now = none) :
    x.Fires g (x.beaconEvent g) ∧ (x.beaconEvent g).gen[g.val] = x.gen[g.val].arrived x.time.now := by
  rw [Plane.beaconEvent, free]
  exact Plane.pulseEvent_fires (f := (·.arrived x.time.now)) (fun _ => rfl) (.ite (.refl _) (Plane.unsent_sends _ g))

/-- Of the beacons that a readout frame meets, the first LIM are deferred, and counted (R258). -/
theorem Plane.beaconEvent_defers {k : Nat} (met : x.meets g x.time.now = some k) (lim : k < x.sect.gens[g.val].lim) :
    (x.beaconEvent g).pu = x.pu ∧ (x.beaconEvent g).gen[g.val].p = BitVec.ofNat 3 (k + 1) := by
  rw [Plane.beaconEvent, met]
  dsimp only
  rw [if_pos lim]
  exact ⟨rfl, congrArg Gen.p (Plane.modGen_same ..)⟩

/-- A beacon past LIM is FORCED: it is sent with its pulse, and counted (R258). -/
theorem Plane.beaconEvent_forces {k : Nat} (beacon : isBeacon g = true) (met : x.meets g x.time.now = some k)
    (lim : x.sect.gens[g.val].lim ≤ k) :
    x.Fires g (x.beaconEvent g) ∧ (x.beaconEvent g).cnt[11].count = x.cnt[11].count + 1 := by
  rw [Plane.beaconEvent, met]
  dsimp only
  rw [if_neg (Nat.not_lt.mpr lim)]
  refine ⟨(Plane.pulseEvent_fires (f := (·.arrived x.time.now)) (fun _ => rfl) ?_).1, ?_⟩
  · exact .ite ⟨_, _, _, rfl⟩ (.trans ⟨_, _, _, rfl⟩ (Plane.unsent_sends _ g))
  · have sent (z : Plane) (had : Bool) : (if had then z else z.unsent g).cnt[11] = z.cnt[11] := by
      split
      · rfl
      · exact Plane.unsent_cnt (n := 11) (by decide) (forcedCounter_ne_own beacon)
    exact (congrArg Counter.count (sent _ _)).trans (Plane.count_cnt (x.arrive g).1 11)

/-! ### Gaps -/

/-- What the opening of a gap at cycle `now` leaves in a generator that defers: no beacon deferred, and of the gaps whose beacons have been
enqueued, those to come. -/
def Gen.resumed (n : Gen) (now : Nat) : Gen := { n with p := 0, flushed := n.flushed.filter fun a => decide (now < a.1) }

theorem Plane.gapOpens_idle (idle : x.genRuns g = false ∨ x.sect.gens[g.val].defers = false ∨ x.gapAt x.time.now = none) :
    x.gapOpens g = x := by
  have unmet : (if x.genRuns g && x.sect.gens[g.val].defers then x.gapAt x.time.now else none) = none := by
    rcases idle with stands | undeferred | noGap
    · rw [stands]; rfl
    · rw [undeferred, Bool.and_false]; rfl
    · rw [noGap, ite_self]
  rw [Plane.gapOpens, unmet]

/-- A gap's opening counts the deferred beacons that were not enqueued in time, and sends those there were with one pulse (R247, R258). -/
theorem Plane.gapOpens_gap (runs : x.genRuns g = true) (defers : x.sect.gens[g.val].defers = true)
    (gap : (x.gapAt x.time.now).isSome = true) :
    ∃ y, (x.modGen g (·.resumed x.time.now)).SendsOnly y ∧ (x.gapOpens g = y ∨ x.gapOpens g = y.pulseEvent g) := by
  obtain ⟨f, gap⟩ := Option.isSome_iff_exists.mp gap
  rw [Plane.gapOpens, runs, defers, gap, Bool.and_self, if_pos rfl]
  refine ⟨_, ?_, ite_eq_or_eq ..⟩
  exact .ite (.foldl (fun z _ => z.unsent_sends g) _ _) (.refl _)

/-- A gap's opening leaves the other generators as they are, and of its plane what it changes touches no section and no clock. -/
theorem Plane.gapOpens_frame (x : Plane) (g : Fin 8) : (x.gapOpens g).sect = x.sect ∧ (x.gapOpens g).time = x.time ∧
    (x.gapOpens g).grid = x.grid ∧ (x.gapOpens g).power = x.power ∧
    ∀ j : Fin 8, j ≠ g → (x.gapOpens g).gen[j.val] = x.gen[j.val] := by
  by_cases opens : x.genRuns g = true ∧ x.sect.gens[g.val].defers = true ∧ (x.gapAt x.time.now).isSome = true
  · obtain ⟨runs, defers, gap⟩ := opens
    obtain ⟨_, ⟨_, _, _, rfl⟩, e | e⟩ := Plane.gapOpens_gap runs defers gap <;> rw [e] <;>
      exact ⟨rfl, rfl, rfl, rfl, fun j ne => upd_get_ne _ _ _ _ ne.symm⟩
  · rw [Plane.gapOpens_idle (by simpa [Classical.or_iff_not_imp_left] using opens)]
    exact ⟨rfl, rfl, rfl, rfl, fun _ _ => rfl⟩

/-- Generator state n is what the opening of a gap in plane x makes of generator g. -/
def Plane.GapOpened (x : Plane) (g : Fin 8) (n : Gen) : Prop :=
  (x.genRuns g = true → x.sect.gens[g.val].defers = true → (x.gapAt x.time.now).isSome = true →
    n.p = 0 ∧ ∀ a ∈ n.flushed, x.time.now < a.1) ∧
  (x.genRuns g = false ∨ x.sect.gens[g.val].defers = false ∨ x.gapAt x.time.now = none → n = x.gen[g.val])

theorem Plane.gapOpens_opened (x : Plane) (g : Fin 8) : x.GapOpened g (x.gapOpens g).gen[g.val] := by
  refine ⟨fun runs defers gap => ?_, fun idle => by rw [Plane.gapOpens_idle idle]⟩
  have resumed : (x.gapOpens g).gen[g.val] = x.gen[g.val].resumed x.time.now := by
    obtain ⟨_, ⟨_, _, _, rfl⟩, e | e⟩ := Plane.gapOpens_gap runs defers gap <;> rw [e] <;> exact x.modGen_same g _
  rw [resumed]
  exact ⟨rfl, fun a mem => of_decide_eq_true (List.mem_filter.mp mem).2⟩

/-- A readout frame lies where generator 6 stands. -/
theorem Plane.gapAt_congr (sect : y.sect = x.sect) (readout : y.gen[6] = x.gen[6]) (e : Nat) : y.gapAt e = x.gapAt e := by
  have own : y.gen[(6 : Fin 8).val] = x.gen[(6 : Fin 8).val] := readout
  have last (c : Nat) : y.lastInstant 6 c = x.lastInstant 6 c := by
    rw [Plane.lastInstant, Plane.lastInstant, Plane.lattice, Plane.lattice, sect, own]
  simp only [Plane.gapAt, Plane.readoutStart, last, sect, readout]

theorem Plane.genRuns_congr (grid : y.grid = x.grid) (power : y.power = x.power) (own : y.gen[g.val] = x.gen[g.val]) :
    y.genRuns g = x.genRuns g := by
  simp only [Plane.genRuns, Plane.clocked, grid, power, own]

/-- Each beacon generator meets the gap as the plane stood: the opening of the other one changes nothing that it reads. -/
theorem Plane.gapOpens_both (x : Plane) (beacon : isBeacon g = true) :
    x.GapOpened g ((x.gapOpens 4).gapOpens 5).gen[g.val] := by
  have which : g = 4 ∨ g = 5 := by simpa [isBeacon] using beacon
  obtain ⟨sect, time, grid, power, others⟩ := x.gapOpens_frame 4
  rcases which with rfl | rfl
  · obtain ⟨-, -, -, -, kept⟩ := (x.gapOpens 4).gapOpens_frame 5
    rw [kept 4 (by decide)]
    exact x.gapOpens_opened 4
  · have opened := (x.gapOpens 4).gapOpens_opened 5
    unfold Plane.GapOpened at opened ⊢
    rwa [Plane.genRuns_congr grid power (others 5 (by decide)), sect, time, others 5 (by decide),
      Plane.gapAt_congr sect (others 6 (by decide))] at opened

/-! ### Settings -/

/-- The settings put in force are those of the write, and none waits. -/
theorem Plane.applyGen_set (x : Plane) (g : Fin 8) (s : GenSet) :
    (x.applyGen g s).gen[g.val].set = s ∧ (x.applyGen g s).gen[g.val].wait = none := by
  unfold Plane.applyGen; dsimp only
  split
  · rw [Plane.modGen_same, Plane.modGen_same]; exact ⟨rfl, rfl⟩
  · split
    · rw [Plane.modGen_same, Plane.modGen_same]; exact ⟨rfl, rfl⟩
    · rw [Plane.modGen_same]; exact ⟨rfl, rfl⟩

/-- A write of a generator commits on top of what has committed: at once where neither a hold nor an earlier write defers it, and without a
change of the settings in force under a hold (R249). -/
theorem Plane.writeGen_commits (x : Plane) (g : Fin 8) (f : GenSet → GenSet) :
    let n := x.gen[g.val]
    let m := (x.writeGen g f).gen[g.val]
    m.committed = f n.committed ∧ (x.covered = true → m.set = n.set) ∧
      (x.covered = false → n.wait = none → m.set = f n.set) := by
  dsimp only
  by_cases same : f x.gen[g.val].committed = x.gen[g.val].committed
  · rw [Plane.writeGen, if_pos same]
    refine ⟨same.symm, fun _ => rfl, fun _ first => ?_⟩
    rw [Gen.committed, first] at same
    exact same.symm
  · by_cases waits : (x.covered || x.gen[g.val].wait.isSome) = true
    · rw [Plane.writeGen, if_neg same, if_pos waits, Plane.modGen_same]
      refine ⟨rfl, fun _ => rfl, fun free first => ?_⟩
      rw [free, first] at waits
      exact absurd waits (by decide)
    · obtain ⟨set, wait⟩ := x.applyGen_set g (f x.gen[g.val].committed)
      rw [Plane.writeGen, if_neg same, if_neg waits]
      refine ⟨by rw [Gen.committed, wait, set]; rfl, fun covered => ?_, fun _ first => ?_⟩
      · rw [covered] at waits
        exact absurd rfl waits
      · rw [set, Gen.committed, first]; rfl

end

end Sys2Proof.Machine
end

section
/-! THEOREM. Generators. -/

open Sys2Proof Sys2Proof.Machine

section
variable (s : State) (p : PlaneId)

/-! ### Enqueue cycles, instants and gaps -/

section
variable (g : Fin 8) (act : s.hub.active p = true)
include act

theorem generatorEnqueue_sends (c : Fin 40) :
    Completes (.generatorEnqueue p g c) s fun h =>
      let x := (s.hub.toCycle p c).plane p
      let e := x.time.now + x.sect.gens[g.val].lead
      let due := x.genRuns g && genSends x.sect.gens[g.val] && x.fab.online && x.isInstant g e && !(x.gen[g.val].enq.contains e)
      let entry := if isBeacon g then x.beaconEntry g e false 0 else x.genEntry g e (x.genCount g e)
      (due = true → (h.plane p).gen[g.val].enq = x.gen[g.val].enq ++ [e] ∧
        (isBeacon g = false ∨ (x.gapAt e = none ∧ x.meets g e = none) →
          ∀ i : Fin 32, bitAt x.sect.gens[g.val].groups i.val = true → x.gq[i.val].q.length < 8 →
            (h.plane p).gq[i.val].q = (x.gq[i.val].q ++ [entry]).filter
              (fun t => t.passed &&& x.sect.groups[i.val].links != x.sect.groups[i.val].links))) ∧
      (due = false → isBeacon g = false ∨ x.gapAt e = none → (h.plane p).gen = x.gen ∧ (h.plane p).gq = x.gq) := by
  refine completes_eventAt act rfl ?_
  dsimp only
  rw [Hub.onPlane_plane_gen, Hub.onPlane_plane_gq]
  generalize (s.hub.toCycle p c).plane p = x
  refine ⟨fun due => ?_, fun idle free => ?_⟩
  · exact ⟨Plane.genEnqueue_enq rfl due, fun unmet i served room => Plane.genEnqueue_queues rfl due unmet served room⟩
  · rw [Plane.genEnqueue_notDue rfl idle free]
    exact ⟨rfl, rfl⟩

theorem generatorEvent_fires (c : Fin 40) :
    Completes (.generatorEvent p g c) s fun h =>
      let x := (s.hub.toCycle p c).plane p
      let y := h.plane p
      let now := x.time.now
      let at_ := x.genRuns g && x.isInstant g now
      (at_ = true → isBeacon g = false ∨ x.meets g now = none →
        (∀ u : Fin 4, y.pu[u.val] = x.pu[u.val].event g x.time.clk (x.eventFine g)) ∧
        y.gen[g.val].enq = x.gen[g.val].enq.filter (fun e => decide (now < e)) ∧
        (isBeacon g = false → y.gen[g.val].count = x.genCount g now)) ∧
      (at_ = true → isBeacon g = true → ∀ k ∈ x.meets g now, k < x.sect.gens[g.val].lim →
        y.pu = x.pu ∧ y.gen[g.val].p = BitVec.ofNat 3 (k + 1)) ∧
      (at_ = true → isBeacon g = true → ∀ k ∈ x.meets g now, x.sect.gens[g.val].lim ≤ k →
        (∀ u : Fin 4, y.pu[u.val] = x.pu[u.val].event g x.time.clk (x.eventFine g)) ∧ y.cnt[11].count = x.cnt[11].count + 1) ∧
      (at_ = false → y.pu = x.pu ∧ y.gen = x.gen) := by
  refine completes_eventAt act rfl ?_
  have cnt := Hub.onPlane_cnt (s.hub.toCycle p c) p (fun x => x.genEvent g) 11 (by decide)
  dsimp only at cnt ⊢
  rw [Hub.onPlane_plane_gen, Hub.onPlane_plane_pu]
  generalize (s.hub.toCycle p c).plane p = x at cnt ⊢
  refine ⟨fun on free => ?_, fun on beacon k met lim => ?_, fun on beacon k met lim => ?_, fun off => ?_⟩
  · by_cases beacon : isBeacon g = true
    · rw [Plane.genEvent_beacon on beacon]
      obtain ⟨fires, gen⟩ := Plane.beaconEvent_free (free.resolve_left (by rw [beacon]; decide))
      exact ⟨fires, by rw [gen]; rfl, fun plain => absurd beacon (by rw [plain]; decide)⟩
    · obtain ⟨fires, gen⟩ := Plane.genEvent_fires on (Bool.eq_false_of_not_eq_true beacon)
      exact ⟨fires, by rw [gen]; rfl, fun _ => by rw [gen]; rfl⟩
  · rw [Plane.genEvent_beacon on beacon]
    exact Plane.beaconEvent_defers met lim
  · rw [Plane.genEvent_beacon on beacon] at cnt ⊢
    obtain ⟨fires, forced⟩ := Plane.beaconEvent_forces beacon met lim
    exact ⟨fires, (congrArg Counter.count cnt).trans forced⟩
  · rw [Plane.genEvent_off off]
    exact ⟨rfl, rfl⟩

theorem readoutGapStart_resumes (beacon : isBeacon g = true) :
    Completes (.readoutGapStart p) s fun h =>
      let x := s.hub.plane p
      (x.genRuns g = true → x.sect.gens[g.val].defers = true → (x.gapAt x.time.now).isSome = true →
        (h.plane p).gen[g.val].p = 0 ∧ ∀ a ∈ (h.plane p).gen[g.val].flushed, x.time.now < a.1) ∧
      (x.genRuns g = false ∨ x.sect.gens[g.val].defers = false ∨ x.gapAt x.time.now = none →
        (h.plane p).gen[g.val] = x.gen[g.val]) := by
  refine completes_event act rfl ?_
  dsimp only
  rw [Hub.onPlane_plane_gen]
  exact Plane.gapOpens_both _ beacon

end

/-! ### Settings -/

section
variable (q : PortId) (may : HostMay s.hub q p) (awake : (s.hub.plane p).inHusk = false)
include may awake

/-- A write of a generator's settings that nothing refuses commits, at once or behind a hold (R249, R374). -/
theorem completes_writeGen {c : Instr} {range : Bool} {g : Fin 8} {f : GenSet → GenSet} (inside : range = false)
    (e : exec c s = s.answer (s.hub.hostWrite q p 0x0E range true false fun h => h.onPlane p fun x => x.writeGen g f)) :
    Completes c s fun h =>
      (h.plane p).gen[g.val].committed = f (s.hub.plane p).gen[g.val].committed ∧
      ((s.hub.plane p).covered = true → (h.plane p).gen[g.val].set = (s.hub.plane p).gen[g.val].set) ∧
      ((s.hub.plane p).covered = false → (s.hub.plane p).gen[g.val].wait = none →
        (h.plane p).gen[g.val].set = f (s.hub.plane p).gen[g.val].set) := by
  refine completes_hostWrite may e inside (by rw [awake]; rfl) rfl ?_
  rw [Hub.onPlane_plane_gen]
  exact Plane.writeGen_commits _ g f

theorem generatorEnableWrite_commits (g : Fin 8) (on : Bool) :
    Completes (.generatorEnableWrite q p g on) s fun h =>
      (h.plane p).gen[g.val].committed = { (s.hub.plane p).gen[g.val].committed with en := on } ∧
      ((s.hub.plane p).covered = true → (h.plane p).gen[g.val].set = (s.hub.plane p).gen[g.val].set) ∧
      ((s.hub.plane p).covered = false → (s.hub.plane p).gen[g.val].wait = none → (h.plane p).gen[g.val].set.en = on) := by
  obtain ⟨h, e, committed, held, free⟩ := completes_writeGen s p q may awake (c := .generatorEnableWrite q p g on)
    (f := fun v => { v with en := on }) rfl rfl
  exact ⟨h, e, committed, held, fun uncovered first => congrArg GenSet.en (free uncovered first)⟩

theorem bintWrite_commits (second : Bool) (b : Byte) (least : 8 ≤ b.toNat) :
    Completes (.bintWrite q p second b) s fun h =>
      let g : Fin 8 := if second then 5 else 4
      (h.plane p).gen[g.val].committed = { (s.hub.plane p).gen[g.val].committed with bint := b } ∧
      ((s.hub.plane p).covered = true → (h.plane p).gen[g.val].set = (s.hub.plane p).gen[g.val].set) ∧
      ((s.hub.plane p).covered = false → (s.hub.plane p).gen[g.val].wait = none → (h.plane p).gen[g.val].set.bint = b) := by
  obtain ⟨h, e, committed, held, free⟩ := completes_writeGen s p q may awake (c := .bintWrite q p second b)
    (f := fun v => { v with bint := b }) (decide_eq_false (Nat.not_lt.mpr least)) rfl
  exact ⟨h, e, committed, held, fun uncovered first => congrArg GenSet.bint (free uncovered first)⟩

theorem userGeneratorWrite_commits (sec low uper : Word) (uf : BitVec 9)
    (least : uperMin (s.hub.plane p).sect.gens[7] ≤ uper.toNat) (start : (tagCycle sec low).isSome = true) :
    Completes (.userGeneratorWrite q p sec low uper uf) s fun h =>
      (h.plane p).gen[7].committed =
        { (s.hub.plane p).gen[7].committed with startSec := sec, startLow := low, uper := uper, ufine := uf } ∧
      ((s.hub.plane p).covered = true → (h.plane p).gen[7].set = (s.hub.plane p).gen[7].set) ∧
      ((s.hub.plane p).covered = false → (s.hub.plane p).gen[7].wait = none → (h.plane p).gen[7].set =
        { (s.hub.plane p).gen[7].set with startSec := sec, startLow := low, uper := uper, ufine := uf }) := by
  refine completes_writeGen s p q may awake (c := .userGeneratorWrite q p sec low uper uf) (g := 7)
    (f := fun v => { v with startSec := sec, startLow := low, uper := uper, ufine := uf }) ?_ rfl
  rw [decide_eq_false (Nat.not_lt.mpr least), Bool.false_or, Option.isNone_eq_false_iff]
  exact start

end

end

/-- Settles O42: an event in a cycle does what its plane, come to that cycle, has due there; a gap ends each beacon generator's deferral
by itself; and a write of a generator's settings is one operation, whichever of them it sets. -/
theorem generatorCommandsComplete : Obligations.GeneratorCommandsComplete :=
  ⟨⟨fun s p g c act => generatorEnqueue_sends s p g act c, fun s p g c act => generatorEvent_fires s p g act c,
      fun s p g act => readoutGapStart_resumes s p g act⟩,
    fun s q p may awake => ⟨generatorEnableWrite_commits s p q may awake, bintWrite_commits s p q may awake,
      userGeneratorWrite_commits s p q may awake⟩⟩

end

section
/-! SUPPORT. A joined follower whose three counts stand past the end of their second: `Time.frame` is a number, and nothing in a statement
over all states holds it below the 12500000 frames of a second, which every run keeps. -/

namespace Sys2Proof.Machine

/-- A command that completes with a property leaves it in the hub that it answers. -/
theorem completes_answered {c : Instr} {s : State} {g : Hub} {P : Hub → Prop} (answers : exec c s = s.answer g)
    (completes : Completes c s P) : P g := by
  obtain ⟨h, e, holds⟩ := completes
  rw [answers, State.answer_eq] at e
  injection e with same
  injection same with hub
  rwa [hub]

/-- A REALIGN leaves the time of a registered grid that counts the second's first cycle as its instant (R107). -/
theorem Hub.realignTo_stands {h : Hub} {p : PlaneId} {sec : Word} (reg : (h.plane p).grid.reg = true)
    (here : sec.toNat * Config.cycPerSec = (h.plane p).time.now) : ((h.realignTo p sec).plane p).time = (h.plane p).time := by
  rw [Hub.realignTo_registered reg, if_pos here, Hub.onPlane_plane_time]
  exact (Plane.realignEnds_settles reg).1

/-- A joined follower, due at PPS J, whose counts stand at SEC 0 and frame 12500000: the instant of SEC 1 under another name. -/
def pastTheSecond : State where
  hub := {
    powered := true
    planes := Tri.same {
      power := .run, time := { frame := 12500000, clk := 500000000 }, grid := { reg := true }
      loop := { state := .locked, inLoop := true } }
    udecl := { role := .follower }
    chim := { role := .follower, joinPend := true, announced := true } }
  pending := []

theorem pastTheSecond_joinDue : pastTheSecond.hub.joinDue = true := by decide

theorem pastTheSecond_joins : exec (.joinComplete (Tri.same 1)) pastTheSecond =
    pastTheSecond.answer (pastTheSecond.hub.completeJoin (Tri.same 1)) :=
  congrArg pastTheSecond.answer (if_pos ⟨rfl, pastTheSecond_joinDue⟩)

/-- PPS J finds plane A at the instant of the leader's second, and leaves its SEC. -/
theorem pastTheSecond_completeJoin : ((pastTheSecond.hub.completeJoin (Tri.same 1)).plane .a).time.sec = 0 := by decide +kernel

theorem pastTheSecond_realignTo : ((pastTheSecond.hub.realignTo .a 1).plane .a).time.sec = 0 :=
  congrArg Time.sec (Hub.realignTo_stands (h := pastTheSecond.hub) (p := .a) (sec := 1) rfl rfl)

end Sys2Proof.Machine

end

section
/-! THEOREM. A join need not give a follower's count the leader's SEC where that count stands past its second. -/

open Sys2Proof Sys2Proof.Machine

/-- Refutes O46: its clause of PPS J bounds no follower plane's count. In `pastTheSecond`, plane A stands at SEC 0, frame 12500000, which
is the instant of the leader's SEC 1, so its grid is already there and SEC stays 0. With frame < 12500000 and cycle < 40, which every
state that a run reaches keeps, the count would have SEC 1. -/
theorem not_joinCommandsComplete : ¬ Obligations.JoinCommandsComplete := by
  rintro ⟨-, -, completed, -⟩
  have due := (completed pastTheSecond (Tri.same 1) rfl).1 pastTheSecond_joinDue
  obtain ⟨-, -, -, -, -, follows⟩ := completes_answered pastTheSecond_joins due
  obtain ⟨-, sec⟩ := follows (by decide) .a
  exact absurd (pastTheSecond_completeJoin.symm.trans sec) (by decide)

end

section
/-! THEOREM. A movement of a grid over lane 3 need not set SEC where the count stands past its second. -/

open Sys2Proof Sys2Proof.Machine

/-- Refutes O48: its clause of a grid's movement bounds no count. In `pastTheSecond`, a movement to SEC 1 finds plane A at SEC 0, frame
12500000, which is the instant of SEC 1, so the grid is already there and SEC stays 0. With frame < 12500000 and cycle < 40, which every
state that a run reaches keeps, the count would have SEC 1. -/
theorem not_tunnelAndLaneThreeComplete : ¬ Obligations.TunnelAndLaneThreeComplete := by
  rintro ⟨-, -, -, -, moves, -⟩
  have moved := (moves pastTheSecond false .a 0 1 rfl (by decide) (by decide)).2
  obtain ⟨-, -, -, sec, -⟩ := completes_answered rfl moved
  exact absurd (pastTheSecond_realignTo.symm.trans sec) (by decide)

end

section
/-! SUPPORT. What the power of a plane survives, and the part a unit has in its pair: the operations of the Chimney that separate a pair
or hand it over to the other port change that part nowhere but where they say so (R268 to R287). -/

namespace Sys2Proof.Machine

/-! ### The power of a plane -/

section
variable (x : Plane) (p : PlaneId) (v : Int)

@[simp] theorem Plane.setLoop_power (st : LoopState) : (x.setLoop st).power = x.power := by
  obtain ⟨ev, rl, al, ws, la, eb, g, h, n, r, f, e, -, -⟩ := Plane.setLoop_only x st
  rw [e]

@[simp] theorem Plane.discardResid_power : (x.discardResid p).power = x.power := by
  unfold Plane.discardResid; split
  · rfl
  · exact (Plane.log_power ..).trans (Plane.history_power ..)

@[simp] theorem Plane.holdSteer_power : (x.holdSteer v).power = x.power := by unfold Plane.holdSteer; split <;> rfl
@[simp] theorem Plane.steerHeld_power : x.steerHeld.power = x.power := by unfold Plane.steerHeld; split <;> rfl
@[simp] theorem Plane.takeHoldover_power : x.takeHoldover.power = x.power := by unfold Plane.takeHoldover; (repeat' split) <;> rfl
@[simp] theorem Plane.noActive_power : x.noActive.power = x.power := rfl

@[simp] theorem Plane.toEmber_power : (x.toEmber p v).power = x.power := by
  unfold Plane.toEmber; dsimp only; split <;> simp

@[simp] theorem Plane.toSoft_power : (x.toSoft p v).power = x.power := by
  unfold Plane.toSoft; dsimp only
  rw [Plane.setLoop_power]
  exact (Plane.discardResid_power ..).trans (Plane.holdSteer_power ..)

@[simp] theorem Plane.setMode_power (m : LoopMode) : (x.setMode p v m).power = x.power := by
  by_cases same : m = x.sel.mode
  · rw [same, Plane.setMode_same]
  · obtain ⟨w, o, c, -, e⟩ := Plane.setMode_changed (p := p) (v := v) same
    rw [e]; dsimp only; split
    · exact Plane.toEmber_power ..
    · split
      · exact Plane.toSoft_power ..
      · rfl

@[simp] theorem Plane.setFref_power (r : Fin 4) : (x.setFref p r).power = x.power := by
  obtain ⟨w, o, c, e, -⟩ := SwitchOnly.review { x with sel := { x.sel with fref := r } } p
  rw [Plane.setFref, e]

@[simp] theorem Plane.refsChanged_power : (x.refsChanged p).power = x.power := by
  obtain ⟨m, d, w, f, o, c, e, -⟩ := Plane.refsChanged_only x p
  rw [e]

@[simp] theorem Plane.hold3_power (b : Bool) : (x.hold3 p b).power = x.power := by
  unfold Plane.hold3; split
  · exact Plane.refsChanged_power ..
  · rfl

@[simp] theorem Plane.leave3_power : (x.leave3 p v).power = x.power := by
  unfold Plane.leave3; split
  · split
    · exact Plane.toEmber_power ..
    · rfl
  · rfl

@[simp] theorem Plane.dropRef3_power (m : LoopMode) (r : Fin 4) : (x.dropRef3 p v m r).power = x.power := by
  simp only [Plane.dropRef3, Plane.setFref_power, Plane.setMode_power, Plane.leave3_power, Plane.hold3_power]

end

/-! ### The part in the pair -/

/-- The part of a unit in its pair: its role and port, what is ordered and open, the count of its switch-overs, the tunnel's writes not
acknowledged, and which of its planes run. -/
structure PairPart where
  role : Role
  leavePend : Bool
  opened : Bool
  loss : Bool
  port : Fin 2
  outSent : Vector Nat 3
  switches : BitVec 48
  sent : PortId → List (Nat × Fin 8 × WriteKind)
  runs : PlaneId → Bool

/-- The part of a hub's unit. -/
def Hub.pair (h : Hub) : PairPart where
  role := h.chim.role
  leavePend := h.chim.leavePend
  opened := h.chim.opened
  loss := h.chim.loss
  port := h.chim.active
  outSent := h.chim.outSent
  switches := h.ucnt[18].count
  sent q := (h.port q).sent
  runs p := h.active p

section
variable (h : Hub)

/-- An operation that does not touch the Chimney keeps the part where it keeps these. -/
theorem Hub.pair_eq {g : Hub} (chim : g.chim = h.chim) (switches : g.ucnt[18].count = h.ucnt[18].count)
    (sent : ∀ q, (g.port q).sent = (h.port q).sent) (runs : ∀ p, g.active p = h.active p) : g.pair = h.pair := by
  simp only [Hub.pair, chim, switches, sent, runs]

theorem Hub.foldl_pair {α : Type} {f : Hub → α → Hub} (l : List α) (keeps : ∀ (g : Hub) (i : α), (f g i).pair = g.pair) :
    (l.foldl f h).pair = h.pair :=
  List.foldlRecOn (motive := fun g : Hub => g.pair = h.pair) l f rfl fun g same i _ => (keeps g i).trans same

/-- A plane runs as its power says. -/
theorem Hub.active_of_power {g : Hub} {p : PlaneId} (on : g.powered = h.powered) (power : (g.plane p).power = (h.plane p).power) :
    g.active p = h.active p := by
  simp only [Hub.active, Plane.clocked, on, power]

theorem Hub.modPlane_power (p : PlaneId) {f : Plane → Plane} (keeps : ∀ x, (f x).power = x.power) (q : PlaneId) :
    ((h.modPlane p f).plane q).power = (h.plane q).power := by
  by_cases e : q = p
  · rw [e, Hub.modPlane_plane, keeps]
  · rw [Hub.modPlane_plane_ne h f e]

theorem Hub.modPlane_pair (p : PlaneId) {f : Plane → Plane} (keeps : ∀ x, (f x).power = x.power) : (h.modPlane p f).pair = h.pair :=
  Hub.pair_eq h rfl rfl (fun _ => rfl) fun q => Hub.active_of_power h rfl (Hub.modPlane_power h p keeps q)

theorem Hub.allPlanes_pair {f : PlaneId → Plane → Plane} (keeps : ∀ p x, (f p x).power = x.power) : (h.allPlanes f).pair = h.pair :=
  Hub.pair_eq h rfl rfl (fun _ => rfl) fun q => Hub.active_of_power h rfl (by cases q <;> exact keeps _ _)

theorem Hub.modPort_pair (q : PortId) {f : Port → Port} (keeps : (f (h.port q)).sent = (h.port q).sent) :
    (h.modPort q f).pair = h.pair := by
  refine Hub.pair_eq h rfl rfl (fun r => ?_) fun _ => rfl
  by_cases e : q = r
  · rw [← e, Hub.modPort_port, keeps]
  · rw [Hub.modPort_port_ne h f e]

/-- What causes do keeps the part. -/
theorem CauseOnly.pair {h g : Hub} {p : PlaneId} (causes : CauseOnly p h g) : g.pair = h.pair := by
  obtain ⟨hub, ⟨o, c, planes, -⟩, ports⟩ := causes
  refine Hub.pair_eq h (by rw [hub]) (by rw [hub]) (fun q => ?_) fun q => Hub.active_of_power h (by rw [hub]) ?_
  · obtain ⟨a, m, n, e⟩ := ports q
    rw [e]
  · rw [Hub.plane, planes, Tri.get_set]
    split
    next e => rw [e]
    next => rfl

theorem Hub.onPlane_pair (p : PlaneId) {f : Plane → Plane} (keeps : ∀ x, (f x).power = x.power) : (h.onPlane p f).pair = h.pair :=
  (Hub.onPlane_only h p f).pair.trans (Hub.modPlane_pair h p keeps)

theorem Hub.onPlaneFree_pair (p : PlaneId) {f : Int → Plane → Plane} (keeps : ∀ v x, (f v x).power = x.power) :
    (h.onPlaneFree p f).pair = h.pair :=
  (Hub.onPlane_pair h.fresh.2 p (keeps _)).trans rfl

theorem Hub.event_pair (p : PlaneId) {f : Plane → Plane} (keeps : ∀ x, (f x).power = x.power) : (h.event p f).pair = h.pair := by
  unfold Hub.event Hub.ifActive; split
  · exact Hub.onPlane_pair h p keeps
  · rfl

theorem Hub.eventFree_pair (p : PlaneId) {f : Int → Plane → Plane} (keeps : ∀ v x, (f v x).power = x.power) :
    (h.eventFree p f).pair = h.pair := by
  unfold Hub.eventFree Hub.ifActive; split
  · exact Hub.onPlaneFree_pair h p keeps
  · rfl

theorem Hub.ucause_pair (b : Nat) : (h.ucause b).pair = h.pair := by
  obtain ⟨-, ports⟩ := Hub.ucause_only h b
  refine Hub.pair_eq h rfl rfl (fun q => ?_) fun _ => rfl
  obtain ⟨m, n, e⟩ := ports q
  rw [e]

/-- A count but that of the switch-overs keeps the part. -/
theorem Hub.ucountN_pair {u : Fin 32} (other : u ≠ 18) (k : Nat) : (h.ucountN u k).pair = h.pair :=
  Hub.pair_eq h rfl (congrArg Counter.count (upd_get_ne h.ucnt u 18 _ other)) (fun _ => rfl) fun _ => rfl

theorem Hub.writeEntry_pair (r : LogRec) : (h.writeEntry r).pair = h.pair := by
  have counted : Hub.pair (Hub.ucount { h with log := h.log.append r } 5) = h.pair := Hub.ucountN_pair _ (by decide) 1
  unfold Hub.writeEntry; dsimp only; split
  · split
    · exact counted
    · split
      · exact (Hub.ucause_pair _ 7).trans counted
      · exact counted
  · exact counted

theorem Hub.ulog_pair (type portn : Byte) (data : Vector Word 4) : (h.ulog type portn data).pair = h.pair := by
  unfold Hub.ulog Hub.logUnit; dsimp only; split
  · split <;> rfl
  · exact Hub.writeEntry_pair h _

theorem Hub.tandemEvent_pair (code : Nat) : (h.tandemEvent code).pair = h.pair := by
  unfold Hub.tandemEvent; dsimp only; split
  · exact Hub.ulog_pair ..
  · exact (Hub.foldl_pair _ _ fun g p => (Hub.cause_only g p 18).pair).trans (Hub.ulog_pair ..)

/-! ### The two ports judged -/

/-- A port that takes a state changes its own state and excursion, and the count of the standby port's losses. -/
theorem Hub.chimneyState_only (ch : Fin 2) (st : ChState) : ∃ ex bad good cnt, h.chimneyState ch st =
      { h with
        chim := { h.chim with st := upd h.chim.st ch fun _ => st, ex := ex, exBad := bad, exGood := good }, ucnt := cnt } ∧
    (cnt = h.ucnt ∨ cnt = upd h.ucnt 19 (·.add 1)) := by
  unfold Hub.chimneyState; dsimp only [Hub.modChim]
  split
  · split
    · exact ⟨_, _, _, _, rfl, .inr rfl⟩
    · exact ⟨_, _, _, _, rfl, .inl rfl⟩
  · split
    · exact ⟨_, _, _, _, rfl, .inr rfl⟩
    · exact ⟨_, _, _, _, rfl, .inl rfl⟩

theorem Hub.chimneyState_pair (ch : Fin 2) (st : ChState) : (h.chimneyState ch st).pair = h.pair := by
  obtain ⟨ex, bad, good, cnt, e, counts⟩ := Hub.chimneyState_only h ch st
  rw [e]
  obtain rfl | rfl := counts
  · rfl
  · exact Hub.ucountN_pair _ (u := 19) (by decide) 1

theorem Hub.rejudgePorts_pair : h.rejudgePorts.pair = h.pair :=
  (Hub.chimneyState_pair ..).trans (Hub.chimneyState_pair ..)

/-- A port is judged by nothing that a port's taking a state changes. -/
theorem Hub.chimneyState_judges (ch : Fin 2) (st : ChState) (o : Fin 2) (s : PortSight) :
    (h.chimneyState ch st).judgePort o s = h.judgePort o s := by
  obtain ⟨ex, bad, good, cnt, e, -⟩ := Hub.chimneyState_only h ch st
  rw [e]; rfl

theorem Hub.chimneyState_chim (ch : Fin 2) (st : ChState) : ∃ ex bad good, (h.chimneyState ch st).chim =
    { h.chim with st := upd h.chim.st ch fun _ => st, ex := ex, exBad := bad, exGood := good } := by
  obtain ⟨ex, bad, good, cnt, e, -⟩ := Hub.chimneyState_only h ch st
  exact ⟨ex, bad, good, congrArg Hub.chim e⟩

/-- The ports judged anew take the states that what they see gives; their sights and the active port stay. -/
theorem Hub.rejudgePorts_chim : ∃ st ex bad good,
    h.rejudgePorts.chim = { h.chim with st := st, ex := ex, exBad := bad, exGood := good } ∧
    ∀ ch : Fin 2, st[ch.val] = h.judgePort ch h.chim.sights[ch.val] := by
  obtain ⟨ex, bad, good, first⟩ := Hub.chimneyState_chim h 0 (h.judgePort 0 h.chim.sights[0])
  unfold Hub.rejudgePorts; dsimp only
  rw [Hub.chimneyState_judges, first]
  obtain ⟨ex', bad', good', second⟩ := Hub.chimneyState_chim (h.chimneyState 0 (h.judgePort 0 h.chim.sights[0])) 1
    (h.judgePort 1 h.chim.sights[1])
  rw [first] at second
  refine ⟨_, ex', bad', good', second, fun ch => ?_⟩
  match ch with
  | 0 => exact (upd_get_ne _ 1 0 _ (by decide)).trans (upd_get_same _ (0 : Fin 2) _)
  | 1 => exact upd_get_same _ (1 : Fin 2) _

end

/-! ### What a separation discards -/

theorem Port.cause_sent (x : Port) (off : Fin 8) (bit : Nat) : (x.cause off bit).sent = x.sent := by
  obtain ⟨a, m, n, e⟩ := Port.cause_only x off bit
  rw [e]

section
variable (h : Hub)

theorem Hub.causeIn_pair (q : PortId) (p : PlaneId) (bit : Nat) : (h.causeIn q p bit).pair = h.pair := by
  have sends : (h.modPlane p (·.send (.cause bit))).pair = h.pair := Hub.modPlane_pair h p fun x => x.send_power _
  unfold Hub.causeIn; dsimp only; split
  · split
    · exact (Hub.modPort_pair _ q rfl).trans sends
    · exact (Hub.modPort_pair _ q (Port.cause_sent ..)).trans sends
  · exact Hub.modPort_pair h q (Port.cause_sent ..)

theorem Hub.causeAt_pair (q : PortId) (off : Fin 8) (bit : Nat) : (h.causeAt q off bit).pair = h.pair := by
  unfold Hub.causeAt; split
  · exact Hub.causeIn_pair ..
  · exact Hub.modPort_pair h q (Port.cause_sent ..)

theorem Hub.schedLost_pair (q : PortId) (p : PlaneId) (s : Sched) : (h.schedLost q p s).pair = h.pair :=
  calc (h.schedLost q p s).pair
    _ = ((h.refuse q (h.addrOf q s.off) 0x0C .sched).logPort p 0x52 q s.tag).pair := Hub.causeAt_pair ..
    _ = (h.refuse q (h.addrOf q s.off) 0x0C .sched).pair := Hub.modPlane_pair _ p fun x => x.send_power _
    _ = h.pair := Hub.modPort_pair h q rfl

theorem Hub.discardFarScheds_pair : h.discardFarScheds.pair = h.pair :=
  Hub.foldl_pair h _ fun g q => (Hub.foldl_pair _ _ fun k s => k.schedLost_pair q _ s).trans (Hub.modPort_pair g q rfl)

/-- Clearing overflow bits keeps every count. -/
theorem Hub.clearOvf_pair : h.clearOvf.pair = h.pair := by
  have runs (p : PlaneId) : h.clearOvf.active p = h.active p := by
    cases p <;> simp only [Hub.active, Plane.clocked, Hub.plane, Hub.clearOvf, Tri.get, Plane.clearOvf]
  have sent (q : PortId) : h.clearOvf.port q = h.port q := by simp only [Hub.port, Hub.clearOvf]
  have switches : h.clearOvf.ucnt[18].count = h.ucnt[18].count := by simp [Hub.clearOvf, Counter.clearOvf]
  simp only [Hub.pair, runs, sent, switches]
  simp only [Hub.clearOvf]

theorem Hub.latchDigest_pair : h.latchDigest.pair = h.pair := by unfold Hub.latchDigest; split <;> rfl

theorem Hub.finishSnapshot_pair : h.finishSnapshot.pair = h.pair := by
  have captured : (PlaneId.all.foldl (fun (g : Hub) p => if g.snap.waits.get p then g.capturePlane p else g) h).pair = h.pair :=
    Hub.foldl_pair h _ fun g p => by split <;> rfl
  unfold Hub.finishSnapshot; split
  · rfl
  · split
    · rfl
    · dsimp only
      rw [Hub.ucause_pair, Hub.latchDigest_pair]
      split
      · exact (Hub.clearOvf_pair _).trans captured
      · exact captured

theorem Hub.loneSnapshot_pair : h.loneSnapshot.pair = h.pair := by
  unfold Hub.loneSnapshot; split
  · rfl
  · exact Hub.finishSnapshot_pair h

theorem Hub.modeAll_pair (out : Bool) (m : PlaneId → LoopMode) (r : PlaneId → Fin 4) {f : PlaneId → Int → Plane → Plane}
    (keeps : ∀ p v x, (f p v x).power = x.power) : (h.modeAll out m r f).pair = h.pair :=
  Hub.foldl_pair h _ fun g p => by
    split
    · exact Hub.onPlaneFree_pair g p (keeps p)
    · exact Hub.modPlane_pair g p fun _ => rfl

/-! ### A loss in every plane -/

/-- Source 51 is raised in plane p, where its clock runs. -/
def Hub.loseIn (h : Hub) (p : PlaneId) : Hub := h.event p fun x => x.setDet 51 true

/-- Source 51 is raised in every plane that runs (R287). -/
def Hub.raiseLoss (h : Hub) : Hub := PlaneId.all.foldl Hub.loseIn h

theorem Hub.loseIn_pair (p : PlaneId) : (h.loseIn p).pair = h.pair := Hub.event_pair h p fun x => x.setDet_power 51 true

theorem Hub.raiseLoss_pair : h.raiseLoss.pair = h.pair := Hub.foldl_pair h _ Hub.loseIn_pair

/-- An event of another plane leaves a plane as it is. -/
theorem Hub.event_plane_ne {p q : PlaneId} (other : q ≠ p) (f : Plane → Plane) : (h.event p f).plane q = h.plane q := by
  unfold Hub.event Hub.ifActive; split
  · exact Hub.onPlane_plane_ne h f other
  · rfl

theorem Hub.loseIn_active (p q : PlaneId) : (h.loseIn q).active p = h.active p :=
  congrFun (congrArg PairPart.runs (Hub.loseIn_pair h q)) p

theorem Hub.loseIn_live {p : PlaneId} (act : h.active p = true) : ((h.loseIn p).plane p).flt.src[51].live = true := by
  rw [Hub.loseIn, Hub.event_eq act, Hub.onPlane_plane_flt]
  exact Plane.setDet_live _ 51

theorem Hub.raiseLoss_live {p : PlaneId} (act : h.active p = true) : (h.raiseLoss.plane p).flt.src[51].live = true := by
  have stays {g : Hub} {q : PlaneId} (other : p ≠ q) (live : (g.plane p).flt.src[51].live = true) :
      ((g.loseIn q).plane p).flt.src[51].live = true :=
    (congrArg (fun x : Plane => x.flt.src[51].live) (Hub.event_plane_ne g other _)).trans live
  cases p with
  | a => exact stays (by decide) (stays (by decide) (h.loseIn_live act))
  | b => exact stays (by decide) ((h.loseIn .a).loseIn_live ((h.loseIn_active ..).trans act))
  | c => exact ((h.loseIn .a).loseIn .b).loseIn_live ((Hub.loseIn_active ..).trans ((h.loseIn_active ..).trans act))

/-- A tandem event's causes change no source. -/
theorem Hub.tandemEvent_flt (code : Nat) (p : PlaneId) : ((h.tandemEvent code).plane p).flt = (h.plane p).flt := by
  have logged : ((h.ulog 0x40 0xFF (data2 (BitVec.ofNat 32 code) 0)).plane p).flt = (h.plane p).flt := by
    obtain ⟨l, c, e, ports, same, -⟩ := Hub.ulog_only h 0x40 0xFF (data2 (BitVec.ofNat 32 code) 0)
    rw [same]; rfl
  unfold Hub.tandemEvent; dsimp only; split
  · exact logged
  · refine List.foldlRecOn (motive := fun g : Hub => (g.plane p).flt = (h.plane p).flt) _ _ logged fun g kept q _ => ?_
    obtain ⟨-, ⟨o, c, planes, -⟩, -⟩ := Hub.cause_only g q 18
    rw [Hub.plane, planes, Tri.get_set]
    split
    next e => rw [e] at kept; exact e ▸ kept
    next => exact kept

/-! ### Separation and switch-over -/

/-- The Chimney of a unit that has left its pair (R286, R287). -/
def Chimney.alone (c : Chimney) (lost : Bool) : Chimney :=
  { c with
    role := .solo, joinPend := false, leavePend := false, announced := false, opened := false, loss := lost
    moving := Tri.same 0, out := c.out.map Queue.clear, inq := c.inq.map Queue.clear, mate := none
    outSent := Vector.replicate 3 0, sends := [] }

/-- A plane of such a unit: nothing crosses, and no write waits that came over the tunnel. -/
def Plane.alone (x : Plane) : Plane := { x.dropCrossed with commits := x.commits.filter fun w => !w.tunnel }

theorem Plane.alone_power (x : Plane) : x.alone.power = x.power := rfl

/-- A port of such a unit: nothing waits for an acknowledge, and no record has been fetched. -/
def Port.alone (x : Port) : Port := { x with sent := [], fetch := [] }

/-- The unit with its crossings closed and its queues cleared: what `Hub.separate` does first. -/
def Hub.cutOff (h : Hub) (lost : Bool) : Hub :=
  (((h.modChim fun c => c.alone lost).rejudgePorts.ucountN 30 (if h.chim.role = .leader then h.chim.unacked else 0)).allPlanes
    fun _ => Plane.alone).allPorts Port.alone

/-- The unit cut off, with what came from its partner or was meant for it discarded (R286, R326, R412). -/
def Hub.alone (h : Hub) (lost : Bool) : Hub :=
  { h.cutOff lost with ucommits := (h.cutOff lost).ucommits.filter fun w => !w.tunnel }.discardFarScheds.loneSnapshot

/-- The part of a unit left alone: SOLO, nothing ordered, nothing crosses, and nothing waits for its acknowledge (R286, R287). -/
def PairPart.alone (lost : Bool) (x : PairPart) : PairPart :=
  { x with role := .solo, leavePend := false, opened := false, loss := lost, outSent := Vector.replicate 3 0, sent := fun _ => [] }

theorem Hub.allPorts_alone_pair : (h.allPorts Port.alone).pair = { h.pair with sent := fun _ => [] } := by
  have sent (q : PortId) : ((h.allPorts Port.alone).port q).sent = [] := by rw [Hub.allPorts_port, Port.alone]
  simp only [Hub.pair, sent]
  rfl

theorem Hub.ucommits_pair (ws : List HeldWrite) : Hub.pair { h with ucommits := ws } = h.pair := rfl

theorem Hub.cutOff_pair (lost : Bool) : (h.cutOff lost).pair = PairPart.alone lost h.pair := by
  rw [Hub.cutOff, Hub.allPorts_alone_pair, Hub.allPlanes_pair _ fun _ => Plane.alone_power, Hub.ucountN_pair _ (by decide),
    Hub.rejudgePorts_pair]
  rfl

theorem Hub.alone_pair (lost : Bool) : (h.alone lost).pair = PairPart.alone lost h.pair := by
  rw [Hub.alone, Hub.loneSnapshot_pair, Hub.discardFarScheds_pair, Hub.ucommits_pair, Hub.cutOff_pair]

/-- A follower left alone gives its planes back their modes and forced references, or holds them on a loss; others keep theirs (R286,
R287). -/
def Hub.modesAlone (h : Hub) (lost : Bool) : Hub :=
  let g := h.alone lost
  let mode := fun (p : PlaneId) => if lost then LoopMode.hold else h.chim.kept.get p
  let fref := fun (p : PlaneId) => if lost then (g.plane p).sel.fref else h.chim.keptRef.get p
  if h.chim.role == .follower then g.modeAll true mode fref fun p v x => x.dropRef3 p v (mode p) (fref p) else g

theorem Hub.modesAlone_pair (lost : Bool) : (h.modesAlone lost).pair = PairPart.alone lost h.pair := by
  unfold Hub.modesAlone; dsimp only; split
  · exact (Hub.modeAll_pair _ _ _ _ fun p v x => x.dropRef3_power p v _ _).trans (Hub.alone_pair h lost)
  · exact Hub.alone_pair h lost

/-- A separation leaves the unit alone, raises a loss, and is recorded. -/
theorem Hub.separate_eq (lost : Bool) : h.separate lost =
    (if lost then (h.modesAlone lost).raiseLoss else h.modesAlone lost).tandemEvent (if lost then 6 else 2) := rfl

theorem Hub.separate_pair (lost : Bool) : (h.separate lost).pair = PairPart.alone lost h.pair := by
  rw [Hub.separate_eq, Hub.tandemEvent_pair, ← Hub.modesAlone_pair]
  split
  · exact Hub.raiseLoss_pair _
  · rfl

/-- A loss raises source 51 in every plane that ran before it (R287). -/
theorem Hub.separate_live {p : PlaneId} (act : h.active p = true) : ((h.separate true).plane p).flt.src[51].live = true := by
  have still : (h.modesAlone true).active p = true := (congrFun (congrArg PairPart.runs (h.modesAlone_pair true)) p).trans act
  rw [Hub.separate_eq, Hub.tandemEvent_flt]
  exact Hub.raiseLoss_live _ still

/-- The follower's loops leave REF3 until their measured step. -/
theorem Hub.leave3All_pair : (PlaneId.all.foldl (fun (g : Hub) p => g.eventFree p fun v x => x.leave3 p v) h).pair = h.pair :=
  Hub.foldl_pair h _ fun g p => Hub.eventFree_pair g p fun v x => x.leave3_power p v

/-- The other port active, before the follower's loops leave REF3: what `Hub.switchOver` does first. -/
def Hub.handedOver (h : Hub) (n : Nat) : Hub :=
  ((h.modChim fun c => { c with
    active := 1 - h.chim.active, outSent := Vector.replicate 3 0
    moving := Tri.same (if c.role = .follower then 2 else 1) }).rejudgePorts.ucount 18).ucountN 30 n

/-- Counting a switch-over counts nothing else. -/
theorem Hub.ucount_switch_pair : (h.ucount 18).pair = { h.pair with switches := h.pair.switches + 1 } := by
  have counted : (h.ucount 18).ucnt[18].count = h.ucnt[18].count + 1 := congrArg Counter.count (upd_get_same h.ucnt (18 : Fin 32) _)
  simp only [Hub.pair, counted]
  rfl

theorem Hub.handedOver_pair (n : Nat) : (h.handedOver n).pair = { h.pair with
    port := 1 - h.chim.active, outSent := Vector.replicate 3 0, switches := h.pair.switches + 1 } := by
  rw [Hub.handedOver, Hub.ucountN_pair _ (by decide), Hub.ucount_switch_pair, Hub.rejudgePorts_pair]
  rfl

/-- Where the active port is lost and the other one UP, it takes over, the follower's loops hold, and this is recorded (R285). -/
theorem Hub.switchOver_eq {h : Hub} (n : Nat) (joined : h.joined = true) (lost : h.chim.isUp h.chim.active = false)
    (ready : h.chim.isUp (1 - h.chim.active) = true) : h.switchOver n =
    (if (h.handedOver n).following then
      PlaneId.all.foldl (fun (g : Hub) p => g.eventFree p fun v x => x.leave3 p v) (h.handedOver n)
    else h.handedOver n).tandemEvent 5 := if_pos ⟨joined, lost, ready⟩

/-- The switch-over makes the other port active, counts it, and has the tunnel send again what is not acknowledged (R278, R285). -/
theorem Hub.switchOver_pair (n : Nat) (joined : h.joined = true) (lost : h.chim.isUp h.chim.active = false)
    (ready : h.chim.isUp (1 - h.chim.active) = true) : (h.switchOver n).pair = { h.pair with
      port := 1 - h.chim.active, outSent := Vector.replicate 3 0, switches := h.pair.switches + 1 } := by
  rw [Hub.switchOver_eq n joined lost ready, Hub.tandemEvent_pair, ← Hub.handedOver_pair]
  split
  · exact Hub.leave3All_pair _
  · rfl

end

end Sys2Proof.Machine

end

section
/-! SUPPORT. What the two Chimney ports see and are judged by, and the entry that a leave makes in queue 483 (R268 to R271, R286). -/

namespace Sys2Proof.Machine

/-! ### The judgement of a port -/

/-- The partner a port sees is matched and no other one. -/
def Hub.goodPartner (h : Hub) (ch : Fin 2) (s : PortSight) : Bool := s.partner.any fun i => h.matched i && !h.otherPartner ch i

theorem Hub.goodPartner_false (h : Hub) (ch : Fin 2) (s : PortSight) :
    (s.partner.all fun i => !h.matched i || h.otherPartner ch i) = true ↔ h.goodPartner ch s = false := by
  unfold Hub.goodPartner
  cases s.partner with
  | none => simp
  | some i => simp [Option.all, Option.any, imp_iff_not_or]

/-- The cases that judge a port (R268 to R271). -/
theorem Hub.judgePort_eq (h : Hub) (ch : Fin 2) (s : PortSight) : h.judgePort ch s =
    if h.udecl.role = .none ∨ h.ustby = true ∨ LaneState.dark ∈ s.lanes.toList then .down
    else if LaneState.light ∈ s.lanes.toList then .seek
    else if h.goodPartner ch s = false then .mismatch
    else if ∀ k ∈ s.lanes.toList, laneUp h.udecl.dch[ch.val] k = true then .up else .seek := by
  simp only [Hub.judgePort, List.contains_iff_mem, Hub.goodPartner_false, List.all_eq_true]

/-! ### A port that sees something else -/

/-- What a port hears and sees leaves the active port and what the other port sees. -/
theorem Chimney.sees_only (c : Chimney) (ch : Fin 2) (clk : Nat) (s : PortSight) :
    (c.sees ch clk s).sights = (upd c.sights ch fun _ => s) ∧ (c.sees ch clk s).active = c.active := by
  unfold Chimney.sees Chimney.hear; dsimp only
  (repeat' split) <;> exact ⟨rfl, rfl⟩

/-! ### An entry of queue 483 -/

theorem Queue.push_room {t : Queue} (room : t.q.length < Config.queueDepth) (e : QEntry) : (t.push e).q = t.q ++ [e] := by
  rw [Queue.push, if_pos room]

/-- A scheduled action changes the Chimney in its outgoing queues alone; a leader's stands in queue 483 where there is room for it (R279).
-/
theorem Hub.laneAction_chim (h : Hub) (type : Byte) : ∃ out, (h.laneAction type).chim = { h.chim with out := out } ∧
    (h.udecl.role = .leader → h.chim.out[3].q.length < 8 → out[3].q = h.chim.out[3].q ++ [⟨type, 0⟩]) := by
  unfold Hub.laneAction; split
  next leads =>
    obtain ⟨-, -, chim, -⟩ := h.chimneyPush_keeps .a 3 ⟨type, 0⟩
    exact ⟨_, chim, fun _ room => (congrArg Queue.q (upd_get_same h.chim.out (3 : Fin 16) _)).trans (Queue.push_room room _)⟩
  next other => exact ⟨h.chim.out, rfl, fun leads => absurd leads other⟩

end Sys2Proof.Machine

end

section
/-! THEOREM. The pair separates, its ports take their states, and a lost active port hands over. -/

open Sys2Proof Sys2Proof.Machine

theorem leaveCommand_orders (s : State) (q : PortId) (may : HostMayAll s.hub q) (leads : s.hub.chim.role = .leader)
    (settled : s.hub.chim.joinPend = false) :
    Completes (.leaveCommand q) s fun h =>
      h.chim.leavePend = true ∧ h.chim.role = .leader ∧ h.chim.opened = s.hub.chim.opened ∧
      (s.hub.udecl.role = .leader → s.hub.chim.out[3].q.length < 8 → h.chim.out[3].q = s.hub.chim.out[3].q ++ [⟨4, 0⟩]) := by
  obtain ⟨on, rights, own⟩ := may
  have accepted : s.hub.unitReason q false false (s.hub.chim.role != .leader || s.hub.chim.joinPend) = .none := by
    simp [Hub.unitReason, firstReason_none, rights, own, leads, settled]
  obtain ⟨out, chim, entry⟩ := Hub.laneAction_chim (s.hub.modChim fun c => { c with leavePend := true }) 4
  refine ⟨_, congrArg s.answer (Hub.judged_none on q _ 0x13 accepted _), ?_⟩
  dsimp only
  rw [chim]
  exact ⟨rfl, leads, rfl, entry⟩

theorem leaveEffect_separates (s : State) (on : s.hub.powered = true) :
    (s.hub.chim.leavePend = true ∨ s.hub.following = true →
      Completes .leaveEffect s fun h =>
        h.chim.role = .solo ∧ h.chim.leavePend = false ∧ h.chim.opened = false ∧ (∀ q : PortId, (h.port q).sent = []) ∧
        h.chim.loss = (s.hub.joined && !s.hub.chim.isUp 0 && !s.hub.chim.isUp 1)) ∧
    (s.hub.chim.leavePend = false → s.hub.following = false → Completes .leaveEffect s fun h => h = s.hub) := by
  constructor
  · intro due
    refine ⟨_, congrArg s.answer (if_pos ⟨on, due⟩), ?_⟩
    have alone := s.hub.separate_pair (s.hub.joined && !s.hub.chim.isUp 0 && !s.hub.chim.isUp 1)
    generalize s.hub.separate _ = h at alone ⊢
    exact ⟨congrArg PairPart.role alone, congrArg PairPart.leavePend alone, congrArg PairPart.opened alone,
      fun q => congrFun (congrArg PairPart.sent alone) q, congrArg PairPart.loss alone⟩
  · intro none alone
    exact ⟨_, congrArg s.answer (if_neg (by simp [none, alone])), rfl⟩

theorem chimneyLoss_separates (s : State) (on : s.hub.powered = true) :
    (s.hub.joined = true → s.hub.chim.isUp 0 = false → s.hub.chim.isUp 1 = false →
      Completes .chimneyLoss s fun h =>
        h.chim.role = .solo ∧ h.chim.opened = false ∧ h.chim.loss = true ∧
        ∀ p, s.hub.active p = true → (h.plane p).flt.src[51].live = true) ∧
    (s.hub.joined = false ∨ s.hub.chim.isUp 0 = true ∨ s.hub.chim.isUp 1 = true →
      Completes .chimneyLoss s fun h => h = s.hub) := by
  constructor
  · intro joined down down'
    refine ⟨_, congrArg s.answer (if_pos ⟨on, joined, down, down'⟩), ?_⟩
    have alone := s.hub.separate_pair true
    exact ⟨congrArg PairPart.role alone, congrArg PairPart.opened alone, congrArg PairPart.loss alone, fun p => s.hub.separate_live⟩
  · intro stands
    refine ⟨_, congrArg s.answer (if_neg ?_), rfl⟩
    rintro ⟨-, joined, down, down'⟩
    simp [joined, down, down'] at stands

theorem chimneyPortState_judges (s : State) (ch : Fin 2) (sight : PortSight) (on : s.hub.powered = true) :
    Completes (.chimneyPortState ch sight) s fun h =>
      h.chim.sights[ch.val] = sight ∧ h.chim.active = s.hub.chim.active ∧
      (∀ o : Fin 2, o ≠ ch → h.chim.sights[o.val] = s.hub.chim.sights[o.val]) ∧
      ∀ o : Fin 2,
        let see := h.chim.sights[o.val]
        let good := see.partner.any fun i => s.hub.matched i && !h.otherPartner o i
        h.chim.st[o.val] = (if s.hub.udecl.role = .none ∨ s.hub.ustby = true ∨ LaneState.dark ∈ see.lanes.toList then .down
          else if LaneState.light ∈ see.lanes.toList then .seek
          else if good = false then .mismatch
          else if ∀ k ∈ see.lanes.toList, laneUp s.hub.udecl.dch[o.val] k = true then .up else .seek) := by
  obtain ⟨sights, active⟩ := Chimney.sees_only s.hub.chim ch (s.hub.plane .a).time.clk sight
  obtain ⟨st, ex, bad, good, chim, judged⟩ := Hub.rejudgePorts_chim (s.hub.modChim fun c => c.sees ch (s.hub.plane .a).time.clk sight)
  refine ⟨_, congrArg s.answer (if_pos on), ?_⟩
  dsimp only
  unfold Hub.chimneySees Hub.otherPartner
  rw [chim]
  refine ⟨?_, active, fun o other => ?_, fun o => (judged o).trans (Hub.judgePort_eq ..)⟩
  · exact (congrArg (·[ch.val]) sights).trans (upd_get_same ..)
  · exact (congrArg (·[o.val]) sights).trans (upd_get_ne _ _ _ _ (Ne.symm other))

theorem chimneySwitchOver_handsOver (s : State) (n : Nat) (on : s.hub.powered = true) :
    (s.hub.joined = true → s.hub.chim.isUp s.hub.chim.active = false → s.hub.chim.isUp (1 - s.hub.chim.active) = true →
      Completes (.chimneySwitchOver n) s fun h =>
        h.chim.active = 1 - s.hub.chim.active ∧ h.chim.role = s.hub.chim.role ∧ h.chim.opened = s.hub.chim.opened ∧
        h.chim.outSent = Vector.replicate 3 0 ∧ h.ucnt[18].count = s.hub.ucnt[18].count + 1) ∧
    (s.hub.joined = false ∨ s.hub.chim.isUp s.hub.chim.active = true ∨ s.hub.chim.isUp (1 - s.hub.chim.active) = false →
      Completes (.chimneySwitchOver n) s fun h => h = s.hub) := by
  constructor
  · intro joined lost ready
    refine ⟨_, congrArg s.answer (if_pos on), ?_⟩
    have handed := s.hub.switchOver_pair n joined lost ready
    generalize s.hub.switchOver n = h at handed ⊢
    exact ⟨congrArg PairPart.port handed, congrArg PairPart.role handed, congrArg PairPart.opened handed,
      congrArg PairPart.outSent handed, congrArg PairPart.switches handed⟩
  · intro stands
    refine ⟨_, congrArg s.answer ((if_pos on).trans (if_neg ?_)), rfl⟩
    rintro ⟨joined, lost, ready⟩
    simp [joined, lost, ready] at stands

/-- Settles O47: a separation and a switch-over set the unit's part in its pair, which all else that they do keeps; and both ports are
judged by what they see. -/
theorem chimneySeparatesAndSwitchesOver : Obligations.ChimneySeparatesAndSwitchesOver :=
  ⟨⟨leaveCommand_orders, leaveEffect_separates, chimneyLoss_separates⟩, chimneyPortState_judges, chimneySwitchOver_handsOver⟩

end

section
/-! SUPPORT. What a read finds in a list of cells: the byte of the cell at the address, in a rising list the only one there. -/

namespace Sys2Proof.Machine

theorem Memory.read_nil (a : Nat) : ({ cells := [] } : Memory).read a = Memory.erased := rfl

theorem Memory.read_cons (x : Nat) (v : Byte) (l : List Host.Cell) (a : Nat) :
    ({ cells := (x, v) :: l } : Memory).read a = if x = a then v else ({ cells := l } : Memory).read a := by
  by_cases e : x = a <;> simp [Memory.read, e]

/-- An address that no cell has reads erased. -/
theorem Memory.read_absent {l : List Host.Cell} {a : Nat} (h : ∀ c ∈ l, c.1 ≠ a) : ({ cells := l } : Memory).read a = Memory.erased := by
  have none : l.find? (fun c => c.1 == a) = none := by simpa using h
  simp [Memory.read, none]

/-- A cell put into a rising list is what a read of its address finds, and no other read changes. -/
theorem Memory.read_putCell (a : Nat) (b : Byte) {l : List Host.Cell} (s : l.Pairwise fun x y => x.1 < y.1) (c : Nat) :
    ({ cells := putCell a b l } : Memory).read c = if a = c then b else ({ cells := l } : Memory).read c := by
  induction l with
  | nil =>
    unfold putCell; split
    · rename_i e
      simp [Memory.read_nil, e]
    · simp [Memory.read_cons]
  | cons d rest ih =>
    obtain ⟨x, v⟩ := d
    obtain ⟨above, sorted⟩ := List.pairwise_cons.1 s
    unfold putCell; split
    · rename_i before
      rw [Memory.read_cons, Memory.read_cons, ih sorted]
      by_cases k : x = c
      · rw [if_pos k, if_pos k, if_neg (by omega)]
      · rw [if_neg k, if_neg k]
    · split
      · rename_i here
        have gone : ({ cells := rest } : Memory).read a = Memory.erased :=
          Memory.read_absent fun c hc => by have := above c hc; dsimp only at this; omega
        subst here
        split
        · rename_i e
          rw [Memory.read_cons, e]
          split
          · rename_i k; rw [← k]; exact gone
          · rfl
        · rw [Memory.read_cons, Memory.read_cons]; split <;> rfl
      · have gone : ({ cells := (x, v) :: rest } : Memory).read a = Memory.erased :=
          Memory.read_absent fun c hc => by
            rcases List.mem_cons.1 hc with rfl | hc
            · assumption
            · have := above c hc; dsimp only at this; omega
        split
        · rename_i e
          split
          · rename_i k; rw [← k, e]; exact gone
          · rfl
        · rw [Memory.read_cons]

/-- A read finds each cell of a rising list by its address. -/
theorem Memory.read_mem {l : List Host.Cell} (s : l.Pairwise fun x y => x.1 < y.1) {c : Host.Cell} (h : c ∈ l) :
    ({ cells := l } : Memory).read c.1 = c.2 := by
  induction l with
  | nil => cases h
  | cons d rest ih =>
    obtain ⟨x, v⟩ := d
    obtain ⟨above, sorted⟩ := List.pairwise_cons.1 s
    rcases List.mem_cons.1 h with rfl | h
    · simp [Memory.read_cons]
    · rw [Memory.read_cons, if_neg (above c h).ne, ih sorted h]

/-- The cells of a memory in canonical form are what reads find that is not erased. -/
theorem Memory.mem_cells_iff {m : Memory} (h : m.wf = true) (c : Host.Cell) : c ∈ m.cells ↔ m.read c.1 = c.2 ∧ c.2 ≠ Memory.erased := by
  obtain ⟨sorted, kept⟩ := (Memory.wf_iff m).1 h
  refine ⟨fun hc => ⟨Memory.read_mem sorted hc, kept c hc⟩, fun ⟨found, held⟩ => ?_⟩
  unfold Memory.read at found
  split at found
  · rename_i d e
    have address : d.1 = c.1 := by simpa using List.find?_some e
    rw [← Prod.ext address found]
    exact List.mem_of_find?_eq_some e
  · exact absurd found.symm held

/-- Memories in canonical form that read alike are equal: their cells are the same, and both lists rise. -/
theorem Memory.ext_read {m n : Memory} (hm : m.wf = true) (hn : n.wf = true) (same : ∀ a, m.read a = n.read a) : m = n := by
  have cells : m.cells = n.cells :=
    have : Std.Irrefl fun x y : Host.Cell => x.1 < y.1 := ⟨fun x => lt_irrefl x.1⟩
    have : Std.Antisymm fun x y : Host.Cell => x.1 < y.1 := ⟨fun _ _ a b => absurd (a.trans b) (lt_irrefl _)⟩
    ((Memory.wf_iff m).1 hm).1.eq_of_mem_iff ((Memory.wf_iff n).1 hn).1 fun c => by
      rw [Memory.mem_cells_iff hm, Memory.mem_cells_iff hn, same]
  cases m; cases n; exact congrArg Memory.mk cells

end Sys2Proof.Machine
end

section
/-! THEOREM. What a memory holds. -/

open Sys2Proof Sys2Proof.Machine

/-- Settles O4: a write puts its cell in the one place that its address has in the rising list, and a read finds each cell of a canonical
memory by its address, so the reads give back the list. -/
theorem memoryHoldsWhatWasWritten : Obligations.MemoryHoldsWhatWasWritten := by
  refine ⟨fun m a b fit => ?_, fun m n fm fn same => Memory.ext_read fm fn same⟩
  have found := fun c => Memory.read_putCell a b ((Memory.wf_iff m).1 fit).1 c
  exact ⟨(found a).trans (if_pos rfl), fun c ne => (found c).trans (if_neg (Ne.symm ne))⟩

end

section
/-! SUPPORT. What each operation of the hub leaves in the page RAM and in the configuration flash, and that the few that write there keep
them in canonical form. -/

namespace Sys2Proof.Machine

/-- What stands in the page RAM and in the configuration flash has the property P. -/
@[reducible] def Hub.Stores (P : Memory → Cfg → Prop) (h : Hub) : Prop := P h.nv.ram h.cfg

/-! ### Operations that leave the stores alone

Whatever P says of the two holds after the operation, so an equation about one of them follows with P the equation. -/

section
variable {P : Memory → Cfg → Prop} {h g : Hub} {p : PlaneId} {q : PortId} {c : Prop} {d : Decidable c} {b : Bool} {n k : Nat}

theorem Hub.Stores.ite (hh : h.Stores P) (hg : g.Stores P) : (if c then h else g).Stores P := by
  split
  · exact hh
  · exact hg

theorem Hub.Stores.when (hh : h.Stores P) (hg : h.Stores P → g.Stores P) : (if c then g else h).Stores P := (hg hh).ite hh
theorem Hub.Stores.unless (hh : h.Stores P) (hg : h.Stores P → g.Stores P) : (if c then h else g).Stores P := hh.ite (hg hh)
theorem Hub.Stores.andThen (fit : h.Stores P) (hg : h.Stores P → g.Stores P) : g.Stores P := hg fit

theorem Hub.Stores.foldl {α : Type} {f : Hub → α → Hub} {l : List α} (fit : h.Stores P)
    (hf : ∀ (k : Hub) (a : α), k.Stores P → (f k a).Stores P) : (l.foldl f h).Stores P :=
  List.foldlRecOn (motive := Hub.Stores P) l f fit fun k hk a _ => hf k a hk

/-! An update of anything else is seen through; the shared ones are named, which keeps the terms below short to check. -/

theorem Hub.Stores.setPlane {x : Plane} (fit : h.Stores P) : (h.setPlane p x).Stores P := fit
theorem Hub.Stores.modPlane {f : Plane → Plane} (fit : h.Stores P) : (h.modPlane p f).Stores P := fit
theorem Hub.Stores.allPlanes {f : PlaneId → Plane → Plane} (fit : h.Stores P) : (h.allPlanes f).Stores P := fit
theorem Hub.Stores.modPort {f : Port → Port} (fit : h.Stores P) : (h.modPort q f).Stores P := fit
theorem Hub.Stores.allPorts {f : Port → Port} (fit : h.Stores P) : (h.allPorts f).Stores P := fit
theorem Hub.Stores.modChim {f : Chimney → Chimney} (fit : h.Stores P) : (h.modChim f).Stores P := fit
theorem Hub.Stores.modUSrc {u : Fin 32} {f : Src → Src} (fit : h.Stores P) : (h.modUSrc u f).Stores P := fit
theorem Hub.Stores.ucountN {u : Fin 32} (fit : h.Stores P) : (h.ucountN u n).Stores P := fit
theorem Hub.Stores.ucount {u : Fin 32} (fit : h.Stores P) : (h.ucount u).Stores P := fit
theorem Hub.Stores.ucause (fit : h.Stores P) : (h.ucause n).Stores P := fit
theorem Hub.Stores.setFans (fit : h.Stores P) : h.setFans.Stores P := fit
theorem Hub.Stores.judgeOutliers (fit : h.Stores P) : h.judgeOutliers.Stores P := fit
theorem Hub.Stores.withUsrc {v : Vector Src 32} (fit : h.Stores P) : ({ h with usrc := v } : Hub).Stores P := fit
theorem Hub.Stores.withSnap {v : Snapshot} (fit : h.Stores P) : ({ h with snap := v } : Hub).Stores P := fit
theorem Hub.Stores.withUpstate {u : UpState} (fit : h.Stores P) : ({ h with upstate := u } : Hub).Stores P := fit
theorem Hub.Stores.withAuth {x : Auth} (fit : h.Stores P) : ({ h with auth := x } : Hub).Stores P := fit
theorem Hub.Stores.withConv {x : Bool} (fit : h.Stores P) : ({ h with conv := x } : Hub).Stores P := fit
theorem Hub.Stores.withUstby {b : Bool} (fit : h.Stores P) : ({ h with ustby := b } : Hub).Stores P := fit
theorem Hub.Stores.withUcommits {l : List HeldWrite} (fit : h.Stores P) : ({ h with ucommits := l } : Hub).Stores P := fit

theorem Hub.Stores.onlyPlane (fit : h.Stores P) (o : OnlyPlane p h g) : g.Stores P := by rw [o.1]; exact fit

theorem Hub.Stores.onPlane {f : Plane → Plane} (fit : h.Stores P) : (h.onPlane p f).Stores P := fit.onlyPlane (OnlyPlane.onPlane p h f)
theorem Hub.Stores.onPlaneFree {f : Int → Plane → Plane} (fit : h.Stores P) : (h.onPlaneFree p f).Stores P :=
  Hub.Stores.onPlane (h := h.fresh.2) fit
theorem Hub.Stores.event {f : Plane → Plane} (fit : h.Stores P) : (h.event p f).Stores P := fit.onlyPlane (OnlyPlane.event p h f)
theorem Hub.Stores.eventFree {f : Int → Plane → Plane} (fit : h.Stores P) : (h.eventFree p f).Stores P :=
  fit.onlyPlane (OnlyPlane.eventFree p h f)
theorem Hub.Stores.leaveZero (fit : h.Stores P) : (h.leaveZero p).Stores P := fit.onlyPlane (OnlyPlane.leaveZero p h)
theorem Hub.Stores.toCycle {c : Fin 40} (fit : h.Stores P) : (h.toCycle p c).Stores P := fit.onlyPlane (OnlyPlane.toCycle p h c)
theorem Hub.Stores.eventAt {c : Fin 40} {f : Plane → Plane} (fit : h.Stores P) : (h.eventAt p c f).Stores P :=
  fit.onlyPlane (OnlyPlane.eventAt p h c f)

theorem Hub.Stores.judged {a : BitVec 7} {r : BitVec 5} {why : Reason} {f : Hub → Hub} (fit : h.Stores P) (hf : (f h).Stores P) :
    (h.judged q a r why f).Stores P := by
  obtain ⟨-, -, j⟩ | ⟨-, -, j⟩ | ⟨-, j⟩ := Hub.judged_cases h q a r why f
  · rw [j]; exact hf
  · rw [j]; exact fit
  · rw [j]; exact fit

theorem Hub.Stores.hostWrite {r : BitVec 5} {x y z : Bool} {f : Hub → Hub} (fit : h.Stores P) (hf : (f h).Stores P) :
    (h.hostWrite q p r x y z f).Stores P :=
  fit.judged hf

theorem Hub.Stores.unitWrite {r : BitVec 5} {why : Reason} {f : Hub → Hub} (fit : h.Stores P) (hf : (f h).Stores P) :
    (h.unitWrite q r why f).Stores P :=
  fit.judged hf

theorem Hub.Stores.ifActive {f : Hub → Hub} (fit : h.Stores P) (hf : (f h).Stores P) : (h.ifActive p f).Stores P := hf.ite fit

/-! The log, and the sources and causes of the unit. -/

theorem Hub.Stores.cause (fit : h.Stores P) : (h.cause p n).Stores P := Hub.Stores.ite (Hub.Stores.ite fit fit) fit

theorem Hub.Stores.setUDet {u : Fin 32} (fit : h.Stores P) : (h.setUDet u b).Stores P := by
  obtain ⟨_, _, _, e⟩ := Hub.setUDet_only h u b
  rw [e]; exact fit

theorem Hub.Stores.handFire (fit : h.Stores P) : (h.handFire n).Stores P := by
  obtain ⟨_, e⟩ := Hub.handFire_only h n
  rw [e]; exact fit

theorem Hub.Stores.fireUEvent {u : Fin 32} (fit : h.Stores P) : (h.fireUEvent u).Stores P := fit.setUDet

theorem Hub.Stores.writeEntry {r : LogRec} (fit : h.Stores P) : (h.writeEntry r).Stores P := by
  obtain ⟨_, _, _, _, e, -⟩ := Hub.writeEntry_only h r
  rw [e]; exact fit

theorem Hub.Stores.ulog {type portn : Byte} {data : Vector Word 4} (fit : h.Stores P) : (h.ulog type portn data).Stores P := by
  obtain ⟨_, _, _, _, e, -⟩ := Hub.ulog_only h type portn data
  rw [e]; exact fit

theorem Hub.Stores.writeWaiting (fit : h.Stores P) : (Hub.writeWaiting n h).Stores P := by
  induction n generalizing h with
  | zero => exact fit
  | succ n ih =>
    unfold Hub.writeWaiting; split
    · exact fit
    · exact Hub.Stores.ite fit (ih (Hub.Stores.writeEntry fit))

/-! Signals of the fabric. -/

theorem Hub.Stores.chimneyPort {s : Signal} {o : Fin 8} (fit : h.Stores P) : (h.chimneyPort p s o).Stores P := by
  simp only [Hub.chimneyPort, Bool.cond_eq_ite]
  exact Hub.Stores.ite (Hub.Stores.ite fit fit) fit

theorem Hub.Stores.emit {s : Signal} (fit : h.Stores P) : (h.emit p s).Stores P := fit.onPlane.foldl fun _ _ t => t.chimneyPort

theorem Hub.Stores.emitOpt {s : Option Signal} (fit : h.Stores P) : (h.emitOpt p s).Stores P := by
  cases s with
  | none => exact fit
  | some s => exact fit.emit

theorem Hub.Stores.releaseHeld (fit : h.Stores P) : (h.releaseHeld p).Stores P := by
  simp only [Hub.releaseHeld]; split
  · exact fit
  · exact Hub.Stores.ite (Hub.Stores.emit fit) fit

theorem Hub.Stores.prescale {u : Fin 32} (fit : h.Stores P) : (h.prescale p u n).Stores P := by
  unfold Hub.prescale; split
  · exact fit
  · refine Hub.Stores.foldl fit fun k s t => ?_
    simp only [Hub.prescalePulse, Bool.cond_eq_ite]
    exact Hub.Stores.ite (Hub.Stores.emit t) t

theorem Hub.Stores.releaseCrossed {o : Fin 8} {ref tau age : Nat} (fit : h.Stores P) : (h.releaseCrossed p o ref tau age b).Stores P :=
  Hub.Stores.ite fit.toCycle.emit fit

/-! Faults. -/

theorem Hub.Stores.settleMove (fit : h.Stores P) : (h.settleMove p).Stores P := Hub.Stores.ite fit fit
theorem Hub.Stores.reforce (fit : h.Stores P) : (h.reforce p).Stores P := Hub.Stores.ite fit.onPlaneFree fit.onPlane
theorem Hub.Stores.takeForce {u : Fin 32} (fit : h.Stores P) : (h.takeForce p u b).Stores P := Hub.Stores.reforce fit

theorem Hub.Stores.handForce {u : Fin 32} (fit : h.Stores P) : (h.handForce u b).Stores P :=
  Hub.Stores.foldl fit fun _ _ t => Hub.Stores.ite t (Hub.Stores.ite t t)

theorem Hub.Stores.handChanged {before : BitVec 32} (fit : h.Stores P) : (h.handChanged before).Stores P :=
  Hub.Stores.foldl fit fun _ _ t => Hub.Stores.ite t t.handForce

theorem Hub.Stores.noteUnit (fit : h.Stores P) : (h.noteUnit n).Stores P := by
  simp only [Hub.noteUnit]; (repeat' split) <;> exact fit

theorem Hub.Stores.unitReact (fit : h.Stores P) : (h.unitReact p n).Stores P := by
  simp only [Hub.unitReact]; exact Hub.Stores.ite fit.modPlane fit

theorem Hub.Stores.react (fit : h.Stores P) : (h.react p).Stores P := by
  simp only [Hub.react]
  refine Hub.Stores.when (Hub.Stores.foldl (Hub.Stores.foldl (Hub.Stores.onPlane ?_) fun _ _ t => t.noteUnit)
    fun _ _ t => t.unitReact) fun t => t.reforce
  split
  · exact fit.modPlane.modPlane
  · exact fit.modPlane.modPlane.onPlaneFree

theorem Hub.Stores.clearPlaneSticky {s : Fin 64} (fit : h.Stores P) : (h.clearPlaneSticky p s).Stores P :=
  Hub.Stores.unless (Hub.Stores.when fit.onPlane fun t => t) fun t => t.reforce

theorem Hub.Stores.clearUnitSticky {u : Fin 32} (fit : h.Stores P) : (h.clearUnitSticky u).Stores P := by
  have restarted : ∀ g : Hub, g.Stores P → (g.restartUnitDetector u).Stores P := fun g t =>
    Hub.Stores.ite t <| Hub.Stores.ite t <| Hub.Stores.ite t <| Hub.Stores.ite t <| Hub.Stores.ite t <| Hub.Stores.ite t <|
      Hub.Stores.ite t t
  exact Hub.Stores.when (restarted _ fit) fun t => t.handForce

theorem Hub.Stores.setSev {s : Fin 64} {sev : Severity} (fit : h.Stores P) : (h.setSev p s sev).Stores P :=
  Hub.Stores.unless (Hub.Stores.when fit fun t => Hub.Stores.onPlane (Hub.Stores.when t fun t => t.onPlaneFree)) fun t => t.reforce

theorem Hub.Stores.setUSev {u : Fin 32} {sev : Severity} (fit : h.Stores P) : (h.setUSev u sev).Stores P :=
  Hub.Stores.andThen (Hub.Stores.when (Hub.Stores.when fit.modUSrc fun t => t.ucause) fun t => t.handForce)
    fun t => Hub.Stores.ite t.modUSrc.handFire (Hub.Stores.ite t.modUSrc.handFire t)

theorem Hub.Stores.pairEvent {src : Fin 224} (fit : h.Stores P) : (h.pairEvent src b).Stores P :=
  Hub.Stores.ite fit <| Hub.Stores.ite fit.event <| Hub.Stores.ite (Hub.Stores.setFans fit.modUSrc.setUDet.setUDet) fit

theorem Hub.Stores.unitParity {r : Fin 8} (fit : h.Stores P) : (h.unitParity r).Stores P :=
  Hub.Stores.handChanged (Hub.Stores.fireUEvent fit.withUsrc)

theorem Hub.Stores.clearHusk (fit : h.Stores P) : (h.clearHusk p).Stores P := Hub.Stores.unless fit.onPlane fun t => t

/-! Snapshots and lane 3. -/

theorem Hub.Stores.chimneyOverflow (fit : h.Stores P) : h.chimneyOverflow.Stores P := Hub.Stores.foldl fit fun _ _ t => t.event
theorem Hub.Stores.chimneyPush {i : Fin 16} {e : QEntry} (fit : h.Stores P) : (h.chimneyPush i e).Stores P :=
  Hub.Stores.ite (Hub.Stores.chimneyOverflow fit) fit
theorem Hub.Stores.laneAction {type : Byte} (fit : h.Stores P) : (h.laneAction type).Stores P := Hub.Stores.ite fit.chimneyPush fit

theorem Hub.Stores.requestSince (fit : h.Stores P) : (h.requestSince b n).Stores P :=
  Hub.Stores.ite fit (Hub.Stores.ite (Hub.Stores.laneAction fit) (Hub.Stores.foldl fit fun _ _ t => Hub.Stores.ite t t))

theorem Hub.Stores.clearOvf (fit : h.Stores P) : h.clearOvf.Stores P := by
  simp only [Hub.Stores, Hub.clearOvf]; exact fit
theorem Hub.Stores.latchDigest (fit : h.Stores P) : h.latchDigest.Stores P := Hub.Stores.ite fit fit

theorem Hub.Stores.finishSnapshot (fit : h.Stores P) : h.finishSnapshot.Stores P := by
  simp only [Hub.finishSnapshot]; split
  · exact fit
  · refine Hub.Stores.ite fit (Hub.Stores.ucause (Hub.Stores.latchDigest ?_))
    exact Hub.Stores.when (Hub.Stores.withSnap (Hub.Stores.foldl fit fun _ _ t => Hub.Stores.ite t t)) fun t => t.clearOvf

theorem Hub.Stores.captureWith {sec low : Word} {here : PlaneId → Bool} (fit : h.Stores P) : (h.captureWith sec low here).Stores P :=
  Hub.Stores.finishSnapshot (Hub.Stores.foldl fit fun _ _ t => Hub.Stores.ite t t)

theorem Hub.Stores.takeSnapshot (fit : h.Stores P) : h.takeSnapshot.Stores P := by
  unfold Hub.takeSnapshot; split
  · exact fit
  · exact Hub.Stores.ite fit.captureWith fit

/-! Boundaries of a plane, and the housekeeping tick. -/

theorem Hub.Stores.endFrame (fit : h.Stores P) : (h.endFrame p).Stores P := Hub.Stores.ite (Hub.Stores.finishSnapshot fit) fit
theorem Hub.Stores.drainLane3 (fit : h.Stores P) : (h.drainLane3 p).Stores P := Hub.Stores.ite fit fit

theorem Hub.Stores.closeFrame (fit : h.Stores P) : (h.closeFrame p).Stores P :=
  Hub.Stores.modPlane (Hub.Stores.drainLane3 fit.leaveZero.modPlane.endFrame)

theorem Hub.Stores.checkCounters (fit : h.Stores P) : (h.checkCounters p).Stores P := fit

theorem Hub.Stores.openFrame {judge : Plane → Plane} (fit : h.Stores P) : (h.openFrame p judge).Stores P :=
  Hub.Stores.modPlane (Hub.Stores.checkCounters fit.modPlane.onPlaneFree)

theorem Hub.Stores.ppsStep {m : Option PpsMeas} (fit : h.Stores P) : (h.ppsStep p m).Stores P :=
  Hub.Stores.openFrame fit.closeFrame.modPlane.onPlaneFree

theorem Hub.Stores.frameStep (fit : h.Stores P) : (h.frameStep p).Stores P :=
  Hub.Stores.ite fit.closeFrame.modPlane.openFrame fit.ppsStep

theorem Hub.Stores.takeMirror {m : Option PartnerBank} (fit : h.Stores P) : (h.takeMirror p m).Stores P := by
  unfold Hub.takeMirror; split
  · exact fit
  · exact Hub.Stores.ite (Hub.Stores.ite fit fit) fit

theorem Hub.Stores.chimneyReading {ch : Fin 2} {r : Option Int} (fit : h.Stores P) : (h.chimneyReading ch r).Stores P := by
  unfold Hub.chimneyReading; split
  · exact fit
  · exact Hub.Stores.ite (Hub.Stores.ite fit fit) fit

theorem Hub.Stores.msBoundary {m : MsMeas} (fit : h.Stores P) : (h.msBoundary p m).Stores P := by
  have measured : (h.onPlane p fun x => x.msStep m).Stores P := fit.onPlane
  simp only [Hub.msBoundary]; split
  · exact Hub.Stores.chimneyReading (Hub.Stores.chimneyReading measured)
  · exact measured

theorem Hub.Stores.ageEvents (fit : h.Stores P) : h.ageEvents.Stores P :=
  Hub.Stores.foldl fit fun _ _ t => Hub.Stores.ite t (Hub.Stores.ite t.modUSrc.setUDet t.modUSrc)

theorem Hub.Stores.sampleUnit (fit : h.Stores P) : h.sampleUnit.Stores P := by
  simp only [Hub.sampleUnit]
  exact Hub.Stores.setUDet (Hub.Stores.foldl (Hub.Stores.foldl fit.setUDet.setUDet fun _ _ t => t.setUDet) fun _ _ t => t.setUDet)

theorem Hub.Stores.carryCauses (fit : h.Stores P) : h.carryCauses.Stores P :=
  Hub.Stores.when fit.allPorts fun t => t.foldl fun _ _ t => Hub.Stores.ite t.chimneyPush t

theorem Hub.Stores.hkTick (fit : h.Stores P) : h.hkTick.Stores P := by
  have carried := fit.ageEvents.sampleUnit.carryCauses
  simp only [Hub.Stores, Hub.hkTick, Hub.allPorts]; exact carried

theorem Hub.Stores.takeRecord (fit : h.Stores P) : (h.takeRecord p).Stores P := by
  unfold Hub.takeRecord; split
  · exact fit
  · split
    · exact Hub.Stores.ite (Hub.Stores.chimneyPush fit) fit
    · exact Hub.Stores.ite fit (Hub.Stores.writeEntry fit)

theorem Hub.Stores.compare {i : Fin 3} {v : Int} (fit : h.Stores P) : (h.compare i v).Stores P :=
  Hub.Stores.ite fit (Hub.Stores.when (Hub.Stores.unless (c := _ = _) fit fun t => t.cause.cause) fun t => t)

theorem Hub.Stores.seeValue {v : Hand} (fit : h.Stores P) : (h.seeValue p v).Stores P := by cases v <;> exact fit

/-! The environment. -/

theorem Hub.Stores.judgeFeed {i : Fin 2} {mean : Int} (fit : h.Stores P) : (h.judgeFeed i mean).Stores P :=
  Hub.Stores.when (Hub.Stores.setUDet (Hub.Stores.setUDet (Hub.Stores.setUDet (Hub.Stores.setUDet fit)))) fun t => t.ulog

theorem Hub.Stores.checkFan {fan : Fin 4} (fit : h.Stores P) : (h.checkFan fan b n).Stores P := Hub.Stores.setUDet fit

theorem Hub.Stores.sampleEnv {m : EnvMeas} (fit : h.Stores P) : (h.sampleEnv m).Stores P :=
  Hub.Stores.foldl (Hub.Stores.setUDet (Hub.Stores.setUDet (Hub.Stores.setUDet fit))) fun _ _ t => Hub.Stores.event t

/-! The grid. -/

theorem Hub.Stores.moveCount {f : Plane → Plane} (fit : h.Stores P) : (h.moveCount p f).Stores P := by
  have ended : ((h.modPlane p Plane.evalDamper).endFrame p).Stores P := Hub.Stores.endFrame fit
  simp only [Hub.moveCount]; split
  · exact fit.onPlane
  · exact Hub.Stores.openFrame (Hub.Stores.onPlane ended)

theorem Hub.Stores.realignTo {sec : Word} (fit : h.Stores P) : (h.realignTo p sec).Stores P :=
  Hub.Stores.ite fit.moveCount (Hub.Stores.ite fit.onPlane fit.moveCount)

theorem Hub.Stores.realign (fit : h.Stores P) : (h.realign p).Stores P := by
  simp only [Hub.realign]; split
  · split
    · exact fit
    · exact fit.realignTo
  · exact fit.realignTo

theorem Hub.Stores.announceRealign (fit : g.Stores P) : (h.announceRealign p g).Stores P := Hub.Stores.ite fit.laneAction fit

/-! Ownership, and the transactions that it ends. -/

theorem Hub.Stores.causeIn (fit : h.Stores P) : (h.causeIn q p n).Stores P := Hub.Stores.ite (Hub.Stores.ite fit fit) fit

theorem Hub.Stores.endOwner (fit : h.Stores P) : (h.endOwner p n).Stores P := by
  unfold Hub.endOwner; split
  · exact fit
  · exact Hub.Stores.foldl fit fun _ _ t => Hub.Stores.ite t t.causeIn

theorem Hub.Stores.release (fit : h.Stores P) : (h.release q p).Stores P := Hub.Stores.ite fit.endOwner fit
theorem Hub.Stores.causeAt {o : Fin 8} (fit : h.Stores P) : (h.causeAt q o n).Stores P := Hub.Stores.ite fit.causeIn fit
theorem Hub.Stores.schedLost {s : Sched} (fit : h.Stores P) : (h.schedLost q p s).Stores P := Hub.Stores.causeAt fit

theorem Hub.Stores.discardScheds (fit : h.Stores P) : (h.discardScheds p).Stores P :=
  Hub.Stores.foldl fit fun _ _ t => Hub.Stores.foldl t fun _ _ u => u.schedLost

theorem Hub.Stores.discardFarScheds (fit : h.Stores P) : h.discardFarScheds.Stores P :=
  Hub.Stores.foldl fit fun _ _ t => Hub.Stores.foldl t fun _ _ u => u.schedLost

/-! The pair. -/

theorem Hub.Stores.tandemEvent (fit : h.Stores P) : (h.tandemEvent n).Stores P :=
  Hub.Stores.unless fit.ulog fun t => t.foldl fun _ _ u => u.cause

theorem Hub.Stores.modeAll {m : PlaneId → LoopMode} {r : PlaneId → Fin 4} {f : PlaneId → Int → Plane → Plane} (fit : h.Stores P) :
    (h.modeAll b m r f).Stores P :=
  Hub.Stores.foldl fit fun _ _ t => Hub.Stores.ite t.onPlaneFree t

theorem Hub.Stores.chimneyState {ch : Fin 2} {st : ChState} (fit : h.Stores P) : (h.chimneyState ch st).Stores P :=
  Hub.Stores.when fit.modChim fun t => t.ucount

theorem Hub.Stores.rejudgePorts (fit : h.Stores P) : h.rejudgePorts.Stores P := fit.chimneyState.chimneyState
theorem Hub.Stores.chimneySees {ch : Fin 2} {s : PortSight} (fit : h.Stores P) : (h.chimneySees ch s).Stores P := fit.modChim.rejudgePorts

theorem Hub.Stores.joinCmd {a : BitVec 7} {r : PartnerReady} (fit : h.Stores P) : (h.joinCmd q a r).Stores P := by
  simp only [Hub.joinCmd]; split
  · exact fit.tandemEvent.judged fit.tandemEvent.modChim.rejudgePorts
  · exact fit.judged fit.modChim.rejudgePorts

theorem Hub.Stores.announce (fit : h.Stores P) : h.announce.Stores P :=
  Hub.Stores.ite (Hub.Stores.ite fit.modChim.laneAction fit) (Hub.Stores.ite fit.modChim.rejudgePorts.modeAll fit)

theorem Hub.Stores.completeJoin {secs : Tri Word} (fit : h.Stores P) : (h.completeJoin secs).Stores P := by
  simp only [Hub.completeJoin]
  exact Hub.Stores.tandemEvent (Hub.Stores.rejudgePorts (Hub.Stores.modChim
    (Hub.Stores.when fit fun t => t.foldl fun _ _ u => u.realignTo)))

theorem Hub.Stores.abandonJoin (fit : h.Stores P) : h.abandonJoin.Stores P :=
  Hub.Stores.ite (Hub.Stores.tandemEvent (Hub.Stores.when fit.modChim fun t => t.modeAll)) fit

theorem Hub.Stores.loneSnapshot (fit : h.Stores P) : h.loneSnapshot.Stores P := Hub.Stores.ite fit fit.finishSnapshot

theorem Hub.Stores.separate (fit : h.Stores P) : (h.separate b).Stores P :=
  Hub.Stores.tandemEvent (Hub.Stores.when (Hub.Stores.when (Hub.Stores.loneSnapshot (Hub.Stores.discardFarScheds
    fit.modChim.rejudgePorts.ucountN.allPlanes.allPorts.withUcommits)) fun t => t.modeAll) fun t => t.foldl fun _ _ u => u.event)

theorem Hub.Stores.switchOver (fit : h.Stores P) : (h.switchOver n).Stores P :=
  Hub.Stores.ite (Hub.Stores.tandemEvent (Hub.Stores.when fit.modChim.rejudgePorts.ucount.ucountN
    fun t => t.foldl fun _ _ u => u.eventFree)) fit

theorem Hub.Stores.enterTunnel {o : Fin 8} {w : WriteKind} (fit : h.Stores P) : (h.enterTunnel q o w).Stores P :=
  Hub.Stores.unless fit.chimneyPush fun t => t.modChim.modPort

theorem Hub.Stores.leaveCmd {a : BitVec 7} (fit : h.Stores P) : (h.leaveCmd q a).Stores P := fit.judged fit.modChim.laneAction

/-! The start of a plane, and standby. -/

theorem Hub.Stores.firstBank (fit : h.Stores P) : (h.firstBank p).Stores P := fit
theorem Hub.Stores.lateUnit (fit : h.Stores P) : (h.lateUnit p).Stores P := fit
theorem Hub.Stores.restartComparators (fit : h.Stores P) : (h.restartComparators p).Stores P := fit

theorem Hub.Stores.startPlane (fit : h.Stores P) : (h.startPlane p).Stores P :=
  Hub.Stores.firstBank (Hub.Stores.modPlane (Hub.Stores.modPlane fit.onPlane.lateUnit.restartComparators))

theorem Hub.Stores.checkRun (fit : h.Stores P) : h.checkRun.Stores P := Hub.Stores.ite fit fit
theorem Hub.Stores.recordRecovery (fit : h.Stores P) : (h.recordRecovery q b).Stores P := fit.ulog

theorem Hub.Stores.openGate {f : Plane → Plane} (fit : h.Stores P) : (h.openGate p f).Stores P :=
  Hub.Stores.checkRun (Hub.Stores.when fit.modPlane fun t => t.onPlane)

theorem Hub.Stores.checkStandby (fit : h.Stores P) : h.checkStandby.Stores P := Hub.Stores.ite (Hub.Stores.ulog fit) fit

theorem Hub.Stores.reachStandby (fit : h.Stores P) : (h.reachStandby p).Stores P :=
  fit.onPlane.discardScheds.judgeOutliers.checkStandby

theorem Hub.Stores.standbyWithUnit (fit : h.Stores P) : (h.standbyWithUnit p).Stores P :=
  Hub.Stores.ite fit.onPlane (Hub.Stores.ite fit fit)

theorem Hub.Stores.leaveWithUnit (fit : h.Stores P) : (h.leaveWithUnit p).Stores P := Hub.Stores.ite fit fit

theorem Hub.Stores.handStandby (fit : h.Stores P) : (h.handStandby b p).Stores P :=
  Hub.Stores.ite fit (Hub.Stores.ite fit.standbyWithUnit fit.leaveWithUnit)

theorem Hub.Stores.unitEnter (fit : h.Stores P) : h.unitEnter.Stores P :=
  Hub.Stores.checkStandby (Hub.Stores.setFans (Hub.Stores.foldl (Hub.Stores.withUstby (Hub.Stores.modChim
    (Hub.Stores.when fit.allPorts fun t => t.separate))) fun _ _ t => t.handStandby))

theorem Hub.Stores.unitLeave (fit : h.Stores P) : h.unitLeave.Stores P :=
  Hub.Stores.ucause (Hub.Stores.ulog (Hub.Stores.setFans (Hub.Stores.foldl
    (Hub.Stores.rejudgePorts (Hub.Stores.allPorts fit)) fun _ _ t => t.handStandby)))

/-! Programming operations of the parameter store, up to their end. -/

theorem Hub.Stores.useStoreChecks (fit : h.Stores P) : (h.useStoreChecks n).Stores P := by
  unfold Hub.useStoreChecks; split <;> exact fit

theorem Hub.Stores.compact (fit : h.Stores P) : h.compact.Stores P := Hub.Stores.ucount (Hub.Stores.ucountN (Hub.Stores.useStoreChecks fit))
theorem Hub.Stores.makeRoom (fit : h.Stores P) : h.makeRoom.Stores P := Hub.Stores.ite fit fit.compact

theorem Hub.Stores.append {page : BitVec 16} {data : List Byte} (fit : h.Stores P) : (h.append page data b).Stores P :=
  Hub.Stores.andThen (Hub.Stores.ite (c := b = true) fit (g := h.fresh.2) fit) fun t => t

theorem Hub.Stores.startOp {op : NvOp} (fit : h.Stores P) : (h.startOp op).Stores P := fit.makeRoom

theorem Hub.Stores.startWaiting (fit : h.Stores P) : h.startWaiting.Stores P := by
  unfold Hub.startWaiting; split
  · exact Hub.Stores.startOp fit
  · exact fit

theorem Hub.Stores.nvRead {a : BitVec 7} {page : Fin 128} (fit : h.Stores P) : (h.nvRead q a page).Stores P :=
  fit.judged (Hub.Stores.ite (Hub.Stores.ite fit.useStoreChecks fit.ucount) fit.modPort)

theorem Hub.Stores.nvWrite {a : BitVec 7} {page : Fin 128} (fit : h.Stores P) : (h.nvWrite q a page).Stores P := fit.judged fit.startOp

theorem Hub.Stores.keyRefused (fit : h.Stores P) : h.keyRefused.Stores P := Hub.Stores.ite fit fit
theorem Hub.Stores.lockOut (fit : h.Stores P) : h.lockOut.Stores P := Hub.Stores.ulog (Hub.Stores.setUDet fit)

theorem Hub.Stores.passwordFails (fit : h.Stores P) : (h.passwordFails q b).Stores P :=
  Hub.Stores.when (Hub.Stores.ulog fit) fun t => t.lockOut

theorem Hub.Stores.nvKey {a : BitVec 7} (fit : h.Stores P) : (h.nvKey q a b).Stores P :=
  fit.keyRefused.judged (Hub.Stores.ite fit.keyRefused (Hub.Stores.passwordFails fit.keyRefused))

theorem Hub.Stores.nvPassword {a : BitVec 7} (fit : h.Stores P) : (h.nvPassword q a b).Stores P :=
  fit.keyRefused.judged fit.keyRefused.startOp.modPort

theorem Hub.Stores.hubPage {page : Fin 128} {x y z : Int} (fit : h.Stores P) : (h.hubPage page x y z).Stores P := by
  unfold Hub.hubPage; split
  · exact fit
  · exact Hub.Stores.ite fit (Hub.Stores.ite fit (Hub.Stores.startWaiting fit))

theorem Hub.Stores.losePower {x y : Bool} (fit : h.Stores P) : (h.losePower x y).Stores P := by
  cases e : h.nv.op with
  | none => simp only [Hub.losePower, e]; exact fit
  | some op =>
    simp only [Hub.losePower, Hub.Stores, e]
    (repeat' split) <;> exact fit.append

/-! Images, where they come into force. -/

theorem Hub.Stores.rejectImage {i : Fin 2} (fit : h.Stores P) : (h.rejectImage i n).Stores P := Hub.Stores.unless fit.ulog fun t => t
theorem Hub.Stores.imageCond {u : Fin 32} (fit : h.Stores P) : (h.imageCond u b).Stores P := Hub.Stores.setUDet fit
theorem Hub.Stores.acceptImage (fit : h.Stores P) : h.acceptImage.Stores P := fit.imageCond.imageCond
theorem Hub.Stores.takeUnit {f : ImageFile} (fit : h.Stores P) : (h.takeUnit f).Stores P := Hub.Stores.unless fit fun t => Hub.Stores.handChanged t
theorem Hub.Stores.logImage {type : Byte} {i : Fin 2} {f : ImageFile} (fit : h.Stores P) : (h.logImage type i f).Stores P := fit.ulog
theorem Hub.Stores.failRead {i : Fin 2} (fit : h.Stores P) : (h.failRead i n).Stores P := fit.rejectImage.imageCond

theorem Hub.Stores.orderLoad {i : Fin 2} {l : List PlaneId} (fit : h.Stores P) : (h.orderLoad q i l).Stores P :=
  Hub.Stores.foldl fit fun _ _ t => t

/-! Reads and writes of a transaction. -/

theorem Hub.Stores.noteRead {space : BitVec 4} {index : BitVec 20} (fit : h.Stores P) : (h.noteRead q space index).Stores P := by
  unfold Hub.noteRead; (repeat' split) <;> exact fit

theorem Hub.Stores.setThreshold {i : Item} {v : BitVec 3} (fit : h.Stores P) : (h.setThreshold i v).Stores P := by
  unfold Hub.setThreshold; split <;> exact fit

theorem Hub.Stores.bufferBlock {data : List Byte} (fit : h.Stores P) : (h.bufferBlock q n data).Stores P := by
  unfold Hub.bufferBlock; split <;> exact fit

theorem Hub.Stores.recordAct {i : Item} {ws : List Word} (fit : h.Stores P) : (h.recordAct q i ws).Stores P := by
  cases i with
  | out _ _ | link _ _ | trigOut _ _ | gen _ _ | grid _ | cell _ _ => exact fit.onPlane
  | source p n => exact Hub.Stores.unless (Hub.Stores.when fit fun t => t.clearPlaneSticky) fun t => t.setSev
  | unitSource n => exact Hub.Stores.unless (Hub.Stores.when fit fun t => t.clearUnitSticky) fun t => t.setUSev
  | auth k => exact Hub.Stores.ite fit fit
  | block b => exact fit.bufferBlock
  | linkQueue _ _ _ | groupQueue _ _ | chimneyQueue _ => exact fit.setThreshold
  | counter _ | ti _ _ | cert _ | log _ | rate _ _ | rtt _ _ => exact fit

theorem Hub.Stores.writeRecord {o : Fin 8} {space : BitVec 4} {index : BitVec 20} {ws : List Word} (fit : h.Stores P) :
    (h.writeRecord q o space index ws).Stores P := by
  refine fit.judged ?_
  split
  · exact fit
  · exact fit.recordAct

theorem Hub.Stores.start (fit : h.Stores P) : (h.start q).Stores P := Hub.Stores.ite fit fit

theorem Hub.Stores.attemptFails (fit : h.Stores P) : (h.attemptFails q).Stores P := by
  unfold Hub.attemptFails; split
  · exact fit
  · exact Hub.Stores.ite (Hub.Stores.setUDet fit) fit

theorem Hub.Stores.attempt {out : AttnEnd} (fit : h.Stores P) : (h.attempt q out).Stores P := by
  have sent : (h.sendAttempt q).Stores P := by unfold Hub.sendAttempt; split <;> exact fit
  unfold Hub.attempt; split
  · cases out with
    | acked | lostArb => exact sent
    | nacked => exact sent.attemptFails
  · exact fit

theorem Hub.Stores.setStuck {line : BusLine} (fit : h.Stores P) : (h.setStuck q line b).Stores P := by
  cases line <;> exact Hub.Stores.setUDet fit

theorem Hub.Stores.voidTarget (fit : h.Stores P) : (h.voidTarget q).Stores P := Hub.Stores.ite fit fit

theorem Hub.Stores.recover {lines : BusLines} (fit : h.Stores P) : (h.recover q lines).Stores P := by
  cases lines with
  | bothHigh => exact fit.recordRecovery
  | sclHeld | freed _ | stuck => exact fit.voidTarget.recordRecovery

theorem Hub.Stores.testPort {lines : BusLines} (fit : h.Stores P) : (h.testPort q lines).Stores P := Hub.Stores.unless fit fun t => t.recover

theorem Hub.Stores.localWrite {a : BitVec 7} {r : BitVec 5} {f : Fin 8 → Port → Port} (fit : h.Stores P) :
    (h.localWrite q a r b f).Stores P := by
  unfold Hub.localWrite; (repeat' split) <;> exact fit

theorem Hub.Stores.releaseDrive (fit : h.Stores P) : (h.releaseDrive q).Stores P := Hub.Stores.ite fit.voidTarget fit.attempt

theorem Hub.Stores.pctlEffect {f : Pctl} (fit : h.Stores P) : (h.pctlEffect q p f).Stores P := by
  have mode : (if f.mode = (h.plane p).sel.mode ∧ f.fref = (h.plane p).sel.fref then h
      else h.onPlaneFree p fun v x => x.setModeRef p v f.mode f.fref).Stores P := Hub.Stores.unless fit fun t => t.onPlaneFree
  have align {k : Hub} (t : k.Stores P) : (if f.realign = 0 then k else k.onPlane p fun x => x.realignField f.realign).Stores P :=
    Hub.Stores.unless t fun t => t.onPlane
  have standby {k : Hub} (t : k.Stores P) :
      (if f.stby = 1 then k.standbyEnter p else if f.stby = 2 then k.standbyLeave p else k).Stores P :=
    Hub.Stores.ite t.onPlane (Hub.Stores.ite t t)
  have husk {k : Hub} (t : k.Stores P) : (if f.huskclr then k.clearHusk p else k).Stores P := Hub.Stores.when t fun t => t.clearHusk
  have own {k : Hub} (t : k.Stores P) :
      (if f.own = 1 then k.modPlane p fun x => { x with owner := some q } else if f.own = 2 then k.release q p else k).Stores P :=
    Hub.Stores.ite t (Hub.Stores.ite t.release t)
  have last := own (husk (standby (align mode)))
  simp only [Hub.pctlEffect]
  exact Hub.Stores.ite (Hub.Stores.ite last.onPlane last) (Hub.Stores.ite last.onPlane last)

theorem Hub.Stores.tandemWord {a : BitVec 7} {w : Word} (fit : h.Stores P) : (h.tandemWord q a w).Stores P := by
  unfold Hub.tandemWord; split
  · exact fit.judged fit
  · exact fit.joinCmd
  · exact fit.leaveCmd
  · exact fit.judged fit

theorem Hub.Stores.planeWord {a : BitVec 7} {r : BitVec 5} {w : Word} (fit : h.Stores P) : (h.planeWord q a p r w).Stores P := by
  simp only [Hub.planeWord]; split
  · exact fit.judged fit
  · exact fit.judged fit.pctlEffect
  · exact fit.judged fit.onPlane
  · exact fit.judged fit.onPlane
  · exact fit.judged fit.onPlane
  · exact fit.judged fit.onPlane
  · exact fit.tandemWord
  · exact fit.judged fit

theorem Hub.Stores.signFails (fit : h.Stores P) : h.signFails.Stores P := fit.setUDet

theorem Hub.Stores.startSigning (fit : h.Stores P) : (h.startSigning b).Stores P := Hub.Stores.requestSince fit

theorem Hub.Stores.endSigning (fit : h.Stores P) : h.endSigning.Stores P := Hub.Stores.ite fit.signFails (Hub.Stores.ite fit fit)

theorem Hub.Stores.uctlEffect {w : Word} (fit : h.Stores P) : (h.uctlEffect w).Stores P :=
  Hub.Stores.when (Hub.Stores.when (Hub.Stores.ite fit.unitEnter (Hub.Stores.ite fit.unitLeave fit)) fun t => Hub.Stores.recover t)
    fun t => Hub.Stores.testPort t

theorem Hub.Stores.nvWord {a : BitVec 7} {w : Word} (fit : h.Stores P) : (h.nvWord q a w).Stores P := by
  simp only [Hub.nvWord]; split
  · exact fit.nvRead
  · exact fit.nvWrite
  · exact Hub.Stores.ite fit.nvKey fit.nvPassword
  · exact fit

theorem Hub.Stores.snapWord {a : BitVec 7} {w : Word} (fit : h.Stores P) : (h.snapWord q a w).Stores P :=
  fit.judged (Hub.Stores.ite fit.requestSince fit)

theorem Hub.Stores.authWord {a : BitVec 7} {w : Word} (fit : h.Stores P) : (h.authWord q a w).Stores P := by
  simp only [Hub.authWord]
  exact fit.judged (Hub.Stores.ite (Hub.Stores.startSigning (h := h.fresh.2) fit) fit)

theorem Hub.Stores.cancelWord {o : Fin 8} (fit : h.Stores P) : (h.cancelWord q o).Stores P := fit.judged fit

theorem Hub.Stores.addSched {o : Fin 8} {w : Word} {l : List HeldWrite} (fit : h.Stores P) : (h.addSched q o w l).Stores P :=
  Hub.Stores.ite fit fit

theorem Hub.Stores.localWord {o : Fin 8} {r : BitVec 5} {w : Word} (fit : h.Stores P) : (h.localWord q o r w).Stores P :=
  Hub.Stores.ite fit.localWrite (Hub.Stores.ite fit.localWrite fit.localWrite)

theorem Hub.Stores.followerWord {v : HeldWrite} {r : BitVec 5} {w : Word} (fit : h.Stores P) : (h.followerWord v r w).Stores P :=
  Hub.Stores.ite (fit.judged fit) <| Hub.Stores.ite fit.localWord <| Hub.Stores.ite (fit.judged fit) (fit.judged fit.enterTunnel)

theorem Hub.Stores.followerRecord {v : HeldWrite} {space : BitVec 4} {index : BitVec 20} {ws : List Word} (fit : h.Stores P) :
    (h.followerRecord v space index ws).Stores P :=
  fit.judged fit.enterTunnel

theorem Hub.Stores.tunnelArrive {w : TunnelWrite} (fit : h.Stores P) : (h.tunnelArrive q n w).Stores P :=
  Hub.Stores.ite fit (Hub.Stores.ite fit.modChim.chimneyOverflow
    (Hub.Stores.ite fit.modChim.modChim.modPlane fit.modChim.modChim.withUcommits))

theorem Hub.Stores.judgeFar {w : HeldWrite} (fit : h.Stores P) : (h.judgeFar w).Stores P := fit.judged fit

end

/-! ### Operations that write a page or a slot -/

/-- The pages in RAM and the two configuration slots are in canonical form. -/
@[reducible] def Canonical (m : Memory) (c : Cfg) : Prop := m.wf = true ∧ ∀ i : Fin 2, c.slot[i.val].mem.wf = true

section
variable {h g : Hub} {p : PlaneId} {q : PortId} {b : Bool} {n : Nat}

/-- A page written into RAM keeps the canonical form (R428). -/
theorem Nv.setRam_wf {m : Nv} (fit : m.ram.wf = true) (page : Nat) (data : List Byte) : (m.setRam page data).ram.wf = true :=
  Memory.writeBytes_wf _ fit _

/-- A slot changed keeps the canonical form where its bytes do. -/
theorem Hub.Stores.modSlot {i : Fin 2} {f : Slot → Slot} (fit : h.Stores Canonical)
    (hf : ∀ s : Slot, s.mem.wf = true → (f s).mem.wf = true) : (h.modSlot i f).Stores Canonical :=
  ⟨fit.1, upd_all (fun s : Slot => s.mem.wf = true) i fit.2 (hf _)⟩

/-- The canonical form speaks of no field of the image state but the slots. -/
theorem Hub.Stores.modCfg {f : Cfg → Cfg} (fit : h.Stores Canonical) (slots : (f h.cfg).slot = h.cfg.slot) :
    (h.modCfg f).Stores Canonical :=
  ⟨fit.1, fun i => by simp only [Hub.modCfg, slots]; exact fit.2 i⟩

/-! Programming operations (R426 to R428). -/

theorem Hub.Stores.recordEffect {page : BitVec 16} {data : List Byte} (fit : h.Stores Canonical) :
    (h.recordEffect page data).Stores Canonical :=
  Hub.Stores.ite fit (Hub.Stores.ite fit ⟨Nv.setRam_wf fit.1 _ _, fit.2⟩)

theorem Nv.settle_ram (m : Nv) : m.settle.ram = m.ram := by unfold Nv.settle; split <;> rfl

theorem Hub.Stores.program {page : BitVec 16} {data : List Byte} {ok1 ok2 : Bool} (fit : h.Stores Canonical) :
    (h.program page data ok1 ok2).1.Stores Canonical := by
  have put {k : Hub} {ok : Bool} (t : k.Stores Canonical) : (k.put page data ok).Stores Canonical := t.makeRoom.append
  have settled {k : Hub} (t : k.Stores Canonical) : ({ k with nv := { k.nv.settle with seq := k.nv.seq + 1 } } : Hub).Stores Canonical :=
    ⟨by simp only [Nv.settle_ram]; exact t.1, t.2⟩
  simp only [Hub.program, apply_ite Prod.fst]
  exact Hub.Stores.andThen (settled (Hub.Stores.unless (put fit) fun t => put t)) fun t =>
    Hub.Stores.ite (Hub.Stores.recordEffect (Hub.Stores.ucount t)) t

theorem Hub.Stores.endOp {op : NvOp} {ok1 ok2 : Bool} (fit : h.Stores Canonical) : (h.endOp op ok1 ok2).Stores Canonical := by
  simp only [Hub.endOp]
  refine Hub.Stores.startWaiting ?_
  split <;> exact fit.program

/-! Kindling, and the images it reads. -/

theorem Cfg.powerUp_mem (c : Cfg) (m : Nv) (i : Fin 2) : ((c.powerUp m).slot[i.val]).mem = (c.slot[i.val]).mem := by
  simp [Cfg.powerUp, Slot.powerUp]

/-- Kindling loads RAM from the flash, and the slots keep their bytes (R300, R429). -/
theorem Hub.Stores.fromFlash (slots : ∀ i : Fin 2, h.cfg.slot[i.val].mem.wf = true) : h.fromFlash.Stores Canonical := by
  have built : Canonical h.nv.build.ram (h.cfg.powerUp h.nv.build) :=
    ⟨Nv.loadRam_wf _, fun i => by rw [Cfg.powerUp_mem]; exact slots i⟩
  exact Hub.Stores.setFans (Hub.Stores.foldl built fun _ _ t => t.firstBank)

theorem Hub.Stores.kindleBus {b : Bool} (fit : h.Stores Canonical) : (h.kindleBus q b).Stores Canonical :=
  Hub.Stores.ite (Hub.Stores.recordRecovery (h := h.fresh.2) fit) fit

theorem Hub.Stores.kindle {a : Vector Bool 3} (slots : ∀ i : Fin 2, h.cfg.slot[i.val].mem.wf = true) :
    (h.kindle a b).Stores Canonical := by
  have tested : (h.fromFlash.selfTest b).Stores Canonical :=
    Hub.Stores.ite (Hub.Stores.fromFlash slots) (Hub.Stores.setUDet (Hub.Stores.withAuth (Hub.Stores.fromFlash slots)))
  have resolved {k : Hub} {m : Nat} (t : k.Stores Canonical) : (k.resolved m).Stores Canonical := Hub.Stores.ite t t.ucountN.fireUEvent
  have owns {k : Hub} {page : Fin 128} {data : List Byte} (t : k.Stores Canonical) : (k.ownWrite page data).Stores Canonical := t
  exact (owns (resolved tested.ucountN).ulog).startWaiting.kindleBus.kindleBus.kindleBus

theorem Hub.Stores.takeDigests {f : ImageFile} {i : Fin 2} (fit : h.Stores Canonical) : (h.takeDigests p f i).Stores Canonical := fit

theorem Hub.Stores.applyImage {i : Fin 2} {f : ImageFile} (fit : h.Stores Canonical) : (h.applyImage i f b).Stores Canonical := by
  have inForce {k : Hub} (t : k.Stores Canonical) : ({ k with
      cfg := { k.cfg with applied := true, uslot := i }, nv := { k.nv with loads := k.nv.loads + 1 } } : Hub).Stores Canonical := t
  exact Hub.Stores.checkRun (Hub.Stores.logImage (Hub.Stores.ucount (Hub.Stores.rejudgePorts (Hub.Stores.foldl (Hub.Stores.foldl
    (inForce fit.acceptImage.takeUnit) fun _ _ t => t.takeDigests.modPlane) fun _ _ t => t.startPlane))))

theorem Slot.readOk_mem (s : Slot) (f : ImageFile) : (s.readOk f).mem = s.mem := by unfold Slot.readOk; split <;> rfl

theorem Hub.Stores.tryRead {i : Fin 2} {r : SlotRead} (fit : h.Stores Canonical) : (h.tryRead i r b).1.Stores Canonical := by
  simp only [Hub.tryRead]; split
  · exact fit.failRead
  · split
    · exact fit.applyImage.modSlot fun s t => by rw [Slot.readOk_mem]; exact t
    · exact fit.failRead

theorem Hub.Stores.bootImage {reads : Vector SlotRead 2} (fit : h.Stores Canonical) : (h.bootImage reads).Stores Canonical :=
  Hub.Stores.ite fit.tryRead (Hub.Stores.ite (Hub.Stores.tryRead fit.tryRead) (Hub.Stores.tryRead fit.tryRead))

/-! The commands of CFGCTL, streaming and verification (R299 to R301). -/

theorem Hub.Stores.begins {cmd : BitVec 4} (fit : h.Stores Canonical) : (h.begins cmd).Stores Canonical := fit
theorem Hub.Stores.ends (fit : h.Stores Canonical) : (h.ends n).Stores Canonical := Hub.Stores.ucause (Hub.Stores.modCfg fit rfl)

theorem Hub.Stores.startErase {i : Fin 2} (fit : h.Stores Canonical) : (h.startErase i).Stores Canonical :=
  Hub.Stores.modCfg (Hub.Stores.modSlot fit.begins fun _ t => t) rfl

theorem Hub.Stores.endErase (fit : h.Stores Canonical) : h.endErase.Stores Canonical := by
  unfold Hub.endErase; split
  · exact fit
  · exact Hub.Stores.ends (Hub.Stores.modSlot (Hub.Stores.modCfg fit rfl) fun _ _ => Memory.empty_wf)

theorem Hub.Stores.closeSlot (fit : h.Stores Canonical) : (h.closeSlot q).Stores Canonical := by
  unfold Hub.closeSlot; split
  · exact fit
  · exact Hub.Stores.modCfg fit.begins rfl

theorem Hub.Stores.bootSlot {i : Fin 2} (fit : h.Stores Canonical) : (h.bootSlot i).Stores Canonical := by
  simp only [Hub.bootSlot]
  refine Hub.Stores.ends ?_
  split <;> exact Hub.Stores.modCfg fit.begins rfl

theorem Hub.Stores.cfgEffect {c : CfgCmd} (fit : h.Stores Canonical) : (h.cfgEffect q c).Stores Canonical := by
  cases c with
  | erase i => exact fit.startErase
  | openSlot i => exact Hub.Stores.ends (Hub.Stores.modCfg fit.begins rfl)
  | close => exact fit.closeSlot
  | boot i => exact fit.bootSlot
  | load i => exact Hub.Stores.orderLoad (Hub.Stores.modCfg fit.begins rfl)
  | reload i w => exact fit.begins.orderLoad

theorem Hub.Stores.cfgCommand {a : BitVec 7} {c : CfgCmd} (fit : h.Stores Canonical) : (h.cfgCommand q a c).Stores Canonical :=
  fit.judged fit.cfgEffect

theorem Hub.Stores.programBlock (fit : h.Stores Canonical) : (h.programBlock q).Stores Canonical := by
  unfold Hub.programBlock; split
  · exact fit
  · exact Hub.Stores.modSlot fit.modPort fun _ t => Memory.writeBytes_wf _ t _

theorem Hub.Stores.endVerify {r : SlotRead} (fit : h.Stores Canonical) : (h.endVerify r).Stores Canonical := by
  simp only [Hub.endVerify]; split
  · exact fit
  · rename_i i rest _
    have next : (h.modCfg fun c => { c with verifying := rest }).Stores Canonical := fit.modCfg rfl
    split
    · exact Hub.Stores.ends next.rejectImage
    · exact Hub.Stores.ite (Hub.Stores.ends (Hub.Stores.acceptImage (next.modSlot fun _ t => t)))
        (Hub.Stores.ends (Hub.Stores.rejectImage (next.modSlot fun _ t => t)))

/-! Loads and reloads (R302 to R306). -/

theorem Hub.Stores.abandonLoad (fit : h.Stores Canonical) : (h.abandonLoad p q).Stores Canonical :=
  Hub.Stores.when (Hub.Stores.when (Hub.Stores.allPlanes (Hub.Stores.modPort fit)) fun t => t.modCfg rfl) fun t => t.modCfg rfl

theorem Hub.Stores.reachF0 (fit : h.Stores Canonical) : (h.reachF0 p).Stores Canonical := by
  simp only [Hub.reachF0]; split
  · exact fit
  · exact Hub.Stores.ite fit (Hub.Stores.ite fit.abandonLoad fit.onPlaneFree.discardScheds.judgeOutliers)

theorem Hub.Stores.loadUnit {f : ImageFile} {i : Fin 2} (fit : h.Stores Canonical) : (h.loadUnit f i).Stores Canonical :=
  Hub.Stores.ite (Hub.Stores.foldl (Hub.Stores.modCfg fit.takeUnit rfl) fun _ _ t => t.endOwner) fit

theorem Hub.Stores.takePlane {i : Fin 2} {f : ImageFile} (fit : h.Stores Canonical) : (h.takePlane p i f).Stores Canonical := by
  have own : (if (h.plane p).sdig = f.sdig.get p then h else h.resetEn p).Stores Canonical := Hub.Stores.ite fit fit
  have taken := own.takeDigests (p := p) (f := f) (i := i)
  simp only [Hub.takePlane]
  exact Hub.Stores.ucount (Hub.Stores.onPlane (Hub.Stores.ite (Hub.Stores.reforce (Hub.Stores.onPlane taken.modPlane.onPlane))
    (Hub.Stores.startPlane taken.modPlane.modPlane)))

theorem Hub.Stores.finishLoads {f : ImageFile} {i : Fin 2} (fit : h.Stores Canonical) : (h.finishLoads f i).Stores Canonical := by
  have loaded {k : Hub} (t : k.Stores Canonical) : ({ k with nv := { k.nv with loads := k.nv.loads + 1 } } : Hub).Stores Canonical := t
  refine Hub.Stores.ite (Hub.Stores.ends (Hub.Stores.when fit fun t => Hub.Stores.logImage (Hub.Stores.ucount (loaded ?_)))) fit
  exact Hub.Stores.ite (Hub.Stores.withUpstate (fit.modCfg rfl)) (fit.modCfg rfl)

theorem Hub.Stores.reachF1 (fit : h.Stores Canonical) : (h.reachF1 p).Stores Canonical := by
  simp only [Hub.reachF1]; split
  · exact fit
  · split
    · exact fit
    · exact Hub.Stores.ite fit.loadUnit.takePlane.finishLoads.rejudgePorts.judgeOutliers fit

/-! Words of a transaction, among which CFGCTL names an image command. -/

theorem Hub.Stores.cfgWord {a : BitVec 7} {w : Word} (fit : h.Stores Canonical) : (h.cfgWord g q a w).Stores Canonical :=
  fit.judged <| by
    split
    · exact fit
    · exact fit.cfgEffect

theorem Hub.Stores.unitWord {a : BitVec 7} {r : BitVec 5} {w : Word} (fit : h.Stores Canonical) :
    (h.unitWord g q a r w).Stores Canonical := by
  unfold Hub.unitWord; split
  · exact fit.judged fit.uctlEffect
  · exact fit.snapWord
  · exact fit.nvWord
  · exact fit.cfgWord
  · exact fit.authWord
  · exact fit.judged fit

theorem Hub.Stores.under {x : PortDecl} {f : Hub → Hub} (fit : h.Stores Canonical)
    (hf : ∀ k : Hub, k.Stores Canonical → (f k).Stores Canonical) : (h.under q x f).Stores Canonical :=
  Hub.Stores.modPort (hf _ fit.modPort)

theorem Hub.Stores.commit {w : HeldWrite} (fit : h.Stores Canonical) : (h.commit g w).Stores Canonical := by
  unfold Hub.commit; split
  · exact Hub.Stores.ite fit.planeWord fit.unitWord
  · exact fit.writeRecord
  · exact Hub.Stores.ite fit.standbyWithUnit fit.leaveWithUnit
  · exact fit.takeForce

theorem Hub.Stores.place {x y : Bool} {w : HeldWrite} (fit : h.Stores Canonical) : (h.place x y w).Stores Canonical :=
  Hub.Stores.ite fit.commit (Hub.Stores.ite fit (Hub.Stores.ite fit fit))

theorem Hub.Stores.nvctlWord {v : HeldWrite} {w : Word} (fit : h.Stores Canonical) : (h.nvctlWord b v w).Stores Canonical :=
  Hub.Stores.ite (fit.judged fit) (Hub.Stores.andThen fit.modPort fun t => Hub.Stores.ite t t.place)

theorem Hub.Stores.unitRegWord {v : HeldWrite} {r : BitVec 5} {w : Word} (fit : h.Stores Canonical) :
    (h.unitRegWord b v r w).Stores Canonical :=
  Hub.Stores.ite (fit.judged fit.modPort) <| Hub.Stores.ite fit.nvctlWord <| Hub.Stores.ite fit.modPort <|
    Hub.Stores.ite fit.modPort fit.place

theorem Hub.Stores.ownWord {v : HeldWrite} {r : BitVec 5} {w : Word} (fit : h.Stores Canonical) : (h.ownWord b v r w).Stores Canonical :=
  Hub.Stores.ite (fit.judged fit) <| Hub.Stores.ite fit.unitRegWord <| Hub.Stores.ite fit.localWord <|
    Hub.Stores.ite (fit.judged fit) fit.place

theorem Hub.Stores.ownRecord {v : HeldWrite} {space : BitVec 4} {index : BitVec 20} {ws : List Word} (fit : h.Stores Canonical) :
    (h.ownRecord b v space index ws).Stores Canonical := by
  simp only [Hub.ownRecord]; split
  · exact fit.judged fit
  · split
    · exact Hub.Stores.ite fit.writeRecord.modPort fit.writeRecord
    · refine Hub.Stores.ite (fit.judged fit) ?_
      split <;> exact fit.place

theorem Hub.Stores.applyOp {x : PortDecl} {o : Fin 8} {op : TxOp} (fit : h.Stores Canonical) : (h.applyOp b q x o op).Stores Canonical := by
  unfold Hub.applyOp; split
  · exact Hub.Stores.ite fit.ownWord fit.followerWord
  · exact Hub.Stores.ite fit.ownRecord fit.followerRecord
  · exact fit.judged fit
  · exact fit.modPort

theorem Hub.Stores.schedule {x : PortDecl} {o : Fin 8} {w : Word} {l : List (Fin 8 × TxOp)} (fit : h.Stores Canonical) :
    (h.schedule b q x o w l).Stores Canonical :=
  Hub.Stores.ite fit.cancelWord (fit.judged (Hub.Stores.when (Hub.Stores.addSched (Hub.Stores.foldl fit fun _ _ t => t.applyOp))
    fun t => t.laneAction))

theorem Hub.Stores.applyAll {x : PortDecl} {l : List (Fin 8 × TxOp)} (fit : h.Stores Canonical) : (h.applyAll q x b l).Stores Canonical := by
  have run {k : Hub} (t : k.Stores Canonical) (l : List (Fin 8 × TxOp)) :
      (l.foldl (fun (m : Hub) e => m.applyOp false q x e.1 e.2) k).Stores Canonical := t.foldl fun _ _ u => u.applyOp
  simp only [Hub.applyAll]; split
  · exact (run fit _).schedule
  · exact run (run fit _) _

theorem Hub.Stores.completeTx {l : Latch} {s : Scan} (fit : h.Stores Canonical) : (h.completeTx q l s).Stores Canonical :=
  Hub.Stores.modPort (Hub.Stores.applyAll (Hub.Stores.foldl fit.modPort fun _ _ t => t.noteRead))

theorem Hub.Stores.endTx {l : List TxSeg} (fit : h.Stores Canonical) : (h.endTx q l).Stores Canonical := by
  simp only [Hub.endTx]
  have started : (if (h.port q).latch.isSome then h else h.start q).Stores Canonical := Hub.Stores.unless fit fun t => t.start
  split
  · exact started
  · refine started.under fun k t => Hub.Stores.ite t.modPort (Hub.Stores.ite t.modPort ?_)
    split
    · exact Hub.Stores.modPort t.modPort
    · exact t.completeTx

theorem Hub.Stores.tunnelEffect {o : Fin 8} {w : WriteKind} (fit : h.Stores Canonical) : (h.tunnelEffect q o w).Stores Canonical := by
  refine Hub.Stores.modPort ?_
  have inTunnel : (h.modPort q fun x => { x with tunnel := true }).Stores Canonical := fit
  cases w with
  | reg _ _ | record _ _ _ => exact inTunnel.applyOp
  | standby _ | force _ _ => exact inTunnel

theorem Hub.Stores.commitHeld {w : HeldWrite} (fit : h.Stores Canonical) : (Hub.commitHeld g h w).Stores Canonical :=
  Hub.Stores.ite (Hub.Stores.chimneyPush (Hub.Stores.modChim fit.tunnelEffect)) (fit.under fun _ t => t.commit)

theorem Hub.Stores.writeNow {o : Fin 8} {r : BitVec 5} {w : Word} (fit : h.Stores Canonical) : (h.writeNow q o r w).Stores Canonical :=
  Hub.Stores.ite (Hub.Stores.ite fit.applyOp fit.applyOp) (Hub.Stores.ite fit.schedule fit.applyOp)

theorem Hub.Stores.applySched (fit : h.Stores Canonical) : (h.applySched p q n).Stores Canonical := by
  unfold Hub.applySched; split
  · exact fit
  · exact Hub.Stores.ite (Hub.Stores.causeAt (Hub.Stores.foldl (Hub.Stores.foldl fit.modPort fun _ _ t => t.commit)
      fun _ _ t => t.judgeFar)) fit

theorem Hub.Stores.commitPlane (fit : h.Stores Canonical) : (h.commitPlane p).Stores Canonical :=
  Hub.Stores.foldl fit.modPlane fun _ _ t => t.commitHeld

theorem Hub.Stores.commitUnit (fit : h.Stores Canonical) : h.commitUnit.Stores Canonical :=
  Hub.Stores.startWaiting (Hub.Stores.foldl fit.withUcommits fun _ _ t => t.commitHeld)

theorem Hub.Stores.lane3 {act : Lane3Act} (fit : h.Stores Canonical) : (h.lane3 act).Stores Canonical := by
  cases act with
  | announce p n => exact fit.ifActive fit
  | realign p sec => exact fit.ifActive fit.realignTo
  | snapshot ovfclr sec frame => exact Hub.Stores.ite (Hub.Stores.captureWith fit) fit
  | ask ovfclr ago => exact Hub.Stores.ite fit fit.requestSince
  | captured pst => exact Hub.Stores.ite fit (Hub.Stores.finishSnapshot fit)
  | leave => exact Hub.Stores.ite fit fit
  | write w q => exact fit.tunnelEffect

end

/-! ### The commands -/

section
variable {s : State} (fit : s.hub.Stores Canonical)
include fit

theorem execCrossPlaneCapture_canonical {src dst : PlaneId} {o : Fin 64} {ref : Nat} :
    Completes (.crossPlaneCapture src dst o ref) s (Hub.Stores Canonical) := by
  refine ⟨_, rfl, ?_⟩
  split
  · dsimp only; split
    · exact fit
    · exact Hub.Stores.foldl fit fun _ _ t => t.emit
  · exact fit

theorem execGridRegistration_canonical {p : PlaneId} : Completes (.gridRegistration p) s (Hub.Stores Canonical) := by
  refine ⟨_, rfl, fit.ifActive ?_⟩
  dsimp only; split
  · split
    · exact fit
    · exact fit.moveCount
  · exact fit

theorem execHostRegisterWrite_canonical {q : PortId} {a : BitVec 7} {r : BitVec 5} {w : Word} :
    Completes (.hostRegisterWrite q a r w) s (Hub.Stores Canonical) := by
  refine ⟨_, rfl, ?_⟩
  split
  · split
    · exact fit
    · exact Hub.Stores.ite fit (Hub.Stores.ite fit.writeNow fit)
  · exact fit

theorem execQueueThresholdWrite_canonical {q : PortId} {i : Fin 512} {n : BitVec 3} :
    Completes (.queueThresholdWrite q i n) s (Hub.Stores Canonical) := by
  refine ⟨_, rfl, ?_⟩
  split
  · exact fit.hostWrite fit.setThreshold
  · exact fit.unitWrite fit.setThreshold

theorem execCollectorParityFault_canonical {coll : Option PlaneId} {r : Fin 8} :
    Completes (.collectorParityFault coll r) s (Hub.Stores Canonical) := by
  cases coll with
  | none => exact ⟨_, rfl, Hub.Stores.ite fit.unitParity fit⟩
  | some p => exact ⟨_, rfl, fit.ifActive (Hub.Stores.when fit.onPlaneFree fun t => t.reforce)⟩

theorem execSnapshotCapture_canonical : Completes .snapshotCapture s (Hub.Stores Canonical) := by
  refine ⟨_, rfl, ?_⟩
  split
  · exact fit
  · exact Hub.Stores.ite fit.takeSnapshot fit

theorem execNvProgramComplete_canonical {ok1 ok2 : Bool} : Completes (.nvProgramComplete ok1 ok2) s (Hub.Stores Canonical) := by
  refine ⟨_, rfl, ?_⟩
  split
  · exact fit
  · exact Hub.Stores.ite fit.endOp fit

theorem execShortBrokenRun_canonical {coll : Option PlaneId} : Completes (.shortBrokenRun coll) s (Hub.Stores Canonical) := by
  cases coll with
  | none => exact ⟨_, rfl, Hub.Stores.ite fit fit⟩
  | some p => exact ⟨_, rfl, fit.event⟩

/-- Every command keeps the memories in canonical form. -/
theorem exec_canonical (c : Instr) : Completes c s (Hub.Stores Canonical) := by
  cases c with
  | refLossDeclared _ _ | refActiveAgain _ _ | timecodeFrame _ _ _ | tcQualityEffect _ _ | esmcPduReceived _ _ | esmcQualityEffect _
    | esmcTimeout _ | freqOffsetMeasurement _ _ _ | phaseJumpMean _ _ _ | waitToRestoreExpiry _ _ | selectionTick _ | acquireTimeout _
    | slewComplete _ | vcobUnlock _ _ | outputDrainComplete _ _ | outputStart _ _ | fineMoveComplete _ _ | puPulseStart _ _
    | toPulseStart _ _ | slotCheckFailure _ _ _ | linkSignalLoss _ _ | linkSignalPresent _ _ | linkMonitorGraceExpiry _ _
    | damperTimeout _ _ | readoutGapStart _ | holdLimitExpiry _ _ | deferredActionsResume _ | configCrcCheck _ _ | ovenFault _ _
    | planeSupplyFault _ | timecodeFrameMissing _ _ | planeSupplyRestored _ => exact ⟨_, rfl, fit.event⟩
  | driftFitUpdate _ => exact ⟨_, rfl, fit.eventFree⟩
  | puAssignmentEffect _ _ _ | upstreamTimeSlot _ _ _ _ | primitiveReceived _ _ _ _ | upstreamVetoReceived _ _ _ _
    | statusReceived _ _ _ _ | cmdAckReceived _ _ _ _ | upstreamBulkReceived _ _ _ _ | trainHoldCompleteReceived _ _ _ _
    | reservedMessageReceived _ _ _ _ _ | trafficSlotStart _ _ | tiRisingCrossing _ _ _ _ | generatorEvent _ _ _ | generatorEnqueue _ _ _
    | puPulseEnd _ _ | toPulseEnd _ _ => exact ⟨_, rfl, fit.eventAt⟩
  | forcedRefWrite _ _ _ | realignRequest _ _ | realignCancel _ _ | trainingHoldRequest _ _ _ | trainingHoldHostEnd _ _ _
    | referencePriorityWrite _ _ _ _ | bandwidthCodeWrite _ _ _ | freqWrite _ _ _ | gridOffsetWrite _ _ _ | outputGateWrite _ _ _ _
    | outputDelayWrite _ _ _ _ _ | puSettingsWrite _ _ _ _ _ _ _ | toFineDelayWrite _ _ _ _ | enqueueCmd _ _ _ _ | enqueueBulk _ _ _ _
    | popUqStat _ _ _ | popUqBulk _ _ _ | injectTestAccept _ _ _ _ | linkDelayWrite _ _ _ _ _ | hostDamperWrite _ _ _ _
    | parameterCellWrite _ _ _ _ | generatorEnableWrite _ _ _ _ | bintWrite _ _ _ _ | userGeneratorWrite _ _ _ _ _ _
    | epochPhaseDelayWrite _ _ _ _ _ | planeStandbyEnter _ _ => exact ⟨_, rfl, fit.hostWrite fit.onPlane⟩
  | loopModeWrite _ _ _ => exact ⟨_, rfl, fit.hostWrite fit.onPlaneFree⟩
  | historyClear _ _ _ | ownershipClaim _ _ => exact ⟨_, rfl, fit.hostWrite fit⟩
  | huskClear _ _ => exact ⟨_, rfl, fit.hostWrite fit.clearHusk⟩
  | ownershipRelease _ _ => exact ⟨_, rfl, fit.hostWrite fit.release⟩
  | faultInjectStart _ _ _ _ _ _ | faultInjectStop _ _ => exact ⟨_, rfl, fit.judged fit.onPlane⟩
  | planeStandbyLeave _ _ | authNonceWrite _ _ => exact ⟨_, rfl, fit.judged fit⟩
  | followerRecordFetch _ _ | transactionVoid _ _ _ | portSleep _ | portWake _ _ | refusalClear _ | pecEnableWrite _ _
    | unitCauseClear _ _ | followerAttentionReceived _ _ => exact ⟨_, rfl, Hub.Stores.ite fit fit⟩
  | converterStart | feedOvervoltageDisconnect _ | feedReconnect _ | tunnelAck _ | nvKeyShift _ _ | nvDataWrite _ _ => exact ⟨_, rfl, fit⟩
  | windowSelectWrite _ _ _ | attentionConfigWrite _ _ _ | attentionCauseClear _ _ _ => exact ⟨_, rfl, fit.localWrite⟩
  | attentionAttempt _ _ | attentionHoldTimeout _ => exact ⟨_, rfl, fit.attempt⟩
  | attentionRetry _ _ => exact ⟨_, rfl, Hub.Stores.ite fit.attempt fit⟩
  | pairBroken _ | pairWhole _ => exact ⟨_, rfl, fit.pairEvent⟩
  | imageErase _ _ | imageOpen _ _ | imageClose _ | imageLoad _ _ | imageReload _ _ _ => exact ⟨_, rfl, fit.cfgCommand⟩
  | imageBoot _ _ => exact ⟨_, rfl, fit.cfgCommand.startWaiting⟩
  | kindling _ _ => exact ⟨_, rfl, Hub.Stores.ite fit (Hub.Stores.kindle fit.2)⟩
  | powerGoodLoss _ => exact ⟨_, rfl, Hub.Stores.withConv (Hub.Stores.ite fit.losePower fit)⟩
  | imageApply _ => exact ⟨_, rfl, Hub.Stores.ite fit.bootImage fit⟩
  | ovenSettled _ | ovenGateTimeout _ => exact ⟨_, rfl, Hub.Stores.ite fit.openGate.event fit⟩
  | frameBoundary _ => exact ⟨_, rfl, fit.ifActive fit.frameStep⟩
  | pps _ _ => exact ⟨_, rfl, fit.ifActive fit.ppsStep⟩
  | groupBoundary _ _ => exact ⟨_, rfl, fit.ifActive fit.takeMirror.onPlane⟩
  | millisecondBoundary _ _ => exact ⟨_, rfl, fit.ifActive fit.msBoundary⟩
  | housekeepingTick => exact ⟨_, rfl, Hub.Stores.ite fit.hkTick fit⟩
  | comparatorReading _ _ => exact ⟨_, rfl, Hub.Stores.ite fit.compare fit⟩
  | planeWriteCommit _ => exact ⟨_, rfl, Hub.Stores.ite fit.commitPlane fit⟩
  | unitWriteCommit => exact ⟨_, rfl, Hub.Stores.ite fit.commitUnit fit⟩
  | unitValueHandover _ => exact ⟨_, rfl, fit.ifActive (Hub.Stores.foldl fit fun _ _ t => t.seeValue)⟩
  | housekeepingRecordTake _ => exact ⟨_, rfl, Hub.Stores.ite fit.takeRecord fit⟩
  | logEraseComplete => exact ⟨_, rfl, Hub.Stores.ite (Hub.Stores.writeWaiting fit) fit⟩
  | timeMarkerCapture _ _ _ _ _ => exact ⟨_, rfl, Hub.Stores.announceRealign fit.eventAt⟩
  | switchCommit _ _ _ => exact ⟨_, rfl, Hub.Stores.settleMove fit.event⟩
  | gridRegistration _ => exact execGridRegistration_canonical fit
  | realignExecute _ => exact ⟨_, rfl, fit.ifActive (Hub.Stores.ite fit.realign fit)⟩
  | fabricEventRelease _ => exact ⟨_, rfl, Hub.Stores.ite fit.releaseHeld fit⟩
  | windowOpen _ _ _ | lookupScrub _ _ _ _ => exact ⟨_, rfl, Hub.Stores.ite fit.onPlane fit⟩
  | windowEvaluation _ _ _ | coincidenceEvaluation _ _ _ _ => exact ⟨_, rfl, Hub.Stores.ite (Hub.Stores.emitOpt fit.setPlane) fit⟩
  | prescalerPulse _ _ _ => exact ⟨_, rfl, Hub.Stores.ite fit.prescale fit⟩
  | crossPlaneCapture _ _ _ _ => exact execCrossPlaneCapture_canonical fit
  | chimneyCrossingRelease _ _ _ _ _ => exact ⟨_, rfl, Hub.Stores.ite fit.releaseCrossed fit⟩
  | joinCommand _ _ => exact ⟨_, rfl, fit.joinCmd⟩
  | joinAnnounce => exact ⟨_, rfl, Hub.Stores.ite fit.announce fit⟩
  | joinComplete _ => exact ⟨_, rfl, Hub.Stores.ite fit.completeJoin fit⟩
  | joinAbandon => exact ⟨_, rfl, Hub.Stores.ite fit.abandonJoin fit⟩
  | leaveCommand _ => exact ⟨_, rfl, fit.leaveCmd⟩
  | leaveEffect | chimneyLoss => exact ⟨_, rfl, Hub.Stores.ite fit.separate fit⟩
  | chimneyPortState _ _ => exact ⟨_, rfl, Hub.Stores.ite fit.chimneySees fit⟩
  | chimneySwitchOver _ => exact ⟨_, rfl, Hub.Stores.ite fit.switchOver fit⟩
  | tunnelWriteApply _ _ => exact ⟨_, rfl, Hub.Stores.ite fit.tunnelArrive fit⟩
  | lane3ScheduledAction _ _ => exact ⟨_, rfl, Hub.Stores.ite (Hub.Stores.lane3 (Hub.Stores.ite fit.ucount fit)) fit⟩
  | eraseComplete => exact ⟨_, rfl, Hub.Stores.ite fit.endErase fit⟩
  | cfgdataBlockWrite _ _ _ => exact ⟨_, rfl, Hub.Stores.ite (fit.judged (Hub.Stores.modPort fit.bufferBlock)) (Hub.Stores.ite fit fit)⟩
  | blockProgramComplete _ => exact ⟨_, rfl, Hub.Stores.ite fit.programBlock fit⟩
  | verificationComplete _ => exact ⟨_, rfl, Hub.Stores.ite fit.endVerify fit⟩
  | reloadF0 _ => exact ⟨_, rfl, Hub.Stores.ite fit.reachF0 fit⟩
  | reloadF1 _ => exact ⟨_, rfl, Hub.Stores.ite fit.reachF1 fit⟩
  | transactionStart _ => exact ⟨_, rfl, fit.start⟩
  | transactionComplete _ _ => exact ⟨_, rfl, Hub.Stores.ite (Hub.Stores.endTx fit.modPort) fit⟩
  | hostRegisterWrite _ _ _ _ => exact execHostRegisterWrite_canonical fit
  | scheduledTransaction _ _ _ _ => exact ⟨_, rfl, Hub.Stores.ite fit.schedule fit⟩
  | schedApply _ _ _ => exact ⟨_, rfl, Hub.Stores.ite fit.applySched fit⟩
  | schedCancel _ _ => exact ⟨_, rfl, fit.cancelWord⟩
  | lineStuckDetect _ _ => exact ⟨_, rfl, Hub.Stores.ite (Hub.Stores.when fit.setStuck fun t => t.releaseDrive) fit⟩
  | lineStuckClear _ _ => exact ⟨_, rfl, Hub.Stores.ite fit.setStuck fit⟩
  | busRecover _ _ _ => exact ⟨_, rfl, fit.unitWrite fit.recover⟩
  | portTest _ _ _ => exact ⟨_, rfl, fit.unitWrite fit.testPort⟩
  | ownershipTimeout _ => exact ⟨_, rfl, Hub.Stores.ite fit.endOwner fit⟩
  | queueThresholdWrite _ _ _ => exact execQueueThresholdWrite_canonical fit
  | faultReaction _ => exact ⟨_, rfl, fit.ifActive fit.react⟩
  | collectorParityFault _ _ => exact execCollectorParityFault_canonical fit
  | stickyClear _ _ => exact ⟨_, rfl, Hub.Stores.ite (fit.hostWrite fit.clearPlaneSticky) (fit.unitWrite fit.clearUnitSticky)⟩
  | severityWrite _ _ _ => exact ⟨_, rfl, Hub.Stores.ite (fit.hostWrite fit.setSev) (fit.unitWrite fit.setUSev)⟩
  | snapshotRequest _ _ => exact ⟨_, rfl, fit.unitWrite fit.requestSince⟩
  | snapshotCapture => exact execSnapshotCapture_canonical fit
  | nvRead _ _ => exact ⟨_, rfl, Hub.Stores.nvRead (Hub.Stores.modPort (Hub.Stores.ite fit fit))⟩
  | nvWrite _ _ => exact ⟨_, rfl, fit.modPort.nvWrite⟩
  | nvProgramComplete _ _ => exact execNvProgramComplete_canonical fit
  | nvKey _ _ => exact ⟨_, rfl, fit.modPort.nvKey⟩
  | nvPasswordChange _ _ => exact ⟨_, rfl, fit.modPort.nvPassword⟩
  | pageReload _ => exact ⟨_, rfl, Hub.Stores.ite ⟨Nv.setRam_wf fit.1 _ _, fit.2⟩ fit⟩
  | hubPageWrite _ _ _ _ => exact ⟨_, rfl, Hub.Stores.ite fit.hubPage fit⟩
  | authStart _ _ => exact ⟨_, rfl, fit.unitWrite fit.startSigning⟩
  | signingComplete => exact ⟨_, rfl, Hub.Stores.ite fit.endSigning fit⟩
  | standbyDrainComplete _ => exact ⟨_, rfl, fit.ifActive (Hub.Stores.ite fit.reachStandby fit)⟩
  | planeClockRestart _ => exact ⟨_, rfl, Hub.Stores.ite fit.startPlane fit⟩
  | unitStandbyEnter _ => exact ⟨_, rfl, fit.unitWrite fit.unitEnter⟩
  | unitStandbyLeave _ => exact ⟨_, rfl, fit.unitWrite (Hub.Stores.ite fit.unitLeave fit)⟩
  | feedJudgement _ _ => exact ⟨_, rfl, Hub.Stores.ite fit.judgeFeed fit⟩
  | fanSpeedCheck _ _ _ => exact ⟨_, rfl, Hub.Stores.ite fit.checkFan fit⟩
  | environmentSample _ => exact ⟨_, rfl, Hub.Stores.ite fit.sampleEnv fit⟩
  | securityElementTimeout =>
    exact ⟨_, rfl, Hub.Stores.ite fit (Hub.Stores.ite fit.signFails (Hub.Stores.setUDet (Hub.Stores.withAuth fit)))⟩
  | shortBrokenRun _ => exact execShortBrokenRun_canonical fit

end

theorem step_canonical {s t : State} (next : step s = .next t) (fit : s.hub.Stores Canonical) : t.hub.Stores Canonical := by
  cases e : s.pending with
  | nil =>
    simp only [step, e] at next
    injection next with next
    rw [← next]; exact fit
  | cons c rest =>
    simp only [step, e] at next
    obtain ⟨k, hk, kfit⟩ := exec_canonical (s := { s with pending := rest }) fit c
    rw [hk] at next
    injection next with next
    rw [← next]; exact kfit

end Sys2Proof.Machine
end

section
/-! THEOREM. Every step keeps the memories in canonical form. -/

open Sys2Proof Sys2Proof.Machine

/-- Settles O5: only a programming operation, a reload and Kindling write a page, and only an erase and a programmed block a slot; each of
them writes byte by byte or begins empty, and both keep the canonical form. -/
theorem everyStepKeepsTheMemoriesCanonical : Obligations.EveryStepKeepsTheMemoriesCanonical :=
  fun _ _ next fit => step_canonical next fit

end

section
/-! SUPPORT. What the image commands, a block and a verification leave in the image state. -/

namespace Sys2Proof.Machine

/-! ### The image state through the shared operations -/

@[simp] theorem Hub.rejectImage_cfg (h : Hub) (i : Fin 2) (n : Nat) : (h.rejectImage i n).cfg = h.cfg :=
  Hub.Stores.rejectImage (P := fun _ c => c = h.cfg) rfl

@[simp] theorem Hub.acceptImage_cfg (h : Hub) : h.acceptImage.cfg = h.cfg := Hub.Stores.acceptImage (P := fun _ c => c = h.cfg) rfl

@[simp] theorem Hub.startWaiting_cfg (h : Hub) : h.startWaiting.cfg = h.cfg := Hub.Stores.startWaiting (P := fun _ c => c = h.cfg) rfl

@[simp] theorem Hub.ends_cfg (h : Hub) (n : Nat) : (h.ends n).cfg = { h.cfg with result := BitVec.ofNat 4 n } := rfl

@[simp] theorem Hub.modCfg_cfg (h : Hub) (f : Cfg → Cfg) : (h.modCfg f).cfg = f h.cfg := rfl

@[simp] theorem Hub.modSlot_slot (h : Hub) (i : Fin 2) (f : Slot → Slot) : (h.modSlot i f).cfg.slot[i.val] = f h.cfg.slot[i.val] :=
  upd_get_same _ _ _

/-- The end of a command sets UCAUSE bit 2 in every port (R362). -/
theorem Hub.ends_ucause (h : Hub) (n : Nat) (q : PortId) : bitAt ((h.ends n).port q).ucause 2 = true := by
  obtain ⟨-, ports⟩ := Hub.ucause_only (h.modCfg fun c => { c with result := BitVec.ofNat 4 n }) 2
  obtain ⟨m, k, e⟩ := ports q
  rw [Hub.ends, e, BitVec.or_comm]
  exact bitAt_or _ (by decide)

/-! ### The commands of CFGCTL -/

section
variable {s : State} {q : PortId} {i : Fin 2}

/-- A command that nothing refuses takes effect. -/
theorem Hub.cfgCommand_accept {h : Hub} (on : h.powered = true) (a : BitVec 7) (c : CfgCmd) (why : h.cfgReason q c = .none) :
    h.cfgCommand q a c = h.cfgEffect q c :=
  Hub.judged_none on q a _ why _

/-- The IMAGE right and a state that allows the command are all it needs (R299). -/
theorem Hub.imageReason_none {h : Hub} {state : Bool} (right : (h.grants q).image = true) (free : state = false) :
    h.imageReason q state = .none := by
  simp [Hub.imageReason, firstReason_none, right, free]

theorem imageErase_begins (on : s.hub.powered = true) (right : (s.hub.grants q).image = true) (free : s.hub.eraseBarred i = false) :
    Completes (.imageErase q i) s fun h =>
      h.cfg.slot[i.val].erased = false ∧ h.cfg.slot[i.val].verified = false ∧ i ∈ h.cfg.erasing ∧ h.cfg.result = 1 := by
  refine ⟨_, rfl, ?_⟩
  rw [Hub.cfgCommand_accept on _ (.erase i) (Hub.imageReason_none right free)]
  have slot : (s.hub.startErase i).cfg.slot[i.val] = { s.hub.cfg.slot[i.val] with erased := false, verified := false, file := none } :=
    Hub.modSlot_slot _ _ _
  have listed : i ∈ (s.hub.startErase i).cfg.erasing := by
    simp only [Hub.startErase, Hub.modCfg_cfg]
    split
    · rename_i running
      simpa using running
    · simp
  exact ⟨by rw [Hub.cfgEffect, slot], by rw [Hub.cfgEffect, slot], listed, rfl⟩

theorem imageOpen_gives (on : s.hub.powered = true) (right : (s.hub.grants q).image = true) (free : s.hub.openBarred q i = false) :
    Completes (.imageOpen q i) s fun h => h.cfg.openBy = some (q, i) ∧ h.cfg.result = 2 := by
  refine ⟨_, rfl, ?_⟩
  rw [Hub.cfgCommand_accept on _ (.openSlot i) (Hub.imageReason_none right free)]
  exact ⟨rfl, rfl⟩

theorem imageClose_verifies (on : s.hub.powered = true) (right : (s.hub.grants q).image = true) (held : s.hub.holdsOpen q = some i) :
    Completes (.imageClose q) s fun h => h.cfg.openBy = none ∧ h.cfg.verifying = s.hub.cfg.verifying ++ [i] := by
  refine ⟨_, rfl, ?_⟩
  rw [Hub.cfgCommand_accept on _ .close (Hub.imageReason_none right (by rw [held]; rfl))]
  simp only [Hub.cfgEffect, Hub.closeSlot, held]
  exact ⟨rfl, rfl⟩

/-- The boot record names the slot, and page 120 waits to be written (R434). -/
theorem Hub.bootSlot_cfg (h : Hub) (i : Fin 2) :
    (h.bootSlot i).cfg = { h.cfg with boot := i, boots := h.cfg.boots + 1, lastCmd := 4, result := 2 } := by
  simp only [Hub.bootSlot, Hub.ends_cfg]
  split <;> rfl

theorem imageBoot_names (on : s.hub.powered = true) (right : (s.hub.grants q).image = true)
    (whole : s.hub.cfg.slot[i.val].verified = true) :
    Completes (.imageBoot q i) s fun h => h.cfg.boot = i ∧ h.cfg.result = 2 ∧ h.cfg.boots = s.hub.cfg.boots + 1 := by
  refine ⟨_, rfl, ?_⟩
  rw [Hub.cfgCommand_accept on _ (.boot i) (Hub.imageReason_none right (by rw [whole]; rfl))]
  simp only [Hub.startWaiting_cfg, Hub.cfgEffect, Hub.bootSlot_cfg, and_self]

/-! ### The end of an erase, and the blocks of a stream -/

theorem eraseComplete_erases {rest : List (Fin 2)} (on : s.hub.powered = true) (running : s.hub.cfg.erasing = i :: rest) :
    Completes .eraseComplete s fun h =>
      h.cfg.slot[i.val].erased = true ∧ (∀ a : Fin 8388608, h.cfg.slot[i.val].mem.read a.val = 0xFF) ∧ h.cfg.erasing = rest ∧
      h.cfg.result = 2 ∧ ∀ q : PortId, bitAt (h.port q).ucause 2 = true := by
  refine ⟨_, rfl, ?_⟩
  simp only [on, if_true, Hub.endErase, running]
  have slot : ((((s.hub.modCfg fun c => { c with erasing := rest }).modSlot i fun _ => { erased := true, known := true }).ends 2).cfg.slot[i.val]) =
      { erased := true, known := true } := Hub.modSlot_slot _ _ _
  exact ⟨by rw [slot], fun a => by rw [slot]; rfl, rfl, rfl, Hub.ends_ucause _ 2⟩

/-- A block of a length that R300 allows, for a slot that the port holds open, into a buffer that is free, is not refused. -/
theorem Hub.blockReason_accept {h : Hub} {b n : Nat} (right : (h.grants q).image = true) (held : h.holdsOpen q = some i)
    (fresh : h.blockUsed i b = false) (filled : 0 < n) (fits : n ≤ 256) (words : n % 4 = 0) (room : (h.port q).blocks.length < 2) :
    h.blockReason q b n = .none := by
  have length : (decide (256 < n) || n == 0 || n % 4 != 0) = false := by simp; omega
  rw [Hub.blockReason, held, length]
  simp only [right, fresh, firstReason_none, Bool.not_true, Bool.false_or, decide_eq_false_iff_not, not_le, true_and]
  exact room

/-- An index that advances changes a window of the port, and windows are all it looks at. -/
theorem Port.nextBlock_only (x : Port) (o : Fin 8) (b : BitVec 20) (l : List (Fin 2 × Nat × List Byte)) :
    ({ x with blocks := l } : Port).nextBlock o b = { x with blocks := l, wsel := (x.nextBlock o b).wsel } := by
  unfold Port.nextBlock; dsimp only; split <;> rfl

theorem Port.blockTaken_only (x : Port) (b : BitVec 20) (l : List (Fin 2 × Nat × List Byte)) :
    ({ x with blocks := l } : Port).blockTaken b = { x with blocks := l, wsel := (x.blockTaken b).wsel } := by
  unfold Port.blockTaken; dsimp only; split
  · rfl
  · exact Port.nextBlock_only x _ b l

theorem blockWrite_waits {b : Fin 32768} {data : List Byte} (on : s.hub.powered = true) (right : (s.hub.grants q).image = true)
    (held : s.hub.holdsOpen q = some i) (fresh : s.hub.blockUsed i b.val = false) (filled : 0 < data.length) (fits : data.length ≤ 256)
    (words : data.length % 4 = 0) (room : (s.hub.port q).blocks.length < 2) :
    Completes (.cfgdataBlockWrite q b data) s fun h =>
      (h.port q).blocks = (s.hub.port q).blocks ++ [(i, b.val, data)] ∧
      (h.port q).wsel = ((s.hub.port q).blockTaken (BitVec.ofNat 20 b.val)).wsel ∧ (h.port q).ref = (s.hub.port q).ref := by
  refine ⟨_, rfl, ?_⟩
  rw [if_pos room, Hub.judged_none on _ _ _ (Hub.blockReason_accept right held fresh filled fits words room)]
  simp only [Hub.bufferBlock, held, Hub.modPort_port, Port.blockTaken_only, and_self]

theorem blockWrite_unanswered {b : Fin 32768} {data : List Byte} (on : s.hub.powered = true) (full : 2 ≤ (s.hub.port q).blocks.length) :
    Completes (.cfgdataBlockWrite q b data) s fun h =>
      (h.port q).blocks = (s.hub.port q).blocks ∧ (h.port q).wsel = (s.hub.port q).wsel ∧
      (h.port q).ref.reason = (if (s.hub.port q).ref.count = 0 then .void else (s.hub.port q).ref.reason) := by
  refine ⟨_, rfl, ?_⟩
  rw [if_neg (not_lt.2 full), if_pos on]
  simp only [Hub.refuse, Hub.modPort_port]
  exact ⟨rfl, rfl, rfl⟩

theorem blockProgramComplete_programs {b : Nat} {data : List Byte} {rest : List (Fin 2 × Nat × List Byte)} (on : s.hub.powered = true)
    (waits : (s.hub.port q).blocks = (i, b, data) :: rest) :
    Completes (.blockProgramComplete q) s fun h =>
      (h.port q).blocks = rest ∧ h.cfg.slot[i.val].mem = s.hub.cfg.slot[i.val].mem.writeBytes (256 * b) data ∧
      b ∈ h.cfg.slot[i.val].blocks := by
  refine ⟨_, rfl, ?_⟩
  rw [if_pos on]
  have port : (s.hub.programBlock q).port q = { s.hub.port q with blocks := rest } := by
    rw [Hub.programBlock, waits]; exact Hub.modPort_port _ _ _
  have slot : (s.hub.programBlock q).cfg.slot[i.val] = { s.hub.cfg.slot[i.val] with
      mem := s.hub.cfg.slot[i.val].mem.writeBytes (256 * b) data, blocks := s.hub.cfg.slot[i.val].blocks ++ [b], erased := false } := by
    rw [Hub.programBlock, waits]; exact Hub.modSlot_slot _ _ _
  exact ⟨by rw [port], by rw [slot], by rw [slot]; simp⟩

/-! ### Verification -/

theorem verificationComplete_judges {rest : List (Fin 2)} (on : s.hub.powered = true) (running : s.hub.cfg.verifying = i :: rest)
    (f : ImageFile) :
    Completes (.verificationComplete (.bytes f)) s fun h =>
      let g := s.hub.cfg.slot[i.val].parse f
      h.cfg.verifying = rest ∧
      (s.hub.checkImage g = 0 → h.cfg.slot[i.val].verified = true ∧ h.cfg.slot[i.val].file = some g ∧ h.cfg.result = 2) ∧
      (s.hub.checkImage g ≠ 0 → h.cfg.slot[i.val].verified = s.hub.cfg.slot[i.val].verified ∧
        h.cfg.result = BitVec.ofNat 4 (s.hub.checkImage g)) := by
  refine ⟨_, rfl, ?_⟩
  rw [if_pos on, Hub.endVerify, running]
  dsimp only
  have check : ∀ g, (s.hub.modCfg fun c => { c with verifying := rest }).checkImage g = s.hub.checkImage g := fun _ => rfl
  rw [Hub.modCfg_cfg, check]
  by_cases whole : s.hub.checkImage (s.hub.cfg.slot[i.val].parse f) = 0
  · rw [if_pos whole, Hub.ends_cfg, Hub.acceptImage_cfg]
    exact ⟨rfl, fun _ => ⟨by rw [Hub.modSlot_slot], by rw [Hub.modSlot_slot], rfl⟩, fun bad => absurd whole bad⟩
  · rw [if_neg whole, Hub.ends_cfg, Hub.rejectImage_cfg]
    exact ⟨rfl, fun good => absurd good whole, fun _ => ⟨by rw [Hub.modSlot_slot]; rfl, rfl⟩⟩

theorem verificationComplete_readError {rest : List (Fin 2)} (on : s.hub.powered = true) (running : s.hub.cfg.verifying = i :: rest) :
    Completes (.verificationComplete .readError) s fun h =>
      h.cfg.verifying = rest ∧ h.cfg.slot = s.hub.cfg.slot ∧ h.cfg.result = 7 := by
  refine ⟨_, rfl, ?_⟩
  rw [if_pos on, Hub.endVerify, running]
  dsimp only
  rw [Hub.ends_cfg, Hub.rejectImage_cfg]
  exact ⟨rfl, rfl, rfl⟩

end

end Sys2Proof.Machine
end

section
/-! THEOREM. The commands that fill a slot. -/

open Sys2Proof Sys2Proof.Machine

/-- Settles O49: a command that nothing refuses leaves in the image state what its operation sets there, which the entries and the causes
that go with it keep. -/
theorem slotCommandsComplete : Obligations.SlotCommandsComplete := by
  refine ⟨⟨fun s q i on right free => imageErase_begins on right free,
    fun s on => ⟨fun i rest running => eraseComplete_erases on running, fun idle => ⟨_, rfl, ?_⟩⟩,
    fun s q i on right free => imageOpen_gives on right free⟩,
    fun s q i b data on => ⟨fun right held fresh filled fits words room => blockWrite_waits on right held fresh filled fits words room,
      fun full => blockWrite_unanswered on full⟩,
    fun s q i b data rest on waits => blockProgramComplete_programs on waits,
    fun s q i on right held => imageClose_verifies on right held,
    fun s i rest on running => ⟨fun f => verificationComplete_judges on running f, verificationComplete_readError on running⟩,
    fun s q i on right whole => imageBoot_names on right whole⟩
  rw [if_pos on, Hub.endErase, idle]

end

section
/-! SUPPORT. What the ends of ownerships, the discard of scheduled words and the outliers leave of a plane, read through any view that the
records and the sources they write do not change. -/

namespace Sys2Proof.Machine

section
variable {α : Type} {π : Plane → α} (h : Hub)

theorem Hub.foldl_view {β : Type} {f : Hub → β → Hub} {r : PlaneId} (keeps : ∀ g b, π ((f g b).plane r) = π (g.plane r)) (l : List β) :
    π ((l.foldl f h).plane r) = π (h.plane r) :=
  List.foldlRecOn (motive := fun g : Hub => π (g.plane r) = π (h.plane r)) l f rfl fun g hg b _ => (keeps g b).trans hg

theorem Hub.modPlane_view (p : PlaneId) {f : Plane → Plane} (keeps : ∀ x, π (f x) = π x) (r : PlaneId) :
    π ((h.modPlane p f).plane r) = π (h.plane r) := by
  by_cases e : r = p
  · rw [e, Hub.modPlane_plane, keeps]
  · rw [Hub.modPlane_plane_ne h f e]

/-- A view that the sources of a plane do not change is that of an outlier too. -/
theorem Hub.judgeOutliers_view (dets : ∀ x n b, π (Plane.setDet x n b) = π x) (r : PlaneId) :
    π (h.judgeOutliers.plane r) = π (h.plane r) := by
  have judged (p : PlaneId) (b : Bool) (x : Plane) : π (if h.active p then x.setDet 14 b else x) = π x := by
    split
    · exact dets x 14 b
    · rfl
  cases r <;> exact judged _ _ _

section
variable (sends : ∀ x r, π (Plane.send x r) = π x)
include sends

theorem Hub.causeIn_view (q : PortId) (p : PlaneId) (bit : Nat) (r : PlaneId) : π ((h.causeIn q p bit).plane r) = π (h.plane r) := by
  have sent := h.modPlane_view p (sends · (.cause bit)) r
  unfold Hub.causeIn; dsimp only
  split
  · split <;> exact sent
  · rfl

theorem Hub.logPort_view (p : PlaneId) (type : Byte) (q : PortId) (w : Word) (r : PlaneId) :
    π ((h.logPort p type q w).plane r) = π (h.plane r) :=
  h.modPlane_view p (fun x => sends x _) r

theorem Hub.causeAt_view (q : PortId) (off : Fin 8) (bit : Nat) (r : PlaneId) : π ((h.causeAt q off bit).plane r) = π (h.plane r) := by
  unfold Hub.causeAt; split
  · exact h.causeIn_view sends q _ bit r
  · rfl

theorem Hub.schedLost_view (q : PortId) (p : PlaneId) (s : Sched) (r : PlaneId) : π ((h.schedLost q p s).plane r) = π (h.plane r) :=
  (Hub.causeAt_view _ sends q s.off 14 r).trans (Hub.logPort_view _ sends p 0x52 q s.tag r)

theorem Hub.discardScheds_view (p r : PlaneId) : π ((h.discardScheds p).plane r) = π (h.plane r) :=
  h.foldl_view (fun g q => (Hub.foldl_view _ (fun k s => k.schedLost_view sends q p s r) _ : π ((g.discardSchedsOf p q).plane r) = _)) _

theorem Hub.endOwner_view (owner : ∀ x o, π { x with owner := o } = π x) (p : PlaneId) (code : Nat) (r : PlaneId) :
    π ((h.endOwner p code).plane r) = π (h.plane r) := by
  unfold Hub.endOwner; split
  · rfl
  · refine (Hub.foldl_view _ (fun g q => ?_) _).trans
      ((Hub.logPort_view _ sends p 0x51 _ _ r).trans (h.modPlane_view p (fun x => owner x none) r))
    split
    · rfl
    · exact g.causeIn_view sends q p 17 r

end

end

end Sys2Proof.Machine
end

section
/-! SUPPORT. F₀ of a plane: its fabric is off, no switch is pending, and it is in the reload that its clock plan says (R303). -/

namespace Sys2Proof.Machine

section
variable (x : Plane) (p : PlaneId) (v : Int)

@[simp] theorem Plane.setLoop_fab (st : LoopState) : (x.setLoop st).fab = x.fab := by
  obtain ⟨ev, rl, al, ws, la, eb, g, h, n, r, f, e, -, -⟩ := Plane.setLoop_only x st
  rw [e]

@[simp] theorem Plane.discardResid_fab : (x.discardResid p).fab = x.fab := by
  unfold Plane.discardResid; split
  · rfl
  · exact (Plane.log_fab ..).trans (Plane.history_fab ..)

@[simp] theorem Plane.holdSteer_fab : (x.holdSteer v).fab = x.fab := by unfold Plane.holdSteer; split <;> rfl
@[simp] theorem Plane.steerHeld_fab : x.steerHeld.fab = x.fab := by unfold Plane.steerHeld; split <;> rfl
@[simp] theorem Plane.takeHoldover_fab : x.takeHoldover.fab = x.fab := by unfold Plane.takeHoldover; (repeat' split) <;> rfl
@[simp] theorem Plane.noActive_fab : x.noActive.fab = x.fab := rfl

@[simp] theorem Plane.toEmber_fab : (x.toEmber p v).fab = x.fab := by
  unfold Plane.toEmber; dsimp only; split <;> simp

/-- The fabric goes offline, and no later part of F₀ starts it. -/
theorem Plane.beginReload_online : (x.beginReload p v).fab.online = false := by
  simp only [Plane.beginReload]
  split
  · rw [Plane.toEmber_fab]; rfl
  · rw [Plane.toEmber_fab]; rfl
  · rw [Plane.toEmber_fab]; rfl
  · rfl
  · rfl
  · rfl

theorem Plane.beginReload_sw : (x.beginReload p v).sel.sw = none :=
  (Plane.Sound.beginReload (μ := False) (σ := False) (ι := False) ⟨nofun, fun _ => ⟨nofun, nofun⟩⟩).sw_none

/-- Where the clock plan changes, the outputs stop, the links go off and the queues are emptied (R303). -/
theorem Plane.stopped_only : ∃ ck pu out link gq cnt, x.haltOutputs.darkenLinks.emptyQueues =
    { x with ck := ck, pu := pu, trigOut := out, link := link, gq := gq, cnt := cnt } := by
  have halted : ∃ ck, (List.finRange 16).foldl (fun (z : Plane) n => z.modCk n fun c => { c with halted := true }) x = { x with ck := ck } :=
    List.foldlRecOn (motive := fun z => ∃ ck, z = { x with ck := ck }) _ _ ⟨_, rfl⟩ fun z hz n _ => by
      obtain ⟨ck, rfl⟩ := hz
      exact ⟨_, rfl⟩
  obtain ⟨ck, e⟩ := halted
  unfold Plane.haltOutputs
  rw [e]
  exact ⟨_, _, _, _, _, _, rfl⟩

theorem Plane.atF0_eq (keep : Bool) : (x.atF0 p v keep).power = (if keep then .reloadKeep else .reloadChange) ∧
    (x.atF0 p v keep).fab.online = false ∧ (x.atF0 p v keep).sel.sw = none := by
  have offline := x.beginReload_online p v
  have quiet := x.beginReload_sw p v
  unfold Plane.atF0; split
  · exact ⟨rfl, offline, quiet⟩
  · obtain ⟨ck, pu, out, link, gq, cnt, e⟩ := (x.beginReload p v).stopped_only
    rw [e]
    exact ⟨rfl, offline, quiet⟩

end

end Sys2Proof.Machine
end

section
/-! SUPPORT. F₁ of a plane: the section, the digests and the power that it stands with, through everything that F₁ does (R303 to R305). -/

namespace Sys2Proof.Machine

/-- Where a plane stands with its images: its power, the load that names it, its digests and the section in force. -/
structure Standing where
  power : Power
  next : Option (Fin 2 × PortId)
  sdig : BitVec 256
  idig : BitVec 256
  sect : PlaneDecl

/-- Where a plane stands with its images. -/
@[reducible] def Plane.standing (x : Plane) : Standing := ⟨x.power, x.next, x.sdig, x.idig, x.sect⟩

/-- Where a plane stands has the property P. -/
@[reducible] def Plane.Stands (P : Standing → Prop) (x : Plane) : Prop := P x.standing

/-! ### Operations that keep the standing -/

section
variable {P : Standing → Prop} {x y : Plane} {p : PlaneId} {l : Fin 32} {v : Int} {c : Prop} {d : Decidable c}

theorem Plane.Stands.ite (hx : x.Stands P) (hy : y.Stands P) : (if c then x else y).Stands P := by
  split
  · exact hx
  · exact hy

theorem Plane.Stands.when (hx : x.Stands P) (hy : x.Stands P → y.Stands P) : (if c then y else x).Stands P := (hy hx).ite hx

theorem Plane.Stands.foldl {α : Type} {f : Plane → α → Plane} {l : List α}
    (hf : ∀ (z : Plane) (a : α), z.Stands P → (f z a).Stands P) (h : x.Stands P) : (l.foldl f x).Stands P :=
  List.foldlRecOn (motive := Plane.Stands P) l f h fun z hz a _ => hf z a hz

theorem Plane.Stands.send {r : OutRec} (h : x.Stands P) : (x.send r).Stands P := Plane.Stands.ite h (Plane.Stands.ite h h)
theorem Plane.Stands.log {type : Byte} {data : Vector Word 4} (h : x.Stands P) : (x.log p type data).Stands P := h.send
theorem Plane.Stands.history {b : Nat} (h : x.Stands P) : (x.history b).Stands P := Plane.Stands.ite h h
theorem Plane.Stands.modLink {f : Link → Link} (h : x.Stands P) : (x.modLink l f).Stands P := h
theorem Plane.Stands.raise {bit : Nat} (h : x.Stands P) : (x.raise bit).Stands P := h
theorem Plane.Stands.freshConfig (h : x.Stands P) : x.freshConfig.Stands P := h
theorem Plane.Stands.imageGens (h : x.Stands P) : x.imageGens.Stands P := h
theorem Plane.Stands.setDet {n : Fin 64} {b : Bool} (h : x.Stands P) : (x.setDet n b).Stands P := h
theorem Plane.Stands.linkSources (h : x.Stands P) : x.linkSources.Stands P := Plane.Stands.setDet (Plane.Stands.setDet (Plane.Stands.setDet h))

theorem Plane.Stands.setLoop {st : LoopState} (h : x.Stands P) : (x.setLoop st).Stands P := by
  obtain ⟨ev, rl, al, ws, la, eb, g, k, n, r, f, e, -, -⟩ := Plane.setLoop_only x st
  rw [e]; exact h

theorem Plane.Stands.discardResid (h : x.Stands P) : (x.discardResid p).Stands P :=
  Plane.Stands.ite h (Plane.Stands.log (Plane.Stands.history h))

theorem Plane.Stands.holdSteer (h : x.Stands P) : (x.holdSteer v).Stands P := Plane.Stands.ite h h
theorem Plane.Stands.steerHeld (h : x.Stands P) : x.steerHeld.Stands P := Plane.Stands.ite h h

theorem Plane.Stands.takeHoldover (h : x.Stands P) : x.takeHoldover.Stands P := by
  unfold Plane.takeHoldover; split
  · exact h
  · exact h
  · exact h
  · split <;> exact h

theorem Plane.Stands.noActive (h : x.Stands P) : x.noActive.Stands P := h

theorem Plane.Stands.toEmber (h : x.Stands P) : (x.toEmber p v).Stands P := by
  have left := h.holdSteer (v := v) |>.takeHoldover.noActive
  simp only [Plane.toEmber]; split
  · exact left.discardResid.setLoop.steerHeld.log
  · exact left.setLoop

theorem Plane.Stands.resumeSoft (h : x.Stands P) : (x.resumeSoft p).Stands P := by
  unfold Plane.resumeSoft; split
  · exact Plane.Stands.setLoop (Plane.Stands.discardResid h)
  · exact h

theorem Plane.Stands.abandonSwitch (h : x.Stands P) : (x.abandonSwitch p).Stands P := by
  obtain ⟨w, o, c, e, -⟩ := SwitchOnly.abandonSwitch x p
  rw [e]; exact h

theorem Plane.Stands.endForced (h : x.Stands P) : (x.endForced p).Stands P := h.when fun t => Plane.Stands.resumeSoft t

theorem Plane.Stands.forceEmber (h : x.Stands P) : (x.forceEmber p v).Stands P := by
  have forced : (({ x with loop := { x.loop with forced := true } }.history 8).abandonSwitch p).Stands P :=
    Plane.Stands.abandonSwitch (Plane.Stands.history h)
  simp only [Plane.forceEmber]; split
  · exact h
  · split
    · exact forced.toEmber
    · exact forced.toEmber
    · exact forced.toEmber
    · exact forced
    · exact forced
    · exact forced

theorem Plane.Stands.refsChanged (h : x.Stands P) : (x.refsChanged p).Stands P := by
  obtain ⟨m, d, w, f, o, c, e, -⟩ := Plane.refsChanged_only x p
  rw [e]; exact h

theorem Plane.Stands.holdRefs (h : x.Stands P) : (x.holdRefs p).Stands P := Plane.Stands.refsChanged h

theorem Plane.Stands.enterLink {st : LinkState} (h : x.Stands P) : (x.enterLink l st).Stands P := by
  simp only [Plane.enterLink]
  exact Plane.Stands.when (Plane.Stands.when h.modLink fun t => t.modLink) fun t => Plane.Stands.foldl (fun _ _ t => t.when fun t => t) t

theorem Plane.Stands.setLink {st : LinkState} (h : x.Stands P) : (x.setLink l st).Stands P := h.enterLink.linkSources

theorem Plane.Stands.lightLinks (h : x.Stands P) : x.lightLinks.Stands P :=
  (Plane.Stands.foldl (fun _ _ t => t.when fun t => t.enterLink) h).linkSources

theorem Plane.Stands.relight (h : x.Stands P) : x.relight.Stands P := by
  simp only [Plane.relight]
  exact Plane.Stands.when (Plane.Stands.foldl (fun _ _ t => t.when fun t => t.setLink) h) fun t => t.lightLinks

theorem Plane.Stands.monitorStart {year : Nat} (h : x.Stands P) : (x.monitorStart year).Stands P := by
  simp only [Plane.monitorStart]; exact Plane.Stands.setDet (Plane.Stands.foldl (fun _ _ t => t) h)

theorem Plane.Stands.applyGen {g : Fin 8} {s : GenSet} (h : x.Stands P) : (x.applyGen g s).Stands P :=
  Plane.Stands.ite h (Plane.Stands.ite h h)

theorem Plane.Stands.reloadGens {old : PlaneDecl} {same : Bool} (h : x.Stands P) : (x.reloadGens old same).Stands P :=
  h.ite (Plane.Stands.foldl (fun _ _ t => t.applyGen.ite t) h)

end

/-! ### Operations that bring a section or let the plane run -/

section
variable {P : Standing → Prop} {x : Plane}

theorem Plane.Stands.takeSection {d : PlaneDecl} (h : P { x.standing with sect := d }) : (x.takeSection d).Stands P := by
  have settings : (x.imageCk d).Stands fun s => P { s with sect := d } := Plane.Stands.foldl (fun _ _ t => t) h
  simp only [Plane.takeSection]
  generalize x.imageCk d = y at settings ⊢
  exact settings

theorem Plane.Stands.release {year : Nat} {released : Bool} (h : P { x.standing with power := .run }) :
    (x.release year released).Stands P := by
  simp only [Plane.release]
  refine Plane.Stands.when (Plane.Stands.ite ?_ (Plane.Stands.history ?_)) fun t => t.lightLinks
  · exact Plane.Stands.monitorStart h
  · exact Plane.Stands.monitorStart h

theorem Plane.Stands.atF1 {d : PlaneDecl} {same : Bool} {year : Nat} {released : Bool}
    (h : P { x.standing with power := .run, sect := if same then x.standing.sect else d }) : (x.atF1 d same year released).Stands P := by
  have gens : ((if same then x else x.takeSection d).reloadGens x.sect same).Stands fun s => P { s with power := .run } := by
    refine Plane.Stands.reloadGens ?_
    cases same
    · exact Plane.Stands.takeSection h
    · exact h
  simp only [Plane.atF1]
  generalize (if same then x else x.takeSection d).reloadGens x.sect same = y at gens ⊢
  exact Plane.Stands.relight (Plane.Stands.monitorStart gens)

end

end Sys2Proof.Machine
end

section
/-! SUPPORT. What the hub does to a plane at F₁ (R303 to R305). -/

namespace Sys2Proof.Machine

theorem Plane.send_standing (x : Plane) (r : OutRec) : (x.send r).standing = x.standing := by simp [Plane.standing]

theorem Hub.judgeOutliers_standing (h : Hub) (p : PlaneId) : (h.judgeOutliers.plane p).standing = (h.plane p).standing :=
  h.judgeOutliers_view (π := Plane.standing) (fun _ _ _ => rfl) p

theorem Hub.ucount_plane (h : Hub) (u : Fin 32) (p : PlaneId) : (h.ucount u).plane p = h.plane p := rfl

theorem Hub.firstBank_standing (h : Hub) (p : PlaneId) : ((h.firstBank p).plane p).standing = (h.plane p).standing := by
  show ((h.planes.set p _).get p).standing = _
  rw [Tri.get_set_same]

section
variable {P : Standing → Prop} {h : Hub} {p : PlaneId} {i : Fin 2} {f : ImageFile}

theorem Plane.Stands.of_eq {x y : Plane} (e : y.standing = x.standing) (here : x.Stands P) : y.Stands P := by
  rw [Plane.Stands, e]; exact here

theorem Hub.onPlane_stands {g : Plane → Plane} (here : (g (h.plane p)).Stands P) : ((h.onPlane p g).plane p).Stands P := by
  obtain ⟨o, c, e, -⟩ := Hub.onPlane_plane h p g
  rw [e]; exact here

theorem Hub.modPlane_stands {g : Plane → Plane} (here : (g (h.plane p)).Stands P) : ((h.modPlane p g).plane p).Stands P := by
  rw [Hub.modPlane_plane]; exact here

theorem Hub.reforce_stands (here : (h.plane p).Stands P) : ((h.reforce p).plane p).Stands P := by
  unfold Hub.reforce; split
  · exact Hub.onPlane_stands (h := h.fresh.2) (Plane.Stands.forceEmber here)
  · exact Hub.onPlane_stands (Plane.Stands.endForced here)

/-- A plane that starts runs, with the images it had. -/
theorem Hub.startPlane_stands (here : (h.plane p).Stands fun s => P { s with power := .run }) : ((h.startPlane p).plane p).Stands P := by
  have released : ((h.onPlane p fun x => x.release h.udecl.b000Year h.ref3Free).plane p).Stands P :=
    Hub.onPlane_stands (Plane.Stands.release here)
  have late : (((h.onPlane p fun x => x.release h.udecl.b000Year h.ref3Free).lateUnit p).plane p).Stands P :=
    Hub.modPlane_stands released
  have compared : ((((h.onPlane p fun x => x.release h.udecl.b000Year h.ref3Free).lateUnit p).restartComparators p).plane p).Stands P :=
    Plane.Stands.of_eq (Hub.judgeOutliers_standing _ p) late
  simp only [Hub.startPlane]
  generalize ((h.onPlane p fun x => x.release h.udecl.b000Year h.ref3Free).lateUnit p).restartComparators p = k at compared ⊢
  exact Plane.Stands.of_eq (Hub.firstBank_standing _ p) (Hub.modPlane_stands (Hub.modPlane_stands compared))

/-- The unit section of a load leaves every plane its images. -/
theorem Hub.loadUnit_standing (h : Hub) (f : ImageFile) (i : Fin 2) (p : PlaneId) :
    ((h.loadUnit f i).plane p).standing = (h.plane p).standing := by
  have handed (g : Hub) (n : Fin 32) (on : Bool) : ((g.handForce n on).plane p).standing = (g.plane p).standing := by
    refine Hub.foldl_view _ (fun k r => ?_) _
    split
    · rfl
    · split
      · rfl
      · refine k.modPlane_view (π := Plane.standing) r ?_ p
        exact fun _ => rfl
  have changed (g : Hub) (before : BitVec 32) : ((g.handChanged before).plane p).standing = (g.plane p).standing := by
    refine Hub.foldl_view _ (fun k n => ?_) _
    split
    · rfl
    · exact handed k n _
  have taken : ((h.takeUnit f).plane p).standing = (h.plane p).standing := by
    simp only [Hub.takeUnit]; split
    · rfl
    · exact changed _ _
  unfold Hub.loadUnit; split
  · exact (Hub.foldl_view _ (fun g r => g.endOwner_view Plane.send_standing (fun _ _ => rfl) r 2 p) _).trans taken
  · rfl

theorem Hub.takeDigests_plane (h : Hub) (p : PlaneId) (f : ImageFile) (i : Fin 2) :
    (h.takeDigests p f i).plane p = { h.plane p with sdig := f.sdig.get p, idig := f.idig.get p } :=
  Hub.modPlane_plane h p fun x => { x with sdig := f.sdig.get p, idig := f.idig.get p }

/-- Where F₁ leaves a plane that stood so: it runs with the digests of its section, and with the section itself unless, kept, it has that
already (R303, R304). -/
def Standing.afterF1 (s : Standing) (p : PlaneId) (f : ImageFile) : Standing :=
  ⟨.run, none, f.sdig.get p, f.idig.get p, if s.power == .reloadKeep && s.sdig == f.sdig.get p then s.sect else f.planes.get p⟩

theorem Hub.takePlane_standing (h : Hub) (p : PlaneId) (i : Fin 2) (f : ImageFile) :
    ((h.takePlane p i f).plane p).standing = (h.plane p).standing.afterF1 p f := by
  have named : ((((if (h.plane p).sdig = f.sdig.get p then h else h.resetEn p).takeDigests p f i).modPlane p fun x =>
      { x with next := none }).plane p).standing = ⟨(h.plane p).power, none, f.sdig.get p, f.idig.get p, (h.plane p).sect⟩ := by
    have images : (if (h.plane p).sdig = f.sdig.get p then h else h.resetEn p).plane p = h.plane p := by split <;> rfl
    generalize (if (h.plane p).sdig = f.sdig.get p then h else h.resetEn p) = k at images ⊢
    rw [Hub.modPlane_plane, Hub.takeDigests_plane, images]
  simp only [Hub.takePlane]
  generalize ((if (h.plane p).sdig = f.sdig.get p then h else h.resetEn p).takeDigests p f i).modPlane p (fun x =>
      { x with next := none }) = k at named ⊢
  rw [Hub.ucount_plane]
  refine Hub.onPlane_stands (P := (· = _)) (Plane.Stands.log (Plane.Stands.raise (Plane.Stands.freshConfig ?_)))
  simp only [Standing.afterF1]
  cases (h.plane p).power == .reloadKeep
  · refine Hub.startPlane_stands (Hub.modPlane_stands (Plane.Stands.imageGens (Plane.Stands.takeSection ?_)))
    rw [named]; rfl
  · refine Hub.reforce_stands (Hub.onPlane_stands (Plane.Stands.holdRefs (Hub.onPlane_stands (Plane.Stands.atF1 ?_))))
    rw [named]

theorem Hub.takePlane_pslot (h : Hub) (p : PlaneId) (i : Fin 2) (f : ImageFile) : (h.takePlane p i f).cfg.pslot.get p = i := by
  have taken (g : Hub) : (g.takeDigests p f i).Stores fun _ c => c.pslot.get p = i := Tri.get_set_same ..
  simp only [Hub.takePlane]
  exact Hub.Stores.ucount (Hub.Stores.onPlane (Hub.Stores.ite
    (Hub.Stores.reforce (Hub.Stores.onPlane (Hub.Stores.onPlane (Hub.Stores.modPlane (taken _)))))
    (Hub.Stores.startPlane (Hub.Stores.modPlane (Hub.Stores.modPlane (taken _))))))

/-- The end of a load or reload leaves the planes and the slots that their sections came from. -/
theorem Hub.finishLoads_only (h : Hub) (f : ImageFile) (i : Fin 2) :
    (h.finishLoads f i).planes = h.planes ∧ (h.finishLoads f i).cfg.pslot = h.cfg.pslot := by
  have logged (k : Hub) : (k.logImage 0x10 i f).planes = k.planes ∧ (k.logImage 0x10 i f).cfg = k.cfg := by
    obtain ⟨l, c, e, q, eq, -⟩ := Hub.ulog_only k 0x10 0xFF ⟨#[BitVec.ofNat 32 i.val, BitVec.ofNat 32 ((imageDigest f).toNat / 2 ^ 224),
      BitVec.ofNat 32 ((imageDigest f).toNat / 2 ^ 192), BitVec.ofNat 32 ((imageDigest f).toNat / 2 ^ 160)], rfl⟩
    simp only [Hub.logImage, eq, and_self]
  unfold Hub.finishLoads; dsimp only
  split
  · split
    · obtain ⟨planes, cfg⟩ := logged _
      refine ⟨planes.trans ?_, (congrArg Cfg.pslot cfg).trans ?_⟩ <;> split <;> rfl
    · exact ⟨rfl, rfl⟩
  · exact ⟨rfl, rfl⟩

theorem Hub.rejudgePorts_planes (h : Hub) : h.rejudgePorts.planes = h.planes := by
  have state (k : Hub) (ch : Fin 2) (st : ChState) : (k.chimneyState ch st).planes = k.planes := by
    obtain ⟨ex, bad, good, cnt, e, -⟩ := k.chimneyState_only ch st
    rw [e]
  exact (state ..).trans (state ..)

end

end Sys2Proof.Machine
end

section
/-! SUPPORT. The two commands, and the two instants of a reload. -/

namespace Sys2Proof.Machine

/-- What LOAD and RELOAD change of a plane: the load that names it (R302, R305). -/
theorem Hub.orderLoad_plane (h : Hub) (q : PortId) (i : Fin 2) (l : List PlaneId) (p : PlaneId) :
    (h.orderLoad q i l).plane p = { h.plane p with next := if p ∈ l then some (i, q) else (h.plane p).next } := by
  induction l generalizing h with
  | nil => rfl
  | cons r rest ih =>
    show ((h.modPlane r fun x => { x with next := some (i, q) }).orderLoad q i rest).plane p = _
    rw [ih]
    by_cases e : p = r
    · subst e
      rw [Hub.modPlane_plane]
      simp
    · rw [Hub.modPlane_plane_ne h _ e]
      simp [e]

theorem PlaneId.mem_all (p : PlaneId) : p ∈ PlaneId.all := by cases p <;> decide

theorem mem_namedPlanes (w : BitVec 3) (p : PlaneId) : p ∈ namedPlanes w ↔ bitAt w (2 - p.num) = true := by
  simp [namedPlanes, PlaneId.mem_all]

theorem imageLoad_names {s : State} {q : PortId} {i : Fin 2} (on : s.hub.powered = true) (why : s.hub.loadReason q i = .none) :
    Completes (.imageLoad q i) s fun h =>
      h.cfg.load = some i ∧ (∀ p, (h.plane p).next = some (i, q)) ∧ ∀ p, (h.plane p).sect = (s.hub.plane p).sect := by
  refine ⟨_, rfl, ?_⟩
  rw [Hub.cfgCommand_accept on _ (.load i) why]
  refine ⟨rfl, fun p => ?_, fun p => ?_⟩
  · rw [Hub.cfgEffect, Hub.orderLoad_plane, if_pos (PlaneId.mem_all p)]
  · rw [Hub.cfgEffect, Hub.orderLoad_plane]
    rfl

theorem imageReload_names {s : State} {q : PortId} {i : Fin 2} {w : BitVec 3} (on : s.hub.powered = true)
    (why : s.hub.reloadReason q i w = .none) :
    Completes (.imageReload q i w) s fun h =>
      h.cfg.load = s.hub.cfg.load ∧
      ∀ p, (h.plane p).next = if bitAt w (2 - p.num) then some (i, q) else (s.hub.plane p).next := by
  refine ⟨_, rfl, ?_⟩
  rw [Hub.cfgCommand_accept on _ (.reload i w) why]
  refine ⟨Hub.Stores.orderLoad (P := fun _ c => c.load = s.hub.cfg.load) (h := s.hub.begins 6) rfl, fun p => ?_⟩
  rw [Hub.cfgEffect, Hub.orderLoad_plane]
  simp only [mem_namedPlanes]
  rfl

theorem reloadF0_enters {s : State} {p : PlaneId} {i : Fin 2} {q : PortId} (on : s.hub.powered = true)
    (named : (s.hub.plane p).next = some (i, q)) (runs : (s.hub.plane p).power = .run) (awake : (s.hub.plane p).inHusk = false) :
    Completes (.reloadF0 p) s fun h =>
      (h.plane p).power = (if s.hub.keepsPlan p i then .reloadKeep else .reloadChange) ∧
      (h.plane p).fab.online = false ∧ (h.plane p).sel.sw = none := by
  refine ⟨_, rfl, ?_⟩
  have out : (s.hub.plane p).reloading = false := by simp [Plane.reloading, runs]
  obtain ⟨power, online, sw⟩ := Plane.atF0_eq (s.hub.plane p) p s.hub.fresh.1 (s.hub.keepsPlan p i)
  simp only [on, if_true, Hub.reachF0, named, out, awake, Bool.false_and, Bool.false_eq_true, if_false]
  have sends (x : Plane) (r : OutRec) : ((x.send r).power, (x.send r).fab, (x.send r).sel) = (x.power, x.fab, x.sel) := by simp
  have kept := (Hub.judgeOutliers_view (π := fun x => (x.power, x.fab, x.sel)) _ (fun _ _ _ => rfl) p).trans
    (Hub.discardScheds_view (π := fun x => (x.power, x.fab, x.sel)) (s.hub.onPlaneFree p fun v x => x.atF0 p v (s.hub.keepsPlan p i)) sends p p)
  simp only [Hub.onPlaneFree, Hub.onPlane_plane_power, Hub.onPlane_plane_fab, Hub.onPlane_plane_sel, Prod.mk.injEq] at kept
  obtain ⟨samePower, sameFab, sameSel⟩ := kept
  exact ⟨samePower.trans power, (congrArg Fabric.online sameFab).trans online, (congrArg Select.sw sameSel).trans sw⟩

theorem reloadF1_brings {s : State} {p : PlaneId} {i : Fin 2} {q : PortId} {f : ImageFile} (on : s.hub.powered = true)
    (named : (s.hub.plane p).next = some (i, q)) (reloads : (s.hub.plane p).reloading = true)
    (read : s.hub.cfg.slot[i.val].file = some f) :
    Completes (.reloadF1 p) s fun h =>
      (h.plane p).power = .run ∧ (h.plane p).next = none ∧ (h.plane p).sdig = f.sdig.get p ∧
      (h.plane p).idig = f.idig.get p ∧ h.cfg.pslot.get p = i ∧
      ((s.hub.plane p).sdig ≠ f.sdig.get p → (h.plane p).sect = f.planes.get p) := by
  refine ⟨_, rfl, ?_⟩
  simp only [on, if_true, Hub.reachF1, named, read, reloads]
  have ends (k : Hub) : (((k.finishLoads f i).rejudgePorts.judgeOutliers).plane p).standing = (k.plane p).standing := by
    rw [Hub.judgeOutliers_standing, Hub.plane, Hub.rejudgePorts_planes, (Hub.finishLoads_only ..).1]; rfl
  have stands := (ends ((s.hub.loadUnit f i).takePlane p i f)).trans (Hub.takePlane_standing ..)
  rw [Hub.loadUnit_standing, Standing.afterF1, Standing.mk.injEq] at stands
  obtain ⟨power, next, sdig, idig, sect⟩ := stands
  have slot : (((s.hub.loadUnit f i).takePlane p i f).finishLoads f i).cfg.pslot.get p = i := by
    rw [(Hub.finishLoads_only ..).2, Hub.takePlane_pslot]
  refine ⟨power, next, sdig, idig, ?_, fun other => ?_⟩
  · exact Hub.Stores.judgeOutliers (P := fun _ c => c.pslot.get p = i) (Hub.Stores.rejudgePorts slot)
  · rw [sect, if_neg]
    simp [other]

end Sys2Proof.Machine
end

section
/-! THEOREM. Loads and reloads. -/

open Sys2Proof Sys2Proof.Machine

/-- Settles O50: a command that nothing refuses names its planes, and F₀ and F₁ are followed through everything that they do to the plane. -/
theorem loadsReachTheirPlanes : Obligations.LoadsReachTheirPlanes :=
  ⟨⟨fun _ _ _ => imageLoad_names, fun _ _ _ _ => imageReload_names⟩,
    fun _ _ _ _ => reloadF0_enters, fun _ _ _ _ _ => reloadF1_brings⟩

end
